-- ==== Sys2Proof/Word.lean ====
section
/-! DEFINITION. The number formats of R6, tables of a fixed length, and plain arithmetic that the rules share. -/

namespace Sys2Proof

abbrev Byte := BitVec 8
abbrev Word32 := BitVec 32
abbrev Word64 := BitVec 64

/-- A table with exactly `n` entries: the indexed families of R13 (DOM, SHF, PH and the like). -/
structure Tab (n : Nat) (α : Type) where
  data : List α
  size : data.length = n
deriving DecidableEq, Repr

/-- Entry `i`. -/
def Tab.get {n : Nat} {α : Type} (t : Tab n α) (i : Fin n) : α :=
  t.data.get (i.cast t.size.symm)

/-- The table with entry `i` replaced. -/
def Tab.set {n : Nat} {α : Type} (t : Tab n α) (i : Fin n) (x : α) : Tab n α :=
  ⟨t.data.set i.val x, by rw [List.length_set]; exact t.size⟩

/-- The table with entry `i` changed by `f`. -/
def Tab.mod {n : Nat} {α : Type} (t : Tab n α) (i : Fin n) (f : α → α) : Tab n α :=
  t.set i (f (t.get i))

/-- The table with every entry changed by `f`. -/
def Tab.map {n : Nat} {α β : Type} (f : α → β) (t : Tab n α) : Tab n β :=
  ⟨t.data.map f, by rw [List.length_map]; exact t.size⟩

/-- The list `f 0, f 1, ..., f (n-1)`. -/
def upTo {α : Type} (n : Nat) (f : Nat → α) : List α :=
  (List.range n).map f

theorem upTo_length {α : Type} (n : Nat) (f : Nat → α) : (upTo n f).length = n := by
  simp [upTo]

/-- The table whose entry `i` is `f i`. -/
def Tab.make {α : Type} (n : Nat) (f : Nat → α) : Tab n α :=
  ⟨upTo n f, upTo_length n f⟩

/-- The table with every entry changed by `f`, which also sees the entry's index. -/
def Tab.mapIx {n : Nat} {α β : Type} (f : Nat → α → β) (t : Tab n α) : Tab n β :=
  ⟨(List.range n).zipWith f t.data, by simp [t.size]⟩

/-- Entry number `i` changed by `f`; nothing past the end. -/
def Tab.modN {n : Nat} {α : Type} (t : Tab n α) (i : Nat) (f : α → α) : Tab n α :=
  if h : i < n then t.mod ⟨i, h⟩ f else t

/-- The entries named by `is` changed by `f`, each seeing its index. -/
def Tab.modEach {n : Nat} {α : Type} (t : Tab n α) (is : List Nat) (f : Nat → α → α) : Tab n α :=
  is.foldl (fun t i => t.modN i (f i)) t

/-- Entry number `i`, or the default entry past the end. -/
def Tab.nth {n : Nat} {α : Type} [Inhabited α] (t : Tab n α) (i : Nat) : α :=
  t.data.getD i default

/-- Every index of a table of `n` entries, in ascending order. -/
def allFin (n : Nat) : List (Fin n) :=
  (List.range n).attach.map fun i => ⟨i.val, List.mem_range.mp i.property⟩

/-- A counter of kind S (R16): it stops at its maximum and holds a sticky overflow flag. -/
structure CntS where
  n : Nat
  ovf : Bool
deriving DecidableEq, Repr, Inhabited

namespace CntS
/-- Both cleared, as the owning chapter's clear control leaves them. -/
def zero : CntS := ⟨0, false⟩
/-- One event counted by a counter whose maximum is `m`. -/
def inc (c : CntS) (m : Nat) : CntS :=
  if c.n + 1 < m then ⟨c.n + 1, c.ovf⟩ else ⟨m, true⟩
/-- `k` events. -/
def add (c : CntS) (m k : Nat) : CntS :=
  if c.n + k < m then ⟨c.n + k, c.ovf⟩ else if k = 0 then c else ⟨m, true⟩
end CntS

/-- The nearest of two limits when `x` lies outside them (R7, R9). -/
def clampNat (lo hi x : Nat) : Nat := max lo (min hi x)

/-- The same for signed quantities. -/
def clampInt (lo hi x : Int) : Int := max lo (min hi x)

/-- Division by a positive number, rounded to the nearest, ties away from zero (R7). -/
def rdiv (a : Int) (b : Nat) : Int :=
  if 0 ≤ a then (2 * a + b) / (2 * b) else -((-(2 * a) + b) / (2 * b))

/-- The same for natural numbers. -/
def rdivNat (a b : Nat) : Nat := (2 * a + b) / (2 * b)

/-- Smallest natural number at or above `a / b`. -/
def ceilDiv (a b : Nat) : Nat := (a + b - 1) / b

/-- I16 (R6). -/
def satI16 (x : Int) : Int := clampInt (-32768) 32767 x
/-- I32 (R6). -/
def satI32 (x : Int) : Int := clampInt (-2147483648) 2147483647 x
/-- V16, VH16 and every other unsigned 16-bit format (R6). -/
def satU16 (x : Int) : Nat := (clampInt 0 65535 x).toNat
/-- P32 and every other unsigned 32-bit format (R6). -/
def satU32 (x : Int) : Nat := (clampInt 0 4294967295 x).toNat

/-- A signed number as its two's complement bits of width `w`. -/
def signedBits (w : Nat) (x : Int) : Nat := (x % (2 ^ w : Int)).toNat

/-- The signed number that `w` bits hold. -/
def signExt (w : Nat) (x : Nat) : Int :=
  if x % 2 ^ w < 2 ^ (w - 1) then (x % 2 ^ w : Nat) else (x % 2 ^ w : Nat) - (2 ^ w : Int)

/-- `w` bits of `x` from bit `lo`. -/
def bits (x lo w : Nat) : Nat := (x >>> lo) % 2 ^ w

/-- Bit `i` of `x`. -/
def bitOf (x i : Nat) : Bool := (x >>> i) % 2 = 1

/-- 0 or 1. -/
def b2n (b : Bool) : Nat := if b then 1 else 0

/-- A field of value `v` and width `w` placed at bit `lo`. -/
def fld (lo w v : Nat) : Nat := (v % 2 ^ w) <<< lo

end Sys2Proof
end

