-- ==== Sys2Proof/Syntax.lean ====
section
/-! DEFINITION. The commands of the block: one constructor per row of spec/opcode_table.json, with its operands. What the
environment measures, drives or sends (readings, pin levels, messages, host requests) is an operand. -/

namespace Sys2Proof

/-- The two access paths, each with its own shadows and held values (R11, R58). -/
inductive Path where
  | mgmt | jtag
deriving DecidableEq, Repr

/-- Who issues an instruction: a lane of the sequencer, or the command window (R188, R200). -/
inductive Ctx where
  | lane (l : Fin 8)
  | cmd
deriving DecidableEq, Repr

/-- What a command carries, and when within the run it came, in ps. -/
structure Timed (α : Type) where
  v : α
  ps : Nat
deriving DecidableEq, Repr

/-- Why a bus module trips, and its output current then, in I16 (R28, R29). -/
structure BmTrip where
  cause : Nat
  iout : Int
deriving DecidableEq, Repr

/-- A bus module's readings over one window (R32, R37). -/
structure BmMeas where
  vb : Int
  iout : Int
  pout : Int
  temp : Int
deriving DecidableEq, Repr

/-- An EPP channel's readings over one window (R37, R42). -/
structure EppMeas where
  isns : Int
  temp : Int
  tflt : Bool
deriving DecidableEq, Repr

/-- What the in-package path brings from one die at a window's end (R270, R335, R432, R461): in the minimum service set, the
output power of its modules, its hottest sensor, and the conditions that PMBus shows for any die.
DESIGN CHOICE, log 15. -/
structure Peer where
  mss : Bool
  pout : Nat
  tmax : Int
  coolant : Bool
  vbkill : Bool
  shut : Bool
  warn : Bool
  bmFault : Bool
  coOff : Bool
deriving DecidableEq, Repr, Inhabited

/-- The scan cells of the host's boundary-scan register over Meser's pins while EXTEST holds them (R464): the three outputs, and the
levels that replace the two synchronised inputs, high as true. -/
structure ScanCells where
  errOut : Bool
  pgood : Bool
  syncOut : Bool
  freezeN : Bool
  flowN : Bool
deriving DecidableEq, Repr

/-- What the coordinator role hands over (R432): the cap and budget bins with the sums of those in progress, the shares, the
FE timer, and the granary holding. -/
structure Role where
  bins : List (List Nat)
  binSum : List Nat
  binN : Nat
  bbins : List (List Nat)
  bbinSum : List Nat
  bbinN : Nat
  share : List Nat
  timer : Nat
  hold : Nat
deriving DecidableEq, Repr

/-- The readings of one measurement window (R26, R37, R57): sense-point means in V16, phase means and peaks in I16, the highest
per-cycle sums per domain, the remote sense pairs and EPP sums of LA, the modules, the channels, the input, the other dies, the
coordinator role's state when it passes to this die, and the die that a write of COORD has moved it to. `flowLow` is the level of
FLOW_LOSS_N at the window's end (R373), `scan` the cells while EXTEST holds the pins (R464). DESIGN CHOICE, log 152. -/
structure WindowMeas where
  sns : List Int
  phI : List Int
  phPk : List Int
  domPk : List Int
  laV : List Int
  freq : List Int
  bm : List BmMeas
  epp : List EppMeas
  vin : Int
  iin : Int
  pin : Int
  fsync : Int
  peers : List Peer
  role : Option Role
  coordAt : Option Nat
  flowLow : Bool
  scan : Option ScanCells
deriving DecidableEq, Repr

/-- A phase's readings in a phase-health sweep (R123, R125): current sense, inductor estimate, and the flying capacitor
over the sweep. -/
structure PhHealth where
  isns : Int
  idcr : Int
  flyBad : Bool
  spareBad : Bool
deriving DecidableEq, Repr

/-- The readings of a phase-health sweep of one sheaf: the phases by position, I_sw and the bond witness, each averaged
over the 64 windows of the sweep. -/
structure HealthMeas where
  ph : List PhHealth
  isw : Int
  ibond : Int
deriving DecidableEq, Repr

/-- The commands. -/
inductive Instr where
  | registerWrite (p : Path) (off : Nat) (v : Word32)
  | misalignedAccess (p : Path) (off : Nat) (size : Nat) (wr : Bool)
  | readLo (p : Path) (off : Nat)
  | readHi (p : Path) (off : Nat)
  | writeLo (p : Path) (off : Nat) (v : Word32)
  | writeHi (p : Path) (off : Nat) (v : Word32)
  | domVsnsRead (p : Path) (d : Fin 128)
  | vinStart (vin : Nat)
  | softStartEnd
  | undervoltageStop (vin : Nat)
  | overvoltageStop (vin : Nat)
  | bmModeRun (m : Fin 4)
  | bmModePilot (m : Fin 4)
  | bmModeOff (m : Fin 4)
  | bmStartingEnd (m : Fin 4)
  | bmFault (m : Fin 4) (trip : BmTrip)
  | bmClrcnt (m : Fin 4)
  | clrmm
  | eppEnWrite (c : Fin 16) (en : Bool)
  | eppClrcnt (c : Fin 16)
  | eppDutyUpdate (l : Fin 4) (vsns : Int) (isns : List Int)
  | eppOutOfService (c : Fin 16) (tflt : Bool)
  | vbSample (i : Fin 93) (vb : Timed Nat)
  | measurementWindowEnd (m : WindowMeas)
  | swrefPeriod (i : Fin 93) (cur : Timed (List Int)) (vfly : List Nat) (tind : List Int)
  | conductionIntervalStart (i : Fin 93) (k : Fin 9) (node : Timed Int)
  | conductionIntervalEnd (i : Fin 93) (k : Fin 9) (node : Timed Int) (peak : Int)
  | lockWindowEnd (i : Fin 93) (err : List Int)
  | trimCycleEnd (i : Fin 93) (samp : List (Int × Int)) (idom : Int)
  | pulseSkipStart (i : Fin 93)
  | phaseShed (i : Fin 93)
  | fireStart (i : Fin 93) (node : Int) (gap : Nat)
  | firePulseLimit (i : Fin 93) (k : Fin 9)
  | fireEnd (i : Fin 93) (node : Int)
  | shfCfgWrite (i : Fin 93) (v : Word32)
  | shfClrcnt (i : Fin 93)
  | syncInLoss
  | fallbkClear
  | swrefSourceChange
  | holdEnter (i : Fin 93)
  | holdExit (i : Fin 93)
  | noticeRestore (i : Fin 93) (eff : Nat)
  | noticeRampStart (i : Fin 93) (eff : Timed Nat)
  | preliftEnter (d : Fin 128) (eff : Nat)
  | preliftLeave (d : Fin 128) (eff : Nat)
  | reversalHoldEnd (d : Fin 128)
  | frequencyRaiseRequest (d : Fin 128) (vlow : Int)
  | frequencyLowerApplied (d : Fin 128)
  | feDeadline (d : Fin 128) (vlow : Int)
  | headerStageOpen (d : Fin 128)
  | headerStageClose (d : Fin 128) (near : Bool) (ns : Nat)
  | gatingComplete (d : Fin 128)
  | wakeComplete (d : Fin 128)
  | readyRise (d : Fin 128)
  | firstWakeOn (d : Fin 128) (vlow : Int)
  | wakeForced (d : Fin 128)
  | bankGateComplete (m : Fin 16)
  | bankWakeRequest (m : Fin 16) (b : Fin 64)
  | bankWakeReady (m : Fin 16) (b : Fin 64)
  | domSpstatClrcnt (d : Fin 128)
  | phaseOpenDetect (p : Fin 720)
  | phaseShortDetect (p : Fin 720) (high : Bool)
  | spareActive (i : Fin 93)
  | phExclude (p : Fin 720)
  | readmit (p : Fin 720)
  | phClrcnt (p : Fin 720)
  | phaseHiccupEnter (p : Fin 720)
  | phaseHiccupRetry (p : Fin 720)
  | phaseRetrySuccess (p : Fin 720)
  | domainHiccup (i : Fin 93)
  | domainHiccupRestart (i : Fin 93)
  | domainRetrySuccess (i : Fin 93)
  | latchClear (i : Fin 93)
  | gleanerSweepStart (i : Fin 93)
  | phaseHealthSweep (i : Fin 93) (m : HealthMeas)
  | plausibilitySweep (i : Fin 93) (low : List Int) (node : Int)
  | bondMeasurement (g : Fin 1232) (dv : Int) (i : Int)
  | beatMarker (n : Nat)
  | refclkLoss
  | refclkReturn
  | alignLoss
  | step (w : Word64)
  | cancel (w : Word64)
  | arrive (w : Word64)
  | noticeQueueRelease
  | noticeArrival
  | barrierRelease
  | engineStartRequest (core : Fin 64) (e : Fin 4)
  | engineStartGrant (core : Fin 64) (e : Fin 4)
  | seqTstatClrcnt
  | seqNstatClrcnt
  | seqNdomClrcnt (d : Fin 128)
  | estimatorLatch (raw : List (List Nat)) (lines : List (Nat × Nat))
  | estimatorApply
  | estimatorCompare
  | estImageCopyDone
  | estClrcnt
  | trackMemoryWrite (off : Nat) (v : Word32)
  | trackAdmissionDone
  | laneStart
  | laneResume (l : Fin 8)
  | barComplete (l : Fin 8)
  | actionTakesEffect
  | commandGo
  | commandAccept
  | commandComplete
  | cmdwClrcnt
  | seqTrkClrcnt
  | seqLaneOvrClear (l : Fin 8)
  | microtablePacket (i : Fin 93) (n : Nat) (npkt : Nat) (data : List Byte) (crc : Word32)
  | microtableEnd (i : Fin 93) (dig : List Byte)
  | microtableAck (i : Fin 93)
  | microtableNack (i : Fin 93)
  | microtableCommit
  | shfMtstatClrcnt (i : Fin 93)
  | nop (c : Ctx)
  | halt (c : Ctx)
  | atB (c : Ctx)
  | wait (c : Ctx)
  | seg (c : Ctx)
  | mark (c : Ctx)
  | vset (c : Ctx)
  | lline (c : Ctx)
  | note (c : Ctx)
  | opsel (c : Ctx)
  | gate (c : Ctx)
  | wake (c : Ctx)
  | bank (c : Ctx)
  | startg (c : Ctx)
  | capDomainIlim (c : Ctx)
  | capDieLimit (c : Ctx)
  | capPackagePower (c : Ctx)
  | capAveragingPeriod (c : Ctx)
  | ovly (c : Ctx)
  | prio (c : Ctx)
  | telNormal (c : Ctx)
  | telFine (c : Ctx)
  | telTag (c : Ctx)
  | li (c : Ctx)
  | add (c : Ctx)
  | sub (c : Ctx)
  | min (c : Ctx)
  | max (c : Ctx)
  | mulq (c : Ctx)
  | cmp (c : Ctx)
  | br (c : Ctx)
  | call (c : Ctx)
  | ret (c : Ctx)
  | loop (c : Ctx)
  | send (c : Ctx)
  | bar (c : Ctx)
  | gran (c : Ctx)
  | save (c : Ctx)
  | fence (c : Ctx)
  | clrfFaultBlock
  | clrfSat
  | loadplanTrack
  | loadplanMicrotable
  | loadplanWeights
  | loadplanPlan
  | loadplanOverlay
  | loadplanMode
  | arm
  | armResume
  | disarm
  | lcreq
  | loopEngineStep (fcap fbud : Nat)
  | capBinEnd
  | budgetDecode (x : Nat) (edge : Bool)
  | budgetFeTimer
  | loopDisable (k : Fin 5)
  | telemetryRecord (ok : Bool)
  | telClrcnt
  | stallApply
  | stallHoldEnd
  | saveCapture
  | saveWriteDone (ok : Bool)
  | seqXstatClrcnt
  | setrecRecompute (others : List (List Byte))
  | stall (port : Fin 19) (head : Word64) (pay : List Word64)
  | verdict (port : Fin 19) (head : Word64) (pay : List Word64)
  | armrpt (port : Fin 19) (head : Word64) (pay : List Word64)
  | granrpt (port : Fin 19) (head : Word64) (pay : List Word64)
  | grant (port : Fin 19) (head : Word64) (pay : List Word64)
  | trkpkt (port : Fin 19) (head : Word64) (pay : List Word64)
  | trkres (port : Fin 19) (head : Word64) (pay : List Word64)
  | trkend (port : Fin 19) (head : Word64) (pay : List Word64)
  | trknack (port : Fin 19) (head : Word64) (pay : List Word64)
  | distNackTimer
  | distStart
  | granReport (sig : List Int)
  | granDecision
  | granApply
  | pkgBalance
  | armBarrierDecision
  | armBarrierTimeout
  | sideClrcnt
  | granDivClear
  | planTakeEffect
  | overlayValid
  | ovTrip (d : Fin 128) (node : Int)
  | ovTripClear (d : Fin 128) (node : Int)
  | ovOff (d : Fin 128)
  | ovAfterOff (d : Fin 128) (node : Int)
  | vbOvervoltage
  | uvTrip (d : Fin 128) (samp : List Int)
  | uvRecover (d : Fin 128) (samp : List Int)
  | uvDark (d : Fin 128)
  | droopStretch (c : Fin 64) (grid : Int)
  | droopReport (c : Fin 64) (len : Nat)
  | phaseHardLimit (p : Fin 720)
  | domainOvercurrent (d : Fin 128) (peak : Int)
  | dieOvercurrent
  | vinLow
  | vinDip
  | vinHigh
  | inputOvercurrent
  | vinHoldEnd
  | bandEvaluation (temps : List (Option Int))
  | thermalShutdown
  | coolantLoss
  | dieStopCluster (c : Fin 8)
  | coolantClear (flowHigh : Bool)
  | shutdnClear
  | vbkillClear
  | ovlatchClear (d : Fin 128)
  | protClrcnt
  | siloProgram (ok : Bool)
  | faultStatClear (b : Fin 10) (bits : Word32)
  | handlingClear (b : Fin 10)
  | hset (b : Fin 10)
  | hclr (b : Fin 10)
  | errPinPulseEnd
  | siloClrcnt
  | freezeEnter (low : Bool)
  | freezeImageDone (nodes : List Nat)
  | freezeExit
  | msrAcc (op inst adr : Nat) (v : Word32)
  | injectGo
  | injectStop
  | injectHoldEnd (blk src : Nat)
  | meterFrame (bytes : List Byte) (ok : Bool)
  | meterLinkLoss
  | mtrmReqGo (ch : Nat) (urgent : Bool)
  | mtrmCtlWrite (v : Word32)
  | mtrmClrcnt
  | meterWindowEnd (mv mi cv : Int) (refOk nvOk : Bool)
  | mainsSyncEdge (period since : Nat)
  | mainsSyncLoss
  | refSettled
  | nvCommit (ok fall : Bool)
  | calAverageDone
  | mtrId
  | mtrStatus
  | mtrEimp
  | mtrErev
  | mtrSbrk
  | mtrPlauscnt
  | mtrUnreg
  | mtrWseq
  | mtrLast
  | mtrCfg (w : Option Nat)
  | mtrReq (v : Nat)
  | mtrCtl (w : Option Nat)
  | calz (ch : Nat) (x : Int)
  | calf (ch : Nat) (x : Int)
  | calstat
  | coef
  | sealMeter
  | unsealMeter
  | train
  | trainDone (links sns : List Bool)
  | ber
  | berDone (errs : List Nat)
  | topo
  | topoDone (claims : List (List Nat))
  | cal
  | calDone (badPh badSns : List Nat) (z : List Nat)
  | coordWrite (role : Option Role)
  | resetCore (c : Nat) (mode : Bool)
  | resetCluster (c : Nat) (mode : Bool)
  | resetPartition (k : Nat) (mode : Bool)
  | resetWholeChip
  | resetSheafController (i : Nat)
  | resetSequencer
  | resetLoopEngine
  | resetInstance
  | hostResetRequest (level target : Nat) (mode : Bool)
  | coreDrained (c : Fin 64)
  | drainTimeout
  | resetClusterGate
  | partialResetEnd
  | rstClrcnt
  | lcProgramDone
  | clearFaults (pecOk : Bool)
  | capability
  | otFaultLimit
  | otWarnLimit
  | vinOvFaultLimit
  | vinOvWarnLimit (w : Option Nat) (pecOk : Bool)
  | vinUvWarnLimit (w : Option Nat) (pecOk : Bool)
  | vinUvFaultLimit (w : Option Nat) (pecOk : Bool)
  | iinOcFaultLimit
  | pinOpWarnLimit
  | statusByte
  | statusWord
  | statusInput
  | statusTemperature
  | statusCml
  | statusMfrSpecific
  | readVin
  | readIin
  | readTemperature1
  | readPin
  | pmbusRevision
  | mfrId
  | mfrModel
  | alertResponse
  | pmbusUnsupported (code : Nat) (rd : Option Nat) (pecOk : Bool)
  | refclkEdge
  | alignmentLineRise
  | meterSupplyValid
  | aonStartTimeout
deriving DecidableEq, Repr

end Sys2Proof
end

