-- ==== Sys2Proof/Decode.lean ====
section
/-! DEFINITION. The table gives no row any bits, so no word spells a command. -/

namespace Sys2Proof

/-- No row of the table gives bits to decode. DESIGN CHOICE, log 119. -/
def decodeTableWord (_nbits _w : Nat) : Option Instr := none

end Sys2Proof
end

