-- ==== Sys2Proof/Machine/Flags.lean ====
section
/-! DEFINITION. The arithmetic of track instructions and the conditions that set predicates (R249, R250), and the rounding
shift that they share with the estimator (R172). -/

namespace Sys2Proof.Machine

/-- A rounding shift, ties away from zero (R172). -/
def rshift (a : Int) (s : Nat) : Int := if s = 0 then a else rdiv a (2 ^ s)

/-- MIN, signed (R249). -/
def minSigned (x y : Word32) : Word32 := if x.toInt ≤ y.toInt then x else y

/-- MAX, signed (R249). -/
def maxSigned (x y : Word32) : Word32 := if x.toInt ≤ y.toInt then y else x

/-- MULQ: the Q16.16 product, rounded and saturated (R249). -/
def mulQ (x y : Word32) : Word32 := BitVec.ofInt 32 (satI32 (rshift (x.toInt * y.toInt) 16))

/-- The conditions of CMP (R250). Codes from 8 up are reserved and never reach here. -/
def cmpCond (code : Nat) (x y : Word32) : Bool :=
  match code with
  | 0 => decide (x = y)
  | 1 => decide (x ≠ y)
  | 2 => decide (x.toInt < y.toInt)
  | 3 => decide (y.toInt ≤ x.toInt)
  | 4 => decide (x.toInt ≤ y.toInt)
  | 5 => decide (y.toInt < x.toInt)
  | 6 => decide (x.toNat < y.toNat)
  | _ => decide (y.toNat ≤ x.toNat)

end Sys2Proof.Machine
end

