-- ==== Sys2Proof/Machine/Digest.lean ====
section
/-! DEFINITION. The digests and check codes the spec names: SHA-256 and HMAC (R308, R346, R442), the 32-bit, 16-bit and
8-bit cyclic codes of packets, frames and silo records. SHA-256's constants and rounds are PRESUMED from FIPS 180-4, which
the spec names and does not repeat (log 30). -/

namespace Sys2Proof.Machine

/-- The 32-bit words of a number, the most significant of `n` first. -/
def wordsOf (n x : Nat) : List Word32 := upTo n fun i => BitVec.ofNat 32 (x >>> (32 * (n - 1 - i)))

/-- The round constants of SHA-256, sixteen to a number. -/
def shaK : List Word32 := List.flatten (([
  0x428a2f9871374491b5c0fbcfe9b5dba53956c25b59f111f1923f82a4ab1c5ed5d807aa9812835b01243185be550c7dc372be5d7480deb1fe9bdc06a7c19bf174,
  0xe49b69c1efbe47860fc19dc6240ca1cc2de92c6f4a7484aa5cb0a9dc76f988da983e5152a831c66db00327c8bf597fc7c6e00bf3d5a7914706ca635114292967,
  0x27b70a852e1b21384d2c6dfc53380d13650a7354766a0abb81c2c92e92722c85a2bfe8a1a81a664bc24b8b70c76c51a3d192e819d6990624f40e3585106aa070,
  0x19a4c1161e376c082748774c34b0bcb5391c0cb34ed8aa4a5b9cca4f682e6ff3748f82ee78a5636f84c878148cc7020890befffaa4506cebbef9a3f7c67178f2] : List Nat).map (wordsOf 16))

/-- The working variables of one block. -/
structure ShaReg where
  a : Word32
  b : Word32
  c : Word32
  d : Word32
  e : Word32
  f : Word32
  g : Word32
  h : Word32
deriving DecidableEq, Repr

def shaInit : ShaReg :=
  ⟨0x6a09e667, 0xbb67ae85, 0x3c6ef372, 0xa54ff53a, 0x510e527f, 0x9b05688c, 0x1f83d9ab, 0x5be0cd19⟩

def rotr (x : Word32) (n : Nat) : Word32 := (x >>> n) ||| (x <<< (32 - n))

/-- One round with message word `w` and constant `k`. -/
def shaRound (r : ShaReg) (w k : Word32) : ShaReg :=
  let t1 := r.h + (rotr r.e 6 ^^^ rotr r.e 11 ^^^ rotr r.e 25) + ((r.e &&& r.f) ^^^ (~~~ r.e &&& r.g)) + k + w
  let t2 := (rotr r.a 2 ^^^ rotr r.a 13 ^^^ rotr r.a 22) + ((r.a &&& r.b) ^^^ (r.a &&& r.c) ^^^ (r.b &&& r.c))
  ⟨t1 + t2, r.a, r.b, r.c, r.d + t1, r.e, r.f, r.g⟩

/-- The next message word from the last sixteen, oldest first. -/
def shaNext (w : List Word32) : Word32 :=
  let s0 := fun x => rotr x 7 ^^^ rotr x 18 ^^^ (x >>> 3)
  let s1 := fun x => rotr x 17 ^^^ rotr x 19 ^^^ (x >>> 10)
  w.getD 0 0 + s0 (w.getD 1 0) + w.getD 9 0 + s1 (w.getD 14 0)

/-- The rounds of one block over the list of constants, with a sliding window of sixteen words. -/
def shaRounds : List Word32 → List Word32 → ShaReg → ShaReg
  | [], _, r => r
  | k :: ks, w, r => shaRounds ks (w.drop 1 ++ [shaNext w]) (shaRound r (w.getD 0 0) k)

def shaBlock (h : ShaReg) (w : List Word32) : ShaReg :=
  let r := shaRounds shaK w h
  ⟨h.a + r.a, h.b + r.b, h.c + r.c, h.d + r.d, h.e + r.e, h.f + r.f, h.g + r.g, h.h + r.h⟩

/-- Four bytes, the first most significant. -/
def be32 (l : List Byte) : Word32 :=
  BitVec.ofNat 32 (l.foldl (fun n b => 256 * n + b.toNat) 0)

/-- `n` bytes of `x`, the most significant first. -/
def beBytes (n x : Nat) : List Byte := upTo n fun i => BitVec.ofNat 8 (x / 256 ^ (n - 1 - i))

/-- `n` bytes of `x`, the least significant first. -/
def leBytes (n x : Nat) : List Byte := upTo n fun i => BitVec.ofNat 8 (x / 256 ^ i)

/-- The message with its padding and length. -/
def shaPad (m : List Byte) : List Byte :=
  m ++ [0x80] ++ List.replicate ((119 - m.length % 64) % 64) 0 ++ beBytes 8 (8 * m.length)

def shaBlocks : Nat → List Byte → ShaReg → ShaReg
  | 0, _, h => h
  | n + 1, m, h => shaBlocks n (m.drop 64) (shaBlock h (upTo 16 fun i => be32 ((m.drop (4 * i)).take 4)))

/-- SHA-256, 32 bytes. PRESUMED, log 30. -/
def sha256 (m : List Byte) : List Byte :=
  let p := shaPad m
  let r := shaBlocks (p.length / 64) p shaInit
  [r.a, r.b, r.c, r.d, r.e, r.f, r.g, r.h].flatMap fun x => beBytes 4 x.toNat

/-- HMAC-SHA-256. PRESUMED, log 30. -/
def hmac (key m : List Byte) : List Byte :=
  let k := if 64 < key.length then sha256 key else key
  let k := k ++ List.replicate (64 - k.length) 0
  sha256 (k.map (· ^^^ 0x5c) ++ sha256 (k.map (· ^^^ 0x36) ++ m))

/-- One bit step of a reflected 32-bit code. -/
def crc32Bit (c : Word32) : Word32 := if c &&& 1 = 1 then (c >>> 1) ^^^ 0xEDB88320 else c >>> 1

def iter {α : Type} (f : α → α) : Nat → α → α
  | 0, x => x
  | n + 1, x => iter f n (f x)

/-- CRC-32, reflected, polynomial 0x04C11DB7, initial value and final xor all ones. PRESUMED, log 30. -/
def crc32 (l : List Byte) : Nat :=
  (~~~ (l.foldl (fun (c : Word32) b => iter crc32Bit 8 (c ^^^ b.setWidth 32)) 0xFFFFFFFF)).toNat

/-- One bit step of a 16-bit code, polynomial 0x1021. -/
def crc16Bit (c : BitVec 16) : BitVec 16 := if c.msb then (c <<< 1) ^^^ 0x1021 else c <<< 1

/-- CRC-16, polynomial 0x1021, most significant bit first, initial value 0xFFFF. PRESUMED, log 30. -/
def crc16 (l : List Byte) : Nat :=
  (l.foldl (fun (c : BitVec 16) b => iter crc16Bit 8 (c ^^^ BitVec.ofNat 16 (256 * b.toNat))) 0xFFFF).toNat

/-- One bit step of an 8-bit code, polynomial 0x07. -/
def crc8Bit (c : Byte) : Byte := if c.msb then (c <<< 1) ^^^ 0x07 else c <<< 1

/-- CRC-8, polynomial 0x07, initial value 0 (R386). PRESUMED, log 30. -/
def crc8 (l : List Byte) : Byte := l.foldl (fun c b => iter crc8Bit 8 (c ^^^ b)) 0

end Sys2Proof.Machine
end

