-- ==== Sys2Proof/Config.lean ====
section
/-! DEFINITION. What the spec leaves to a part or leaves open, as constants with no value: the free values of the model. -/

namespace Sys2Proof.Config

/-- A fresh value for each random challenge LC_CHAL (R442); the argument is the state's counter of free values.
DESIGN CHOICE, log 4, 5. -/
opaque challenge : Nat → Word64

/-- The key that a part's device fuses hold (R442). DESIGN CHOICE, log 6. -/
opaque deviceKey : List Byte

/-- FUSEHASH of R308 for a fuse map (cores, clusters, array regions, link groups as bits, and phases): the spec does not lay
out the map's bytes. DESIGN CHOICE, log 7. -/
opaque fuseHash : Nat → Nat → Nat → Nat → List Nat → List Byte

/-- The stepping of the part (R446). DESIGN CHOICE, log 8. -/
opaque stepping : Nat

/-- The duty trim by which EPP equalises a channel's current (R40): the spec gives the aim and no rule. The arguments are
the channel's current and the rail mean in 1/64 A. DESIGN CHOICE, log 10. -/
opaque shareTrim : Int → Int → Int

/-- What VMIN and VMEAN read, in V16, for a window with no sense point left to average (R59 states no value). The arguments are
the counter of free values, the domain, and whether it is VMEAN. DESIGN CHOICE, log 4, 11. -/
opaque noPoints : Nat → Nat → Bool → BitVec 16

/-- What R266 leaves open inside 1 to 60 beats: when, after a step of the loop engine, the selector of a core is computed again.
The arguments are the counter of free values and the core. DESIGN CHOICE, log 144. -/
opaque loopDelay : Nat → Nat → Nat

/-- How the board ties PMB_ADDR[2:0] at a power-up, an open strap reading 1 (R448, R458). The argument is the counter of free values.
DESIGN CHOICE, log 19. -/
opaque addressStraps : Nat → BitVec 3

/-- The die identity and the revision that the meter answers to ID (R417). DESIGN CHOICE, log 12. -/
opaque meterIdentity : List Byte

/-- Bytes 0 to 63 of GSTAT_PLNACT while no plan is loaded: the plan defaults of R347 have no header.
DESIGN CHOICE, log 13. -/
opaque planHead : Nat → Byte

end Sys2Proof.Config
end

