-- ==== Sys2Proof/Machine/Layout.lean ====
section
/-! DEFINITION. The fixed layout of the hardware: the domain index (R44 to R48), neighbours, phases, sense points and bond
groups, the ratings, and the plan's fields with their places and defaults (R347). -/

namespace Sys2Proof.Machine

/-- Domain types (R44). -/
inductive DTyp where
  | none | co | cl | ma | lk | aon | la
deriving DecidableEq, Repr

/-- Type of domain index `d` (R44, R45). -/
def typ (d : Nat) : DTyp :=
  if d < 64 then .co else if d < 72 then .cl else if d < 88 then .ma else if d < 92 then .lk
  else if d = 92 then .aon else if 96 ≤ d ∧ d < 100 then .la else .none

/-- TYPE of DOM_ID (R59). -/
def typCode : DTyp → Nat
  | .none => 0 | .co => 1 | .cl => 2 | .ma => 3 | .lk => 4 | .aon => 5 | .la => 6

/-- Ordinal within the type (R59). -/
def ord (d : Nat) : Nat :=
  match typ d with
  | .co => d | .cl => d - 64 | .ma => d - 72 | .lk => d - 88 | .aon => 0 | .la => d - 96 | .none => 0

/-- Phases or edge stages built (R44). -/
def nph (d : Nat) : Nat :=
  match typ d with
  | .co => 9 | .cl | .ma | .lk => 5 | .aon | .la => 4 | .none => 0

/-- Sense points (R44). -/
def nsns (d : Nat) : Nat :=
  match typ d with
  | .co => 12 | .cl => 8 | .ma => 6 | .lk => 4 | .aon => 2 | _ => 0

/-- Bond groups (R44). -/
def nbond (d : Nat) : Nat :=
  match typ d with
  | .co => 16 | .cl | .ma => 8 | .lk => 4 | _ => 0

/-- First phase number (R48). -/
def firstPh (d : Nat) : Nat :=
  match typ d with
  | .co => 9 * d | .cl => 576 + 5 * ord d | .ma => 616 + 5 * ord d | .lk => 696 + 5 * ord d | .aon => 716 | _ => 0

/-- First sense point number (R48). -/
def firstSns (d : Nat) : Nat :=
  match typ d with
  | .co => 12 * d | .cl => 768 + 8 * ord d | .ma => 832 + 6 * ord d | .lk => 928 + 4 * ord d | .aon => 944 | _ => 0

/-- First bond group number (R48). -/
def firstBond (d : Nat) : Nat :=
  match typ d with
  | .co => 16 * d | .cl => 1024 + 8 * ord d | .ma => 1088 + 8 * ord d | .lk => 1216 + 4 * ord d | _ => 0

/-- Owning domain of phase `p` (R48). -/
def phDom (p : Nat) : Nat :=
  if p < 576 then p / 9 else if p < 616 then 64 + (p - 576) / 5 else if p < 696 then 72 + (p - 616) / 5
  else if p < 716 then 88 + (p - 696) / 5 else 92

/-- Position of phase `p` in its sheaf (R48). -/
def phPos (p : Nat) : Nat :=
  if p < 576 then p % 9 else if p < 616 then (p - 576) % 5 else if p < 696 then (p - 616) % 5
  else if p < 716 then (p - 696) % 5 else p - 716

/-- The phases of a domain, in position order. -/
def phasesOf (d : Nat) : List Nat := upTo (if d < 93 then nph d else 0) fun k => firstPh d + k

/-- The domain of sense point `n` (R48). -/
def snsDom (n : Nat) : Nat :=
  if n < 768 then n / 12 else if n < 832 then 64 + (n - 768) / 8 else if n < 928 then 72 + (n - 832) / 6
  else if n < 944 then 88 + (n - 928) / 4 else 92

/-- The domain of bond group `g` (R48). -/
def bondDom (g : Nat) : Nat :=
  if g < 1024 then g / 16 else if g < 1088 then 64 + (g - 1024) / 8 else if g < 1216 then 72 + (g - 1088) / 8
  else 88 + (g - 1216) / 4

/-- Sense point number that bond group `g` is paired with (R137). -/
def bondSns (g : Nat) : Nat :=
  let d := bondDom g
  firstSns d + (g - firstBond d) * nsns d / nbond d

/-- Voltage range of the type in V16, active range for MA (R44). -/
def vLo (d : Nat) : Nat :=
  match typ d with
  | .co => 1800 | .cl => 2400 | .ma => 2800 | .lk => 2600 | .aon => 3000 | .la => 3400 | .none => 0

def vHi (d : Nat) : Nat :=
  match typ d with
  | .co => 4200 | .cl => 3800 | .ma => 3600 | .lk => 3600 | .aon => 3400 | .la => 5000 | .none => 0

/-- V_abs of R359: V_hi plus 150 mV, in V16. -/
def vAbs (d : Nat) : Nat := vHi d + 600

/-- Active count N_a (R126). -/
def nAct (d : Nat) : Nat :=
  match typ d with
  | .co => 8 | .cl | .ma | .lk => 4 | .aon => 3 | .la => 4 | .none => 0

/-- Continuous and peak rating in 1/64 A by ladder step (R126), or by channels lost for LA (R41). -/
def rating (d step : Nat) : Int × Int :=
  match typ d, step with
  | .co, 0 => (1536, 2304) | .co, 1 => (1344, 2016) | .co, 2 => (960, 1440)
  | .cl, 0 | .ma, 0 => (768, 1152) | .cl, 1 | .ma, 1 => (576, 864) | .cl, 2 | .ma, 2 => (320, 480)
  | .lk, 0 => (768, 768) | .lk, 1 => (576, 768) | .lk, 2 => (320, 480)
  | .aon, 0 => (576, 864) | .aon, 1 => (384, 576) | .aon, _ => (192, 288)
  | .la, 0 => (1536, 2048) | .la, 1 => (1152, 1536) | .la, 2 => (768, 1024)
  | _, _ => (0, 0)

/-- The cluster of a core, fabric or array domain (R47). -/
def clusterOf (d : Nat) : Nat :=
  match typ d with
  | .co => d / 8 | .cl => d - 64 | .ma => (d - 72) / 2 | _ => 0

/-- The eight cores, the fabric and the two array regions of cluster `c`. -/
def clusterDoms (c : Nat) : List Nat :=
  upTo 8 (fun i => 8 * c + i) ++ [64 + c, 72 + 2 * c, 73 + 2 * c]

/-- Neighbour sets (R47). -/
def neighbours (d : Nat) : List Nat :=
  match typ d with
  | .co | .cl | .ma => (clusterDoms (clusterOf d)).filter (· ≠ d)
  | .lk => [96 + ord d, 64 + 2 * ord d, 65 + 2 * ord d]
  | .la => [88 + ord d]
  | _ => []

/-- All 97 domains of a die. -/
def allDoms : List Nat := upTo 93 id ++ [96, 97, 98, 99]

/-- Domains of a type. -/
def domsOf (t : Nat) : List Nat := allDoms.filter fun d => typCode (typ d) = t

/-- Rail-side and gated-side capacitance in nF, for MA without its banks (R38). -/
def capRail (d : Nat) : Nat :=
  match typ d with
  | .co => 1800 | .cl => 800 | .ma => 1200 | .lk => 500 | .aon => 400 | .la => 20000 | .none => 0

def capGated (d : Nat) : Nat :=
  match typ d with
  | .co => 900 | .cl => 400 | .lk => 300 | _ => 0

/-- Default load line in µΩ (R63, R116). -/
def zllDef (d : Nat) : Nat :=
  match typ d with
  | .co => 400 | .cl => 600 | .ma | .lk => 800 | _ => 0

/-- Default interleave base offset in 1.25° (R77). -/
def baseDef (d : Nat) : Nat :=
  match typ d with
  | .co => 2 * (d % 8) | .cl | .ma | .lk => 7 * (d % 4) | _ => 0

/-- The built-in CO voltages in V16 and frequencies in MHz ("Built-in V–F table, CO domains"). -/
def coV : List Nat :=
  [2000, 2200, 2400, 2560, 2720, 2880, 3040, 3200, 3320, 3440, 3560, 3680, 3800, 3920, 4040, 4200]

def coF : List Nat :=
  [800, 950, 1100, 1200, 1300, 1400, 1500, 1600, 1680, 1760, 1840, 1920, 2000, 2080, 2160, 2250]

/-- Built-in voltage of OPn in V16. -/
def vfV (d n : Nat) : Nat :=
  match typ d with
  | .co => coV.getD n 0
  | .none => 0
  | t =>
    let mid := if t = .la then 4000 else 3200
    if n ≤ 7 then vLo d + rdivNat (n * (mid - vLo d)) 7 else mid + rdivNat ((n - 7) * (vHi d - mid)) 8

/-- Built-in frequency of OPn in MHz; zero for AON and LA. -/
def vfF (d n : Nat) : Nat :=
  match typ d with
  | .co => coF.getD n 0
  | .cl => rdivNat (1200 * coF.getD n 0) 1600
  | .ma => rdivNat (1000 * coF.getD n 0) 1600
  | .lk => rdivNat (1250 * coF.getD n 0) 1600
  | _ => 0

/-- Defaults of the loop parameters K_S, K_M, K_L, H, F_min of loop `k`, as the plan holds them (R269, R347). -/
def loopDef (k f : Nat) : Nat :=
  match k with
  | 0 => [256, 1024, 4096, 1024, 16384].getD f 0
  | 1 => [512, 2048, 8192, 1024, 16384].getD f 0
  | 2 => [128, 512, 4096, 512, 8192].getD f 0
  | 3 => [2048, 8192, 16384, 1024, 8192].getD f 0
  | 4 => [512, 2048, 8192, 128, 4096].getD f 0
  | _ => 0

/-- Place of a plan field: byte offset in the image and width in bytes, none where the table has no such field (R347). -/
def fldPlace (fid idx : Nat) : Option (Nat × Nat) :=
  match fid with
  | 0x01 => if idx = 0 then some (0x40, 2) else none
  | 0x02 => if idx = 0 then some (0x42, 2) else none
  | 0x03 => if idx = 0 then some (0x44, 2) else none
  | 0x04 => if idx = 0 then some (0x46, 2) else none
  | 0x05 => if idx = 0 then some (0x48, 2) else none
  | 0x06 => if idx = 0 then some (0x4A, 2) else none
  | 0x07 => if idx = 0 then some (0x4C, 2) else none
  | 0x08 => if idx = 0 then some (0x4E, 1) else none
  | 0x09 => if idx = 0 then some (0x4F, 1) else none
  | 0x0A => if idx < 3 then some (0x50 + idx, 1) else none
  | 0x0B => if idx = 0 then some (0x54, 2) else none
  | 0x0C => if idx = 0 then some (0x56, 2) else none
  | 0x0D => if idx < 3 then some (0x58 + 2 * idx, 2) else none
  | 0x10 | 0x11 | 0x12 | 0x13 | 0x14 => if idx < 5 then some (0x60 + 10 * idx + 2 * (fid - 0x10), 2) else none
  | 0x20 | 0x21 | 0x22 => if idx < 4 then some (0x100 + 16 * idx + (fid - 0x20), 1) else none
  | 0x23 => if idx < 4 then some (0x103 + 16 * idx, 1) else none
  | 0x24 => if idx < 4 then some (0x104 + 16 * idx, 2) else none
  | 0x25 => if idx < 4 then some (0x106 + 16 * idx, 1) else none
  | 0x26 => if idx < 4 then some (0x107 + 16 * idx, 1) else none
  | 0x28 | 0x29 => if idx < 3 then some (0x140 + 8 * idx + (fid - 0x28), 1) else none
  | 0x2A => if idx < 3 then some (0x142 + 8 * idx, 1) else none
  | 0x2B => if idx < 3 then some (0x143 + 8 * idx, 1) else none
  | 0x30 | 0x31 | 0x32 => if idx < 4 then some (0x160 + 4 * idx + (fid - 0x30), 1) else none
  | 0x38 => if idx < 16 then some (0x180 + 2 * idx, 2) else none
  | 0x40 => if idx < 128 then some (0x200 + 16 * idx, 2) else none
  | 0x41 => if idx < 128 then some (0x202 + 16 * idx, 2) else none
  | 0x42 | 0x43 | 0x44 => if idx < 128 then some (0x204 + 16 * idx + (fid - 0x42), 1) else none
  | 0x45 => if idx < 128 then some (0x207 + 16 * idx, 1) else none
  | 0x46 => if idx < 128 then some (0x208 + 16 * idx, 2) else none
  | 0x47 => if idx < 128 then some (0x20A + 16 * idx, 1) else none
  | 0x50 => if idx < 2048 then some (0xA00 + 4 * idx, 2) else none
  | 0x51 => if idx < 2048 then some (0xA02 + 4 * idx, 2) else none
  | _ => none

/-- Default of a plan field, as its unsigned bits (R347). -/
def fldDef (fid idx : Nat) : Nat :=
  let onDie := idx < 92 && decide (typ idx ≠ .none)
  match fid with
  | 0x01 => 3200
  | 0x02 => 10
  | 0x03 => 18400
  | 0x04 => 0x2080
  | 0x05 => 2000
  | 0x06 => 0x39
  | 0x07 => 0xE666
  | 0x08 => 10
  | 0x09 => 100
  | 0x0A => [4, 2, 4].getD idx 0
  | 0x0B => 8
  | 0x0C => 256
  | 0x0D => [0x2F80, 0x3480, 0x3B00].getD idx 0
  | 0x10 | 0x11 | 0x12 | 0x13 | 0x14 => loopDef idx (fid - 0x10)
  | 0x20 => 15
  | 0x21 => 25
  | 0x22 => 45
  | 0x23 => [0, 0, 0, 1].getD idx 0
  | 0x24 => [0x690, 0x6E0, 0x780, 0x820].getD idx 0
  | 0x25 => [14, 16, 18, 22].getD idx 0
  | 0x26 => [48, 48, 48, 40].getD idx 0
  | 0x28 => [4, 3, 2].getD idx 0
  | 0x29 => 16
  | 0x2A => [4, 3, 2].getD idx 0
  | 0x2B => [0, 2, 4].getD idx 0
  | 0x30 => if idx = 0 then 8 else 4
  | 0x31 => 20
  | 0x32 => if idx = 0 then 8 else 4
  | 0x38 => [0x1800, 0xD400, 0x1480, 0x6000].getD (idx % 4) 0
  | 0x40 => zllDef idx
  | 0x41 => (rating idx 0).1.toNat
  | 0x42 => if onDie || idx = 92 then 20 else 0
  | 0x43 => if onDie || idx = 92 then 10 else 0
  | 0x44 => if onDie then 16 else 0
  | 0x45 => match typ idx with
    | .co => 2 | .cl | .ma | .lk => 1 | _ => 0
  | 0x46 => baseDef idx
  | 0x47 => match typ idx with
    | .co | .cl | .ma | .lk => 16 | _ => 0
  | 0x50 => vfV (idx / 16) (idx % 16)
  | 0x51 => vfF (idx / 16) (idx % 16)
  | _ => 0

/-- The band, region and shedding fields as a sheaf uses them: the clamps of B in mV, the lock gain, the dead time in 5 ps, the
pulse limit, SHEDTH and NMIN (R72, R78, R79, R84). -/
structure ShfPar where
  bLo : Nat
  bHi : Nat
  kf : Nat
  dt : Nat
  flim : Nat
  shedTh : Nat
  nmin : Nat
deriving DecidableEq, Repr, Inhabited

/-- Those fields for load region `r` and temperature band `b`, where `val` gives the configuration's. A raised B_lo is at most
B_hi, a dead time at most 250 ps (R79). -/
def parOf (val : Nat → Nat → Nat) (d r b : Nat) : ShfPar :=
  { bLo := min (val 0x29 r) (val 0x28 r + val 0x23 b), bHi := val 0x29 r, kf := val 0x2A r, dt := min 50 (val 0x25 b + val 0x2B r)
    flim := val 0x26 b, shedTh := val 0x47 d, nmin := val 0x45 d }

/-- Two bytes of a byte list, little-endian. -/
def le16 (l : List Byte) (off : Nat) : Nat := (l.getD off 0).toNat + 256 * (l.getD (off + 1) 0).toNat

/-- Four bytes of a byte list, little-endian. -/
def le32 (l : List Byte) (off : Nat) : Nat := le16 l off + 65536 * le16 l (off + 2)

/-- The value a plan image gives a field. -/
def imgField (img : List Byte) (fid idx : Nat) : Nat :=
  match fldPlace fid idx with
  | some (o, 1) => (img.getD o 0).toNat
  | some (o, _) => le16 img o
  | none => 0

/-- Default reaction, silo mark and kind of every source of every block (R375, and the source tables of the chapters):
(REACT, silo record, persists). -/
def srcTable : Nat → List (Nat × Bool × Bool)
  | 0 => [(1, false, false), (9, true, true), (0xA, true, true), (9, true, false), (1, false, false), (1, true, false),
          (0, false, false), (1, false, true), (9, true, true), (1, false, true), (9, true, true), (1, false, true),
          (1, false, false), (9, true, true), (0xA, true, true)]
  | 1 => [(1, true, false), (1, true, false), (9, true, true), (1, false, false), (9, true, true), (1, false, false),
          (1, false, false), (1, true, true), (0, false, false)]
  | 2 => [(1, false, false), (1, false, false), (0, false, false), (0, false, false)]
  | 3 => [(9, true, false), (0xA, true, false), (9, false, true), (0, false, false), (1, false, false), (9, true, false),
          (9, true, false), (1, false, false), (1, false, false), (1, false, true), (0, false, false), (9, true, false),
          (9, true, false), (1, false, true), (1, false, false), (1, false, false), (0, false, false), (1, false, false)]
  | 4 => [(9, true, true), (1, false, true), (1, false, false), (1, false, false), (0, false, false), (1, false, false),
          (1, false, true)]
  | 5 => [(0, false, false), (1, false, false), (0, false, false)]
  | 6 => [(0, false, false), (1, false, false), (9, true, false), (1, false, false), (1, false, false)]
  | 7 => [(9, true, true), (9, true, true), (9, true, true), (9, true, true), (1, true, false), (9, true, true),
          (9, true, true), (1, false, true)]
  | 8 => [(9, true, true), (0, false, false), (1, true, true), (1, false, false), (1, true, true), (1, false, true),
          (1, true, false), (1, false, false), (1, false, true), (9, true, true)]
  | 9 => [(0, false, false), (9, false, true), (9, false, false), (1, true, false), (0, false, false)]
  | _ => []

def srcInfo (b src : Nat) : Nat × Bool × Bool := (srcTable b).getD src (0, false, false)

end Sys2Proof.Machine
end

