-- ==== Sys2Proof/Machine/State.lean ====
section
/-! DEFINITION. The state of the block as plain data: every register, buffer, counter, mode and working value the spec
gives it, the queue of waiting commands, and the state after reset. -/

namespace Sys2Proof.Machine

/-- The input switch (R22). -/
inductive InSw where
  | opened | softStart | closed
deriving DecidableEq, Repr

/-- The package input (R22, R26, R33). `pkgPin` and `pkgRev` are the input power and the reverse flow that every instance reads,
the coordinator's own registers beside them (R270, R289). -/
structure Input where
  sw : InSw
  vin : Nat
  iin : Int
  pin : Nat
  vinMin : Nat
  vinMax : Nat
  pkgPin : Nat
  pkgRev : Bool
deriving DecidableEq, Repr

/-- Bus-module states (R28). -/
inductive BmSt where
  | off | pilot | run | fault | starting
deriving DecidableEq, Repr, Inhabited

/-- One bus module BM[m] (R28 to R32). `offSeen` holds that software wrote OFF while in FAULT, `startMode` the mode that the
present or last STARTING began for. -/
structure Bm where
  mode : Nat
  startMode : Nat
  slot : Nat
  st : BmSt
  offSeen : Bool
  ilimAct : Bool
  ovl : Bool
  cause : Nat
  trips : CntS
  vb : Nat
  iout : Int
  pout : Nat
  temp : Int
  ilim : Int
deriving DecidableEq, Repr, Inhabited

/-- One EPP channel (R39 to R42). `enLow` holds that EN = 0 was written while out of service; `limRun` and `devRun` count the 50
ns updates in a row at the limit and outside ±5 % of the rail mean, `divRun` is the divider it runs at (R40). -/
structure Epp where
  en : Bool
  div : Nat
  slot : Nat
  out : Bool
  enLow : Bool
  atLim : Bool
  tflt : Bool
  shareDev : Bool
  lim : CntS
  flt : CntS
  limRun : Nat
  devRun : Nat
  divRun : Nat
  isns : Int
  temp : Int
  ilim : Int
  duty : Nat
  absent : Bool
deriving DecidableEq, Repr, Inhabited

/-- The digital voltage loop of one LA rail: the last two errors in mV, and the rail duty in 1/2^31 (R40); `capped` that its loss
ladder stands at two channels (R41). -/
structure LaLoop where
  e1 : Int
  e2 : Int
  duty : Nat
  capped : Bool
deriving DecidableEq, Repr, Inhabited

/-- Domain states (R56). -/
inductive DomSt where
  | absent | off | waking | on | gating | retention | dark | hold
deriving DecidableEq, Repr, Inhabited

/-- Domain identity, state and measurements (R56 to R59). `e` is the energy in nJ. -/
structure Dom where
  present : Bool
  st : DomSt
  nphOk : Nat
  spareAvail : Bool
  derate : Nat
  vmin : Nat
  vmean : Nat
  i : Int
  ipk : Int
  p : Nat
  e : Nat
  icont : Int
  ipeak : Int
deriving DecidableEq, Repr, Inhabited

/-- Phase states (R61). -/
inductive PhSt where
  | absent | off | standby | active | shed | hiccup | excluded | hold
deriving DecidableEq, Repr, Inhabited

/-- A sense point (R60). -/
structure Sns where
  v : Nat
  excl : Bool
  impl : Bool
  fails : Nat
  passes : Nat
  untrained : Bool
deriving DecidableEq, Repr, Inhabited

/-- A bond group (R60, R137 to R139). `prev` is the last valid measurement, `cand` the value before a rise that waits to
be confirmed, `byStep` that the anomaly was set by a step. -/
structure Bond where
  znow : Nat
  anom : Bool
  severe : Bool
  zbase : Nat
  run : Nat
  runSev : Nat
  prev : Option Nat
  cand : Option Nat
  byStep : Bool
  clr : Nat
  clrSev : Nat
deriving DecidableEq, Repr, Inhabited

/-- An all-phases-fire in progress (R86, R87, R92): the half-slot that held the token, the positions still in the fire, and the
UF it started with. -/
structure Fire where
  token : Nat
  part : List Nat
  uf : Nat
deriving DecidableEq, Repr

/-- A write of SHF_CFG that waits for the end of the trim cycle (R92). -/
structure CfgWr where
  skipEn : Bool
  shedEn : Bool
  kt : Nat
  rampEn : Bool
deriving DecidableEq, Repr

/-- One sheaf controller (R62 to R92). `b` is in 1/64 µV; `trim` in 0.25 mV; `nCount` the interval starts of the lock
window and `badWin` that the window does not count (R72); `fireCyc` the trim cycles for which a fire holds the trim (R81). -/
structure Shf where
  run : Bool
  region : Nat
  tband : Nat
  lock : Bool
  lockRun : Nat
  lockLim : Bool
  skip : Bool
  skipRun : Nat
  nactR : Nat
  nshedR : Nat
  hold : Bool
  firedR : Bool
  firedW : Bool
  fireCnt : CntS
  lockLoss : CntS
  b : Int
  dt : Nat
  flim : Nat
  f : Nat
  pherrR : Nat
  pherrW : Nat
  base : Nat
  trim : Int
  nosns : Bool
  tsat : Bool
  uf : Nat
  skipEn : Bool
  shedEn : Bool
  kt : Nat
  rampEn : Bool
  cfgWr : Option CfgWr
deriving DecidableEq, Repr, Inhabited

/-- The sheaf's working state beside its registers. `tbandF` is the band in force, `parT` the band, region and shedding
fields at the end of the last trim cycle, `parF` those in force since the SWREF edge after it (R79, R353), `shedLow` the
beat since which I_ph lies below SHEDTH (R84), `wholeFrom` the beat from which its measurement windows are whole (R90, R151).
`vlow` is the lowest sample of the last trim cycle and `vnow` the lowest of its latest samples (R80, R110); `ipkW` the window's highest
I_sw as sensed (R59, R390); `localOsc` holds that the AON sheaf runs from its local oscillator in the autonomous start (R423). -/
structure ShfW where
  isw : Int
  idom : Int
  vlow : Int
  vnow : Int
  ipkW : Int
  localOsc : Bool
  zll : Nat
  vb : Nat
  token : Nat
  nCount : Nat
  badWin : Bool
  fire : Option Fire
  rearmed : Bool
  fireCyc : Nat
  shedFrom : Nat
  reseed : Bool
  firePer : Bool
  holdFrz : Bool
  hbLost : Bool
  tbandF : Nat
  parT : ShfPar
  parF : ShfPar
  shedLow : Option Nat
  wholeFrom : Nat
deriving DecidableEq, Repr, Inhabited

/-- SWREF and SYNC_IN, per instance (R69 to R71, R93). -/
structure Swref where
  src : Nat
  outEn : Bool
  srcAct : Nat
  syncOk : Bool
  fallbk : Bool
  fsync : Nat
deriving DecidableEq, Repr

/-- A wake in progress (R105 to R112): action beat, deadline beat, how it is staged, and whether it stopped a gating, so that
the sheaf switches on as it was. -/
structure Wake where
  act : Nat
  dline : Nat
  slow : Bool
  admitted : Bool
  first : Bool
  keep : Bool
deriving DecidableEq, Repr

/-- What a GATE in progress leads to (R105, R110). -/
inductive GateTo where
  | no | off | retention
deriving DecidableEq, Repr, Inhabited

/-- GATE and WAKE recorded while a domain reads HOLD, a WAKE with its action beat (R109, R110). -/
inductive HeldAct where
  | gate (slow : Bool) (retain : Bool)
  | wake (slow : Bool) (d : Nat) (act : Nat)
deriving DecidableEq, Repr

/-- The composed target and its movement, per domain (R94 to R104, R116). `vcmd` and `vtgt` are in 1/64 µV; `code` is the
slew code of the move in 0.05 mV/ns, zero for the register; `slewNs` the time since the slew began; `vopWas` the V_op at the
entry to hold and `vopNext` the one that waits for the clock (R98, R100); `freqWas` the frequency in MHz that the host runs at, where
the table changed in hold (R353); `riseF` and `fallF` are the rates in force and `zllT` the Z_ll that the sheaf moves toward (R100,
R103, R353); `lower` the operating point, the beat at which the host has applied it, and whether an OPSEL asked for it.
DESIGN CHOICE, log 22. -/
structure Sp where
  oppref : Nat
  opeff : Nat
  direct : Bool
  idle : Bool
  vop : Nat
  vcmd : Int
  vtgt : Int
  gsel : Nat
  clampHi : Bool
  clampLo : Bool
  rise : Nat
  fall : Nat
  riseF : Nat
  fallF : Nat
  plhold : Nat
  code : Nat
  quarter : Bool
  dir : Int
  slewNs : Nat
  revHold : Bool
  credit : Nat
  zll : Nat
  zllT : Nat
  vopWas : Nat
  vopNext : Option Nat
  freqWas : Option Nat
  fet : Nat
  feband : Nat
  feEn : Bool
  feDue : Option Nat
  feAct : Bool
  fpend : Bool
  freqOp : Nat
  lower : Option (Nat × Nat × Bool)
  raiseBy : Option Nat
deriving DecidableEq, Repr, Inhabited

/-- Gating, waking and the set-point counters, per domain (R105 to R117). -/
structure Gw where
  ready : Bool
  clock : Bool
  stage : Nat
  nstg : Nat
  wake : Option Wake
  gateTo : GateTo
  waitAdm : Bool
  held : List HeldAct
  woken : Bool
  readyAt : Nat
  prevSt : DomSt
  sup : CntS
  rev : CntS
  defr : CntS
  stgto : CntS
  late : CntS
  lastLate : Nat
  forced : Bool
  wrefuse : Bool
deriving DecidableEq, Repr, Inhabited

/-- The banks of one MA region (R113 to R115, R117): gatings not yet complete with their completion beat, and wakes
under way with their ready beat; `seen` the banks that the host wrote to in beat `seenAt`. -/
structure Bank where
  gated : Word64
  gating : List (Nat × Word64)
  waking : List (Nat × Nat)
  wakes : Nat
  seenAt : Nat
  seen : Word64
deriving DecidableEq, Repr, Inhabited

/-- The clock of a domain at the host (R98): the operating point asked for, the beat from which the host applies it, and
the one applied until then. -/
structure HostClk where
  asked : Nat
  since : Nat
  prev : Nat
deriving DecidableEq, Repr, Inhabited

/-- One phase PH[p]: its registers (R61, R143). -/
structure Ph where
  st : PhSt
  ilimAct : Bool
  i : Int
  ipk : Int
  xcause : Nat
  suspect : Bool
  limwin : CntS
  hiccnt : CntS
  exclcnt : CntS
deriving DecidableEq, Repr, Inhabited

/-- The phase's working state in its sheaf: values of the last complete SWREF period, the interval in progress, the
alignment offset in 1/16 mV (R65), the share integrator in 1/512 A (R118), the open-phase and hiccup counts (R120, R132),
and the health checks in a row (R123). `path` is the second path's (R66). The ripple emulator holds `rip` as of picosecond
`ripAt` of the sheaf's clock, twice the area under it since the last recentring and that recentring's time `ripFrom`, and
`ripStep`, what notice ramps put in and the emulator has not worked off (R65, R67, R89). `lowOff` is the low-side path turned
off at zero current in pulse skipping and `zeroAt` the time at which the current gets there (R83); `waitPer` a phase back from
shedding before its first SWREF period (R85); `devFrom` the beat since which its current is beyond the band of R119. -/
structure PhW where
  iLast : Int
  vfly : Nat
  tind : Int
  limPer : Bool
  limLast : Bool
  limWin : Bool
  hardOff : Bool
  cond : Bool
  path : Bool
  offs : Int
  share : Int
  rmean : Int
  rip : Int
  ripAt : Nat
  ripArea : Int
  ripFrom : Nat
  ripStep : Int
  lowOff : Bool
  zeroAt : Nat
  waitPer : Bool
  devFrom : Option Nat
  lowRun : Nat
  entered : Nat
  limRun : Nat
  hicAt : Nat
  rejoin : Option Nat
  fails : Nat
  runAB : Nat
  seenC : Bool
  runAC : Nat
deriving DecidableEq, Repr, Inhabited

/-- Sharing, hiccup and fault registers of one sheaf (R142), and the work behind them: `devW` and `devHit` are the window's
largest deviation and whether some phase stayed beyond R119's band. -/
structure Shr where
  devmax : Int
  shareDev : Bool
  devW : Int
  devHit : Bool
  nhic : Nat
  th : Nat
  ilim : Nat
  dhic : Bool
  retry : Nat
  latch : Bool
  dhiccnt : CntS
  lastph : Nat
  lastcause : Nat
  ladder : Nat
  trisk : Bool
  nospare : Bool
  fbond : Nat
  hicAt : Nat
  rising : Bool
  onAt : Option Nat
  setChg : Nat
  sweepPh : Bool
  sweepSns : Bool
  sweepBond : Bool
  darkPend : Bool
  soft : Bool
deriving DecidableEq, Repr, Inhabited

/-- The gleaner (R135, R144). -/
structure Gln where
  phEn : Bool
  snsEn : Bool
  bondEn : Bool
  sptEn : Bool
  snsdev : Nat
  anom : Nat
  severe : Nat
  step : Nat
  sweeps : Nat
deriving DecidableEq, Repr

/-- The beat counter and its checks (R145 to R149, R166). `alignCause` is the cause of ALIGN_LOSS (R167); a periodic window that
started before `wholeFrom`, or in which the mode changed at `modeAt`, was interrupted (R151). -/
structure Time where
  beat : Nat
  valid : Bool
  aligned : Bool
  slip : Bool
  refloss : Bool
  aloss : Bool
  slips : CntS
  refclk : Bool
  everLoaded : Bool
  alignCause : Bool
  wholeFrom : Nat
  modeAt : Nat
deriving DecidableEq, Repr

/-- Segments and arrivals (R153, R154, R166). `arrOpen` and `arrClosed` name the cores that have arrived for the open and
for the closed segment. -/
structure Seg where
  segid : Nat
  gran : Bool
  opened : Bool
  slack : Nat
  beat : Nat
  arrBeat : Nat
  arrSlack : Int
  arrOpen : Word64
  openArr : List (Nat × Nat)
  hasClosed : Bool
  cId : Nat
  cEnd : Nat
  cSlack : Nat
  cOn : Word64
  arrClosed : Word64
  cGran : Bool
deriving DecidableEq, Repr

/-- A notice-port record that passed R156. -/
inductive NRec where
  | step (src d : Nat) (dI : Int) (ebeat : Nat)
  | cancel (src d ebeat : Nat)
  | arrive (src seg : Nat)
deriving DecidableEq, Repr

/-- One source's contribution to a pending effect beat: `none` for a NOTE (R159, R160). `p` is its part of the pre-lift term, zero
where it adds none (R96); `act` that the sheaf still holds it (R90, R165), and `ramped` that a notice ramp has moved it (R89). -/
structure Contr where
  src : Option Nat
  dI : Int
  p : Int
  act : Bool
  ramped : Bool
deriving DecidableEq, Repr

/-- A pending effect beat of a domain (R96, R159): the arrival of the last record that the sheaf holds, its contributions, the
start and leave beats of its pre-lift term, and whether the term has entered and the shed phases are back. -/
structure Pend where
  eff : Nat
  arr : Nat
  cs : List Contr
  start : Nat
  leave : Nat
  entered : Bool
  restored : Bool
deriving DecidableEq, Repr, Inhabited

/-- One evaluated window of coverage (R162). -/
structure CovWin where
  un : Bool
  ct : Bool
deriving DecidableEq, Repr

/-- A STEP record or NOTE that was applied, for the windows of R161. -/
structure EffRec where
  eff : Nat
  src : Option Nat
  dI : Int
deriving DecidableEq, Repr

/-- Notice, per domain (R159 to R162, R166). `wins` holds the evaluated windows, newest first, and `prevEval` says that the last
window was one; `effs` remembers effect beats for the windows of R161. -/
structure NDom where
  pend : List Pend
  cov : Bool
  unann : CntS
  contra : CntS
  wins : List CovWin
  i1 : Int
  i2 : Int
  prevEval : Bool
  effs : List EffRec
deriving DecidableEq, Repr, Inhabited

/-- A record accepted and not yet at its arrival beat. -/
structure Flight where
  arr : Nat
  acc : Nat
  r : NRec
deriving DecidableEq, Repr

/-- The notice port (R155 to R158, R166). `inBuf` holds the records of the present beat with their kinds. -/
structure Ntc where
  horizon : Nat
  latewin : Nat
  stepth : Nat
  npen : BitVec 128
  acc : Nat
  late : CntS
  stale : CntS
  bad : CntS
  full : CntS
  inBuf : List (Nat × Word64)
  outBeat : Nat
  outN : Nat
  queue : List (Nat × NRec)
  flight : List Flight
deriving DecidableEq, Repr

/-- A barrier release that the start gate is granting (R164): its base beat, its RATE, the cores ON at its beat. -/
structure Release where
  base : Nat
  rate : Nat
  on : Word64
  done : List Nat
deriving DecidableEq, Repr

/-- An engine start that waits (R163): request beat and start index. -/
structure WaitEng where
  req : Nat
  q : Nat
deriving DecidableEq, Repr

/-- The start gate (R163, R164). -/
structure Gate where
  rate : Nat
  wait : Nat
  waiting : List WaitEng
  rels : List Release
  grants : List (Nat × Nat)
deriving DecidableEq, Repr

/-- The estimator, per domain 0 to 92 (R169, R173 to R177, R184). `onAny` and `onAll` describe the window in progress, `wasAny`
and `wasAll` the last one. `use`: the last application beat found the estimate usable. `trustAt`: when the domain became
trusted. `iwSum` and `iwN` sum I_sw over the SWREF periods that ended in window `iwK`, `iwWas` is the mean of the window before.
-/
structure EstD where
  iest : Int
  distrust : Bool
  use : Bool
  trustAt : Nat
  valid : Bool
  bad : Nat
  good : Nat
  gain : Int
  offset : Int
  term : Option (Int × Nat)
  onAny : Bool
  onAll : Bool
  wasAny : Bool
  wasAll : Bool
  iwK : Nat
  iwSum : Int
  iwN : Nat
  iwWas : Int
  wit : List (Nat × Int)
deriving DecidableEq, Repr, Inhabited

/-- One domain's result of an evaluation: the estimate, whether an image was loaded, and whether the window was spent ON (R172,
R176). -/
structure EstRes where
  est : Int
  loaded : Bool
  whole : Bool
deriving DecidableEq, Repr, Inhabited

/-- An evaluated estimator window. -/
structure EWin where
  k : Nat
  res : List EstRes
deriving DecidableEq, Repr, Inhabited

/-- The estimator block (R180, R181, R185). `next` are the accepted images with the beat from which a latch uses each, `cmpAt` the
beat of the last comparison, `wholeFrom` the beat from which its windows are whole after a reset of the block. -/
structure Est where
  ffEn : Bool
  witEn : Bool
  busy : Bool
  lasterr : Nat
  distr : CntS
  sats : CntS
  img : Option (List Byte)
  digest : List Byte
  next : List (List Byte × Nat)
  evals : Nat
  ffcnt : Nat
  wins : List EWin
  cmpAt : Nat
  wholeFrom : Nat
  ndistr : Nat
deriving DecidableEq, Repr

/-- The register file of a lane or of the command context (R187). Bit 0 of `p` is not read: p0 always reads true. -/
structure RegFile where
  v : Tab 16 Word32
  b : Tab 4 Nat
  p : Byte
  s : Tab 4 (BitVec 128)
  stack : List Nat
deriving DecidableEq, Repr

/-- The file at a start with base beat `b0` (R190). -/
def RegFile.start (b0 : Nat) : RegFile :=
  ⟨Tab.make 16 fun _ => 0, Tab.make 4 fun i => if i = 0 then b0 else 0, 0, Tab.make 4 fun _ => 0, []⟩

/-- Lane states (R217). -/
inductive LaneSt where
  | idle | armed | run | waiting | halted | aborted
deriving DecidableEq, Repr, Inhabited

/-- What a lane that reads WAITING waits for (R231, R232, R255, R258): a beat, with the beat register that WAIT writes; a
barrier's identifier and members, with the beat in which the last member arrived; the action beat of its last actuation. -/
inductive LaneWait where
  | no
  | beat (t : Nat) (setB : Option Nat)
  | bar (id : Nat) (mask : Byte)
  | fence (t : Nat)
deriving DecidableEq, Repr, Inhabited

/-- A lane (R187 to R202, R217). `issN` counts its issues and `actN` its actuations in beat `issBeat`; `ovrBeat` is the last
beat in which an actuation waited; `lastAct` the action beat of its last actuation. -/
structure Lane where
  st : LaneSt
  mask : BitVec 128
  actmax : Nat
  cause : Nat
  lag : Nat
  pc : Nat
  ovr : CntS
  rf : RegFile
  wait : LaneWait
  issBeat : Nat
  issN : Nat
  actN : Nat
  ovrBeat : Option Nat
  lastAct : Nat
deriving DecidableEq, Repr

/-- An action in the pipeline (R152): who issued it, its word, its issue beat and stated issue beat, its action beat; once
stage n + 1 has passed, the resolved VALUE and targets. `ext` holds CMDW_EXT for a command, whose completion no longer waits
when a resume restored the action (`orphan`, R312). -/
structure Act where
  ctx : Ctx
  word : Nat
  issue : Nat
  stated : Nat
  lag : Nat
  due : Nat
  res : Option (Nat × BitVec 128)
  ext : Tab 4 Word32
  orphan : Bool
deriving DecidableEq, Repr

/-- A SEND on its way (R254): the issue beat, the source's order (8 for the command context), destination and value. -/
structure SendV where
  issue : Nat
  order : Nat
  lane : Nat
  reg : Nat
  val : Word32
deriving DecidableEq, Repr

/-- Admission of a track image under way (R194): `touched` once a write reached the window, `first` what the image failed
before. -/
structure Adm where
  touched : Bool
  first : Nat
deriving DecidableEq, Repr

/-- A resume that passed its checks (R312): the image, and the beat a at which it was accepted. -/
structure Resume where
  img : List Byte
  base : Nat
  cbeat : Nat
deriving DecidableEq, Repr

/-- The sequencer's central registers (R191 to R202, R217). `spc` remembers recent actuations per domain for R198;
`hwStop` the lanes that a hardware cause stopped since the track was armed; `journal` the lanes that a REFCLK loss disarmed
and `restamp` the tally entry that waits for the first valid beat (R148); `started` whether the arm entry of R196 is written. -/
structure Seqr where
  page : Nat
  admitted : Bool
  mode : Nat
  admerr : Nat
  base : Nat
  tdig : List Byte
  late : Nat
  late2 : CntS
  spcviol : CntS
  absentAct : Nat
  tmwig : CntS
  spc : List (Nat × Nat)
  minsp : Nat
  adm : Option Adm
  started : Bool
  journal : Option Nat
  restamp : Option Nat
  resume : Option Resume
deriving DecidableEq, Repr

/-- The command window (R204 to R208). From GO on, `word`, `ext` and `num` are those submitted; `res` is the result once
known and `due` the beat from which it is written; `issued` that the context has issued the instruction. -/
structure Cmdw where
  seq : Word32
  lo : Word32
  hi : Word32
  ext : Tab 4 Word32
  result : Nat
  detail : Nat
  busy : Bool
  refuse : Nat
  refcnt : CntS
  accseq : Nat
  accbeat : Nat
  go : Bool
  num : Nat
  word : Nat
  cext : Tab 4 Word32
  issued : Bool
  res : Option (Nat × Nat)
  due : Nat
  tseq : Nat
  rf : RegFile
deriving DecidableEq, Repr

/-- A tally entry (R209). -/
structure TallyEnt where
  tseq : Nat
  cseq : Nat
  beat : Nat
  iword : Nat
  result : Nat
  source : Nat
  detail : Nat
  lanes : Nat
  aux : Nat
deriving DecidableEq, Repr

/-- The tally (R209 to R211): the entries held, newest first, and how many were written since power-up. -/
structure Tally where
  ents : List TallyEnt
  count : Nat
deriving DecidableEq, Repr

/-- A sheaf's part of a microtable load (R213, R215): the digest in use (none for the built-in table), STATE, the packets
in its shadow and their number, ACKed or given up, and its counters. -/
structure Mt where
  dig : Option (List Byte)
  st : Nat
  lastpkt : Nat
  rounds : Nat
  crcerr : CntS
  nacks : CntS
  shadow : List (Nat × List Byte)
  npkt : Nat
  acked : Bool
  nackOut : Option Word64
  shdig : List Byte
  gaveUp : Bool
deriving DecidableEq, Repr, Inhabited

/-- The microtable load in progress at Meser (R213): the image's digest and body, and the commit beat. -/
structure MtLoad where
  dig : List Byte
  body : List Byte
  npkt : Nat
  commit : Option Nat
deriving DecidableEq, Repr

/-- Microtables at the centre (R212 to R215). -/
structure Mts where
  committed : Option (List Byte)
  load : Option MtLoad
deriving DecidableEq, Repr

/-- A domain current loop and DOM_ILIM, DOM_THR (R278, R293). `f` is Q16.16; `low` counts evaluations below 1.0 in a row for
LINK_OVER. -/
structure DLoop where
  ilim : Int
  icont : Int
  derate : Bool
  f : Int
  out : Bool
  sat : Bool
  low : Nat
  isOver : Bool
deriving DecidableEq, Repr, Inhabited

/-- A thermal loop (R279, R280, R292). -/
structure TLoop where
  f : Int
  sat : Bool
  t : Int
deriving DecidableEq, Repr, Inhabited

/-- The selector's result for a core (R281): F_sel and B in 1/65,536, the reason, the slots kept of 256, C in 1/64. -/
structure CoreSel where
  fsel : Int
  reason : Nat
  kept : Nat
  cf : Nat
  b : Int
deriving DecidableEq, Repr, Inhabited

/-- The budget registers and following-error timer (R274 to R276). `bad` and `good` count decodings in a row. -/
structure Bud where
  mode : Nat
  fe : Nat
  fet : Nat
  pbud : Nat
  valid : Bool
  lostNow : Bool
  lost : Bool
  feAct : Bool
  duty : Nat
  bad : Nat
  good : Nat
  timer : Nat
  avg : Nat
deriving DecidableEq, Repr

/-- The loop engine (R265 to R287, R292, R294). Fractions are Q16.16. `capF` and `budF` are the coordinator's outputs per die,
`fcapNext` and `fbudNext` what reached this die for its next step; `dieEff` is LIMEFF as the last evaluation left it; bins hold
milliwatts, newest first; the sums are of the bin in progress; `tavgNext` is the T_avg that the next bin end brings, `fcapAt`
and `fbudAt` the beats of the coordinator's last outputs. `core` is the selector as computed last, in the issue logic from beat
`since` on and `was` before; `selAt` the beat at which the last step's outputs reach it, zero for none; `adv` what each
scheduler was told of B and C (R266, R273, R283). DESIGN CHOICE, log 22. -/
structure Loop where
  capEn : Bool
  budEn : Bool
  dieiEn : Bool
  domiEn : Bool
  thermEn : Bool
  ceilEn : Bool
  advEn : Bool
  satCap : Bool
  satBud : Bool
  satDiei : Bool
  cap : Nat
  tavg : Nat
  tavgNext : Option Nat
  capavg : Nat
  share : Tab 4 Nat
  pin : Tab 4 Nat
  capF : Tab 4 Int
  budF : Tab 4 Int
  fcap : Int
  fbud : Int
  fcapNext : Int
  fbudNext : Int
  fcapAt : Nat
  fbudAt : Nat
  bins : Tab 4 (List Nat)
  binSum : Tab 4 Nat
  binN : Nat
  bbins : Tab 4 (List Nat)
  bbinSum : Tab 4 Nat
  bbinN : Nat
  bud : Bud
  dieLim : Nat
  dieEff : Nat
  dieWin : List Int
  dieAvg : Int
  fdie : Int
  dl : Tab 128 DLoop
  tl : Tab 8 TLoop
  ceilC : Nat
  ceilA : Nat
  ceilL : Nat
  dn : Nat
  up : Nat
  prio : Nat
  core : Tab 64 CoreSel
  was : Tab 64 CoreSel
  since : Tab 64 Nat
  selAt : Tab 64 Nat
  adv : Tab 64 (Int × Nat)
  lost : Tab 64 Nat
  tdie : Tab 9 Nat
  tcore : Tab 64 (Tab 9 Nat)
  dieOc : Bool
deriving DecidableEq, Repr

/-- Telemetry (R288 to R290, R295), with the sums of the period in progress. `tags` are the tags that wait for a record, each with its
action beat: at most one for the record of a period that has ended, and one for the next (R247). -/
structure Tel where
  en : Bool
  fine : Bool
  want : Bool
  buserr : Bool
  lost : CntS
  tags : List (Nat × Nat)
  base : Nat
  log : Nat
  wr : Nat
  rd : Nat
  rseq : Nat
  gap : Bool
  start : Nat
  broken : Bool
  n : Nat
  pinSum : Nat
  pdieSum : Nat
  idieSum : Int
  vbSum : Nat
  vbN : Nat
  vSum : Tab 128 Nat
  iSum : Tab 128 Int
  beats : Nat
  fselSum : Tab 64 Nat
  rsn : Tab 64 (Tab 9 Nat)
deriving DecidableEq, Repr

/-- A harmonised stall (R305, R306): its T and N, and once it is applied the first beat after its hold. -/
structure StallP where
  t : Nat
  n : Nat
  fin : Nat
deriving DecidableEq, Repr

/-- Exact mode, stalls, save and resume (R297 to R314). `dd` is SEQ_XDDEBT in 1/256 beat; `covDone` the open segment's slack
with the stalls applied in it; `hold` the first beat after the hold in force; `svreq` a
pending SAVE with its beat and STOP, `svcap` the boundary beat once it has come, `svlanes` the lanes there when STOP halts them, `svpl` a
resume's pre-lift terms. -/
structure Exa where
  lead : Nat
  stallmin : Nat
  dd : Tab 128 Nat
  debtSat : Bool
  void : Bool
  voidLater : Bool
  overrun : Bool
  stlate : Bool
  noreq : Bool
  covDone : Nat
  pend : List StallP
  applied : List StallP
  hold : Option Nat
  stalls : CntS
  req : CntS
  stbeats : Nat
  pevt : CntS
  ovr : CntS
  svaddr : Nat
  svst : Nat
  hicdrop : Bool
  resumed : Bool
  svbeat : Nat
  svreq : Option (Nat × Bool)
  svimg : List Byte
  svcap : Option Nat
  svpl : Tab 128 (Option (Int × Nat))
  svlanes : List Lane
  svstop : Bool
  trisk : Bool
deriving DecidableEq, Repr

/-- The settings record's registers (R309, R315). -/
structure Setrec where
  busy : Bool
  gen : Nat
  dig : List Byte
  pkgdig : List Byte
  pkgvalid : Bool
deriving DecidableEq, Repr

/-- A sideband message (R321) without its CHK, which sending computes. -/
structure Msg where
  kind : Nat
  job : Nat
  orig : Nat
  dest : Nat
  seq : Nat
  payload : List Word64
deriving DecidableEq, Repr

/-- A sideband port (R318, R325, R344): its register, the messages waiting, oldest first, each with the slots still to send,
and the last message that went out whole. -/
structure Port where
  en : Bool
  tree : Nat
  lo : Nat
  hi : Nat
  q : List (Msg × Nat)
  sent : Option Msg
deriving DecidableEq, Repr, Inhabited

/-- A granary report (R331): ordinal, policy, σ, H, C, N, and the same for a die of the package (R336). -/
structure GRep where
  ord : Nat
  exid : Nat
  policy : Nat
  sigma : Int
  h : Nat
  cap : Nat
  nom : Nat
deriving DecidableEq, Repr, Inhabited

/-- A flagged segment that closed at beat `x`, until its package balance is over (R331, R336): `kept` is the slack it had shown when a
further segment closed, `dies` the slacks of the dies in service at the report beat. -/
structure GSeg where
  x : Nat
  slack : Nat
  kept : Option Int
  dies : Option (List (Option Int))
deriving DecidableEq, Repr, Inhabited

/-- An exchange in progress (R331 to R333): `sigma` is the package's slack at the report beat, `sent` that its GRANRPT is away. -/
structure GExch where
  x : Nat
  exid : Nat
  policy : Nat
  reps : List GRep
  sigma : Option Int
  sent : Bool
  decided : Bool
  newH : Nat
  nrep : Nat
  dig : Word32
  flat : Bool
  grant : Option (Nat × Word32)
deriving DecidableEq, Repr

/-- The granary (R330 to R336, R344). `polWas` was the policy before beat `polAt` changed it; `ceff` is the effective cap that the cap
loop took at its last bin end. DEDUCED, log 93. -/
structure Gran where
  policy : Nat
  polWas : Nat
  polAt : Nat
  pkgEn : Bool
  flat : Bool
  nom : Nat
  rdly : Nat
  db : Nat
  gwin : Nat
  hold : Nat
  exid : Nat
  nrep : Nat
  diverge : Bool
  skip : Bool
  exch : Nat
  div : CntS
  ceff : Nat
  segs : List GSeg
  cur : Option GExch
deriving DecidableEq, Repr

/-- Track distribution (R337 to R339). `held` has a bit for each packet; `last` is the beat of the last packet or TRKEND. -/
structure Dist where
  st : Nat
  err : Bool
  rounds : Nat
  id : Nat
  held : BitVec 1024
  npkt : Nat
  last : Nat
deriving DecidableEq, Repr

/-- The job, the sideband and the arm barrier (R317 to R329, R340 to R344). `barB` is the base beat of the last ARM that passed, and
`decided` that no decision of the root is due for it; `seen` holds ORIG and SEQ of the flooded messages handled. -/
structure Side where
  en : Bool
  jobtag : Nat
  root : Bool
  ord : Nat
  diam : Nat
  ninst : Nat
  npkg : Nat
  bad : CntS
  qfull : CntS
  port : Tab 19 Port
  seen : List (Nat × Nat)
  seqs : Tab 16 Nat
  barB : Nat
  barPend : Bool
  barPass : Bool
  barFail : Bool
  nmiss : Nat
  bdec : Nat
  rpts : List (Nat × Word64)
  decided : Bool
  abmap : BitVec 4096
  told : Bool
  dist : Dist
  gran : Gran
deriving DecidableEq, Repr

/-- An overlay slot (R350 to R355): its pairs as (FID, IDX, VALUE), none when empty. -/
structure Ovl where
  valid : Bool
  npair : Nat
  pairs : List (Nat × Nat × Nat)
  digest : List Byte
deriving DecidableEq, Repr, Inhabited

/-- The plan in use and its overlays (R346 to R355). `act = none` is the defaults of R347. -/
structure Plan where
  loaded : Bool
  lasterr : Nat
  inforce : Option (Fin 16)
  act : Option (List Byte)
  digest : List Byte
  slots : Tab 16 Ovl
  next : Option (List Byte × Nat)
  nextOvl : Option (Nat × Ovl × Nat)
  sw : Nat
deriving DecidableEq, Repr

/-- Protection, per domain (R359 to R366, R373). The beats say when ON or RETENTION was entered, when the undervoltage
stop began, and when an overvoltage trip and the off after it began; `stretch` that the host's droop
stretch acts on the core. -/
structure PDom where
  band : Nat
  ovact : Bool
  ovlatch : Bool
  uvact : Bool
  ocact : Bool
  ovcnt : CntS
  uvcnt : CntS
  drp : Nat
  since : Nat
  uvAt : Nat
  ovAt : Nat
  offAt : Nat
  stretch : Bool
deriving DecidableEq, Repr, Inhabited

/-- Protection, per instance (R365 to R373). `stop` is the beat t0 of a die stop under way, `stopNext` its next cluster;
`dip` is VINHOLD; `linkHot` the edge sensors at THROTTLE; `coolPend` a coolant loss met in freeze or hold. `lowRun`, `dipRun`,
`highRun` and `iinRun` count the 1 µs means in a row beyond VINLO, VINDIP, VINHI and 100 A, `calmRun` those with VIN at or above
VINLO and the current below 95 A (R358, R365). -/
structure Prot where
  ovm : Nat
  uvm : Nat
  uvt : Nat
  drt : Nat
  vinlo : Nat
  vindip : Nat
  vinhi : Nat
  coolant : Bool
  flow : Bool
  shutdn : Bool
  dip : Bool
  vbkill : Bool
  warn : Bool
  iinovr : Bool
  low : Bool
  high : Bool
  tmax : Int
  nfail : Nat
  shutRun : Nat
  lowRun : Nat
  dipRun : Nat
  highRun : Nat
  iinRun : Nat
  calmRun : Nat
  stop : Option Nat
  stopNext : Nat
  coolPend : Bool
  temps : List (Option Int)
  linkHot : List Nat
deriving DecidableEq, Repr

/-- A history entry (R380). -/
structure HistEnt where
  beat : Nat
  mask : Word32
  subj : Nat
  src : Nat
  inj : Bool
  masked : Bool
  silo : Bool
  merge : Nat
deriving DecidableEq, Repr, Inhabited

/-- A fault block (R375 to R382, R396). `epi` is the first entry of the episode. RAW is computed from the state. -/
structure Flt where
  stat : Word32
  mask : Word32
  react : Tab 32 Nat
  handling : Bool
  trapped : Bool
  epi : Option Nat
  hist : Tab 16 HistEnt
  next : Nat
  wrapped : Bool
  empty : Bool
  hcnt : Nat
deriving DecidableEq, Repr

/-- The error pin (R383, R398); `endAt` is the beat at which the pulse that runs is over. -/
structure Pin where
  width : Nat
  hold : Bool
  run : Bool
  endAt : Nat
  lastBlk : Nat
  lastSrc : Nat
  pulses : Nat
deriving DecidableEq, Repr

/-- A capture waiting for the silo writer (R385): the record's bytes with CHK still zero; `reset` when its raise asked
for a chip reset (R377). -/
structure Cap where
  bytes : List Byte
  reset : Bool
deriving DecidableEq, Repr

/-- The last capture of one block, source and subject (R385). -/
structure Recent where
  blk : Nat
  src : Nat
  subj : Nat
  beat : Nat
deriving DecidableEq, Repr

/-- The silo writer (R384 to R388, R398). The antifuse records themselves are `Stores.siloRecs`. -/
structure Silo where
  wait : List Cap
  recent : List Recent
  ring : Tab 64 (List Byte)
  ovnext : Nat
  ovwr : Nat
  drop : CntS
  supp : CntS
  page : Nat
deriving DecidableEq, Repr

/-- A raise that a sheaf in hold, or a stop during freeze, defers (R395), with the capture taken at detection. -/
structure Defer where
  blk : Fin 10
  src : Nat
  subj : Nat
  cap : List Byte
deriving DecidableEq, Repr

/-- An injection of modes 1 to 3 in force (R390). -/
structure Inj where
  mode : Nat
  subj : Nat
  arg : Nat
deriving DecidableEq, Repr

/-- The autonomous start (R423, R424): waiting for a module's PILOT, AON rising, done, or the die left unpowered. -/
inductive Boot where
  | module (m : Nat)
  | aon
  | done
  | dead
deriving DecidableEq, Repr

/-- The board's side of the pins: the PMB_ADDR straps, and the boundary-scan cells while EXTEST holds the pins (R448, R458, R464).
DESIGN CHOICE, log 152. -/
structure Pins where
  addr : Nat
  scan : Option ScanCells
deriving DecidableEq, Repr

/-- Global control; `coordReq` is a write of COORD that takes the role at the next window end (R431). -/
structure Gctl where
  exact : Bool
  coord : Bool
  coordReq : Bool
  holder : Option Nat
  mss : Bool
  lc : Nat
  lcNext : Nat
  lcProg : Option Nat
  lcFails : Nat
  lcLocked : Bool
  lcChal : Word64
  nmi : Nat
  idReg : Nat
  die : Nat
  chipReq : Bool
  pilot : Bool
  boot : Boot
deriving DecidableEq, Repr

/-- What the registers show while the part is frozen: the parts of the state that may still move, as at the end of the freeze
beat (R392). -/
structure FrozenRegs where
  inp : Input
  bm : Tab 4 Bm
  epp : Tab 16 Epp
  la : Tab 4 LaLoop
  dom : Tab 128 Dom
  sns : Tab 946 Sns
  bond : Tab 1232 Bond
  shf : Tab 93 Shf
  shw : Tab 93 ShfW
  shr : Tab 93 Shr
  ph : Tab 720 Ph
  phw : Tab 720 PhW
  sp : Tab 128 Sp
  gw : Tab 128 Gw
  clk : Tab 128 HostClk
  time : Time
  pd : Tab 128 PDom
  prot : Prot
  flt : Tab 10 Flt
  fpin : Pin
  silo : Silo
  g : Gctl
  seg : Seg
  ntc : Ntc
  nd : Tab 128 NDom
  seqr : Seqr
  lane : Tab 8 Lane
  tally : Tally
  exa : Exa
  tel : Tel
  loop : Loop
  recs : List (List Byte)
deriving DecidableEq, Repr

/-- A source that an injection of mode 0 holds in RAW, until a beat (R390). -/
structure HeldRaw where
  blk : Nat
  src : Nat
  due : Nat
deriving DecidableEq, Repr

/-- Debug, freeze and injection (R390 to R394, R399). -/
structure Dbg where
  req : Bool
  pin : Bool
  active : Bool
  imgrdy : Bool
  cnt : CntS
  beat : Nat
  mode : Nat
  blk : Nat
  src : Nat
  silo : Bool
  subj : Nat
  arg : Nat
  holdt : Nat
  injs : List Inj
  held : List HeldRaw
  img : List Byte
  snap : Tab 93 (List Byte)
  kept : Option FrozenRegs
deriving DecidableEq, Repr

/-- Calibration coefficients of one path of the meter: gain in q2.30, offset in raw code units (R413). -/
structure Coef where
  gn : Int
  ofs : Int
deriving DecidableEq, Repr, Inhabited

/-- What the meter commits to its non-volatile registers (R409). -/
structure MtrNv where
  eimp : Nat
  erev : Nat
  remImp : Nat
  remRev : Nat
  unreg : Nat
  plausCnt : Nat
  sbrk : Nat
deriving DecidableEq, Repr

/-- A conversion request that waits (R411): channel, urgency, the side that made it, and the window in which it came. -/
structure MtrReq where
  ch : Nat
  urgent : Bool
  meser : Bool
  win : Nat
deriving DecidableEq, Repr

/-- A calibration average in progress (R413): `m` and `c` sum the raw codes of the paths M and C over `n` windows. -/
structure MtrCal where
  ch : Nat
  high : Bool
  x : Int
  win : Nat
  n : Nat
  m : Int
  c : Int
deriving DecidableEq, Repr

/-- A completed CALZ: its X0 and the averages c0 of the two paths. -/
structure MtrZero where
  ch : Nat
  x : Int
  m : Int
  c : Int
deriving DecidableEq, Repr

/-- The Nolcy meter (R400 to R417). `endTw` is the length of a window that MAINS_SYNC has just ended; `runV`, `runI` count
failed comparisons in a row and `okV`, `okI` passed ones; `urgAt` the window that served the last urgent request. -/
structure Meter where
  supply : Bool
  refSet : Bool
  running : Bool
  reg : MtrNv
  nv : MtrNv
  nverr : Bool
  isSealed : Bool
  freq60 : Bool
  refsel : Nat
  testEn : Bool
  testCode : Nat
  stream : Bool
  cont : Bool
  align : Bool
  coef : Tab 5 Coef
  accepted : Tab 3 Bool
  wseq : Nat
  sync : Bool
  edges : Nat
  endTw : Option Nat
  aux : Nat
  plausV : Bool
  plausI : Bool
  testFail : Bool
  runV : Nat
  okV : Nat
  runI : Nat
  okI : Nat
  req : Option MtrReq
  urgAt : Option Nat
  cal : Option MtrCal
  zero : Option MtrZero
  calCh : Nat
  calRes : Nat
  frame : List Byte
deriving DecidableEq, Repr

/-- The meter mirror (R418 to R422). What it shows of the meter is in `last`, bytes 0 to 47 of the last good frame; `drive` that
this instance, as coordinator, drives the path and the DMA (R420). -/
structure Mtrm where
  stream : Bool
  cont : Bool
  align : Bool
  syncExp : Bool
  bufEn : Bool
  link : Bool
  nverr : Bool
  buserr : Bool
  lost : CntS
  bad : CntS
  ch : Nat
  urgent : Bool
  reqSt : Nat
  res : Nat
  last : List Byte
  seen : Bool
  goodAt : Nat
  base : Nat
  log : Nat
  wr : Nat
  rd : Nat
  gap : Bool
  drive : Bool
deriving DecidableEq, Repr

/-- The fuse map (R50 to R54): a bit for each fused core, cluster, array region and link group, the fused phases, and the
grade. -/
structure Fuse where
  cores : Word64
  clusters : Byte
  arrays : BitVec 16
  links : BitVec 4
  phases : List Nat
  grade : Nat
deriving DecidableEq, Repr

/-- Bring-up results of one sheaf (R425 to R429, R447). -/
structure Shbu where
  linkerr : Nat
  link : Nat
  topo : Nat
  cal : Nat
  nmiss : Nat
  nbase0 : Nat
deriving DecidableEq, Repr, Inhabited

/-- The bring-up step in progress (R425 to R429). -/
inductive BuRun where
  | no | train | ber | topo | cal
deriving DecidableEq, Repr

/-- How far the calibration is (R429): a batch is loaded since a beat, or its rails wind down. -/
inductive CalAt where
  | no
  | loaded (batch : Nat) (since : Nat)
  | winding (batch : Nat)
deriving DecidableEq, Repr

/-- Bring-up (R425 to R430, R447). -/
structure Bu where
  trained : Bool
  berdone : Bool
  topodone : Bool
  caldone : Bool
  buerr : Bool
  cal : CalAt
  run : BuRun
  nsnsok : Nat
  shb : Tab 93 Shbu
deriving DecidableEq, Repr

/-- A reset under way (R435 to R438). For levels 0 to 2: the request beat, the region's present cores and its domains, the
cores that have drained, the boundary beat, the clusters to gate, the next one's rank, and the
cores already woken again. For levels 4 to 7: the beat
at which it ends. -/
structure RstRun where
  level : Nat
  target : Nat
  mode : Bool
  q : Nat
  cores : Word64
  region : BitVec 128
  drained : Word64
  z : Option Nat
  clusters : List Nat
  rank : Nat
  woke : Word64
  due : Nat
deriving DecidableEq, Repr

/-- Reset registers and the reset in progress (R435 to R439, R447). `later` is a request met during freeze (R445). -/
structure Rst where
  level : Nat
  target : Nat
  mode : Bool
  draint : Nat
  part : Tab 8 Byte
  drainto : Bool
  refused : Bool
  resets : CntS
  dto : CntS
  run : Option RstRun
  later : Option (Nat × Nat × Bool)
deriving DecidableEq, Repr

/-- The PMBus target (R458 to R462): the address straps, the latched status, whether PMB_ALERT_N is low, the readings over
the last millisecond with their sums in progress, and the answer to the last transaction (none when it went unanswered). -/
structure Pmb where
  addr : Nat
  inp : Byte
  temp : Byte
  cml : Byte
  mfr : Byte
  alert : Bool
  n : Nat
  sumVin : Int
  sumIin : Int
  sumPin : Int
  sumT : Int
  vin : Int
  iin : Int
  pin : Int
  t : Int
  ack : Bool
  resp : List Byte
deriving DecidableEq, Repr

/-- An access path (R10, R11, R58, R393): the answer to its last access and that there is one, the unconsumed shadows of _LO reads,
the held _LO writes, and the DOM_I, DOM_P and DOM_E that a DOM_VSNS read copied, each with its offset or domain. -/
structure PathSt where
  done : Bool
  err : Bool
  data : Word32
  shadow : List (Nat × Word32)
  held : List (Nat × Word32)
  vsns : Option (Nat × Word32 × Word32 × Word32)
deriving DecidableEq, Repr

/-- What goes out: the two paths' answers, the word that the last scan of MSR_ACC captured (R393), and the answer to the last
transaction on the meter's I²C port. -/
structure Io where
  mgmt : PathSt
  jtag : PathSt
  captured : Word64
  i2cAck : Bool
  i2c : List Byte
deriving DecidableEq, Repr

/-- Why the block stops with a fault. No command of the table stops the block; the type is here because the host asks for
one. -/
inductive Fault where
  /-- Raised by nobody. Safe. -/
  | none
deriving DecidableEq, Repr

/-- Why a command has no meaning. -/
inductive Refusal where
  /-- Raised by the dispatch for a command whose meaning is not written. Safe. -/
  | notModelled (mnemonic : String)
deriving DecidableEq, Repr

/-- The bulk stores: track memory, the three staging windows (R191, R212, R180, R348), host memory as the block's DMA wrote it
(R288, R310, R419), the silo's antifuse records (R384), and the fuse map (R50). DESIGN CHOICE, log 32. -/
structure Stores where
  tmem : List Host.Cell
  mtimg : List Host.Cell
  estmem : List Host.Cell
  planmem : List Host.Cell
  hmem : List Host.Cell
  siloRecs : List (List Byte)
  fuse : Fuse
deriving DecidableEq, Repr

/-- The whole state. -/
structure State where
  inp : Input
  bm : Tab 4 Bm
  epp : Tab 16 Epp
  la : Tab 4 LaLoop
  dom : Tab 128 Dom
  sns : Tab 946 Sns
  bond : Tab 1232 Bond
  shf : Tab 93 Shf
  shw : Tab 93 ShfW
  shr : Tab 93 Shr
  ph : Tab 720 Ph
  phw : Tab 720 PhW
  swref : Swref
  gln : Gln
  sp : Tab 128 Sp
  gw : Tab 128 Gw
  bank : Tab 16 Bank
  clk : Tab 128 HostClk
  time : Time
  seg : Seg
  ntc : Ntc
  nd : Tab 128 NDom
  sg : Gate
  est : Est
  estd : Tab 93 EstD
  plan : Plan
  pd : Tab 128 PDom
  prot : Prot
  flt : Tab 10 Flt
  fpin : Pin
  silo : Silo
  defer : List Defer
  blkReset : List (Nat × Nat)
  mtrmRaw : Word32
  dbg : Dbg
  g : Gctl
  peer : Tab 4 Peer
  mem : Stores
  bu : Bu
  rst : Rst
  meter : Meter
  mtrm : Mtrm
  pmb : Pmb
  pins : Pins
  io : Io
  seqr : Seqr
  lane : Tab 8 Lane
  acts : List Act
  sends : List SendV
  cmdw : Cmdw
  tally : Tally
  mt : Tab 93 Mt
  mts : Mts
  loop : Loop
  tel : Tel
  exa : Exa
  setrec : Setrec
  side : Side
  freeCtr : Nat
  classHold : Option Nat
  pending : List Instr
deriving DecidableEq, Repr

-- The state after reset.

/-- The domain is fused off (R52). -/
def Fuse.domain (f : Fuse) (d : Nat) : Bool :=
  match typ d with
  | .co => f.cores.getLsbD d || f.clusters.getLsbD (d / 8)
  | .cl => f.clusters.getLsbD (ord d)
  | .ma => f.arrays.getLsbD (ord d)
  | .lk | .la => f.links.getLsbD (ord d)
  | .aon => false
  | .none => true

/-- The phase is fused off, alone or with its domain (R52). -/
def Fuse.phase (f : Fuse) (p : Nat) : Bool := f.phases.contains p || f.domain (phDom p)

/-- Unfused phases of a domain. -/
def Fuse.phases0 (f : Fuse) (d : Nat) : List Nat := (phasesOf d).filter fun p => !f.phase p

/-- The built spare is unfused and no fuse took it (R53, R59). -/
def Fuse.spare (f : Fuse) (d : Nat) : Bool := decide (0 < nph d) && decide ((f.phases0 d).length = nph d)

/-- No unit fused, grade 0: a part of the package's full layout. DESIGN CHOICE, log 17. -/
def Fuse.whole : Fuse := ⟨0, 0, 0, 0, [], 0⟩

/-- The part of the instance that outlives a power-up: die strap, fuse map, life-cycle state, and the silo with the captures
that wait (R384, R385, R440). -/
structure Part where
  die : Nat
  fuse : Fuse
  lc : Nat
  recs : List (List Byte)
  wait : List Cap
deriving DecidableEq, Repr

/-- 0.80 V in 1/64 µV. -/
def aonVolt : Int := 51200000

def Dom.start (f : Fuse) (d : Nat) : Dom :=
  let r := rating d 0
  { present := !f.domain d
    st := if f.domain d then .absent else if d = 92 then .on else .off
    nphOk := if f.domain d then 0 else (f.phases0 d).length
    spareAvail := !f.domain d && f.spare d
    derate := 0, vmin := 0, vmean := 0, i := 0, ipk := 0, p := 0, e := 0
    icont := if f.domain d then 0 else r.1
    ipeak := if f.domain d then 0 else r.2 }

def Ph.start (f : Fuse) (p : Nat) : Ph :=
  { (default : Ph) with
    st := if f.phase p then .absent
      else if phDom p = 92 then (if p = 719 ∧ f.spare 92 then .standby else .active) else .off }

def Sp.start (d : Nat) : Sp :=
  let v : Int := if d = 92 then aonVolt else 0
  { (default : Sp) with
    oppref := 7, opeff := 7, vop := vfV d 7, vcmd := v, vtgt := v, rise := 20, fall := 10, riseF := 20, fallF := 10, plhold := 16
    zll := zllDef d, zllT := zllDef d, fet := 200, feband := 20, feEn := true, freqOp := 7 }

def Loop.start : Loop :=
  { capEn := true, budEn := true, dieiEn := true, domiEn := true, thermEn := true, ceilEn := true, advEn := true
    satCap := false, satBud := false, satDiei := false
    cap := 3200, tavg := 10, tavgNext := none, capavg := 0, share := Tab.make 4 fun _ => 16384, pin := Tab.make 4 fun _ => 0
    capF := Tab.make 4 fun _ => 65536, budF := Tab.make 4 fun _ => 65536
    fcap := 65536, fbud := 65536, fcapNext := 65536, fbudNext := 65536, fcapAt := 0, fbudAt := 0
    bins := Tab.make 4 fun _ => [], binSum := Tab.make 4 fun _ => 0, binN := 0
    bbins := Tab.make 4 fun _ => [], bbinSum := Tab.make 4 fun _ => 0, bbinN := 0
    bud := ⟨0, 10, 200, 0, false, false, false, false, 0, 0, 0, 0, 0⟩
    dieLim := 18400, dieEff := 18400, dieWin := [], dieAvg := 0, fdie := 65536
    dl := Tab.make 128 fun d => { (default : DLoop) with ilim := (rating d 0).1, icont := (rating d 0).1, f := 65536 }
    tl := Tab.make 8 fun _ => { (default : TLoop) with f := 65536 }
    ceilC := 15, ceilA := 15, ceilL := 15, dn := 0, up := 0, prio := 0x39
    core := Tab.make 64 fun _ => ⟨65536, 15, 256, 64, 65536⟩, was := Tab.make 64 fun _ => ⟨65536, 15, 256, 64, 65536⟩
    since := Tab.make 64 fun _ => 0, selAt := Tab.make 64 fun _ => 0, adv := Tab.make 64 fun _ => (65536, 64)
    lost := Tab.make 64 fun _ => 0, tdie := Tab.make 9 fun _ => 0, tcore := Tab.make 64 fun _ => Tab.make 9 fun _ => 0
    dieOc := false }

def Tel.blank : Tel :=
  { en := false, fine := false, want := false, buserr := false, lost := .zero, tags := [], base := 0, log := 10
    wr := 0, rd := 0, rseq := 0, gap := false, start := 0, broken := false, n := 0, pinSum := 0, pdieSum := 0, idieSum := 0
    vbSum := 0, vbN := 0, vSum := Tab.make 128 fun _ => 0, iSum := Tab.make 128 fun _ => 0, beats := 0
    fselSum := Tab.make 64 fun _ => 0, rsn := Tab.make 64 fun _ => Tab.make 9 fun _ => 0 }

def Lane.start : Lane :=
  ⟨.idle, 0, 0, 0, 0, 0, .zero, RegFile.start 0, .no, 0, 0, 0, none, 0⟩

def Cmdw.start : Cmdw :=
  { seq := 0, lo := 0, hi := 0, ext := Tab.make 4 fun _ => 0, result := 0, detail := 0, busy := false, refuse := 0
    refcnt := .zero, accseq := 0, accbeat := 0, go := false, num := 0, word := 0, cext := Tab.make 4 fun _ => 0
    issued := false, res := none, due := 0, tseq := 0, rf := RegFile.start 0 }

def Seqr.start : Seqr :=
  { page := 0, admitted := false, mode := 0, admerr := 0, base := 0, tdig := List.replicate 32 0, late := 0, late2 := .zero
    spcviol := .zero, absentAct := 0, tmwig := .zero, spc := [], minsp := 0, adm := none, started := false, journal := none, restamp := none, resume := none }

def Exa.start : Exa :=
  { lead := 412, stallmin := 16, dd := Tab.make 128 fun _ => 0, debtSat := false, void := false, voidLater := false
    overrun := false, stlate := false, noreq := false, covDone := 0, pend := [], applied := [], hold := none, stalls := .zero
    req := .zero, stbeats := 0, pevt := .zero, ovr := .zero, svaddr := 0, svst := 0, hicdrop := false, resumed := false
    svbeat := 0, svreq := none, svimg := [], svcap := none, svpl := Tab.make 128 fun _ => none, svlanes := [], svstop := false
    trisk := false }

def Side.start : Side :=
  { en := false, jobtag := 0, root := false, ord := 0, diam := 12, ninst := 1, npkg := 1, bad := .zero, qfull := .zero
    port := Tab.make 19 fun _ => default, seen := [], seqs := Tab.make 16 fun _ => 0, barB := 0, barPend := false, barPass := false
    barFail := false, nmiss := 0, bdec := 2000, rpts := [], decided := true, abmap := 0, told := false
    dist := ⟨0, false, 0, 0, 0, 0, 0⟩
    gran :=
      { policy := 0, polWas := 0, polAt := 0, pkgEn := true, flat := false, nom := 6000, rdly := 1024, db := 256, gwin := 16384, hold := 0, exid := 0
        nrep := 0, diverge := false, skip := false, exch := 0, div := .zero, ceff := 0, segs := [], cur := none } }

def Flt.start (b : Nat) : Flt :=
  { stat := 0, mask := 0, react := Tab.make 32 fun i => (srcInfo b i).1, handling := false, trapped := false, epi := none
    hist := Tab.make 16 fun _ => default, next := 0, wrapped := false, empty := true, hcnt := 0 }

def Prot.start : Prot :=
  { ovm := 120, uvm := 120, uvt := 50, drt := 40, vinlo := 410, vindip := 390, vinhi := 605, coolant := false, flow := false
    shutdn := false, dip := false, vbkill := false, warn := false, iinovr := false, low := false, high := false, tmax := 0
    nfail := 0, shutRun := 0, lowRun := 0, dipRun := 0, highRun := 0, iinRun := 0, calmRun := 0, stop := none, stopNext := 0, coolPend := false, temps := [], linkHot := [] }

/-- The meter after its supply became valid, with the registers it committed, its coefficients and its seal (R407, R409,
R417). DESIGN CHOICE, log 18; DEDUCED, log 80. -/
def Meter.start (nv : MtrNv) (isSealed : Bool) (coef : Tab 5 Coef) (accepted : Tab 3 Bool) : Meter :=
  { supply := true, refSet := false, running := false, reg := nv, nv := nv, nverr := false, isSealed := isSealed, freq60 := false
    refsel := 0, testEn := true, testCode := 2000, stream := true, cont := true, align := false, coef := coef
    accepted := accepted, wseq := 0, sync := false, edges := 0, endTw := none, aux := 2, plausV := false, plausI := false
    testFail := false, runV := 0, okV := 0, runI := 0, okI := 0, req := none, urgAt := none, cal := none, zero := none
    calCh := 0, calRes := 0, frame := List.replicate 52 0 }

/-- The meter as it leaves the factory (R414), with nothing registered and unit coefficients, its reference settled.
DESIGN CHOICE, log 18. -/
def Meter.factory : Meter :=
  { Meter.start ⟨0, 0, 0, 0, 0, 0, 0⟩ true (Tab.make 5 fun _ => ⟨2 ^ 30, 0⟩) (Tab.make 3 fun _ => true) with
    refSet := true, running := true }

def Mtrm.start : Mtrm :=
  { stream := true, cont := true, align := false, syncExp := false, bufEn := false, link := false, nverr := false
    buserr := false, lost := .zero, bad := .zero, ch := 0, urgent := false, reqSt := 0, res := 0, last := List.replicate 48 0
    seen := false, goodAt := 0, base := 0, log := 12, wr := 0, rd := 0, gap := false, drive := true }

/-- DESIGN CHOICE, log 19. -/
def Pmb.start : Pmb :=
  { addr := 7, inp := 0, temp := 0, cml := 0, mfr := 0, alert := false, n := 0, sumVin := 0, sumIin := 0, sumPin := 0, sumT := 0
    vin := 0, iin := 0, pin := 0, t := 0, ack := false, resp := [] }

/-- The identity register (R446): family 4, the part's stepping. DESIGN CHOICE, log 8. -/
def idWord (die grade : Nat) : Nat := die % 4 + 64 + 256 * (Config.stepping % 65536) + 2 ^ 24 * (grade % 4)

/-- DESIGN CHOICE, log 17. -/
def Gctl.start (k : Part) : Gctl :=
  { exact := false, coord := decide (k.die = 0), coordReq := false, holder := some 0, mss := false, lc := k.lc, lcNext := k.lc, lcProg := none
    lcFails := 0, lcLocked := false, lcChal := Config.challenge 0, nmi := 0, idReg := idWord k.die k.fuse.grade, die := k.die
    chipReq := false, pilot := false, boot := .aon }

def Path.start : PathSt := ⟨false, false, 0, [], [], none⟩

/-- Every register at its power-up value (R468), as the autonomous start leaves them: BM.0 in PILOT, AON ON at 0.80 V, every
other domain OFF (R56, R423). DESIGN CHOICE, log 3. -/
def State.start (k : Part) : State :=
  let f := k.fuse
  { inp := ⟨.closed, 0, 0, 0, 0xFFFF, 0, 0, false⟩
    bm := Tab.make 4 fun m =>
      { (default : Bm) with mode := if m = 0 then 1 else 0, slot := m, st := if m = 0 then .pilot else .off, ilim := 0x1C00 }
    epp := Tab.make 16 fun c =>
      { (default : Epp) with div := 50, divRun := 50, slot := c % 4, ilim := 0x200, absent := f.links.getLsbD (c / 4) }
    la := Tab.make 4 fun _ => default
    dom := Tab.make 128 (Dom.start f)
    sns := Tab.make 946 fun _ => default
    bond := Tab.make 1232 fun _ => default
    shf := Tab.make 93 fun d =>
      { (default : Shf) with
        run := decide (d = 92), tband := 3, base := baseDef d, uf := 30, skipEn := true, shedEn := true, kt := 2, rampEn := true }
    shw := Tab.make 93 fun d =>
      { (default : ShfW) with
        zll := zllDef d, rearmed := true, tbandF := 3, reseed := decide (d = 92), parT := parOf fldDef d 0 3, parF := parOf fldDef d 0 3 }
    shr := Tab.make 93 fun d =>
      { (default : Shr) with nhic := 32, th := 16, ilim := 80, fbond := 0xFFFF, nospare := !f.domain d && !f.spare d }
    ph := Tab.make 720 (Ph.start f)
    phw := Tab.make 720 fun _ => default
    swref := ⟨0, false, 0, false, false, 0⟩
    gln := ⟨true, true, true, true, 15, 35, 100, 15, 0⟩
    sp := Tab.make 128 Sp.start
    gw := Tab.make 128 fun _ => default
    bank := Tab.make 16 fun _ => default
    clk := Tab.make 128 fun _ => ⟨7, 0, 7⟩
    time := ⟨0, false, false, false, false, false, .zero, true, false, false, 0, 0⟩
    seg := ⟨0, false, false, 0, 0, 0, 0, 0, [], false, 0, 0, 0, 0, 0, false⟩
    ntc := ⟨65535, 16, 8, 0, 0, .zero, .zero, .zero, .zero, [], 0, 0, [], []⟩
    nd := Tab.make 128 fun _ => default
    sg := ⟨16, 0, [], [], []⟩
    est := ⟨true, true, false, 0, .zero, .zero, none, List.replicate 32 0, [], 0, 0, [], 0, 0, 0⟩
    estd := Tab.make 93 fun _ => { (default : EstD) with distrust := true, onAll := true }
    plan := ⟨false, 0, none, none, List.replicate 32 0, Tab.make 16 fun _ => default, none, none, 0⟩
    pd := Tab.make 128 fun _ => { (default : PDom) with band := 3 }
    prot := Prot.start
    flt := Tab.make 10 Flt.start
    fpin := ⟨2, false, false, 0, 0, 0, 0⟩
    silo := ⟨k.wait, [], Tab.make 64 fun _ => [], 0, 0, .zero, .zero, 0⟩
    defer := [], blkReset := [], mtrmRaw := 0
    dbg := ⟨false, false, false, false, .zero, 0, 0, 0, 0, false, 0, 0, 0, [], [], [], Tab.make 93 fun _ => [], none⟩
    g := Gctl.start k
    peer := Tab.make 4 fun _ => default
    mem := ⟨[], [], [], [], [], k.recs, f⟩
    bu := ⟨false, false, false, false, false, .no, .no, 0, Tab.make 93 fun _ => default⟩
    rst := ⟨0, 0, false, 100, Tab.make 8 fun _ => 0, false, false, .zero, .zero, none, none⟩
    meter := Meter.factory, mtrm := Mtrm.start, pmb := Pmb.start, pins := ⟨7, none⟩
    io := ⟨Path.start, Path.start, 0, false, []⟩
    seqr := Seqr.start
    lane := Tab.make 8 fun _ => Lane.start
    acts := [], sends := [], cmdw := Cmdw.start
    tally := ⟨[], 0⟩
    mt := Tab.make 93 fun _ => default
    mts := ⟨none, none⟩
    loop := Loop.start, tel := Tel.blank, exa := Exa.start
    setrec := ⟨false, 0, List.replicate 32 0, List.replicate 32 0, false⟩
    side := Side.start
    freeCtr := 1, classHold := none, pending := [] }

/-- The state after reset: a whole part in the FIELD state as die D0, with an empty silo and an empty queue.
DESIGN CHOICE, log 3, 17. -/
def State.reset : State := State.start ⟨0, Fuse.whole, 2, [], []⟩

end Sys2Proof.Machine
end

