-- ==== Sys2Proof/Machine/Maps.lean ====
section
/-! DEFINITION. The configuration in force: the plan in use and the overlay's pairs (R347, R351, R353). -/

namespace Sys2Proof.Machine

/-- The value of a field in the plan in use (R347). -/
def planField (p : Plan) (fid idx : Nat) : Nat :=
  match p.act with
  | none => fldDef fid idx
  | some img => imgField img fid idx

/-- The element of a field that an overlay's type-wide IDX names (R351). -/
def wideIdx (fid idx : Nat) : Nat :=
  if fid = 0x50 ∨ fid = 0x51 then 0x8000 + 16 * typCode (typ (idx / 16)) + idx % 16
  else 0x8000 + 16 * typCode (typ idx)

/-- Whether a field is per domain, so that a type-wide IDX may name it (R351). -/
def perDom (fid : Nat) : Bool := (0x40 ≤ fid ∧ fid ≤ 0x47) ∨ fid = 0x50 ∨ fid = 0x51

/-- The value a list of pairs gives a field: a pair that names the element goes before a type-wide one (R351). -/
def pairsField (ps : List (Nat × Nat × Nat)) (fid idx : Nat) : Option Nat :=
  match ps.find? fun x => x.1 = fid ∧ x.2.1 = idx with
  | some x => some x.2.2
  | none =>
    if perDom fid then (ps.find? fun x => x.1 = fid ∧ x.2.1 = wideIdx fid idx).map (·.2.2) else none

/-- The pairs of the overlay in force. -/
def ovlPairs (p : Plan) : List (Nat × Nat × Nat) :=
  match p.inforce with
  | none => []
  | some k => (p.slots.get k).pairs

/-- The configuration in force: the plan with the overlay's pairs applied (R353). DEDUCED, log 102. -/
def cfg (s : State) (fid idx : Nat) : Nat :=
  match pairsField (ovlPairs s.plan) fid idx with
  | some v => v
  | none => planField s.plan fid idx

end Sys2Proof.Machine
end

