-- ==== Sys2Proof/Machine/Ops.lean ====
section
/-! DEFINITION. The shared operations: when the block acts at all, byte memories, fields of the indexed families, counters'
maxima, and the raise of a fault source with its history, capture and reaction (R376 to R388). -/

namespace Sys2Proof.Machine

/-- What a meaning answers. -/
abbrev Out := Host.Outcome State Fault Refusal

/-- Power reaches the block only through the closed input switch (R22, R23), and stays off where the autonomous start failed
(R424). -/
def State.powered (s : State) : Bool := decide (s.inp.sw = .closed) && decide (s.g.boot ≠ .dead)

/-- The central clocks run: powered, not frozen (R391), REFCLK present (R148). -/
def State.live (s : State) : Bool := s.powered && !s.dbg.active && s.time.refclk

/-- Meser's outputs carry their functions: VIO is there, and GSTAT.PILOT is set (R449). -/
def pinsLive (s : State) : Bool := s.powered && s.g.pilot

/-- A meaning of a powered block; without power nothing acts (R23). -/
def powered (s : State) (f : State → State) : Out := .next (if s.powered then f s else s)

/-- A meaning of what stops in freeze but needs no REFCLK (R391). -/
def awake (s : State) (f : State → State) : Out := .next (if s.powered && !s.dbg.active then f s else s)

/-- A register write from the management bus: in freeze every register holds its value (R392). -/
def bus (s : State) (f : State → State) : Out := .next (if s.powered && !s.dbg.active then f s else s)

/-- A meaning of the central blocks; it needs MCLK (R148, R391). -/
def live (s : State) (f : State → State) : Out := .next (if s.live then f s else s)

/-- A step of a sheaf's own hardware: it needs power alone, since the sheaf runs on in hold (R90, R391). -/
def sheafStep (s : State) (f : State → State) : Out := .next (if s.powered then f s else s)

/-- No slip, freeze, mode change or reset interrupted the window of `p` beats that starts at beat `b` (R151). -/
def wholeWin (s : State) (b p : Nat) : Bool :=
  decide (s.time.wholeFrom ≤ b ∧ (s.time.modeAt ≤ b ∨ b + p ≤ s.time.modeAt))

-- Byte memories.

/-- What an unlisted address reads as: zero (log 2). DESIGN CHOICE, log 2. -/
def memDefault : Byte := 0

/-- Reads one byte. DESIGN CHOICE, log 2. -/
def Memory.read (m : List Host.Cell) (a : Nat) : Byte :=
  match m with
  | [] => memDefault
  | c :: cs => if c.1 = a then c.2 else Memory.read cs a

/-- Puts a byte into the sorted list; the byte an unlisted address reads as takes the entry out. -/
def Memory.write (m : List Host.Cell) (a : Nat) (b : Byte) : List Host.Cell :=
  match m with
  | [] => if b = memDefault then [] else [(a, b)]
  | c :: cs =>
    if a < c.1 then (if b = memDefault then c :: cs else (a, b) :: c :: cs)
    else if a = c.1 then (if b = memDefault then cs else (a, b) :: cs)
    else c :: Memory.write cs a b

/-- Writes bytes from address `a` up. -/
def Memory.writeBytes (m : List Host.Cell) (a : Nat) : List Byte → List Host.Cell
  | [] => m
  | b :: bs => Memory.writeBytes (Memory.write m a b) (a + 1) bs

/-- Reads `n` bytes from address `a` up. -/
def Memory.readBytes (m : List Host.Cell) (a n : Nat) : List Byte := upTo n fun i => Memory.read m (a + i)

/-- A little-endian word (R10). -/
def Memory.word (m : List Host.Cell) (a : Nat) : Word32 := BitVec.ofNat 32 (le32 (Memory.readBytes m a 4) 0)

def Memory.setWord (m : List Host.Cell) (a : Nat) (v : Word32) : List Host.Cell :=
  Memory.writeBytes m a (leBytes 4 v.toNat)

/-- The canonical form: addresses strictly rising from `lo`, no entry equal to what an unlisted address reads as. -/
def Memory.wfFrom (lo : Nat) : List Host.Cell → Bool
  | [] => true
  | c :: cs => decide (lo ≤ c.1) && decide (c.2 ≠ memDefault) && Memory.wfFrom (c.1 + 1) cs

def Memory.wf (m : List Host.Cell) : Bool := Memory.wfFrom 0 m

-- Families.

/-- The domain has a sheaf (R45). -/
def onDie (d : Nat) : Bool := d < 93

/-- The domain is present (R50, R59). -/
def present (s : State) (d : Nat) : Bool := (s.dom.nth d).present

/-- GCTL.EXACT. -/
def exactOn (s : State) : Bool := s.g.exact

def domSt (s : State) (d : Nat) : DomSt := (s.dom.nth d).st

def setDomSt (s : State) (d : Nat) (x : DomSt) : State :=
  { s with dom := s.dom.modN d fun e => { e with st := x } }

/-- The states that count as ON for the loops: ON, or HOLD under freeze or autonomous hold (R56). -/
def isOn (s : State) (d : Nat) : Bool := decide (domSt s d = .on)

/-- Position count over the phases of a domain. -/
def countPh (s : State) (d : Nat) (f : Ph → Bool) : Nat := ((phasesOf d).filter fun p => f (s.ph.nth p)).length

/-- Phases ACTIVE, HOLD included while in hold (R61). -/
def nactSet (s : State) (d : Nat) : Nat := countPh s d fun p => p.st = .active ∨ p.st = .hold

/-- N_act: phases ACTIVE and not shed (R61, R72); one back from shedding counts from its first SWREF period on (R85, the table
"Load step with notice"). -/
def nactOf (s : State) (d : Nat) : Nat :=
  ((phasesOf d).filter fun p => decide ((s.ph.nth p).st = .active ∨ (s.ph.nth p).st = .hold) && !(s.phw.nth p).waitPer).length

/-- Healthy phases: neither ABSENT nor EXCLUDED (R126); for LA, channels in service (R41). -/
def inService (e : Epp) : Bool := e.en && !e.out && !e.absent

def laChannels (l : Nat) : List Nat := upTo 4 fun k => 4 * l + k

def healthy (s : State) (d : Nat) : Nat :=
  if d < 93 then countPh s d fun p => p.st ≠ .absent ∧ p.st ≠ .excluded
  else ((laChannels (ord d)).filter fun c => inService (s.epp.nth c)).length

/-- Modules in RUN (R30). -/
def nRun (s : State) : Nat := (s.bm.data.filter fun b => decide (b.st = .run)).length

/-- The die current limit that the modules allow, in 1/64 A (R30, R43). -/
def modLimit (s : State) : Int := 18400 * nRun s

/-- Sum of DOM_I.I over the die, in 1/64 A (R30, R111). -/
def dieCurrent (s : State) : Int := (allDoms.map fun d => (s.dom.nth d).i).foldl (· + ·) 0

/-- DOM_E in mJ from the energy in nJ, which it holds to the nearest LSB (R6, R7, R59).
DESIGN CHOICE, log 22; DEDUCED, log 87. -/
def energyReg (e : Nat) : Nat := rdivNat e 1000000 % 2 ^ 32

-- Fault blocks.

/-- The domain that a subject code belongs to, for captures (R380, R385). -/
def subjDom (subj : Nat) : Option Nat :=
  if subj < 0x2D0 then some (phDom subj)
  else if 0x1000 ≤ subj ∧ subj < 0x1000 + 946 then some (snsDom (subj - 0x1000))
  else if 0x2000 ≤ subj ∧ subj < 0x2000 + 1232 then some (bondDom (subj - 0x2000))
  else if 0x4000 ≤ subj ∧ subj < 0x4080 then some (subj - 0x4000)
  else if 0x8100 ≤ subj ∧ subj < 0x8110 then some (96 + (subj - 0x8100) / 4)
  else none

/-- STATE codes of PH_STAT, DOM_STAT, BM_STAT and EPP_STAT (R32, R42, R56, R61). -/
def phCode : PhSt → Nat
  | .absent => 0 | .off => 1 | .standby => 2 | .active => 3 | .shed => 4 | .hiccup => 5 | .excluded => 6 | .hold => 7

def domCode : DomSt → Nat
  | .absent => 0 | .off => 1 | .waking => 2 | .on => 3 | .gating => 4 | .retention => 5 | .dark => 6 | .hold => 7

def bmCode : BmSt → Nat
  | .off => 0 | .pilot => 1 | .run => 2 | .fault => 3 | .starting => 4

/-- EPP drives a channel: in service, and its rail rising, ON or in hold (R41, R106). -/
def driven (s : State) (c : Nat) : Bool :=
  let st := domSt s (96 + c / 4)
  inService (s.epp.nth c) && (decide (st = .waking) || decide (st = .on) || decide (st = .hold))

/-- The channel's EN is high: a trip of the rail's overvoltage holds all four low (R358). -/
def enHigh (s : State) (c : Nat) : Bool := driven s c && !(s.pd.nth (96 + c / 4)).ovact

def eppCode (s : State) (c : Nat) : Nat :=
  if (s.epp.nth c).out then 3 else if !enHigh s c then 0 else if (s.epp.nth c).atLim then 2 else 1

/-- A silo PHASE entry of an on-die phase (R386): 40 bits. -/
def phEntry (p : Ph) (w : PhW) : Nat :=
  fld 0 3 (phCode p.st) + fld 3 3 p.xcause + fld 6 12 (signedBits 12 (clampInt (-2048) 2047 w.iLast))
    + fld 18 10 (min 1023 (rdivNat w.vfly 4)) + fld 28 8 (clampInt 0 255 (w.tind + 40)).toNat + fld 36 1 (b2n w.limLast)

/-- A silo PHASE entry of an EPP channel. -/
def eppEntry (s : State) (c : Nat) : Nat :=
  let e := s.epp.nth c
  fld 0 3 (eppCode s c) + fld 6 12 (signedBits 12 (clampInt (-2048) 2047 e.isns))
    + fld 28 8 (clampInt 0 255 (rdiv e.temp 128 + 40)).toNat + fld 36 1 (b2n e.atLim)

def phaseBytes (s : State) (d : Option Nat) : List Byte :=
  let ents := match d with
    | none => []
    | some d =>
      if d < 93 then (phasesOf d).map fun p => phEntry (s.ph.nth p) (s.phw.nth p)
      else (laChannels (ord d)).map (eppEntry s)
  (upTo 9 fun k => leBytes 5 (ents.getD k 0)).flatten

/-- The 64 bytes of a capture with CHK zero (R386). -/
def capBytes (s : State) (b src subj rx : Nat) (inj masked : Bool) : List Byte :=
  let d := subjDom subj
  let vmin := match d with
    | some d => if d < 93 then satU16 (s.shw.nth d).vlow else (s.dom.nth d).vmin
    | none => 0
  let idom := match d with
    | some d => if d < 93 then (s.shw.nth d).isw else (s.dom.nth d).i
    | none => 0
  leBytes 8 s.time.beat ++ leBytes 1 b ++ leBytes 1 (src + 32 * b2n inj + 64 * b2n masked)
    ++ leBytes 1 (rx % 16 + 16 * (s.g.lc % 8) + 128) ++ leBytes 1 (d.getD 0xFF) ++ leBytes 2 subj
    ++ leBytes 2 vmin ++ leBytes 2 (signedBits 16 (satI16 idom)) ++ [0] ++ phaseBytes s d

/-- A record with its CHK at byte 18 (R386). -/
def withChk (l : List Byte) : List Byte := l.set 18 (crc8 (l.take 18 ++ l.drop 19))

/-- The subject is an injected phase or sense point, or the domain that owns one (R390). -/
def injected (s : State) (subj : Nat) : Bool :=
  s.dbg.injs.any fun i => decide (i.subj = subj) || decide (some subj = (subjDom i.subj).map (0x4000 + ·))

/-- What the sense of phase `p` reports of a current (R390): an injection holds the drivers off, or scales it. -/
def sensedI (s : State) (p : Nat) (i : Int) : Int :=
  s.dbg.injs.foldl (fun i x =>
    if x.subj = p then (if x.mode = 1 then 0 else if x.mode = 2 then rdiv (i * x.arg) 256 else i) else i) i

/-- What sense point `n` reports of a voltage in V16 (R390): an injection offsets it in steps of 0.5 mV. -/
def sensedV (s : State) (n : Nat) (v : Int) : Int :=
  s.dbg.injs.foldl (fun v x => if x.mode = 3 ∧ x.subj = 0x1000 + n then v + 2 * signExt 8 x.arg else v) v

/-- The currents of a sheaf's positions, and its sense points' samples, as sensed. -/
def sensedCur (s : State) (d : Nat) (cur : List Int) : List Int := upTo (nph d) fun k => sensedI s (firstPh d + k) (cur.getD k 0)
def sensedLow (s : State) (d : Nat) (low : List Int) : List Int := upTo (nsns d) fun k => sensedV s (firstSns d + k) (low.getD k 0)

/-- Writes or merges the history entry of a raise (R379, R381). -/
def histRaise (f : Flt) (beat src subj : Nat) (inj masked silo react : Bool) : Flt :=
  let bit : Word32 := 1 <<< src
  match (if f.handling then f.epi else none) with
  | some i =>
    { f with hist := f.hist.modN i fun h => { h with mask := h.mask ||| bit, merge := min 255 (h.merge + 1) } }
  | none =>
    { f with
      hist := f.hist.modN f.next fun _ => ⟨beat, bit, subj, src, inj, masked, silo, 0⟩
      next := (f.next + 1) % 16
      wrapped := f.wrapped || decide ((f.hist.nth f.next).merge ≠ 0 ∨ (f.hist.nth f.next).mask ≠ 0)
      empty := false
      hcnt := (f.hcnt + 1) % 65536
      handling := f.handling || react
      epi := if f.handling || react then some f.next else none }

/-- Starts or restarts the error-pin pulse, which lasts WIDTH in units of 10 µs (R383). -/
def pinPulse (p : Pin) (beat b src : Nat) : Pin :=
  { p with
    run := true, endAt := beat + 1000 * p.width, lastBlk := b, lastSrc := src
    pulses := if p.run then p.pulses else (p.pulses + 1) % 2 ^ 32 }

/-- Puts a capture into the silo's queue, or suppresses or drops it (R385). Answers the silo and whether it was taken. -/
def siloTake (q : Silo) (beat b src subj : Nat) (bytes : List Byte) (reset : Bool) : Silo × Bool :=
  if q.recent.any fun r => r.blk = b ∧ r.src = src ∧ r.subj = subj ∧ beat < r.beat + 100000 then
    ({ q with supp := q.supp.inc 65535 }, false)
  else if 16 ≤ q.wait.length then ({ q with drop := q.drop.inc 65535 }, false)
  else
    ({ q with
       wait := q.wait ++ [⟨bytes, reset⟩]
       recent := ⟨b, src, subj, beat⟩ :: q.recent.filter fun r => ¬ (r.blk = b ∧ r.src = src ∧ r.subj = subj) }, true)

/-- The block has a reset of its own as reaction 3 (R377). -/
def hasReset (b subj : Nat) : Bool :=
  decide (b = 3 ∨ b = 4 ∨ b = 5 ∨ b = 6 ∨ b = 8 ∨ (b = 1 ∧ (subjDom subj).any (· ≠ 92)))

/-- The PMBus status bits that a source's condition latches: input, temperature, manufacturer (R461). -/
def pmbBits (b src : Nat) : Byte × Byte × Byte :=
  match b, src with
  | 0, 9 => (0x40, 0, 0)
  | 0, 7 => (0x20, 0, 0)
  | 0, 8 => (0x10, 0, 0)
  | 0, 10 => (0x04, 0, 0)
  | 0, 13 => (0, 0x80, 0)
  | 0, 11 => (0, 0x40, 0)
  | 0, 14 => (0, 0, 0x01)
  | 4, 1 => (0, 0, 0x02)
  | 4, 0 => (0, 0, 0x04)
  | 8, 0 => (0, 0, 0x10)
  | 8, 2 => (0, 0, 0x20)
  | 7, 0 | 7, 1 | 7, 2 | 7, 3 => (0, 0, 0x40)
  | 0, 2 => (0, 0, 0x80)
  | _, _ => (0, 0, 0)

/-- Status bits latch; a bit that was not latched yet pulls PMB_ALERT_N low (R461). -/
def pmbLatch (p : Pmb) (x : Byte × Byte × Byte) : Pmb :=
  { p with
    inp := p.inp ||| x.1, temp := p.temp ||| x.2.1, mfr := p.mfr ||| x.2.2
    alert := p.alert || decide (x.1 &&& ~~~ p.inp ≠ 0) || decide (x.2.1 &&& ~~~ p.temp ≠ 0)
      || decide (x.2.2 &&& ~~~ p.mfr ≠ 0) }

/-- A raise (R376 to R378, R381, R383, R385): STAT, capture, history, handling, trap, pin, the request of a block reset for
reaction 3, which the next REFCLK edge carries out, and of a chip reset for reaction 4. `cap` is the capture, or none to take it
now; `noCap` for an injected raise that takes none (R390). -/
def raiseWith (s : State) (b : Fin 10) (src subj : Nat) (inj noCap : Bool) (cap : Option (List Byte)) : State :=
  let f := s.flt.get b
  let masked := f.mask.getLsbD src
  let r := f.react.nth src
  let code := if masked then 0 else r % 8
  let mark := (srcInfo b.val src).2.1 && !noCap
  let bytes := cap.getD (capBytes s b.val src subj (if masked then 0 else r) inj masked)
  let taken := if mark then siloTake s.silo s.time.beat b.val src subj bytes (decide (code = 4)) else (s.silo, false)
  let reacts := decide (1 ≤ code ∧ code ≤ 4)
  let f := histRaise { f with stat := f.stat ||| (1 <<< src) } s.time.beat src subj inj masked taken.2 reacts
  { s with
    flt := s.flt.set b { f with trapped := f.trapped || decide (code = 2) }
    silo := taken.1
    blkReset := if code = 3 ∧ hasReset b.val subj then s.blkReset ++ [(b.val, subj)] else s.blkReset
    pmb := if s.g.coord then pmbLatch s.pmb (pmbBits b.val src) else s.pmb
    fpin := if !masked && decide (8 ≤ r) then pinPulse s.fpin s.time.beat b.val src else s.fpin
    g := { s.g with
      nmi := if code = 2 then s.g.nmi + 1 else s.g.nmi
      chipReq := s.g.chipReq || (decide (code = 4) && !taken.2) } }

/-- The interrupt line of a block: some STAT bit set, unmasked, with a reaction of 1 to 4 (R377).
DESIGN CHOICE, log 122. -/
def irqLine (f : Flt) : Bool :=
  (List.range 32).any fun i =>
    f.stat.getLsbD i && !f.mask.getLsbD i && decide (1 ≤ f.react.nth i % 8 ∧ f.react.nth i % 8 ≤ 4)

end Sys2Proof.Machine
end

