-- ==== Sys2Proof/Machine/Raise.lean ====
section
/-! DEFINITION. Raises as the meanings make them. -/

namespace Sys2Proof.Machine

abbrev bPROT : Fin 10 := 0
abbrev bSHF : Fin 10 := 1
abbrev bDOM : Fin 10 := 2
abbrev bSEQ : Fin 10 := 3
abbrev bLOOP : Fin 10 := 4
abbrev bEST : Fin 10 := 5
abbrev bSIDE : Fin 10 := 6
abbrev bBM : Fin 10 := 7
abbrev bMTRM : Fin 10 := 8
abbrev bDBG : Fin 10 := 9

/-- Subject codes (R380). -/
def subjD (d : Nat) : Nat := 0x4000 + d
def subjDie : Nat := 0xFFFF

/-- A raise with its reaction (R376, R377). -/
def raise (s : State) (b : Fin 10) (src subj : Nat) : State :=
  raiseWith s b src subj (injected s subj) false none

/-- A raise that a sheaf detects: in hold it waits, with its capture taken now (R395). -/
def raiseShf (s : State) (d : Nat) (b : Fin 10) (src subj : Nat) : State :=
  if (s.shf.nth d).hold then
    let inj := injected s subj
    { s with defer := s.defer ++
        [⟨b, src, subj, capBytes s b.val src subj ((s.flt.get b).react.nth src) inj ((s.flt.get b).mask.getLsbD src)⟩] }
  else raise s b src subj

/-- The capture of a deferred raise: taken at detection, stamped with the beat, reaction and mask of the raise (R386, R395). -/
def stampCap (s : State) (x : Defer) : List Byte :=
  let masked := (s.flt.get x.blk).mask.getLsbD x.src
  (capBytes s x.blk.val x.src x.subj (if masked then 0 else (s.flt.get x.blk).react.nth x.src) (injected s x.subj) masked).take 14
    ++ x.cap.drop 14

/-- Takes the deferred raises of sheaf `d` when its hold ends, stamped with that beat (R395). -/
def raiseDeferred (s : State) (d : Nat) : State :=
  let mine := s.defer.filter fun x => subjDom x.subj = some d
  let s := { s with defer := s.defer.filter fun x => ¬ subjDom x.subj = some d }
  mine.foldl (fun s x => raiseWith s x.blk x.src x.subj (injected s x.subj) false (some (stampCap s x))) s

end Sys2Proof.Machine
end

