-- ==== Sys2Proof/Machine/SetpointOps.lean ====
section
/-! DEFINITION. The composed target V_tgt, retargeting and slew, operating points and their order, the following error
(R94 to R104, R479). Voltages are in 1/64 µV: 64,000 is 1 mV and 16,000 is one V16 step. -/

namespace Sys2Proof.Machine

def mV : Int := 64000
def v16u : Int := 16000

def modSp (s : State) (d : Nat) (f : Sp → Sp) : State := { s with sp := s.sp.modN d f }
def modGw (s : State) (d : Nat) (f : Gw → Gw) : State := { s with gw := s.gw.modN d f }
def modShf (s : State) (d : Nat) (f : Shf → Shf) : State := { s with shf := s.shf.modN d f }
def modShw (s : State) (d : Nat) (f : ShfW → ShfW) : State := { s with shw := s.shw.modN d f }
def modShr (s : State) (d : Nat) (f : Shr → Shr) : State := { s with shr := s.shr.modN d f }
def modPh (s : State) (p : Nat) (f : Ph → Ph) : State := { s with ph := s.ph.modN p f }
def modPhw (s : State) (p : Nat) (f : PhW → PhW) : State := { s with phw := s.phw.modN p f }
def modPd (s : State) (d : Nat) (f : PDom → PDom) : State := { s with pd := s.pd.modN d f }
def modNd (s : State) (d : Nat) (f : NDom → NDom) : State := { s with nd := s.nd.modN d f }
def modEstd (s : State) (d : Nat) (f : EstD → EstD) : State := { s with estd := s.estd.modN d f }
def modDom (s : State) (d : Nat) (f : Dom → Dom) : State := { s with dom := s.dom.modN d f }

/-- Temperature band of a domain (R366). -/
def bandOf (s : State) (d : Nat) : Nat := (s.pd.nth d).band

/-- The estimator of a domain is trusted and its output in use (R174, R177). -/
def trusted (s : State) (d : Nat) : Bool :=
  decide (d < 93) && (s.estd.nth d).use && !(s.estd.nth d).distrust && isOn s d

/-- GSEL and the guardband in mV (R95). AON has none (R94). DEDUCED, log 34. -/
def guardband (s : State) (d : Nat) : Nat × Nat :=
  if d = 92 then (0, 0)
  else if exactOn s then (3, 30)
  else if (s.nd.nth d).cov then (0, cfg s 0x20 (bandOf s d))
  else if trusted s d then (1, cfg s 0x21 (bandOf s d))
  else (2, cfg s 0x22 (bandOf s d))

/-- A pending effect beat's pre-lift term: the sum of its contributions (R159). -/
def termSum (p : Pend) : Int := (p.cs.map (·.p)).foldl (· + ·) 0

/-- P: the pre-lift terms in V_tgt, the estimator term and a resume's term, within ±60 mV (R96, R175, R312). -/
def preliftSum (s : State) (d : Nat) : Int :=
  let notice := ((s.nd.nth d).pend.filter (·.entered)).map termSum
  let est := if d < 93 then ((s.estd.nth d).term.map (·.1)).getD 0 else 0
  let resume := ((s.exa.svpl.nth d).map (·.1)).getD 0
  clampInt (-60 * mV) (60 * mV) (notice.foldl (· + ·) 0 + est + resume)

/-- V_tgt of a domain that is ON or rising to ON (R94). AON's lies in the range of its type too (R44).
DEDUCED, log 128. -/
def composed (s : State) (d : Nat) : Int :=
  let vop : Int := (s.sp.nth d).vop * v16u
  if d = 92 then clampInt (vLo d * v16u) (vHi d * v16u) vop
  else clampInt (vLo d * v16u) (vHi d * v16u) (vop + (guardband s d).2 * mV + preliftSum s d)

/-- The retention target of an MA region, by band (R108). -/
def vRet (s : State) (d : Nat) : Int := cfg s 0x24 (bandOf s d) * v16u

/-- The target that the domain's state asks for; none where nothing moves (R100, R105, R108, R110). -/
def wantTgt (s : State) (d : Nat) : Option Int :=
  match domSt s d, (s.gw.nth d).gateTo with
  | .on, _ => some (composed s d)
  | .waking, .off => some 0
  | .waking, _ => if (s.gw.nth d).waitAdm || (s.shr.nth d).dhic && !(s.shr.nth d).rising then none else some (composed s d)
  | .gating, .retention => if (s.shf.nth d).run then some (vRet s d) else none
  | .gating, .off => if typ d = .ma ∨ (s.gw.nth d).wake.isSome then some 0 else none
  | .retention, _ => some (vRet s d)
  | _, _ => none

def sgn (x : Int) : Int := if 0 < x then 1 else if x < 0 then -1 else 0

/-- Rate per beat in 1/64 µV for a move in direction `dir` (R101). -/
def rateBeat (p : Sp) (dir : Int) : Int :=
  let code := if p.code ≠ 0 then p.code else if 0 < dir then p.riseF else p.fallF
  if p.quarter then 8000 * code else 32000 * code

/-- I_dom of a domain for the load line: the last trim cycle's mean; for LA the window current (R64). -/
def idomOf (s : State) (d : Nat) : Int := if d < 93 then (s.shw.nth d).idom else (s.dom.nth d).i

/-- Z_ll in force at the sheaf (R63, R103). -/
def zllOf (s : State) (d : Nat) : Int := if d < 93 then (s.shw.nth d).zll else (s.sp.nth d).zllT

-- Bands and seeds.

/-- Mean SWREF frequency in 0.01 MHz (R69); in hold and in AON's start the sheaf's own oscillator, 125 MHz (R90, R423). -/
def swrefF (s : State) (d : Nat) : Nat :=
  if (s.shf.nth d).hold || (s.shw.nth d).localOsc || decide (s.swref.srcAct = 0) then 12500 else 5 * s.swref.fsync

/-- V_ref of a sheaf (R63), in 1/64 µV. -/
def vRef (s : State) (d : Nat) : Int :=
  (s.sp.nth d).vcmd - zllOf s d * (s.shw.nth d).isw + (s.shf.nth d).trim * v16u

/-- B_lo, raised by the band and at most B_hi, and B_hi, in mV, of the region and band in force (R78, R79). -/
def bLimits (s : State) (d : Nat) : Nat × Nat :=
  let p := (s.shw.nth d).parF
  (p.bLo, p.bHi)

def clampB (s : State) (d : Nat) (b : Int) : Int :=
  clampInt ((bLimits s d).1 * mV) ((bLimits s d).2 * mV) b

/-- The seed B_0 of R68, clamped: G_r 27.5 mΩ, L 3.3 nH. -/
def seedB (s : State) (d : Nat) : Int :=
  let vb : Int := (s.shw.nth d).vb * 2 * mV
  let v := vRef s d
  let den := 132 * (swrefF s d : Int) * vb
  clampB s d (if den ≤ 0 then 0 else rdiv (27500 * v * (vb - 2 * v)) den.toNat)

/-- B stands at one of its clamps. -/
def atClamp (s : State) (d : Nat) (b : Int) : Bool := decide (b = (bLimits s d).1 * mV) || decide (b = (bLimits s d).2 * mV)

/-- B takes the seed; the count asks for nothing yet (R68, R73). -/
def reseedB (s : State) (d : Nat) : State := modShf s d fun h => { h with b := seedB s d, lockLim := false }

/-- LOCK falls, which counts as a loss of lock (R73). -/
def lockDown (h : Shf) : Shf :=
  { h with lock := false, lockRun := 0, lockLoss := if h.lock then h.lockLoss.inc 65535 else h.lockLoss }

-- The interleave token (R74, R75).

/-- Number of half-slots. -/
def halfSlots (d : Nat) : Nat := 2 * nph d

/-- Position that owns a half-slot, from the slot table of R74. -/
def slotOwner (d h : Nat) : Nat :=
  if typ d = .aon then h % 4 else if h % 2 = 0 then h / 2 else (h + nph d) % (2 * nph d) / 2

/-- A half-slot is its phase's second-path one, 180° after the first (R66, R74). -/
def secondPath (d h : Nat) : Bool := if typ d = .aon then decide (4 ≤ h) else decide (h % 2 = 1)

/-- The phase is in the interleave: ACTIVE, or HOLD while its sheaf is in hold. -/
def slotted (s : State) (p : Nat) : Bool := decide ((s.ph.nth p).st = .active) || decide ((s.ph.nth p).st = .hold)

/-- A half-slot is occupied while its phase is ACTIVE and in the interleave (R74); a phase back from shedding takes its slot in
the next SWREF period (R85). -/
def occupied (s : State) (d h : Nat) : Bool :=
  let p := firstPh d + slotOwner d h
  slotted s p && !(s.phw.nth p).waitPer

/-- The next occupied half-slot after `h`; `h` itself when none is (R75). -/
def nextSlot (s : State) (d h : Nat) : Nat :=
  match (upTo (halfSlots d) fun i => (h + 1 + i) % halfSlots d).find? (occupied s d) with
  | some k => k
  | none => h

/-- The token never rests on an empty half-slot while another is occupied (R75). DESIGN CHOICE, log 130. -/
def settleToken (s : State) (d : Nat) : State :=
  if occupied s d (s.shw.nth d).token then s else modShw s d fun w => { w with token := nextSlot s d w.token }

/-- A phase that leaves the active set passes the token on (R75). -/
def passToken (s : State) (d k : Nat) : State :=
  if slotOwner d (s.shw.nth d).token = k then modShw s d fun w => { w with token := nextSlot s d w.token } else s

/-- Shed phases return to the active set, each into its slot from the next SWREF period on (R85). Skipping ends with it, and B
takes the seed (R83). -/
def restoreShed (s : State) (d : Nat) : State :=
  if (phasesOf d).any fun p => decide ((s.ph.nth p).st = .shed) then
    let s := { s with
      phw := s.phw.modEach (phasesOf d) fun p w =>
        if (s.ph.nth p).st = .shed then { w with share := 0, entered := s.time.beat, lowRun := 0, waitPer := true } else w
      ph := s.ph.modEach (phasesOf d) fun _ x =>
        if x.st = .shed then { x with st := if (s.shf.nth d).hold then .hold else .active } else x }
    let s := modShw s d fun w => { w with badWin := true, shedLow := none }
    let s := modShr s d fun r => { r with setChg := s.time.beat }
    if (s.shf.nth d).skip then reseedB (modShf s d fun h => { h with skip := false, skipRun := 0 }) d else s
  else s

/-- More than 50 mV of V_cmd still to be slewed brings a switching sheaf's shed phases back at once (R85). -/
def restoreFar (s : State) (d : Nat) : State :=
  if decide (d < 93) && (s.shf.nth d).run && decide (50 * mV < ((s.sp.nth d).vtgt - (s.sp.nth d).vcmd).natAbs) then restoreShed s d
  else s

/-- A new V_tgt replaces the old one at once, and a reversal hold that has begun is served to its end (R102); a VSET's slew code was
for the move that this ends (R101). `cmd` when an OPSEL, VSET, WAKE or GATE caused it. DEDUCED, log 36. -/
def retargetTo (s : State) (d : Nat) (t : Int) (cmd : Bool) : State :=
  let p := s.sp.nth d
  let new := decide (t ≠ p.vtgt)
  let moving := decide (p.vcmd ≠ p.vtgt)
  let dir := sgn (t - p.vcmd)
  let turn := moving && new && decide (dir ≠ 0 ∧ dir = -p.dir)
  let on := moving && decide (dir = p.dir)
  let raw := (p.vop : Int) * v16u + (guardband s d).2 * mV + preliftSum s d
  let norm := decide (d ≠ 92) && (domSt s d = .on || domSt s d = .waking)
  let s := modSp s d fun p => { p with
    vtgt := t
    gsel := (guardband s d).1
    clampHi := norm && decide (vHi d * v16u < raw)
    clampLo := norm && decide (raw < vLo d * v16u)
    dir := dir
    code := if new then 0 else p.code
    slewNs := if new && (turn || !moving) then 0 else p.slewNs
    revHold := if new then (if turn then decide (0 < p.slewNs) else p.revHold && on) else p.revHold
    credit := if new then (if turn then min 8 p.slewNs else if on then p.credit else 0) else p.credit }
  let s := modGw s d fun g => { g with
    sup := if cmd && moving && new then g.sup.inc 65535 else g.sup
    rev := if turn then g.rev.inc 65535 else g.rev }
  restoreFar s d

/-- A host reset of levels 0 to 2 holds the CO domains of its region at their targets until they are gated (R436). -/
def resetHolds (s : State) (d : Nat) : Bool :=
  decide (d < 64) && decide (domSt s d = .on)
    && s.rst.run.any fun r => decide (r.level ≤ 2) && r.cores.getLsbD d && !r.woke.getLsbD d

/-- Composes the target again after any of its terms changed. A sheaf in hold keeps the last one it received (R90), and a reset may
hold it (R436). -/
def retarget (s : State) (d : Nat) (cmd : Bool) : State :=
  if (decide (d < 93) && (s.shf.nth d).hold) || resetHolds s d then s
  else match wantTgt s d with
    | some t => retargetTo s d t cmd
    | none => s

def retargetAll (s : State) : State := allDoms.foldl (fun s d => retarget s d false) s

/-- V_sset (R64), in 1/64 µV: µΩ times 1/64 A is exactly that unit. -/
def vSset (s : State) (d : Nat) : Int := (s.sp.nth d).vcmd - zllOf s d * idomOf s d

/-- Settled (R98): V_cmd equals V_tgt and the lowest non-excluded sense point, in V16, is within FEBAND of V_sset. -/
def settled (s : State) (d : Nat) (vlow : Int) : Bool :=
  let p := s.sp.nth d
  decide (p.vcmd = p.vtgt) && decide (vSset s d - p.feband * mV ≤ vlow * v16u)

/-- Ceiling of the domain's class (R97, R284). LA and AON have none. -/
def ceilOf (s : State) (d : Nat) : Nat :=
  match typ d with
  | .co | .cl => s.loop.ceilC
  | .ma => s.loop.ceilA
  | .lk => s.loop.ceilL
  | _ => 15

/-- Table voltage of OPn in the configuration in force, in V16 (R97). -/
def tabV (s : State) (d n : Nat) : Nat := cfg s 0x50 (16 * d + n)

/-- OPEFF as R97 and R479 give it. -/
def opWanted (s : State) (d : Nat) : Nat :=
  let p := s.sp.nth d
  if p.idle then 0 else min p.oppref (ceilOf s d)

/-- The beats that the move under way still takes (R101). -/
def moveBeats (s : State) (d : Nat) : Nat :=
  let p := s.sp.nth d
  ceilDiv (p.vtgt - p.vcmd).natAbs (rateBeat p (sgn (p.vtgt - p.vcmd))).toNat

/-- The following-error deadline for a new V_op whose action beat is `b` (R104). -/
def setDeadline (s : State) (d b : Nat) : State :=
  modSp s d fun p => { p with feDue := some (b + moveBeats s d + (if p.revHold then 1 else 0) + p.fet) }

/-- V_op takes a new value, in V16, that an action of beat `b` brought, and V_cmd moves at slew code `code`, or at the registers'
rates for code zero (R98, R100, R101, R104). -/
def setVopCode (s : State) (d v code : Nat) (cmd : Bool) (b : Nat) : State :=
  let new := decide ((s.sp.nth d).vop ≠ v)
  let old := (s.sp.nth d).vtgt
  let s := modSp s d fun p => { p with vop := v, vopNext := none }
  if domSt s d = .on ∨ domSt s d = .waking then
    let s := modSp (retarget s d cmd) d fun p => { p with code := if p.vtgt = old then p.code else if p.vcmd = p.vtgt then 0 else code }
    if new && decide (domSt s d = .on) then setDeadline s d b else s
  else s

def setVop (s : State) (d v : Nat) (cmd : Bool) : State := setVopCode s d v 0 cmd s.time.beat

/-- The voltage V_op takes for operating point `n`, when VSET is not in force, or is and the table voltage is higher (R97). -/
def vopFor (s : State) (d n : Nat) : Nat :=
  let p := s.sp.nth d
  if p.direct then max p.vop (tabV s d n) else tabV s d n

/-- Requests the frequency of operating point `n`, which the host applies 2 beats later (R98). DESIGN CHOICE, log 122. -/
def askClock (s : State) (d n : Nat) : State :=
  { s with clk := s.clk.modN d fun c => ⟨n, s.time.beat + 2, if c.since ≤ s.time.beat then c.asked else c.prev⟩ }

/-- A raise waits until the domain settles; in Exact mode it is late after the move's time and four beats (R98, R104). -/
def raiseWaits (s : State) (d : Nat) : State :=
  modSp s d fun p => { p with fpend := true, raiseBy := some (s.time.beat + moveBeats s d + 4) }

/-- OPEFF follows OPPREF and the ceiling, with the clock and the voltage in the order of R98: a request lower than the raise that
waits cancels it and is a lowering. A lowering that waits for the host's clock goes on waiting. -/
def followOp (s : State) (d : Nat) (cmd : Bool) : State :=
  let n := opWanted s d
  let p := s.sp.nth d
  if resetHolds s d then s
  else if domSt s d = .on then
    if n < p.freqOp ∨ (p.fpend ∧ n < p.opeff ∧ p.freqOp < n) then
      let s := askClock s d n
      modSp s d fun p => { p with
        opeff := n, freqOp := n, fpend := false, raiseBy := none, lower := some (n, s.time.beat + 2, cmd), vopNext := none }
    else if p.freqOp < n then
      let s := modSp s d fun p => { p with opeff := n, lower := none }
      raiseWaits (setVop s d (vopFor s d n) cmd) d
    else
      let s := modSp s d fun p => { p with opeff := n, fpend := false, raiseBy := none }
      if p.lower.isSome then s else setVop s d (vopFor s d n) cmd
  else
    let s := modSp s d fun p => { p with opeff := n }
    setVop s d (vopFor s d n) cmd

/-- A domain that reads HOLD from ON; its V_op then is remembered (R56, R100). HOLD is no leaving of ON for the idle hold of R479.
DEDUCED, log 129. -/
def holdDom (s : State) (d : Nat) : State :=
  setDomSt (modSp s d fun p => { p with vopWas := p.vop, freqWas := none }) d .hold

/-- What an operating point, a V_op, a Z_ll, a rate or a table's frequency that came in HOLD does when the domain reads ON again: the
clock and the voltage in the order of R98 (R100, R353). DEDUCED, log 129. -/
def followHeld (s : State) (d : Nat) : State :=
  let n := opWanted s d
  let p := s.sp.nth d
  let f := cfg s 0x51 (16 * d + n)
  let down := decide (n < p.freqOp) || (decide (n = p.freqOp) && p.freqWas.any fun g => decide (f < g))
  let up := decide (p.freqOp < n) || (decide (n = p.freqOp) && p.freqWas.any fun g => decide (g < f))
  let ahead := down && decide (p.vop < p.vopWas)
  let s := modSp s d fun q => { q with
    opeff := n, zllT := q.zll, riseF := q.rise, fallF := q.fall, freqWas := none
    vop := if ahead then p.vopWas else q.vop, vopNext := if ahead then some p.vop else q.vopNext }
  let s := retarget s d false
  let s := if !ahead && decide (p.vop ≠ p.vopWas) then setDeadline s d s.time.beat else s
  if down then
    let s := askClock s d n
    modSp s d fun p => { p with
      freqOp := n, fpend := false, raiseBy := none, lower := if ahead then some (n, s.time.beat + 2, false) else none }
  else if up then raiseWaits (modSp s d fun p => { p with lower := none }) d
  else modSp s d fun p => { p with fpend := false, raiseBy := none }

end Sys2Proof.Machine
end

