-- ==== Sys2Proof/Machine/DomainOps.lean ====
section
/-! DEFINITION. What happens to whole domains and their sheaves: starting and stopping a sheaf, the derating ladder,
exclusion, darkening, gating, waking and its admission, and the actions of R31 (R68, R82, R105 to R112, R120 to R131). -/

namespace Sys2Proof.Machine

/-- The lane is armed: it waits for its base beat, runs, or waits in its track (R195 to R197). -/
def laneOn (l : Lane) : Bool := decide (l.st = .armed ∨ l.st = .run ∨ l.st = .waiting)

/-- Some lane is armed. -/
def armed (s : State) : Bool := s.lane.data.any laneOn

/-- A protection event of Exact mode (R299). -/
def protEvent (s : State) : State :=
  if exactOn s && armed s then
    raise { s with exa := { s.exa with pevt := s.exa.pevt.inc 65535 } } bSEQ 14 subjDie
  else s

/-- Stall debt of a domain, in 1/256 beat (R302); it stops at its maximum (R314). -/
def addDebt (s : State) (d n : Nat) : State :=
  if exactOn s && armed s && s.seg.opened && present s d then
    let x := s.exa.dd.nth d + n
    { s with exa := { s.exa with
      dd := s.exa.dd.modN d fun _ => satU32 x, debtSat := s.exa.debtSat || decide (2 ^ 32 ≤ x) } }
  else s

/-- Every running lane's lag grows by the beat that a hold takes (R202). DEDUCED, log 24. -/
def lagAll (s : State) : State :=
  { s with lane := s.lane.map fun l => if l.st = .run then { l with lag := l.lag + 1 } else l }

/-- A Class P reaction holds every lane's issue for one beat, at least 16 beats after the last such hold; one that comes sooner
acts at once and shares the next hold, and one in the beat of a hold is held by it (R201). DEDUCED, log 24. -/
def classP (s : State) : State :=
  match s.classHold with
  | none => lagAll { s with classHold := some s.time.beat }
  | some h =>
    if h = s.time.beat then s
    else if h + 16 ≤ s.time.beat then lagAll { s with classHold := some s.time.beat }
    else { s with classHold := if s.time.beat < h then some h else some (h + 16) }

/-- I_ph below, at or above a bound in 1/100 A: the comparison of I_dom in 1/64 A with bound times N_act. -/
def iphCmp (s : State) (d : Nat) (idom : Int) (c : Nat) : Ordering := compare (100 * idom) (64 * c * nactOf s d : Nat)

-- Roles of phases.

/-- Healthy: neither ABSENT nor EXCLUDED. -/
def phHealthy (s : State) (p : Nat) : Bool := (s.ph.nth p).st ≠ .absent && (s.ph.nth p).st ≠ .excluded

/-- The built spare of a sheaf (R48). -/
def sparePh (d : Nat) : Nat := firstPh d + (nph d - 1)

/-- Some position other than the spare's is not healthy, so the spare stands in (R53, R124). -/
def spareNeeded (s : State) (d : Nat) : Bool := (phasesOf d).any fun p => p ≠ sparePh d && !phHealthy s p

/-- The spare is healthy and free. -/
def spareFree (s : State) (d : Nat) : Bool := phHealthy s (sparePh d) && !spareNeeded s d

/-- Every healthy phase takes its role when the sheaf starts (R61, R130). -/
def assignRoles (s : State) (d : Nat) : State :=
  let needed := spareNeeded s d
  { s with
    ph := s.ph.modEach (phasesOf d) fun p x =>
      if x.st = .absent ∨ x.st = .excluded then x
      else { x with st :=
        if p = sparePh d ∧ ¬ needed then .standby else if (s.shf.nth d).hold then .hold else .active }
    phw := s.phw.modEach (phasesOf d) fun _ w =>
      { w with
        cond := false, share := 0, rip := 0, ripStep := 0, ripArea := 0, lowRun := 0, limRun := 0, entered := s.time.beat
        rejoin := Option.none, lowOff := false, waitPer := false, devFrom := Option.none } }

/-- Every phase of the sheaf off, a fire's too (R105, R128). -/
def phasesOff (s : State) (d : Nat) : State :=
  { s with
    ph := s.ph.modEach (phasesOf d) fun _ x =>
      if x.st = .absent ∨ x.st = .excluded then x else { x with st := .off }
    phw := s.phw.modEach (phasesOf d) fun _ w => { w with cond := false, lowOff := false, waitPer := false, devFrom := Option.none }
    shw := s.shw.modN d fun w => { w with fire := Option.none } }

/-- A sheaf starts switching: roles, T_trim 0, the seed of B, the token at the first occupied half-slot (R68, R75, R82).
DESIGN CHOICE, log 130. -/
def startSheaf (s : State) (d : Nat) : State :=
  if d < 93 then
    let s := assignRoles s d
    let s := modShw s d fun w => { w with
      token := 0, fire := none, badWin := true, nCount := 0, rearmed := true, shedLow := none
      parT := parOf (cfg s) d (s.shf.nth d).region (s.shf.nth d).tband
      parF := parOf (cfg s) d (s.shf.nth d).region (s.shf.nth d).tband }
    let s := modShf s d fun h => { lockDown h with run := true, trim := 0, skip := false, skipRun := 0 }
    let s := modShr s d fun r => { r with setChg := s.time.beat }
    settleToken (reseedB s d) d
  else s

/-- A wake from RETENTION: the sheaf switches already; T_trim is 0 and B takes the seed (R68, R82). DEDUCED, log 131. -/
def restartSheaf (s : State) (d : Nat) : State := reseedB (modShf s d fun h => { h with trim := 0 }) d

/-- The sheaf stops switching. -/
def stopSheaf (s : State) (d : Nat) : State :=
  if d < 93 then
    let s := phasesOff s d
    let s := modShw s d fun w => { w with fire := none, badWin := true, shedLow := none }
    modShf s d fun h => { lockDown h with run := false, skip := false, skipRun := 0, lockLim := false }
  else s

-- Fires.

/-- A fire is over: the token resumes where it was, or at the next occupied half-slot, shedding waits 1 µs, a spare that is needed
stays (R75, R87, R140). -/
def fireOver (s : State) (d : Nat) : State :=
  match (s.shw.nth d).fire with
  | none => s
  | some f =>
    let s := modShw s d fun w => { w with fire := none, token := f.token, shedFrom := s.time.beat + 100 }
    let s := if spareNeeded s d && decide ((s.ph.nth (sparePh d)).st = .standby) then
        let s := modPh s (sparePh d) fun x => { x with st := if (s.shf.nth d).hold then .hold else .active }
        let s := modShr s d fun r => { r with setChg := s.time.beat }
        modPhw s (sparePh d) fun x => { x with share := 0, entered := s.time.beat, lowRun := 0, waitPer := true }
      else s
    settleToken s d

/-- A phase leaves the fire (R87). -/
def leaveFire (s : State) (d k : Nat) : State :=
  match (s.shw.nth d).fire with
  | none => s
  | some f =>
    let part := f.part.filter (· ≠ k)
    let s := modShw s d fun w => { w with fire := some { f with part := part } }
    if part = [] then fireOver s d else s

-- The ladder.

/-- Ladder step from the healthy count (R126); AON never reads 3. -/
def ladderStep (s : State) (d : Nat) : Nat :=
  let n := nAct d - healthy s d
  if typ d = .aon then min 2 n else min 3 n

/-- F_bond of R139 in Q0.16, 0xFFFF for 1.0. -/
def fBond (s : State) (d : Nat) : Nat :=
  let gs := upTo (nbond d) fun i => s.bond.nth (firstBond d + i)
  if gs.all fun b => !b.severe && !(b.anom && decide (b.zbase < b.znow)) then 0xFFFF
  else
    -- exact sum over a common denominator
    let num := gs.foldl (fun (a : Nat × Nat) b =>
      if b.severe then a
      else if b.anom && decide (b.zbase < b.znow) then (a.1 * b.znow + b.zbase * a.2, a.2 * b.znow)
      else (a.1 + a.2, a.2)) (0, 1)
    num.1 * 65536 / (num.2 * gs.length)

def anySevere (s : State) (d : Nat) : Bool := (upTo (nbond d) fun i => (s.bond.nth (firstBond d + i)).severe).any id

/-- A domain calls for darkening (R106, R128). -/
def callsDark (s : State) (d : Nat) : Bool :=
  if d < 93 then decide (3 ≤ nAct d - healthy s d ∧ d ≠ 92) || (s.shr.nth d).latch else decide (healthy s d < 2)

/-- Pre-lift terms, restores and ramps of a domain that goes DARK or GATING are dropped (R165). -/
def dropNotice (s : State) (d : Nat) : State :=
  modNd s d fun n => { n with
    pend := n.pend.map fun p => { p with
      entered := false, cs := p.cs.map fun c => { c with p := 0, act := false } } }

/-- What ends when a domain leaves ON: pre-lift terms, restores and ramps (R165), the estimator term (R183), the idle hold
(R479), so that a later entry takes the lower of OPPREF and the ceiling, a waiting frequency raise, and an undervoltage or droop
under way (R361, R362). -/
def leaveOn (s : State) (d : Nat) : State :=
  let s := dropNotice s d
  let s := if d < 93 then modEstd s d fun e => { e with term := none, use := false } else s
  let s := modPd s d fun p => { p with uvact := false, stretch := false }
  let s := modGw s d fun g => { g with ready := false, clock := false }
  let was := (s.sp.nth d).idle
  let s := modSp s d fun p => { p with idle := false, fpend := false, lower := none, raiseBy := none, vopNext := none }
  if was then
    let n := opWanted s d
    modSp s d fun p => { p with opeff := n, vop := vopFor s d n }
  else s

/-- Puts V_cmd to 0 V with nothing to move (R105, R133). -/
def zeroVcmd (s : State) (d : Nat) : State :=
  modSp s d fun p => { p with vcmd := 0, vtgt := 0, dir := 0, slewNs := 0, revHold := false, credit := 0, code := 0, quarter := false }

def modLa (s : State) (l : Nat) (f : LaLoop → LaLoop) : State := { s with la := s.la.modN l f }

/-- The sheaf stops and the domain reads DARK (R128, R360). -/
def goDark (s : State) (d : Nat) : State :=
  let s := zeroVcmd (stopSheaf (leaveOn s d) d) d
  let s := modGw s d fun g => { g with stage := 0, wake := none, gateTo := .no, waitAdm := false }
  let s := if d < 93 then modShr s d fun r => { r with dhic := false, soft := false, rising := false, darkPend := false }
    else modLa s (ord d) fun x => { x with capped := false }
  modPd (setDomSt s d .dark) d fun p => { p with uvact := false, stretch := false }

/-- The move of a domain into DARK: in hold every phase goes off at once and the state follows when hold ends (R128, R140). -/
def darkMove (s : State) (d : Nat) : State :=
  if (s.shf.nth d).hold && decide (d < 93) then modShr (phasesOff s d) d fun r => { r with darkPend := true }
  else protEvent (classP (goDark s d))

/-- The domain may go dark: AON never does, an absent domain is never touched, and one that is dark, or waits for the end of hold to
be, stays so (R128, R140). -/
def mayDarken (s : State) (d : Nat) : Bool :=
  decide (d ≠ 92) && decide (domSt s d ≠ .absent) && decide (domSt s d ≠ .dark)
    && !(decide (d < 93) && (s.shf.nth d).hold && (s.shr.nth d).darkPend)

/-- A domain goes dark (R128), with the capture taken as it is detected (R395). -/
def darken (s : State) (d : Nat) : State :=
  if mayDarken s d then
    darkMove (if d < 93 then raiseShf s d bSHF 2 (subjD d) else raise s bBM 6 (subjD d)) d
  else s

/-- A GATE of a domain that is present (R105, R110, R479). Answers the state and whether it had an effect.
DEDUCED, log 42. -/
def gateDom (s : State) (d : Nat) (slow retain : Bool) : State × Bool :=
  match typ d, domSt s d with
  | .aon, _ => (s, false)
  | .none, _ => (s, false)
  | _, .hold => (modGw s d fun g => { g with held := g.held ++ [.gate slow retain] }, true)
  | .co, .on | .cl, .on =>
    let s := setDomSt (leaveOn s d) d .gating
    (modGw s d fun g => { g with stage := if slow then 16 else 8, nstg := if slow then 16 else 8, gateTo := .off, wake := none }, true)
  | .ma, .on =>
    let s := modGw (setDomSt (leaveOn s d) d .gating) d fun g => { g with gateTo := .retention, wake := none }
    (retarget s d true, true)
  | .lk, .on | .la, .on =>
    if (s.sp.nth d).idle then (s, false)
    else (followOp (modSp s d fun p => { p with idle := true }) d true, true)
  | .co, .waking | .cl, .waking =>
    -- the wake stops, headers reopen from the present stage, V_cmd falls to 0 V; it counts as SUPER
    let s := if (s.shr.nth d).dhic then modShr s d fun r => { r with dhic := false, soft := false, rising := false } else s
    let s := modGw (setDomSt (dropNotice s d) d .gating) d fun g =>
      { g with gateTo := .off, waitAdm := false, sup := g.sup.inc 65535 }
    (retarget s d false, true)
  | .ma, .waking =>
    let first := !(s.gw.nth d).woken
    let s := if (s.shr.nth d).dhic then modShr s d fun r => { r with dhic := false, soft := false, rising := false } else s
    -- in a hiccup's off time the sheaf stands still, and retention needs it; after a VB overvoltage it stays off (R371)
    let s := if !first && !(s.shf.nth d).run && !s.prot.vbkill then startSheaf s d else s
    let s := modGw (setDomSt (dropNotice s d) d .gating) d fun g =>
      { g with gateTo := if first then .off else .retention, waitAdm := false, sup := g.sup.inc 65535 }
    (retarget (modSp s d fun p => { p with quarter := false }) d false, true)
  | .lk, .waking | .la, .waking =>
    let s := if decide (d < 93) && (s.shr.nth d).dhic then
        modShr s d fun r => { r with dhic := false, soft := false, rising := false }
      else s
    let s := modGw s d fun g => { g with gateTo := .off, sup := g.sup.inc 65535 }
    (retarget s d false, true)
  | _, _ => (s, false)

-- Edge-stage rails.

/-- The edge-stage loss ladder of a rail that is WAKING or ON (R41). DEDUCED, log 89. -/
def laLadder (s : State) (l : Nat) : State :=
  let d := 96 + l
  let n := healthy s d
  if domSt s d = .waking ∨ domSt s d = .on then
    let was := (s.la.nth l).capped
    let s := modLa s l fun x => { x with capped := decide (n = 2) }
    if n < 2 then darken s d
    else if n = 2 ∧ was = false then classP (raise s bBM 5 (subjD d))
    else s
  else s

-- Waking.

/-- Capacitance that a wake charges, in nF (R38, R111): for MA the banks that are not gated. -/
def wakeCap (s : State) (d : Nat) : Nat :=
  if typ d = .ma then
    let m := s.bank.nth (ord d)
    1200 + 6 * ((List.range 64).filter fun b => !m.gated.getLsbD b).length
  else capRail d + capGated d

/-- LIMEFF, the die current limit in force in 1/64 A: the lower of the modules' limit and the plan's or CAP's value, at most
1,150 A (R30, R43, R277). DEDUCED, log 101. -/
def dieLimEff (s : State) : Int := min (modLimit s) (min 73600 (4 * s.loop.dieLim))

/-- Wake admission (R111), from the last completed measurement window. -/
def admitted (s : State) (d : Nat) (slow : Bool) (dv : Int) : Bool :=
  let m1 := (cfg s 0x04 0 : Int) - ((neighbours d).map fun n => (s.dom.nth n).ipk).foldl (· + ·) 0
  let m2 := dieLimEff s - dieCurrent s
  let c : Int := wakeCap s d
  if typ d = .ma then
    let r := rateBeat { s.sp.nth d with quarter := slow, code := 0 } 1
    decide (c * r ≤ m1 * 10000000 ∧ c * r ≤ m2 * 10000000)
  else
    let t : Int := if slow then 1600 else 400
    decide (c * dv ≤ m1 * 1000000 * t ∧ c * dv ≤ m2 * 1000000 * t)

/-- ΔV of a wake: the rise from the present voltage to V_tgt (R109, R110); a CO or CL wake that stopped a gating rises from the
gated side, the latest sample of the lowest sense point. -/
def wakeRise (s : State) (d : Nat) (keep : Bool) : Int :=
  let now := if keep && (typ d = .co || typ d = .cl) then (s.shw.nth d).vnow * v16u else (s.sp.nth d).vcmd
  max 0 (composed s d - now)

/-- The default deadline in beats (R109). -/
def wakeDef (s : State) (d : Nat) (slow keep : Bool) : Nat :=
  let n := match typ d with
    | .co | .cl => if slow then 16 else 8
    | _ => 0
  let r := rateBeat { s.sp.nth d with code := 0, quarter := slow && decide (typ d = .ma) } 1
  ceilDiv (wakeRise s d keep).toNat r.toNat + 20 * n + 2

/-- EPP's loop and duties of one rail at zero (R106). -/
def zeroDuty (s : State) (l : Nat) : State :=
  { s with
    la := s.la.modN l fun x => { x with e1 := 0, e2 := 0, duty := 0 }
    epp := s.epp.modEach (laChannels l) fun _ e => { e with duty := 0, atLim := false, limRun := 0, devRun := 0 } }

/-- An admitted wake starts its rise (R105, R106, R110). A sheaf that a stopped gating left switching goes on as it was.
DEDUCED, log 89, 131. -/
def wakeRun (s : State) (d : Nat) : State :=
  let slow := ((s.gw.nth d).wake.map (·.slow)).getD false
  let keep := ((s.gw.nth d).wake.map (·.keep)).getD false
  let s := if typ d = .la then zeroDuty s (ord d)
    else if (s.shf.nth d).run then (if keep then s else restartSheaf s d)
    else startSheaf s d
  let s := modSp s d fun p => { p with quarter := slow && decide (typ d = .ma), code := 0, riseF := p.rise, fallF := p.fall }
  let n := if slow then 16 else 8
  let s := modGw s d fun g => { g with
    waitAdm := false
    wake := g.wake.map fun w => { w with admitted := true }
    stage := if g.nstg = 0 then 0 else g.stage * n / g.nstg
    nstg := n }
  let s := retarget s d (!keep)
  if typ d = .la then laLadder (modLa s (ord d) fun x => { x with capped := false }) (ord d) else s

/-- A WAKE that has no effect because it is refused (R110). -/
def wakeRefuse (s : State) (d : Nat) : State :=
  raise (modGw s d fun g => { g with wrefuse := true }) bDOM 3 (subjD d)

/-- A wake that waits for admission is dropped: the domain is back in the state that it would have left (R372, R434).
DEDUCED, log 42. -/
def dropWake (s : State) (d : Nat) : State :=
  let g := s.gw.nth d
  if g.waitAdm then
    let keep := (g.wake.map (·.keep)).getD false
    let goal : GateTo := if !keep then .no else if typ d = .ma ∧ g.woken then .retention else .off
    let s := setDomSt s d (if keep then .gating else g.prevSt)
    wakeRefuse (retarget (modGw s d fun g => { g with waitAdm := false, wake := none, gateTo := goal }) d false) d
  else s

/-- Starts a wake that R111 does not admit, with slow staging (R112). -/
def wakeForce (s : State) (d : Nat) : State :=
  let s := modGw s d fun g => { g with forced := true, wake := g.wake.map fun w => { w with slow := true } }
  wakeRun (raise s bDOM 1 (subjD d)) d

/-- A WAKE of action beat `b`, from a state where it wakes (R105, R106, R109 to R112). -/
def wakeStart (s : State) (d : Nat) (slow : Bool) (dl b : Nat) : State :=
  let p := s.sp.nth d
  let s := if domSt s d = .gating then modGw s d fun g => { g with sup := g.sup.inc 65535 } else s
  let s := modSp s d fun p => { p with opeff := opWanted s d, idle := false }
  let s := modSp s d fun q => { q with vop := if q.direct then max q.vop (tabV s d q.opeff) else tabV s d q.opeff, vopNext := none }
  let fromGating := decide (domSt s d = .gating)
  let dline := b + (if dl = 0 then wakeDef s d slow fromGating else dl)
  let dv := wakeRise s d fromGating
  let s := modGw s d fun g => { g with
    ready := false, clock := false, gateTo := .no, prevSt := domSt s d
    wake := some ⟨b, dline, slow, false, !g.woken, fromGating⟩
    stage := if fromGating then g.stage else 0
    nstg := if fromGating then g.nstg else 0 }
  let s := modPd (setDomSt s d .waking) d fun p => { p with uvact := false }
  let s := modSp s d fun q => { q with vcmd := p.vcmd }
  match typ d with
  | .lk | .la => wakeRun s d
  | _ =>
    if admitted s d slow dv then wakeRun s d
    else
      let s := modGw s d fun g => { g with defr := g.defr.inc 65535 }
      if exactOn s then wakeForce s d
      else
        -- a gating that the wake stops leaves V_cmd where it is until the admission
        let s := if fromGating then
            modSp s d fun q => { q with vtgt := q.vcmd, dir := 0, slewNs := 0, revHold := false, credit := 0, code := 0 }
          else s
        modGw s d fun g => { g with waitAdm := true }

/-- A sheaf whose LINK or TOPO reads 3 (R428). -/
def sheafFailed (s : State) (d : Nat) : Bool :=
  decide (d < 93) && (decide ((s.bu.shb.nth d).link = 3) || decide ((s.bu.shb.nth d).topo = 3))

/-- A WAKE of action beat `b` of a present domain (R105, R110, R369, R428, R430). Answers the state and whether it had an effect. -/
def wakeDom (s : State) (d : Nat) (slow : Bool) (dl b : Nat) : State × Bool :=
  let blocked := !s.g.mss || !s.bu.caldone || sheafFailed s d || s.prot.coolant || s.prot.shutdn || (s.pd.nth d).ovlatch
  match typ d, domSt s d with
  | .aon, _ => if blocked then (wakeRefuse s d, false) else (s, false)
  | .none, _ => (s, false)
  | _, .hold =>
    if blocked then (wakeRefuse s d, false) else (modGw s d fun g => { g with held := g.held ++ [.wake slow dl b] }, true)
  | t, .on =>
    if (t = .lk ∨ t = .la) ∧ (s.sp.nth d).idle then
      if blocked then (wakeRefuse s d, false)
      else (followOp (modSp s d fun p => { p with idle := false }) d true, true)
    else if blocked then (wakeRefuse s d, false) else (s, false)
  | _, .waking => if blocked then (wakeRefuse s d, false) else (s, false)
  | _, .absent => (s, false)
  | t, st =>
    if blocked then (wakeRefuse s d, false)
    else if (st = .dark ∨ t = .la) ∧ callsDark s d then (wakeRefuse s d, false)
    else (wakeStart s d slow dl b, true)

/-- The actions of R31: CO and CL gated, MA to retention, LK idle, AON kept. Waiting wakes are dropped (R434). -/
def serviceStop (s : State) : State :=
  let s := allDoms.foldl dropWake s
  (upTo 92 id).foldl (fun s d => if present s d then (gateDom s d false true).1 else s) s

/-- TRISK of a domain at ladder step `n` with F_bond `f`: set by step 1 or 2 and by an F_bond below 1.0, cleared at step 0 with
F_bond 1.0 (R131). -/
def triskOf (n f : Nat) (was : Bool) : Bool :=
  decide (n = 1 ∨ n = 2) || decide (f < 0xFFFF) || (was && decide (n ≠ 0))

/-- The loss of the last AON phase takes the supply of Meser's central blocks away (R129). DEDUCED, log 132. -/
def supplyLost (s : State) : State :=
  if healthy s 92 = 0 then { s with g := { s.g with boot := .dead } } else s

/-- Recomputes ladder, spare and timing-at-risk flags after the healthy count moved (R126, R128, R129, R131). -/
def ladderUpdate (s : State) (d : Nat) : State :=
  let old := (s.shr.nth d).ladder
  let n := ladderStep s d
  let s := modShr s d fun r => { r with
    ladder := n, nospare := !spareFree s d, trisk := triskOf n r.fbond r.trisk }
  let s := if n ≠ old ∧ (n = 1 ∨ n = 2) then classP (raiseShf s d bSHF 1 (subjD d)) else s
  if n = 3 ∧ old ≠ 3 then darken s d
  else if d = 92 ∧ healthy s 92 < 3 ∧ n ≠ old then serviceStop { s with g := { s.g with mss := false } }
  else s

/-- A phase is excluded (R120): switches off, cause recorded, token passed, PH_EXCL, ladder. -/
def excludePh (s : State) (p cause : Nat) : State :=
  let d := phDom p
  let x := (s.ph.nth p).st
  if x = .absent ∨ x = .excluded then s
  else
    let s := modPh s p fun y => { y with
      st := .excluded, xcause := cause, suspect := y.suspect || decide (cause = 4), exclcnt := y.exclcnt.inc 255 }
    let s := modPhw s p fun w => { w with cond := false }
    let s := leaveFire (passToken s d (phPos p)) d (phPos p)
    let s := modShw s d fun w => { w with badWin := true }
    let s := modShr s d fun r => { r with lastph := p, lastcause := cause, setChg := s.time.beat }
    supplyLost (ladderUpdate (raiseShf s d bSHF 0 p) d)

/-- A GATE or WAKE recorded in hold acts, each in its order (R110). -/
def heldAct (s : State) (d : Nat) (a : HeldAct) : State :=
  match a with
  | .gate slow retain => (gateDom s d slow retain).1
  | .wake slow dl b => (wakeDom s d slow dl b).1

end Sys2Proof.Machine
end

