-- ==== Sys2Proof/Machine/Power.lean ====
section
/-! DEFINITION. Bus modules, the external phase port and the package input's own clear (R28 to R33, R40 to R42). -/

namespace Sys2Proof.Machine

def modBm (s : State) (m : Fin 4) (f : Bm → Bm) : State := { s with bm := s.bm.mod m f }
def modEpp (s : State) (c : Fin 16) (f : Epp → Epp) : State := { s with epp := s.epp.mod c f }

/-- The output current limit in force, in 1/64 A: 8 A in PILOT and while starting into it, else ILIM (R28, R32).
DEDUCED, log 133. -/
def bmLimit (b : Bm) : Int := if b.st = .pilot ∨ (b.st = .starting ∧ b.startMode = 1) then 512 else b.ilim

/-- The module's output stands at its limit (R29, R32); in OFF and FAULT its disconnect is open. -/
def bmAtLimit (b : Bm) (iout : Int) : Bool :=
  decide (b.st = .pilot ∨ b.st = .run ∨ b.st = .starting) && decide (bmLimit b ≤ iout)

/-- What follows when a module has left RUN: with fewer than two in RUN the die stops its service (R30, R31). -/
def afterLeave (s : State) (wasRun : Bool) : State :=
  if wasRun then
    let s := classP s
    if nRun s < 2 then serviceStop { s with g := { s.g with mss := false } } else s
  else s

/-- AON starts to rise from 0 V to 0.80 V on its built-in microtable and its local oscillator (R423). DEDUCED, log 33. -/
def aonRise (s : State) : State :=
  let s := zeroVcmd (startSheaf (modShw s 92 fun w => { w with localOsc := true }) 92) 92
  let s := setDomSt { s with g := { s.g with boot := .aon } } 92 .on
  retarget s 92 false

/-- A module starts its STARTING (R28). -/
def bmStart (s : State) (m : Fin 4) (mode : Nat) : State :=
  modBm s m fun b => { b with mode := mode, startMode := mode, st := .starting, offSeen := false }

/-- A write of RUN or PILOT has an effect: VBKILL is not set (R371), and the part is not in END, where only the autonomous start
runs (R440). -/
def bmMay (s : State) : Bool := !s.prot.vbkill && decide (s.g.lc ≠ 4)

/-- A write of MODE = RUN (R28, R29, R371). DEDUCED, log 9. -/
def effBmModeRun (m : Fin 4) (s : State) : State :=
  let b := s.bm.get m
  if bmMay s = false then s
  else match b.st with
    | .off | .pilot => bmStart s m 2
    | .starting => modBm s m fun b => { b with mode := 2 }
    | .fault => if b.offSeen then bmStart s m 2 else s
    | .run => s

def execBmModeRun (m : Fin 4) (s : State) : Out := bus s (effBmModeRun m)

/-- A write of MODE = PILOT (R28, R29, R371). -/
def effBmModePilot (m : Fin 4) (s : State) : State :=
  let b := s.bm.get m
  if bmMay s = false then s
  else match b.st with
    | .off => bmStart s m 1
    | .run => afterLeave (modBm s m fun b => { b with mode := 1, st := .pilot }) true
    | .starting => modBm s m fun b => { b with mode := 1 }
    | .pilot | .fault => s

def execBmModePilot (m : Fin 4) (s : State) : Out := bus s (effBmModePilot m)

/-- A write of MODE = OFF, from any state (R28). A module in FAULT keeps reading FAULT until RUN follows (R29, log 9).
DEDUCED, log 9. -/
def effBmModeOff (m : Fin 4) (s : State) : State :=
  let b := s.bm.get m
  match b.st with
  | .fault => modBm s m fun b => { b with mode := 0, offSeen := true }
  | st => afterLeave (modBm s m fun b => { b with mode := 0, st := .off }) (decide (st = .run))

def execBmModeOff (m : Fin 4) (s : State) : Out := bus s (effBmModeOff m)

/-- STARTING ends: the module enters RUN or PILOT as the latest write asked (R28). The autonomous start goes on from the
first module that reaches PILOT (R423, R424). -/
def effBmStartingEnd (m : Fin 4) (s : State) : State :=
  let b := s.bm.get m
  if b.st = .starting then
    let s := modBm s m fun b => { b with st := if b.mode = 2 then .run else .pilot }
    if s.g.boot = .module m.val then aonRise s else s
  else s

def execBmStartingEnd (m : Fin 4) (s : State) : Out := awake s (effBmStartingEnd m)

/-- The autonomous start tries the next module, or leaves the die unpowered (R424). -/
def bootNext (s : State) (m : Fin 4) : State :=
  if h : m.val + 1 < 4 then
    bmStart { s with g := { s.g with boot := .module (m.val + 1) } } ⟨m.val + 1, h⟩ 1
  else { s with g := { s.g with boot := .dead } }

/-- A module enters FAULT (R29): 1 its output current `iout` stayed at the limit in force for 20 µs, 2 overtemperature, 3 ratio
error, 4 start timeout. -/
def effBmFault (m : Fin 4) (cause : Nat) (iout : Int) (s : State) : State :=
  let b := s.bm.get m
  let can := if cause = 4 then decide (b.st = .starting)
             else if cause = 1 then bmAtLimit b iout
             else decide (cause = 2 ∨ cause = 3) && decide (b.st = .pilot ∨ b.st = .run ∨ b.st = .starting)
  if can then
    let s := modBm s m fun b => { b with st := .fault, cause := cause, trips := b.trips.inc 65535, offSeen := false }
    let s := raise s bBM m.val (0x8000 + m.val)
    let s := afterLeave s (decide (b.st = .run))
    if s.g.boot = .module m.val then bootNext s m else s
  else s

def execBmFault (m : Fin 4) (x : BmTrip) (s : State) : Out := awake s (effBmFault m x.cause x.iout)

/-- BM_CTL.CLRCNT (R32). -/
def execBmClrcnt (m : Fin 4) (s : State) : Out := bus s fun s => modBm s m fun b => { b with trips := .zero }

/-- BM_INCTL.CLRMM, in the coordinator (R33). -/
def execClrmm (s : State) : Out := bus s fun s =>
  if s.g.coord then { s with inp := { s.inp with vinMin := 0xFFFF, vinMax := 0 } } else s

/-- A rail reads ON again after a hold: what came meanwhile acts, and the ladder applies again (R41, R100, R110).
DEDUCED, log 89. -/
def laReturn (s : State) (d : Nat) : State :=
  if domSt s d = .hold then
    let acts := (s.gw.nth d).held
    let s := modGw s d fun g => { g with held := [] }
    laLadder (acts.foldl (fun s a => heldAct s d a) (followHeld (setDomSt s d .on) d)) (ord d)
  else s

/-- A write of EPP_CTL.EN (R41, R42). -/
def effEppEnWrite (c : Fin 16) (en : Bool) (s : State) : State :=
  let l := c.val / 4
  if (s.epp.get c).absent then s
  else
    let s := modEpp s c fun e => { e with
      en := en
      out := e.out && !(en && e.enLow && !e.tflt)
      enLow := e.out && (!en || e.enLow) && !(en && e.enLow && !e.tflt) }
    laLadder s l

def execEppEnWrite (c : Fin 16) (en : Bool) (s : State) : Out := bus s (effEppEnWrite c en)

/-- EPP_CTL.CLRCNT (R42). -/
def execEppClrcnt (c : Fin 16) (s : State) : Out := bus s fun s =>
  modEpp s c fun e => { e with lim := .zero, flt := .zero }

/-- A signed Q1.15 or I16 field of the plan. -/
def cfgS (s : State) (fid idx : Nat) : Int := signExt 16 (cfg s fid idx)

/-- The SWREF divider that the four channels of a rail run at: with unequal DIV the value of the lowest-numbered one (R40). -/
def railDiv (s : State) (l : Nat) : Nat := (s.epp.nth (4 * l)).div

/-- Mean current of a rail's driven channels, in 1/64 A. -/
def railMean (s : State) (l : Nat) (isns : List Int) : Int :=
  let n := (laChannels l).filter fun c => enHigh s c
  rdiv ((n.map fun c => isns.getD (c % 4) 0).foldl (· + ·) 0) (max 1 n.length)

/-- The 50 ns update of one LA rail (R40): Δduty = j0 e_n + j1 e_(n-1) + j2 e_(n-2), limited by j3; then each channel's
trim toward the rail mean (the trim's rule is open: Config.shareTrim), the count of updates at the limit, and the updates in a row
at the limit and outside ±5 % of the rail mean (R41, R42). DESIGN CHOICE, log 10. -/
def effEppDutyUpdate (l : Fin 4) (vsns : Int) (isns : List Int) (s : State) : State :=
  let d := 96 + l.val
  if (laChannels l.val).any (driven s) then
    let e := rdiv ((s.sp.nth d).vcmd - vsns * v16u) 64000
    let a := s.la.get l
    let lim := max 0 (cfgS s 0x38 (4 * l.val + 3)) * 65536
    let duty := clampInt 0 lim (a.duty + cfgS s 0x38 (4 * l.val) * e + cfgS s 0x38 (4 * l.val + 1) * a.e1
      + cfgS s 0x38 (4 * l.val + 2) * a.e2)
    let mean := railMean s l.val isns
    let div := railDiv s l.val
    { s with
      la := s.la.set l { a with e1 := e, e2 := a.e1, duty := duty.toNat }
      epp := s.epp.modEach (laChannels l.val) fun c x =>
        let i := isns.getD (c % 4) 0
        if enHigh s c then
          let hit := decide (x.ilim ≤ i)
          { x with
            duty := (duty + Config.shareTrim i mean).toNat
            divRun := div
            atLim := hit
            lim := if hit then x.lim.inc 65535 else x.lim
            limRun := if hit then min 400 (x.limRun + 1) else 0
            devRun := if mean.natAbs < 20 * (i - mean).natAbs then min 21 (x.devRun + 1) else 0 }
        else { x with duty := 0, atLim := false, limRun := 0, devRun := 0 } }
  else zeroDuty s l.val

def execEppDutyUpdate (l : Fin 4) (vsns : Int) (isns : List Int) (s : State) : Out :=
  live s (effEppDutyUpdate l vsns isns)

/-- EPP takes a channel out of service: TFLT reads a fault, or ISNS stood at its limit for 20 µs, 400 updates (R41). -/
def effEppOutOfService (c : Fin 16) (tflt : Bool) (s : State) : State :=
  let e := s.epp.get c
  let l := c.val / 4
  if inService e && (tflt || decide (400 ≤ e.limRun)) then
    let s := modEpp s c fun e => { e with
      out := true, enLow := false, tflt := tflt || e.tflt, flt := e.flt.inc 65535, atLim := false, limRun := 0, devRun := 0, duty := 0 }
    laLadder (raise s bBM 4 (0x8100 + c.val)) l
  else s

def execEppOutOfService (c : Fin 16) (tflt : Bool) (s : State) : Out := awake s (effEppOutOfService c tflt)

end Sys2Proof.Machine
end

