-- ==== Sys2Proof/Machine/SheafLoop.lean ====
section
/-! DEFINITION. The sheaf loop: intervals and token, lock, trim, light load, fires, hold, SWREF, and notice at the sheaf
(R63 to R93). -/

namespace Sys2Proof.Machine

/-- The domain is regulated: ON or HOLD (R81, R86). -/
def onOrHold (s : State) (d : Nat) : Bool := domSt s d = .on || domSt s d = .hold

-- The ripple emulator (R65, R67, R118).

/-- What the emulator of phase `w` adds in `ps` picoseconds, in 1/64 µV: G_r × S_on in a conduction interval, else G_r × S_off
falling, with G_r / L = 25/3 per nanosecond (R65, R67). DEDUCED, log 134. -/
def ripMove (s : State) (d : Nat) (w : PhW) (ps : Nat) : Int :=
  let v : Int := if w.cond then (s.shw.nth d).vb * mV - vRef s d else -(vRef s d)
  rdiv (25 * v * ps) 3000000

/-- The emulator of one phase brought up to picosecond `t` of the sheaf's clock. A notice ramp's step is worked off first (R89).
DEDUCED, log 134. -/
def ripTo (s : State) (d t : Nat) (w : PhW) : PhW :=
  let ps := t - w.ripAt
  let dr := ripMove s d w ps
  let off := if w.ripStep < 0 then min (-w.ripStep) (max 0 dr) else max (-w.ripStep) (min 0 dr)
  let r := w.rip + (dr - off)
  { w with rip := r, ripStep := w.ripStep + off, ripArea := w.ripArea + (w.rip + r) * ps, ripAt := max t w.ripAt }

/-- r_k at picosecond `t` (R65). -/
def ripAt (s : State) (d t : Nat) (w : PhW) : Int := (ripTo s d t w).rip + (ripTo s d t w).ripStep

/-- Every phase's emulator brought up to picosecond `t`. -/
def ripAll (s : State) (d t : Nat) : State := { s with phw := s.phw.modEach (phasesOf d) fun _ w => ripTo s d t w }

/-- The recentring: the cycle mean of the ripple becomes `m`, what a notice ramp still has to move apart (R65, R89, R118).
DEDUCED, log 134. -/
def recentre (w : PhW) (m : Int) : PhW :=
  { w with
    rip := w.rip + m - (if w.ripFrom < w.ripAt then rdiv w.ripArea (2 * (w.ripAt - w.ripFrom)) else w.rip)
    rmean := m, ripArea := 0, ripFrom := w.ripAt }

/-- The local node error e = V_node - V_ref (R65). -/
def nodeErr (s : State) (d : Nat) (node : Int) : Int := node - vRef s d

/-- Each VB sample feeds the emulator's slopes from then on, and rescales B by g(VB_new) / g(VB_old), then the clamps apply (R67).
Outside hold it comes at beats that are multiples of 10 (R151). DESIGN CHOICE, log 117. -/
def effVbSample (i : Fin 93) (vb t : Nat) (s : State) : State :=
  let d := i.val
  if (s.shf.get i).hold || decide (s.time.beat % 10 = 0) then
    let old := (s.shw.get i).vb
    let s0 := ripAll s d t
    let s1 := modShw s0 d fun w => { w with vb := min 4095 vb }
    if (s.shf.get i).run && !(s.shf.get i).skip then
      let v := vRef s d
      let vo : Int := old * 2 * mV
      let vn : Int := (min 4095 vb : Nat) * 2 * mV
      if 0 < vn * (vo - 2 * v) ∧ 0 < vo * (vn - 2 * v) then
        modShf s1 d fun h =>
          let b := clampB s1 d (rdiv (h.b * (vn - 2 * v) * vo) (vn * (vo - 2 * v)).toNat)
          { h with b := b, lockLim := h.lockLim && atClamp s1 d b }
      else s1
    else s1
  else s

def execVbSample (i : Fin 93) (vb : Timed Nat) (s : State) : Out := sheafStep s (effVbSample i vb.v vb.ps)

def sumList (l : List Int) : Int := l.foldl (· + ·) 0

/-- One step of at most `k` from `x` toward `t`. DEDUCED, log 35. -/
def stepToward (x t k : Nat) : Nat := if x ≤ t then min t (x + k) else max t (x - k)

/-- |I_k - I_mean| lies beyond max(0.20 A, 0.10 × I_mean), with `dev` = N × (I_k - I_mean) (R119). -/
def beyondShare (dev isw : Int) (n : Nat) : Bool := decide (64 * n < 5 * dev.natAbs ∧ isw.natAbs < 10 * dev.natAbs)

/-- What one phase takes from a complete SWREF period: its current, its recentred ripple, its hiccup count (R132), the end of its
low-side path at zero current in skipping (R83), and the time it has been beyond R119's band. DEDUCED, log 136. -/
def periodPh (s : State) (d : Nat) (isw : Int) (ik : Int) (vf : Nat) (ti : Int) (act : Bool) (x : PhW) : PhW :=
  let h := s.shf.nth d
  let w := s.shw.nth d
  let n := nactOf s d
  let now := s.time.beat
  let out := act && !w.firePer && w.fire.isNone && decide ((s.shr.nth d).setChg + 100 ≤ now) && beyondShare (ik * n - isw) isw n
  let x := if act ∧ 0 < n then recentre x (rdiv (27500 * (ik * n - isw)) n + rdiv (27500 * x.share) 8) else x
  { x with
    iLast := ik, vfly := vf, tind := ti, hardOff := false, limLast := x.limPer, limPer := false, waitPer := false
    limRun := if w.firePer then x.limRun else if x.limPer then x.limRun + 1 else 0
    lowOff := h.skip && !x.cond && (x.lowOff || decide (x.zeroAt ≤ x.ripAt))
    devFrom := if out then some (x.devFrom.getD now) else none }

/-- V_cmd moves on for `ns` nanoseconds toward V_tgt, less those of a reversal hold (R101, R102). DEDUCED, log 84. -/
def slewFor (p : Sp) (ns : Nat) : Sp :=
  if p.vcmd = p.vtgt then p
  else
    let dir := sgn (p.vtgt - p.vcmd)
    let step := rateBeat p dir * ((ns : Int) - p.credit) / 10
    let left : Int := (p.vtgt - p.vcmd).natAbs
    let done := decide (left ≤ step)
    { p with
      vcmd := if done then p.vtgt else p.vcmd + dir * step
      slewNs := p.slewNs + ns, credit := 0, code := if done then 0 else p.code }

/-- The mean of I_sw over the SWREF periods counted so far (R169). -/
def estMean (e : EstD) : Int := if e.iwN = 0 then 0 else satI16 (rdiv e.iwSum e.iwN)

/-- The I_sw of a SWREF period joins the estimator window in which the period ends (R169). -/
def estCurrent (s : State) (d : Nat) (isw : Int) : State :=
  let k := s.time.beat / 64
  modEstd s d fun e =>
    if e.iwK = k then { e with iwSum := e.iwSum + isw, iwN := e.iwN + 1 }
    else { e with iwK := k, iwSum := isw, iwN := 1, iwWas := if e.iwK + 1 = k then estMean e else 0 }

/-- At each SWREF rising edge (R63, R77, R79, R84, R85, R91, R103, R118, R119, R132, R169): I_sw and the phases' values of the
period, the recentred ripple, the load line and the slot edges on their way, region, band, dead time and pulse limit in force.
Without REFCLK it carries the slew under way over the 8 ns of the local oscillator's period (R90).
DEDUCED, log 35, 84, 136. -/
def effSwrefPeriod (i : Fin 93) (cur : List Int) (vfly : List Nat) (tind : List Int) (t : Nat) (s : State) : State :=
  let d := i.val
  let h := s.shf.get i
  let w := s.shw.get i
  if h.run then
    let cur := sensedCur s d cur
    let s := ripAll s d t
    let isw := sumList ((phasesOf d).map fun p => cur.getD (phPos p) 0)
    let n := nactOf s d
    let dev := fun p => (rdiv (cur.getD (phPos p) 0 * n - isw) (max 1 n)).natAbs
    let worst := (((phasesOf d).filter (slotted s)).map dev).foldl max 0
    let s := { s with
      phw := s.phw.modEach (phasesOf d) fun p x =>
        periodPh s d isw (cur.getD (phPos p) 0) (vfly.getD (phPos p) 0) (tind.getD (phPos p) 0) (slotted s p) x }
    let hit := (phasesOf d).any fun p => ((s.phw.nth p).devFrom.any fun b => decide (b + 100 ≤ s.time.beat))
    let s := modShr s d fun r => { r with devW := max r.devW worst, devHit := r.devHit || hit }
    let z := if h.hold then w.zll else stepToward w.zll (s.sp.nth d).zllT 10
    let s := modShw s d fun w => { w with
      isw := isw, ipkW := max w.ipkW isw, zll := z, firePer := w.fire.isSome, reseed := false, tbandF := h.tband, parF := w.parT }
    let s := modShf s d fun h => { h with
      base := stepToward h.base (cfg s 0x46 d) 4
      dt := w.parT.dt
      flim := w.parT.flim
      lockLim := h.lockLim && atClamp s d h.b }
    let s := if (h.hold || w.localOsc) && !s.time.refclk then modSp s d fun p => slewFor { p with revHold := false } 8 else s
    estCurrent (settleToken (if w.reseed then reseedB s d else s) d) d isw
  else s

def execSwrefPeriod (i : Fin 93) (cur : Timed (List Int)) (vfly : List Nat) (tind : List Int) (s : State) : Out :=
  sheafStep s (effSwrefPeriod i cur.v vfly tind cur.ps)

/-- A phase holding the token starts a conduction interval when e + r_k ≤ -B - o_k, through the path of its half-slot, and passes
the token (R65, R66, R74, R75). `node` is V_node in 1/64 µV, `t` the time in ps of the sheaf's clock. -/
def effConductionIntervalStart (i : Fin 93) (k : Fin 9) (node : Int) (t : Nat) (s : State) : State :=
  let d := i.val
  let p := firstPh d + k.val
  let h := s.shf.get i
  let w := s.shw.get i
  let x := s.phw.nth p
  if k.val < nph d ∧ h.run ∧ occupied s d w.token ∧ slotOwner d w.token = k.val ∧ x.cond = false ∧ x.hardOff = false
      ∧ w.fire = none ∧ (s.pd.nth d).ovact = false ∧ nodeErr s d node + ripAt s d t x ≤ -h.b - 4000 * x.offs then
    let s := modPhw s p fun x => { (ripTo s d t x) with cond := true, path := secondPath d w.token, lowOff := false }
    modShw s d fun w => { w with token := nextSlot s d w.token, nCount := w.nCount + 1 }
  else s

def execConductionIntervalStart (i : Fin 93) (k : Fin 9) (node : Timed Int) (s : State) : Out :=
  sheafStep s (effConductionIntervalStart i k node.v node.ps)

/-- The cycle-by-cycle limit in 1/64 A (R142). -/
def ilimOf (s : State) (d : Nat) : Int := 4 * (s.shr.nth d).ilim

/-- Picoseconds in which a current in 1/64 A falls to zero through the low side, at V_ref / L (R63, R83). -/
def zeroTime (s : State) (d : Nat) (peak : Int) : Nat :=
  if 0 < vRef s d then ceilDiv (peak.toNat * 3300000000) (vRef s d).toNat else 0

/-- A phase ends its interval when e + r_k ≥ B - o_k or its cycle-by-cycle limit acts; the limit also ends its part in a fire
(R65, R87, R120, R121). A period in which the open-phase test is suspended leaves its run as it is.
DESIGN CHOICE, log 135. -/
def effConductionIntervalEnd (i : Fin 93) (k : Fin 9) (node peak : Int) (t : Nat) (s : State) : State :=
  let d := i.val
  let p := firstPh d + k.val
  let h := s.shf.get i
  let x := s.phw.nth p
  let peak := sensedI s p peak
  let lim := decide (ilimOf s d ≤ peak)
  if k.val < nph d then
    let s1 := if lim then modPhw s p fun x => { x with limPer := true, limWin := true } else s
    if x.cond && (lim || decide (h.b - 4000 * x.offs ≤ nodeErr s d node + ripAt s d t x)) then
      let test := decide (x.entered + 100 ≤ s.time.beat) && decide (300 * mV ≤ (s.sp.nth d).vcmd) && !(s.shr.get i).dhic
      modPhw s1 p fun x => { (ripTo s d t x) with
        cond := false, zeroAt := t + zeroTime s d peak
        lowRun := if lim then 0 else if !test then x.lowRun else if 10 * peak < 64 then x.lowRun + 1 else 0 }
    else if lim && ((s.shw.get i).fire.any fun f => f.part.contains k.val) then leaveFire s1 d k.val
    else s
  else s

def execConductionIntervalEnd (i : Fin 93) (k : Fin 9) (node : Timed Int) (peak : Int) (s : State) : Out :=
  sheafStep s (effConductionIntervalEnd i k node.v peak node.ps)

/-- The end of a lock window of 8 SWREF periods (R72, R73, R76). `err` is each position's mean slot difference, positive when
it starts late, in 0.25°. -/
def effLockWindowEnd (i : Fin 93) (err : List Int) (s : State) : State :=
  let d := i.val
  let h := s.shf.get i
  let w := s.shw.get i
  if h.run then
    let n : Int := w.nCount
    let nexp := 16 * nactOf s d
    let ok := !w.badWin && !h.skip && decide (0 < nexp)
    let inTol := decide (50 * (n - nexp).natAbs ≤ nexp)
    let want := h.b + rdiv (h.b * (n - nexp)) (max 1 (nexp * 2 ^ w.parF.kf))
    let b' := clampB s d want
    let run := if inTol then h.lockRun + 1 else 0
    let worst := (((phasesOf d).filter (slotted s)).map fun p => (err.getD (phPos p) 0).natAbs).foldl max 0
    let s := { s with
      phw := s.phw.modEach (phasesOf d) fun p x =>
        if slotted s p then { x with offs := clampInt (-32) 32 (x.offs - sgn (err.getD (phPos p) 0)) } else x }
    let s := modShw s d fun w => { w with nCount := 0, badWin := w.fire.isSome || h.skip }
    modShf s d fun h =>
      if ok then { h with
        pherrW := max h.pherrW (min 127 worst)
        b := b'
        lockLim := decide (want ≠ b')
        lockRun := min 16 run
        lock := inTol && (h.lock || decide (16 ≤ run))
        lockLoss := if h.lock && !inTol then h.lockLoss.inc 65535 else h.lockLoss }
      else { h with pherrW := max h.pherrW (min 127 worst) }
  else s

def execLockWindowEnd (i : Fin 93) (err : List Int) (s : State) : Out := sheafStep s (effLockWindowEnd i err)

/-- The lowest sample over the points that are not EXCL (R80); none when every point is. -/
def lowPoint (s : State) (d : Nat) (low : List Int) : Option Int :=
  ((upTo (nsns d) fun k => k).filter fun k => !(s.sns.nth (firstSns d + k)).excl).foldl
    (fun m k => match m with
      | none => some (low.getD k 0)
      | some x => some (min x (low.getD k 0))) none

/-- K_t as its denominator (R80). -/
def ktDen (kt : Nat) : Nat := 2 ^ (4 - min 3 kt)

/-- The share integrator's step in 1/512 A (R118): (I_k - I_mean) / 8, with I_k and I_sw in 1/64 A. -/
def shareStep (ik isw : Int) (n : Nat) (sh : Int) : Int := clampInt (-256) 256 (sh + rdiv (ik * n - isw) (max 1 n))

/-- One move between load regions (R78). At a bound itself, and at exactly 0.25 A below one, nothing moves.
DESIGN CHOICE, log 154. -/
def regionStep (s : State) (d : Nat) (idom : Int) (r : Nat) : Nat :=
  let above := fun c => iphCmp s d idom c == .gt
  let below := fun c => iphCmp s d idom c == .lt
  match r with
  | 0 => if above 100 then 1 else 0
  | 1 => if above 250 then 2 else if below 75 then 0 else 1
  | _ => if below 225 then 1 else 2

/-- The load region after a trim cycle: as many moves as I_ph calls for (R78). -/
def regionNext (s : State) (d : Nat) (idom : Int) (r : Nat) : Nat := regionStep s d idom (regionStep s d idom r)

/-- GSTAT.PILOT is set once AON's lowest sample is within FEBAND of 0.80 V; the address straps are read then (R423, R448). -/
def pilotSet (s : State) (v : Int) : State :=
  if s.g.boot = .aon ∧ ((v - 3200).natAbs : Int) * v16u ≤ (s.sp.nth 92).feband * mV then
    { s with g := { s.g with pilot := true, boot := .done }, pmb := { s.pmb with addr := s.pins.addr } }
  else s

/-- The end of a 64 ns trim cycle (R78 to R85, R92, R118): settings that waited, T_trim, region, integrators, skipping,
shed phases; and GSTAT.PILOT in the autonomous start (R423). `samp` holds the two 32 ns samples of each sense point.
DEDUCED, log 137. -/
def effTrimCycleEnd (i : Fin 93) (samp : List (Int × Int)) (idom : Int) (s : State) : State :=
  let d := i.val
  let s := modShf s d fun h => match h.cfgWr with
    | some c => { h with skipEn := c.skipEn, shedEn := c.shedEn, kt := c.kt, rampEn := c.rampEn, cfgWr := none }
    | none => h
  let h := s.shf.get i
  let w := s.shw.get i
  let low := sensedLow s d (samp.map fun x => min x.1 x.2)
  let last := sensedLow s d (samp.map (·.2))
  if h.run then
    let n := nactOf s d
    let s := modShw s d fun w => { w with
      idom := idom, vlow := (lowPoint s d low).getD w.vlow, vnow := (lowPoint s d last).getD w.vnow }
    let s := modShf s d fun h =>
      match lowPoint s d low with
      | none => { h with nosns := true }
      | some vmin =>
        if 0 < w.fireCyc ∨ onOrHold s d = false then { h with nosns := false }
        else
          let t := rdiv (h.trim * (ktDen h.kt * 16000 : Nat) + (vSset s d - vmin * v16u)) (ktDen h.kt * 16000)
          { h with nosns := false, trim := clampInt (-160) 160 t, tsat := h.tsat || decide (t < -160 ∨ 160 < t) }
    let low84 := iphCmp s d idom (5 * cfg s 0x47 d) == .lt
    let s := modShw s d fun w => { w with
      fireCyc := if w.fire.isSome then 2 else w.fireCyc - 1
      shedLow := if low84 then some (w.shedLow.getD s.time.beat) else none }
    let s := if h.skip || w.fire.isSome then s else
      { s with phw := s.phw.modEach (phasesOf d) fun p x =>
          if slotted s p then { x with share := shareStep x.iLast w.isw n x.share } else x }
    let s := modShf s d fun h => { h with
      tband := bandOf s d
      region := if n = 0 then h.region else regionNext s d idom h.region
      skipRun := if iphCmp s d idom 40 == .lt then h.skipRun + 1 else 0 }
    let s := modShw s d fun w => { w with parT := parOf (cfg s) d (s.shf.nth d).region (s.shf.nth d).tband }
    let s := if h.skip && (iphCmp s d idom 50 != .lt) then
        reseedB (modShf s d fun h => { h with skip := false, skipRun := 0 }) d
      else s
    let s := if iphCmp s d idom (10 * cfg s 0x47 d) == .gt
        ∨ 50 * mV < ((s.sp.nth d).vtgt - (s.sp.nth d).vcmd).natAbs then restoreShed s d else s
    match lowPoint s d low with
    | some v => if d = 92 then pilotSet s v else s
    | none => s
  else s

def execTrimCycleEnd (i : Fin 93) (samp : List (Int × Int)) (idom : Int) (s : State) : Out :=
  sheafStep s (effTrimCycleEnd i samp idom)

/-- Pulse skipping starts after eight cycles with I_ph below 0.40 A (R83). -/
def effPulseSkipStart (i : Fin 93) (s : State) : State :=
  let h := s.shf.get i
  if h.run ∧ h.skipEn ∧ h.skip = false ∧ 8 ≤ h.skipRun ∧ (s.shw.get i).fire = none then
    modShw (modShf s i.val fun h => { h with skip := true, lock := false, lockRun := 0 }) i.val fun w =>
      { w with badWin := true }
  else s

def execPulseSkipStart (i : Fin 93) (s : State) : Out := sheafStep s (effPulseSkipStart i)

/-- The active phase in the highest position (R84). -/
def topActive (s : State) (d : Nat) : Option Nat :=
  (phasesOf d).reverse.find? fun p => decide ((s.ph.nth p).st = .active)

/-- Phase shedding takes one phase out once I_ph has stayed below SHEDTH for 1 µs, counted from the end of the first such trim
cycle (R84). DEDUCED, log 137. -/
def effPhaseShed (i : Fin 93) (s : State) : State :=
  let d := i.val
  let h := s.shf.get i
  if d ≠ 92 ∧ h.run ∧ h.shedEn ∧ h.hold = false ∧ (s.shw.get i).fire = none
      ∧ ((s.shw.get i).shedLow.any fun b => decide (b + 100 ≤ s.time.beat)) = true
      ∧ (s.shw.get i).parT.nmin < nactOf s d ∧ (s.shw.get i).shedFrom ≤ s.time.beat
      ∧ (iphCmp s d (s.shw.get i).idom (5 * (s.shw.get i).parT.shedTh) == .lt) = true then
    match topActive s d with
    | none => s
    | some p =>
      let s := modPh s p fun x => { x with st := .shed }
      let s := passToken (modPhw s p fun x => { x with cond := false }) d (phPos p)
      let s := modShr s d fun r => { r with setChg := s.time.beat }
      modShw s d fun w => { w with badWin := true, shedFrom := s.time.beat + 100 }
  else s

def execPhaseShed (i : Fin 93) (s : State) : Out := sheafStep s (effPhaseShed i)

/-- The positions that take part in a fire (R86). -/
def firePart (s : State) (d : Nat) : List Nat :=
  ((phasesOf d).filter fun p =>
    let x := (s.ph.nth p).st
    x = .active ∨ x = .shed ∨ x = .standby ∨ x = .hold).map phPos

/-- e falling to -UF starts an all-phases-fire (R83, R85 to R87). `node` is V_node in 1/64 µV, `gap` the time since the last fire
ended, in ns. DEDUCED, log 107. -/
def effFireStart (i : Fin 93) (node : Int) (gap : Nat) (s : State) : State :=
  let d := i.val
  let h := s.shf.get i
  let w := s.shw.get i
  if h.run ∧ onOrHold s d ∧ w.fire = none ∧ w.rearmed ∧ 24 ≤ gap ∧ (s.pd.nth d).ovact = false
      ∧ nodeErr s d node ≤ -(h.uf * mV) then
    let part := firePart s d
    let s := restoreShed s d
    let s := if (s.shf.get i).skip then reseedB (modShf s d fun h => { h with skip := false, skipRun := 0 }) d else s
    let s := { s with phw := s.phw.modEach (phasesOf d) fun _ x => { x with cond := false } }
    let s := modShw s d fun w => { w with
      fire := some ⟨w.token, part, h.uf⟩, rearmed := false, badWin := true, fireCyc := 2, firePer := true }
    modShf s d fun h => { h with fireCnt := h.fireCnt.inc 65535, firedW := true }
  else s

def execFireStart (i : Fin 93) (node : Int) (gap : Nat) (s : State) : Out := sheafStep s (effFireStart i node gap)

/-- A phase reaches the band's fire pulse limit (R87). -/
def execFirePulseLimit (i : Fin 93) (k : Fin 9) (s : State) : Out := sheafStep s fun s =>
  if (s.shw.get i).fire.any fun f => f.part.contains k.val then leaveFire s i.val k.val else s

/-- The UF of the fire in progress, else the one set now (R92). -/
def fireUf (s : State) (i : Fin 93) : Nat :=
  match (s.shw.get i).fire with
  | some f => f.uf
  | none => (s.shf.get i).uf

/-- e rising to -UF/2 ends the fire and allows a new one (R87). -/
def effFireEnd (i : Fin 93) (node : Int) (s : State) : State :=
  if -((fireUf s i : Int) * mV) ≤ 2 * nodeErr s i.val node then
    modShw (fireOver s i.val) i.val fun w => { w with rearmed := true }
  else s

def execFireEnd (i : Fin 93) (node : Int) (s : State) : Out := sheafStep s (effFireEnd i node)

/-- A write of SHF_CFG: UF at once for a fire not yet started, the rest at the end of the trim cycle (R92).
DEDUCED, log 107. -/
def effShfCfgWrite (i : Fin 93) (v : Word32) (s : State) : State :=
  if present s i.val then
    let n := v.toNat
    let s := modShf s i.val fun h =>
      if h.run then
        { h with uf := clampNat 15 60 (bits n 0 6), cfgWr := some ⟨bitOf n 6, bitOf n 7, bits n 8 2, bitOf n 10⟩ }
      else
        { h with
          uf := clampNat 15 60 (bits n 0 6), skipEn := bitOf n 6, shedEn := bitOf n 7, kt := bits n 8 2
          rampEn := bitOf n 10, cfgWr := none }
    if bitOf n 31 then
      modShr (modShf s i.val fun h => { h with fireCnt := .zero, lockLoss := .zero }) i.val fun r => { r with dhiccnt := .zero }
    else s
  else s

def execShfCfgWrite (i : Fin 93) (v : Word32) (s : State) : Out := bus s (effShfCfgWrite i v)

/-- SHF_CFG.CLRCNT (R92). -/
def execShfClrcnt (i : Fin 93) (s : State) : Out := bus s fun s =>
  modShr (modShf s i.val fun h => { h with fireCnt := .zero, lockLoss := .zero }) i.val fun r => { r with dhiccnt := .zero }

/-- SYNC_IN lost for 1 µs while SRC = 1 (R71). -/
def effSyncInLoss (s : State) : State :=
  if s.swref.src = 1 ∧ s.swref.fallbk = false then
    raise { s with swref := { s.swref with fallbk := true, syncOk := false } } bBM 7 subjDie
  else { s with swref := { s.swref with syncOk := false } }

def execSyncInLoss (s : State) : Out := live s effSyncInLoss

/-- A write of 1 to FALLBK (R71). -/
def execFallbkClear (s : State) : Out := bus s fun s =>
  if s.swref.syncOk then { s with swref := { s.swref with fallbk := false } } else s

/-- The source that SWREF is to come from (R69, R71). -/
def wantSrc (w : Swref) : Nat := if w.src = 1 ∧ w.fallbk = false then 1 else 0

/-- The change of source at the next zero edge, which the REFCLK source has at beats that are multiples of 4: every sheaf locks
again, and no loss of lock is counted (R69, R71, R73, R151). -/
def effSwrefSourceChange (s : State) : State :=
  if s.swref.srcAct = wantSrc s.swref ∨ (wantSrc s.swref = 0 ∧ s.time.beat % 4 ≠ 0) then s
  else { s with
    swref := { s.swref with srcAct := wantSrc s.swref }
    shf := s.shf.map fun h => { h with lock := false, lockRun := 0 }
    shw := s.shw.map fun w => { w with badWin := true } }

def execSwrefSourceChange (s : State) : Out := live s effSwrefSourceChange

/-- The coolant stop on a sheaf in hold, through its own controllers: CO and CL headers open in one step and every phase is off, a
switching MA sheaf moves to its retention target, the others hold (R370). -/
def coolHeld (s : State) (d : Nat) : State :=
  if s.prot.coolant && (s.shf.nth d).hold then
    match typ d with
    | .co | .cl => modGw (phasesOff s d) d fun g => { g with stage := 0 }
    | .ma => if (s.shf.nth d).run then modSp s d fun p => { p with vtgt := vRet s d, dir := sgn (vRet s d - p.vcmd) } else s
    | _ => s
  else s

/-- A sheaf enters autonomous hold (R61, R85, R90), in which a coolant stop that stands goes on (R370). `frz` when freeze is the
cause. -/
def holdSheaf (s : State) (d : Nat) (frz : Bool) : State :=
  if (s.shf.nth d).hold then s
  else
    let s := restoreShed s d
    let s := modShf s d fun h => { h with hold := true, lock := false, lockRun := 0 }
    let s := modShw s d fun w => { w with badWin := true, holdFrz := frz }
    let s := { s with ph := s.ph.modEach (phasesOf d) fun _ x => if x.st = .active then { x with st := .hold } else x }
    let s := modNd s d fun n => { n with pend := n.pend.map fun p =>
      { p with cs := p.cs.map fun c => { c with act := false, p := if p.entered then c.p else 0 } } }
    let s := modEstd s d fun e => { e with term := none }
    coolHeld (if domSt s d = .on then holdDom s d else s) d

/-- A heartbeat missing for 4 beats (R90). `hbLost` says that it failed while REFCLK ran (R433). DEDUCED, log 127. -/
def execHoldEnter (i : Fin 93) (s : State) : Out := sheafStep s fun s =>
  if present s i.val ∧ (s.shf.get i).hold = false then
    modShw (holdSheaf s i.val false) i.val fun w => { w with hbLost := s.time.refclk }
  else s

/-- The sheaf leaves hold (R61, R91): phases and domain read on, B is reseeded at the first SWREF period. The undervoltage check,
suspended in hold, times its 10 µs anew (R361). -/
def unholdSheaf (s : State) (d : Nat) : State :=
  let s := modShf s d fun h => { h with hold := false, lock := false, lockRun := 0 }
  let s := modShw s d fun w => { w with reseed := true, badWin := true, holdFrz := false, hbLost := false, localOsc := false, wholeFrom := s.time.beat }
  let s := modPd s d fun p => { p with uvAt := if p.uvact then s.time.beat else p.uvAt }
  let s := { s with ph := s.ph.modEach (phasesOf d) fun _ x => if x.st = .hold then { x with st := .active } else x }
  if domSt s d = .hold then setDomSt s d .on else s

/-- The pending effect beat `e` of a domain. -/
def pendAt (s : State) (d e : Nat) : Option Pend := (s.nd.nth d).pend.find? fun p => p.eff = e

def modPend (s : State) (d e : Nat) (f : Pend → Pend) : State :=
  modNd s d fun n => { n with pend := n.pend.map fun p => if p.eff = e then f p else p }

/-- The summed step that the sheaf holds of a pending effect beat, saturating in I16 (R159). -/
def pendStep (p : Pend) : Int := satI16 (sumList ((p.cs.filter (·.act)).map (·.dI)))

/-- The part of it that no notice ramp has moved yet (R89). -/
def rampLeft (p : Pend) : Int := pendStep p - satI16 (sumList ((p.cs.filter fun c => c.act && c.ramped).map (·.dI)))

/-- The restore point of a record with positive ΔI (R88). -/
def restorePoint (p : Pend) : Nat := max p.arr (min p.start (p.eff - 2))

/-- At the restore point the sheaf returns its shed phases (R88). -/
def effNoticeRestore (i : Fin 93) (e : Nat) (s : State) : State :=
  match pendAt s i.val e with
  | none => s
  | some p =>
    if p.restored = false ∧ 0 < pendStep p ∧ restorePoint p ≤ s.time.beat ∧ (s.shf.get i).hold = false then
      modPend (restoreShed s i.val) i.val e fun p => { p with restored := true }
    else s

def execNoticeRestore (i : Fin 93) (e : Nat) (s : State) : Out := live s (effNoticeRestore i e)

/-- T_lead of R89 in ns, for a step over N_act phases with VB / 2 - V_ref in 1/64 µV. -/
def tLead (dI : Int) (n : Nat) (head : Int) : Nat :=
  let den := n * head.toNat
  if den = 0 then 16 else clampNat 1 16 ((dI.natAbs * 3300000 + den) / (2 * den))

/-- At E - T_lead each active phase's synthetic ripple steps down by G_r × ΔI / N_act, with N_act after the return of the shed
phases (R89, R478). `t` is the time in ps of the sheaf's clock. -/
def effNoticeRampStart (i : Fin 93) (e t : Nat) (s : State) : State :=
  let d := i.val
  match pendAt s d e with
  | none => s
  | some p =>
    let n := nactSet s d
    let w := s.shw.get i
    let lead := tLead (rampLeft p) n ((w.vb : Int) * mV - vRef s d)
    if rampLeft p ≠ 0 ∧ (s.shf.get i).rampEn ∧ (s.shf.get i).hold = false ∧ w.fire = none ∧ domSt s d = .on ∧ 0 < n
        ∧ e ≤ s.time.beat + ceilDiv lead 10 then
      let s := ripAll s d t
      let s := { s with phw := s.phw.modEach (phasesOf d) fun q x =>
        if (s.ph.nth q).st = .active then { x with ripStep := x.ripStep - rdiv (27500 * rampLeft p) n } else x }
      modPend s d e fun p => { p with cs := p.cs.map fun c => { c with ramped := c.ramped || c.act } }
    else s

def execNoticeRampStart (i : Fin 93) (e : Timed Nat) (s : State) : Out := live s (effNoticeRampStart i e.v e.ps)

end Sys2Proof.Machine
end

