-- ==== Sys2Proof/Machine/Setpoint.lean ====
section
/-! DEFINITION. The set-point and gating commands: pre-lift terms, reversal, frequency order, following error, header stages,
gating, waking and ready, array banks (R96 to R117). -/

namespace Sys2Proof.Machine

/-- A pre-lift term enters V_tgt at its start beat; an estimator term then leaves (R96, R183). -/
def effPreliftEnter (d : Fin 128) (e : Nat) (s : State) : State :=
  match pendAt s d.val e with
  | none => s
  | some p =>
    if p.entered = false ∧ termSum p ≠ 0 ∧ p.start ≤ s.time.beat ∧ domSt s d.val = .on then
      let s := modPend s d.val e fun p => { p with entered := true, leave := p.eff + (s.sp.get d).plhold }
      let s := if d.val < 93 then modEstd s d.val fun x => { x with term := none } else s
      retarget s d.val false
    else s

def execPreliftEnter (d : Fin 128) (e : Nat) (s : State) : Out := live s (effPreliftEnter d e)

/-- The beat at which a term leaves V_tgt and its effect beat stops being pending: E + H_pl, with the H_pl of its entry once it is
in V_tgt (R96, R159, R353). -/
def leaveBeat (s : State) (d : Nat) (p : Pend) : Nat := if p.entered then p.leave else p.eff + (s.sp.nth d).plhold

/-- At E + H_pl the term leaves V_tgt and the effect beat stops being pending (R96, R159). -/
def effPreliftLeave (d : Fin 128) (e : Nat) (s : State) : State :=
  match pendAt s d.val e with
  | none => s
  | some p =>
    if leaveBeat s d.val p ≤ s.time.beat then
      retarget (modNd s d.val fun n => { n with pend := n.pend.filter fun q => q.eff ≠ e }) d.val false
    else s

def execPreliftLeave (d : Fin 128) (e : Nat) (s : State) : Out := live s (effPreliftLeave d e)

/-- The reversal hold is over and V_cmd starts toward the new target (R102). -/
def execReversalHoldEnd (d : Fin 128) (s : State) : Out := live s fun s =>
  modSp s d.val fun p => { p with revHold := false }

/-- What follows when a domain is settled: no following error (R104). -/
def feSettled (s : State) (d : Nat) : State := modSp s d fun p => { p with feAct := false, feDue := none }

/-- At the first beat at which a raised domain is settled, the new frequency is requested (R98, R104). `vlow` is the latest
sample of the lowest non-excluded sense point, in V16. -/
def effFrequencyRaiseRequest (d : Fin 128) (vlow : Int) (s : State) : State :=
  let p := s.sp.get d
  if p.fpend ∧ p.lower = none ∧ domSt s d.val = .on ∧ settled s d.val vlow then
    let late := s.time.beat - p.raiseBy.getD s.time.beat
    let s := addDebt (feSettled s d.val) d.val (256 * late)
    let s := askClock s d.val p.opeff
    modSp s d.val fun p => { p with fpend := false, freqOp := p.opeff, raiseBy := none }
  else s

def execFrequencyRaiseRequest (d : Fin 128) (vlow : Int) (s : State) : Out := live s (effFrequencyRaiseRequest d vlow)

/-- Two beats after a lower frequency was requested, V_op takes the new voltage (R98). -/
def effFrequencyLowerApplied (d : Fin 128) (s : State) : State :=
  match (s.sp.get d).lower with
  | none => s
  | some (n, due, cmd) =>
    if due ≤ s.time.beat then
      let v := (s.sp.get d).vopNext.getD (vopFor s d.val n)
      setVopCode (modSp s d.val fun p => { p with lower := none }) d.val v 0 cmd (due - 2)
    else s

def execFrequencyLowerApplied (d : Fin 128) (s : State) : Out := live s (effFrequencyLowerApplied d)

/-- The following-error check is suspended (R104). -/
def feSuspended (s : State) (d : Nat) : Bool :=
  domSt s d ≠ .on || (decide (d < 93) && ((s.shw.nth d).fire.isSome || (s.shr.nth d).dhic))

/-- The check at a beat: settled clears FE_ACT; past its deadline it sets FE_ACT and raises SETPT_FE (R104). -/
def effFeDeadline (d : Fin 128) (vlow : Int) (s : State) : State :=
  let p := s.sp.get d
  if feSuspended s d.val then s
  else if settled s d.val vlow then feSettled s d.val
  else if p.feEn ∧ p.feAct = false ∧ (p.feDue.any fun b => decide (b ≤ s.time.beat)) then
    raise (modSp s d.val fun p => { p with feAct := true }) bDOM 0 (subjD d.val)
  else s

def execFeDeadline (d : Fin 128) (vlow : Int) (s : State) : Out := live s (effFeDeadline d vlow)

def staged (d : Nat) : Bool := typ d = .co || typ d = .cl

/-- The next header stage of a gating domain opens (R105). -/
def effHeaderStageOpen (d : Fin 128) (s : State) : State :=
  if domSt s d.val = .gating ∧ staged d.val ∧ 0 < (s.gw.get d).stage then
    modGw s d.val fun g => { g with stage := g.stage - 1 }
  else s

def execHeaderStageOpen (d : Fin 128) (s : State) : Out := live s (effHeaderStageOpen d)

/-- A wake or a hiccup retry is rising, past admission. -/
def rising (s : State) (d : Nat) : Bool :=
  decide (domSt s d = .waking) && decide ((s.gw.nth d).gateTo = .no)
    && (if decide (d < 93) && (s.shr.nth d).dhic then (s.shr.nth d).rising else (s.gw.nth d).wake.any (·.admitted))

/-- A header stage closes once V_cmd is at its target and the gated side is within 50 mV, or after 200 ns (R105, R107). -/
def effHeaderStageClose (d : Fin 128) (near : Bool) (ns : Nat) (s : State) : State :=
  let p := s.sp.get d
  let g := s.gw.get d
  if staged d.val ∧ rising s d.val ∧ p.vcmd = p.vtgt ∧ g.stage < g.nstg ∧ (near ∨ 200 ≤ ns) then
    modGw s d.val fun g => { g with
      stage := g.stage + 1
      stgto := if near then g.stgto else g.stgto.inc 65535 }
  else s

def execHeaderStageClose (d : Fin 128) (near : Bool) (ns : Nat) (s : State) : Out :=
  live s (effHeaderStageClose d near ns)

/-- The domain reads OFF with its sheaf stopped (R105, R110). -/
def goOff (s : State) (d : Nat) : State :=
  let s := zeroVcmd (stopSheaf s d) d
  let s := if typ d = .la then modLa s (ord d) fun x => { x with capped := false } else s
  modGw (setDomSt s d .off) d fun g => { g with gateTo := .no, wake := none, stage := 0, nstg := 0, ready := false, clock := false }

/-- A gating completes: OFF with headers open, or RETENTION at the retention voltage (R105, R108, R110). An LK or LA domain that was
ON before reads DARK, since OFF comes only before its first wake (R56). DESIGN CHOICE, log 161. -/
def effGatingComplete (d : Fin 128) (s : State) : State :=
  let p := s.sp.get d
  let g := s.gw.get d
  match domSt s d.val, g.gateTo with
  | .gating, .off =>
    if staged d.val then
      if g.stage = 0 ∧ (g.wake = none ∨ p.vcmd = 0) then goOff s d.val else s
    else if p.vcmd = 0 then goOff s d.val else s
  | .gating, .retention =>
    if p.vcmd = p.vtgt ∧ (s.shf.nth d.val).run then
      let s := modGw (setDomSt s d.val .retention) d.val fun g => { g with gateTo := .no, wake := none }
      modPd s d.val fun x => { x with since := s.time.beat }
    else s
  | .waking, .off => if p.vcmd = 0 then (if g.woken then goDark s d.val else goOff s d.val) else s
  | _, _ => s

/-- The domain reads ON: clock, ready time, and the end of a hiccup retry's rise (R105, R109, R133). -/
def enterOn (s : State) (d : Nat) : State :=
  let now := s.time.beat
  let due := match (s.gw.nth d).wake with
    | some w => if exactOn s then max w.dline (now + 2) else now + 2
    | none => now + 2
  let s := setDomSt s d .on
  let s := modGw s d fun g => { g with clock := decide (typ d ≠ .la), readyAt := due, woken := true, nstg := 0 }
  let s := modSp s d fun p => { p with
    quarter := false, freqOp := p.opeff, freqWas := none, fpend := false, lower := none, raiseBy := none, zllT := p.zll
    riseF := p.rise, fallF := p.fall }
  let n := (s.sp.nth d).opeff
  let s := { s with clk := s.clk.modN d fun _ => ⟨n, now, n⟩ }
  let s := modPd s d fun x => { x with since := now }
  let s := if decide (d < 93) && (s.shr.nth d).dhic then
      modShr s d fun r => { r with dhic := false, soft := false, rising := false, onAt := if r.soft then none else some now }
    else s
  retarget s d false

/-- A wake completes: headers closed and V_cmd at its target, or V_cmd alone for MA and for LK's hiccup retry (R105). -/
def effWakeComplete (d : Fin 128) (s : State) : State :=
  let p := s.sp.get d
  let g := s.gw.get d
  if rising s d.val ∧ p.vcmd = p.vtgt then
    match typ d.val with
    | .co | .cl => if g.stage = g.nstg then enterOn s d.val else s
    | .ma => enterOn s d.val
    | .lk => if (s.shr.nth d.val).dhic then enterOn s d.val else s
    | _ => s
  else s

/-- Ready rises 2 beats after ON, or at the action beat + D in Exact mode; lateness is counted (R109, R361). -/
def effReadyRise (d : Fin 128) (s : State) : State :=
  let g := s.gw.get d
  if domSt s d.val = .on ∧ g.ready = false ∧ (s.pd.get d).uvact = false ∧ g.readyAt ≤ s.time.beat then
    let s := modGw s d.val fun g => { g with ready := true, wake := none }
    match g.wake with
    | some w =>
      if w.dline < s.time.beat then
        let n := s.time.beat - w.dline
        let s := modGw s d.val fun g => { g with late := g.late.inc 65535, lastLate := min 65535 n }
        raise (addDebt s d.val (256 * n)) bDOM 2 (subjD d.val)
      else s
    | none => s
  else s

def execReadyRise (d : Fin 128) (s : State) : Out := live s (effReadyRise d)

/-- An LK or LA domain in its first wake, or woken from DARK, reads ON when it is settled at V_tgt (R106). -/
def effFirstWakeOn (d : Fin 128) (vlow : Int) (s : State) : State :=
  if (typ d.val = .lk ∨ typ d.val = .la) ∧ rising s d.val ∧ ((s.gw.get d).wake.isSome) ∧ settled s d.val vlow then
    enterOn s d.val
  else s

def execFirstWakeOn (d : Fin 128) (vlow : Int) (s : State) : Out := live s (effFirstWakeOn d vlow)

/-- A wake waits for admission, and no darkening waits for the end of its sheaf's hold (R112, R140). -/
def wakeWaits (s : State) (d : Nat) : Bool :=
  (s.gw.nth d).waitAdm && !(decide (d < 93) && (s.shr.nth d).darkPend)

/-- A wake not admitted within 5,000 beats starts with slow staging; in Exact mode none waits (R112). -/
def effWakeForced (d : Fin 128) (s : State) : State :=
  if wakeWaits s d.val ∧ (exactOn s ∨ ((s.gw.get d).wake.any fun w => decide (w.act + 5000 ≤ s.time.beat))) then wakeForce s d.val
  else s

def execWakeForced (d : Fin 128) (s : State) : Out := live s (effWakeForced d)

/-- A waiting wake is checked again, at a window end and at a change to Exact mode, where a failed check starts it (R112, R300). -/
def wakeRetry (s : State) (d : Nat) : State :=
  let g := s.gw.nth d
  if wakeWaits s d then
    if admitted s d ((g.wake.map (·.slow)).getD false) (wakeRise s d ((g.wake.map (·.keep)).getD false)) then wakeRun s d
    else
      let s := modGw s d fun g => { g with defr := g.defr.inc 65535 }
      if exactOn s then wakeForce s d else s
  else s

-- Array banks.

/-- BANK at its action beat (R113): banks that are not gated yet count as gated from now, complete 20 beats later. A bank that the
host wrote to in this very beat wakes (R115). DEDUCED, log 42, 124. -/
def bankGate (s : State) (m : Nat) (mask : Word64) : State :=
  if domSt s (72 + m) = .on ∨ domSt s (72 + m) = .retention then
    { s with bank := s.bank.modN m fun b =>
        let fresh := mask &&& ~~~ b.gated
        let woken := if b.seenAt = s.time.beat then fresh &&& b.seen else 0
        let gone := fresh &&& ~~~ woken
        let ws := (List.range 64).filter fun k => woken.getLsbD k
        { b with
          gated := b.gated ||| mask
          gating := if gone = 0 then b.gating else b.gating ++ [(s.time.beat + 20, gone)]
          waking := b.waking ++ ws.map fun k => (k, s.time.beat + 200)
          wakes := (b.wakes + ws.length) % 2 ^ 32 } }
  else s

/-- A BANK gating completes (R113). -/
def execBankGateComplete (m : Fin 16) (s : State) : Out := live s fun s =>
  { s with bank := s.bank.mod m fun b => { b with gating := b.gating.filter fun x => s.time.beat < x.1 } }

/-- A host write to a bank: a wake request where the bank is gated, remembered for the beat where it is not (R115). -/
def effBankWakeRequest (m : Fin 16) (b : Fin 64) (s : State) : State :=
  let x := s.bank.get m
  if x.gated.getLsbD b.val ∧ (x.waking.all fun w => w.1 ≠ b.val) ∧ present s (72 + m.val) then
    { s with bank := s.bank.mod m fun x => { x with
        gating := (x.gating.map fun g => (g.1, g.2 &&& ~~~ ((1 : Word64) <<< b.val))).filter fun g => g.2 ≠ 0
        waking := x.waking ++ [(b.val, s.time.beat + 200)]
        wakes := (x.wakes + 1) % 2 ^ 32 } }
  else { s with bank := s.bank.mod m fun x => { x with
      seenAt := s.time.beat
      seen := (if x.seenAt = s.time.beat then x.seen else 0) ||| ((1 : Word64) <<< b.val) } }

def execBankWakeRequest (m : Fin 16) (b : Fin 64) (s : State) : Out := live s (effBankWakeRequest m b)

/-- The bank is ready 200 beats after its request (R115). -/
def effBankWakeReady (m : Fin 16) (b : Fin 64) (s : State) : State :=
  if (s.bank.get m).waking.any fun w => w.1 = b.val ∧ w.2 ≤ s.time.beat then
    { s with bank := s.bank.mod m fun x => { x with
        gated := x.gated &&& ~~~ ((1 : Word64) <<< b.val)
        waking := x.waking.filter fun w => w.1 ≠ b.val } }
  else s

def execBankWakeReady (m : Fin 16) (b : Fin 64) (s : State) : Out := live s (effBankWakeReady m b)

/-- DOM_SPSTAT.CLRCNT (R117). -/
def execDomSpstatClrcnt (d : Fin 128) (s : State) : Out := bus s fun s =>
  modGw s d.val fun g => { g with
    sup := .zero, rev := .zero, defr := .zero, stgto := .zero, late := .zero, lastLate := 0 }

-- What OPSEL, VSET and LLINE do at a domain.

/-- OPSEL (R97, R100, R479). In HOLD and the unpowered states nothing moves. -/
def opselDom (s : State) (d op : Nat) : State :=
  let s := modSp s d fun p => { p with oppref := op }
  if (s.sp.nth d).idle || ((s.prot.coolant || s.prot.shutdn) && (typ d = .lk || typ d = .la)) then s
  else followOp (modSp s d fun p => { p with direct := false }) d true

/-- VSET (R97, R101): V_op directly, raised to the table voltage of OPEFF, with its own slew code. DEDUCED, log 36. -/
def vsetDom (s : State) (d v code : Nat) : State :=
  let s := modSp s d fun p => { p with direct := true }
  setVopCode s d (max v (tabV s d (s.sp.nth d).opeff)) code true s.time.beat

/-- LLINE (R103); where the domain is not ON or rising to it, the sheaf moves once it is (R100). -/
def llineDom (s : State) (d z : Nat) : State :=
  let now := decide (domSt s d = .on ∨ domSt s d = .waking)
  modSp s d fun p => { p with zll := z, zllT := if now then z else p.zllT }

end Sys2Proof.Machine
end

