-- ==== Sys2Proof/Machine/Sharing.lean ====
section
/-! DEFINITION. Phase faults, the spare, hiccup and the gleaner's sweeps (R118 to R144). -/

namespace Sys2Proof.Machine

/-- 32 intervals in a row below 0.10 A exclude the phase as open (R120, R121). -/
def execPhaseOpenDetect (p : Fin 720) (s : State) : Out := sheafStep s fun s =>
  if 32 ≤ (s.phw.get p).lowRun ∧ slotted s p.val = true then excludePh s p.val 1 else s

/-- The analogue short test excludes the phase: a high-side short or a flying capacitor out of range, or a low-side short
(R120, R122). -/
def execPhaseShortDetect (p : Fin 720) (high : Bool) (s : State) : Out := sheafStep s fun s =>
  excludePh s p.val (if high then 2 else 3)

/-- A phase enters the active set: its integrator starts at 0, and its first interval comes in the next SWREF period (R118,
R124). -/
def joinActive (s : State) (p : Nat) : State :=
  let d := phDom p
  let s := modPh s p fun x => { x with st := if (s.shf.nth d).hold then .hold else .active }
  let s := modPhw s p fun w => { w with share := 0, entered := s.time.beat, lowRun := 0, limRun := 0, ripStep := 0, waitPer := true }
  let s := modShw s d fun w => { w with badWin := true }
  modShr s d fun r => { r with setChg := s.time.beat }

/-- The STANDBY spare becomes ACTIVE for an excluded phase (R124). During a fire it waits for the end (R140). -/
def effSpareActive (i : Fin 93) (s : State) : State :=
  let d := i.val
  if (s.ph.nth (sparePh d)).st = .standby ∧ spareNeeded s d ∧ (s.shf.get i).run ∧ (s.shw.get i).fire = none then
    modShr (joinActive s (sparePh d)) d fun r => { r with nospare := true }
  else s

def execSpareActive (i : Fin 93) (s : State) : Out := sheafStep s (effSpareActive i)

/-- PH_CTL.EXCLUDE (R143). -/
def execPhExclude (p : Fin 720) (s : State) : Out := bus s fun s => excludePh s p.val 7

/-- PH_CTL.READMIT (R130): only while the domain is OFF or DARK, and a short only in TEST (life-cycle code 1). -/
def effReadmit (p : Fin 720) (s : State) : State :=
  let d := phDom p.val
  let x := s.ph.get p
  let st := domSt s d
  if x.st = .excluded ∧ (st = .off ∨ st = .dark) ∧ (¬ (x.xcause = 2 ∨ x.xcause = 3) ∨ s.g.lc = 1) then
    let s := modPh s p.val fun y => { y with st := .off, xcause := 0, suspect := false }
    let s := modPhw s p.val fun w => { w with lowRun := 0, limRun := 0, fails := 0, rejoin := none, runAB := 0, seenC := false, runAC := 0 }
    ladderUpdate s d
  else s

def execReadmit (p : Fin 720) (s : State) : Out := bus s (effReadmit p)

/-- PH_CTL.CLRCNT (R143). -/
def execPhClrcnt (p : Fin 720) (s : State) : Out := bus s fun s =>
  modPh s p.val fun x => { x with limwin := .zero, hiccnt := .zero, exclcnt := .zero }

/-- Every ACTIVE phase that is not shed is at NHIC (R133). -/
def allAtLimit (s : State) (d : Nat) : Bool :=
  let act := (phasesOf d).filter (slotted s)
  decide (act ≠ []) && act.all fun p => decide ((s.shr.nth d).nhic ≤ (s.phw.nth p).limRun)

/-- A phase switches off in HICCUP, from beat `at'` on (R132). -/
def hiccupOff (s : State) (p at' : Nat) : State :=
  let d := phDom p
  let s := modPh s p fun x => { x with st := .hiccup }
  let s := modPhw s p fun w => { w with cond := false, hicAt := at', rejoin := none, limRun := 0 }
  let s := leaveFire (passToken s d (phPos p)) d (phPos p)
  let s := modShw s d fun w => { w with badWin := true }
  modShr s d fun r => { r with setChg := s.time.beat }

/-- A phase at its limit in NHIC periods in a row enters HICCUP, or after eight failed retries is excluded (R132). With every
ACTIVE phase at its limit the domain hiccups instead, and AON's phases stay as they are (R133). -/
def effPhaseHiccupEnter (p : Fin 720) (s : State) : State :=
  let d := phDom p.val
  let w := s.phw.get p
  let others := ((phasesOf d).filter fun q => q ≠ p.val && slotted s q).length
  if slotted s p.val ∧ (s.shr.nth d).nhic ≤ w.limRun ∧ (d ≠ 92 ∨ 2 ≤ others) ∧ allAtLimit s d = false then
    let failed := w.rejoin.any fun b => decide (s.time.beat < b + 10000)
    let fails := if failed then w.fails + 1 else 0
    if 8 ≤ fails then excludePh s p.val 5
    else
      let s := modPh s p.val fun x => { x with hiccnt := x.hiccnt.inc 255 }
      hiccupOff (modPhw s p.val fun w => { w with fails := fails }) p.val s.time.beat
  else s

def execPhaseHiccupEnter (p : Fin 720) (s : State) : Out := sheafStep s (effPhaseHiccupEnter p)

/-- After TH a hiccuping phase rejoins the active set (R132). -/
def effPhaseHiccupRetry (p : Fin 720) (s : State) : State :=
  let d := phDom p.val
  if (s.ph.get p).st = .hiccup ∧ (s.phw.get p).hicAt + 100 * (s.shr.nth d).th ≤ s.time.beat then
    modPhw (joinActive s p.val) p.val fun w => { w with rejoin := some s.time.beat }
  else s

def execPhaseHiccupRetry (p : Fin 720) (s : State) : Out := sheafStep s (effPhaseHiccupRetry p)

/-- A retry that lasts 100 µs succeeds (R132). -/
def execPhaseRetrySuccess (p : Fin 720) (s : State) : Out := sheafStep s fun s =>
  if slotted s p.val ∧ ((s.phw.get p).rejoin.any fun b => decide (b + 10000 ≤ s.time.beat)) then
    modPhw s p.val fun w => { w with rejoin := none, fails := 0 }
  else s

/-- A domain hiccup of a switching sheaf (R133, R134): everything off, V_cmd to 0 V, WAKING; a wake under way keeps its
deadline, a GATE under way ends it, and the eighth failed retry latches and darkens. DEDUCED, log 37, 138. -/
def effDomainHiccup (i : Fin 93) (s : State) : State :=
  let d := i.val
  let r := s.shr.get i
  if d ≠ 92 ∧ (s.shf.get i).run ∧ allAtLimit s d then
    let gated := decide (domSt s d = .gating) || decide ((s.gw.nth d).gateTo ≠ .no)
    let waking := decide (domSt s d = .waking)
    let failed := (r.rising && !r.soft) || (r.onAt.any fun b => decide (s.time.beat < b + 10000))
    let retry := if failed then r.retry + 1 else 0
    let s := modShr s d fun r => { r with retry := retry, onAt := none, dhiccnt := r.dhiccnt.inc 65535 }
    if 8 ≤ retry then
      let s := modShr s d fun r => { r with latch := true }
      let s := if mayDarken s d then raiseShf s d bSHF 2 (subjD d) else s
      let s := raiseShf (raiseShf s d bSHF 3 (subjD d)) d bSHF 4 (subjD d)
      if mayDarken s d then darkMove s d else s
    else
      let s := zeroVcmd (stopSheaf (leaveOn s d) d) d
      let s := modGw s d fun g => { g with
        stage := 0, wake := if waking then g.wake else none, gateTo := .no, waitAdm := false }
      let s := setDomSt s d .waking
      let s := modShr s d fun r => { r with dhic := true, soft := false, rising := false, hicAt := s.time.beat }
      let s := protEvent (classP (raiseShf s d bSHF 3 (subjD d)))
      if gated then (gateDom s d false true).1 else s
  else s

def execDomainHiccup (i : Fin 93) (s : State) : Out := sheafStep s (effDomainHiccup i)

/-- After TH the domain rises at r_rise / 4, then its headers close in 16 stages (R133). -/
def effDomainHiccupRestart (i : Fin 93) (s : State) : State :=
  let d := i.val
  let r := s.shr.get i
  if r.dhic ∧ r.rising = false ∧ r.darkPend = false ∧ domSt s d = .waking ∧ r.hicAt + 100 * r.th ≤ s.time.beat then
    let s := startSheaf s d
    let s := modShr s d fun r => { r with rising := true }
    let s := modGw s d fun g => { g with stage := 0, nstg := 16 }
    retarget (modSp s d fun p => { p with quarter := true, code := 0, riseF := p.rise, fallF := p.fall }) d false
  else s

def execDomainHiccupRestart (i : Fin 93) (s : State) : Out := sheafStep s (effDomainHiccupRestart i)

/-- A domain retry lasting 100 µs after ON succeeds (R133). -/
def execDomainRetrySuccess (i : Fin 93) (s : State) : Out := sheafStep s fun s =>
  if domSt s i.val = .on ∧ ((s.shr.get i).onAt.any fun b => decide (b + 10000 ≤ s.time.beat)) then
    modShr s i.val fun r => { r with onAt := none, retry := 0 }
  else s

/-- SHF_HICSTAT.LATCH written 1 (R134). -/
def execLatchClear (i : Fin 93) (s : State) : Out := bus s fun s =>
  modShr s i.val fun r => { r with latch := false }

-- The gleaner.

/-- Period in beats of the phase-health and plausibility sweeps by band; the bond schedule is 100 times longer (R135). -/
def sweepPeriod (band : Nat) : Nat := [1000000, 500000, 200000, 100000].getD band 100000

/-- At a multiple of its period a sweep of an ON domain starts (R135). -/
def effGleanerSweepStart (i : Fin 93) (s : State) : State :=
  let d := i.val
  let per := sweepPeriod (bandOf s d)
  if present s d ∧ domSt s d = .on ∧ s.time.beat % per = 0 then
    modShr s d fun r => { r with
      sweepPh := r.sweepPh || s.gln.phEn
      sweepSns := r.sweepSns || s.gln.snsEn
      sweepBond := r.sweepBond || (s.gln.bondEn && decide (s.time.beat % (100 * per) = 0)) }
  else s

def execGleanerSweepStart (i : Fin 93) (s : State) : Out := live s (effGleanerSweepStart i)

/-- Inserts into a sorted list. -/
def insertSorted (x : Int) : List Int → List Int
  | [] => [x]
  | y :: ys => if x ≤ y then x :: y :: ys else y :: insertSorted x ys

/-- The median; for an even count the mean of the middle two (log 14). DEDUCED, log 14. -/
def median (l : List Int) : Int :=
  let t := l.foldr insertSorted []
  let n := t.length
  if n % 2 = 1 then t.getD (n / 2) 0 else rdiv (t.getD (n / 2 - 1) 0 + t.getD (n / 2) 0) 2

/-- The estimator witness (R123, R174): the mean of the estimates whose target windows lie in the last 6,400 beats, when the
domain was trusted throughout them. -/
def estWitness (s : State) (d : Nat) : Option Int :=
  let b := s.time.beat
  let w := ((s.estd.nth d).wit.filter fun x => decide (b ≤ x.1 + 6400 ∧ x.1 + 64 ≤ b)).map (·.2)
  if s.est.witEn && !exactOn s && trusted s d && decide ((s.estd.nth d).trustAt + 6400 ≤ b) && decide (0 < w.length) then
    some (rdiv (sumList w) w.length)
  else none

/-- The witnesses available for a domain (R123). AON has no bond groups, and so no bond witness. DEDUCED, log 139. -/
def witnesses (s : State) (d : Nat) (m : HealthMeas) : List Int :=
  (if 0 < nbond d ∧ ((upTo (nbond d) fun k => (s.bond.nth (firstBond d + k)).zbase).all (· ≠ 0)) then [m.ibond] else [])
    ++ (estWitness s d).toList

/-- One phase's checks in a sweep (R123): updates its runs and answers whether it is suspect. -/
def healthCheck (s : State) (d : Nat) (m : HealthMeas) (p : Nat) (w : PhW) : PhW × Bool :=
  let h := m.ph.getD (phPos p) ⟨0, 0, false, false⟩
  let diff := sensedI s p h.isns - h.idcr
  let others := ((phasesOf d).filter fun q => q ≠ p && slotted s q).map fun q =>
    let g := m.ph.getD (phPos q) ⟨0, 0, false, false⟩
    sensedI s q g.isns - g.idcr
  let a := decide (32 ≤ diff.natAbs ∧ h.idcr.natAbs ≤ 5 * diff.natAbs)
  let c := (witnesses s d m).any fun x => decide (0 < diff * (m.isw - x) ∧ diff.natAbs ≤ 2 * (m.isw - x).natAbs)
  if others = [] then
    let r := if a && c then w.runAC + 1 else 0
    ({ w with runAC := r, runAB := 0, seenC := false }, decide (3 ≤ r))
  else
    let b := decide (-64 ≤ 5 * median others ∧ 5 * median others ≤ 64)
    let r := if a && b then w.runAB + 1 else 0
    let sc := a && b && (w.seenC || c)
    ({ w with runAB := r, seenC := sc, runAC := 0 }, (decide (3 ≤ r) && sc) || decide (8 ≤ r))

/-- The phase is powered, so that its flying capacitor can be tested (R120). -/
def tested (s : State) (p : Nat) : Bool :=
  let x := (s.ph.nth p).st
  slotted s p || decide (x = .shed ∨ x = .hiccup ∨ x = .standby)

/-- A completed phase-health sweep: failed current sense, flying capacitors, spare self-test (R120, R123, R125). A phase that is
not ACTIVE in a sweep keeps its runs. DEDUCED, log 139. -/
def effPhaseHealthSweep (i : Fin 93) (m : HealthMeas) (s : State) : State :=
  let d := i.val
  if (s.shr.get i).sweepPh then
    let s0 := s
    let s := { s with
      gln := { s.gln with sweeps := (s.gln.sweeps + 1) % 2 ^ 32 }
      phw := s.phw.modEach (phasesOf d) fun p w => if slotted s p then (healthCheck s d m p w).1 else w }
    let s := modShr s d fun r => { r with sweepPh := false }
    (phasesOf d).foldl (fun s p =>
      let h := m.ph.getD (phPos p) ⟨0, 0, false, false⟩
      if slotted s0 p && (healthCheck s0 d m p (s0.phw.nth p)).2 then excludePh s p 4
      else if tested s0 p && h.flyBad then excludePh s p 6
      else if s.gln.sptEn && decide (p = sparePh d) && decide ((s0.ph.nth p).st = .standby) && h.spareBad then
        excludePh s p 6
      else s) s
  else s

def execPhaseHealthSweep (i : Fin 93) (m : HealthMeas) (s : State) : Out := live s (effPhaseHealthSweep i m)

/-- One sense point's plausibility (R136): true when it fails. Samples and node in V16. -/
def snsFails (s : State) (d k : Nat) (low : List Int) (node : Int) : Bool :=
  let v := low.getD k 0
  let good := (upTo (nsns d) fun j => j).filter fun j => !(s.sns.nth (firstSns d + j)).excl
  let others := (good.filter (· ≠ k)).map fun j => low.getD j 0
  let dev := if good.length < 3 then decide (v < node - 40 ∨ node + 20 < v)
             else decide (4 * (s.gln.snsdev : Int) < (v - median others).natAbs)
  dev || decide (node + 20 < v) || decide (v < 1200 ∨ 5200 < v)

/-- A plausibility sweep (R136). -/
def effPlausibilitySweep (i : Fin 93) (low : List Int) (node : Int) (s : State) : State :=
  let d := i.val
  let low := sensedLow s d low
  if (s.shr.get i).sweepSns then
    let s0 := s
    let s := modShr s d fun r => { r with sweepSns := false }
    (upTo (nsns d) fun k => k).foldl (fun s k =>
      let n := firstSns d + k
      let x := s0.sns.nth n
      if x.untrained then s
      else if snsFails s0 d k low node then
        let s := { s with sns := s.sns.modN n fun _ =>
          { x with impl := true, fails := x.fails + 1, passes := 0, excl := x.excl || decide (3 ≤ x.fails + 1) } }
        if x.excl = false ∧ 3 ≤ x.fails + 1 then raise s bSHF 5 (0x1000 + n) else s
      else
        { s with sns := s.sns.modN n fun _ =>
          { x with impl := false, fails := 0, passes := x.passes + 1, excl := x.excl && decide (x.passes + 1 < 16) } }) s
  else s

def execPlausibilitySweep (i : Fin 93) (low : List Int) (node : Int) (s : State) : Out :=
  live s (effPlausibilitySweep i low node)

/-- The bond record after a valid measurement `z` (R138), with thresholds in percent of ZBASE. An anomaly that the step test set, alone
or together with a threshold, clears by the step rule; one that SEVERE set clears by the threshold rule.
DESIGN CHOICE, log 157. -/
def bondNext (b : Bond) (z anom severe step : Nat) : Bond :=
  let zb := b.zbase
  let isOver := fun k => decide (zb * (100 + k) ≤ 100 * z)
  let run := if isOver anom then b.run + 1 else 0
  let runSev := if isOver severe then b.runSev + 1 else 0
  let stepNow := b.prev.any fun p => decide (zb * step ≤ 100 * (z - p) ∧ p ≤ z)
  let stepSet := b.cand.any fun p => decide (100 * p + zb * step ≤ 100 * z)
  let newSev := decide (2 ≤ runSev)
  let clrSev := if b.severe && !isOver (severe - 5) then b.clrSev + 1 else 0
  let sev := newSev || (b.severe && decide (clrSev < 16))
  let byStep := b.byStep || (stepSet && !b.anom)
  let low := if byStep then decide (100 * z ≤ zb * 105 ∧ zb * 95 ≤ 100 * z) else !isOver (anom - 5)
  let clr := if b.anom && !b.severe && low then b.clr + 1 else 0
  let an := decide (3 ≤ run) || stepSet || newSev || (b.anom && decide (clr < 16)) || sev
  { b with
    znow := min 65535 z, run := run, runSev := runSev, prev := some z
    cand := if stepNow then b.prev else none
    anom := an, severe := sev, byStep := byStep && an
    clr := if an then clr else 0, clrSev := if sev then clrSev else 0 }

/-- One bond group's measurement (R137 to R139): the mean of V_foot - V_sns in 1/64 µV and the mean I_dom in 1/64 A. -/
def effBondMeasurement (g : Fin 1232) (dv i : Int) (s : State) : State :=
  let d := bondDom g.val
  let b := s.bond.get g
  if (s.shr.nth d).sweepBond ∧ domSt s d = .on then
    let s := if g.val + 1 = firstBond d + nbond d then modShr s d fun r => { r with sweepBond := false } else s
    if (rating d 0).1 ≤ 4 * i ∧ (s.sns.nth (bondSns g.val)).excl = false ∧ b.zbase ≠ 0 then
      let z := satU16 (rdiv ((dv - sensedV s (bondSns g.val) 0 * v16u) * nbond d) i.toNat)
      let b' := bondNext b z s.gln.anom (max s.gln.severe (s.gln.anom + 10)) s.gln.step
      let s := { s with bond := s.bond.set g b' }
      let f := fBond s d
      let s := modShr s d fun r => { r with fbond := f, trisk := triskOf r.ladder f r.trisk }
      let s := if b'.anom && !b.anom then raise s bSHF 6 (0x2000 + g.val) else s
      if b'.severe && !b.severe then raise s bSHF 7 (0x2000 + g.val) else s
    else s
  else s

def execBondMeasurement (g : Fin 1232) (dv i : Int) (s : State) : Out := live s (effBondMeasurement g dv i)

end Sys2Proof.Machine
end

