-- ==== Sys2Proof/Machine/Notice.lean ====
section
/-! DEFINITION. Notice records from the port and from NOTE, coverage, arrivals, and the start gate (R153 to R166). -/

namespace Sys2Proof.Machine

/-- Fields of a notice-port record (R155). -/
def recKind (w : Word64) : Nat := bits w.toNat 60 4
def recSrc (w : Word64) : Nat := bits w.toNat 54 6
def recDom (w : Word64) : Nat := bits w.toNat 47 7
def recRes (w : Word64) : Nat := bits w.toNat 40 7
def recDi (w : Word64) : Nat := bits w.toNat 24 16
def recEbeat (w : Word64) : Nat := bits w.toNat 0 24

/-- The domains that core `c` may name (R156). -/
def coreMayName (c d : Nat) : Bool :=
  let k := c / 8
  decide (d = c ∨ d = 64 + k ∨ d = 72 + 2 * k ∨ d = 73 + 2 * k)

/-- The check of R156: the record, or none when it is dropped. DEDUCED, log 40. -/
def portCheck (s : State) (kind : Nat) (w : Word64) : Option NRec :=
  let d := recDom w
  let src := recSrc w
  if recKind w ≠ kind ∨ recRes w ≠ 0 then none
  else match kind with
    | 1 =>
      if coreMayName src d ∧ s.ntc.npen.getLsbD d ∧ present s d then some (.step src d (signExt 16 (recDi w)) (recEbeat w))
      else none
    | 2 =>
      if recDi w = 0 ∧ coreMayName src d ∧ s.ntc.npen.getLsbD d ∧ present s d then some (.cancel src d (recEbeat w)) else none
    | 3 => if d = 0 ∧ recEbeat w = 0 ∧ present s src then some (.arrive src (recDi w)) else none
    | _ => none

/-- SEQ_NDROP.FULL and NOTE_DROP (R157). -/
def dropFull (s : State) : State :=
  raise { s with ntc := { s.ntc with full := s.ntc.full.inc 65535 } } bSEQ 4 subjDie

/-- DEDUCED, log 40. -/
def dropBad (s : State) : State := { s with ntc := { s.ntc with bad := s.ntc.bad.inc 65535 } }

/-- The port takes one record in: checked, then queued if the queue has room (R156, R157). -/
def portTakeOne (s : State) (x : Nat × Word64) : State :=
  match portCheck s x.1 x.2 with
  | none => dropBad s
  | some r =>
    if 64 ≤ s.ntc.queue.length then dropFull s
    else { s with ntc := { s.ntc with queue := s.ntc.queue ++ [(s.time.beat, r)] } }

/-- Puts a record behind those with its SRC or a lower one. DEDUCED, log 125. -/
def srcInsert (x : Nat × Word64) : List (Nat × Word64) → List (Nat × Word64)
  | [] => [x]
  | y :: ys => if recSrc x.2 < recSrc y.2 then x :: y :: ys else y :: srcInsert x ys

/-- At the end of a beat the port takes in eight of its records in ascending SRC order and drops the others (R157).
DEDUCED, log 125. -/
def portTake (s : State) : State :=
  let rs := s.ntc.inBuf.foldl (fun l x => srcInsert x l) []
  let s := { s with ntc := { s.ntc with inBuf := [] } }
  (rs.drop 8).foldl (fun s _ => dropFull s) ((rs.take 8).foldl portTakeOne s)

/-- A record reaches the port (R155, R157). DEDUCED, log 125. -/
def portIn (kind : Nat) (w : Word64) (s : State) : State :=
  { s with ntc := { s.ntc with inBuf := s.ntc.inBuf ++ [(kind, w)] } }

def execStep (w : Word64) (s : State) : Out := live s (portIn 1 w)
def execCancel (w : Word64) (s : State) : Out := live s (portIn 2 w)
def execArrive (w : Word64) (s : State) : Out := live s (portIn 3 w)

/-- The effect beat that an EBEAT names near acceptance beat `acc` (R158). -/
def extendEbeat (acc eb : Nat) : Nat :=
  let base : Int := ((acc / 2 ^ 24 * 2 ^ 24 + eb : Nat) : Int)
  let e := if (acc : Int) + 2 ^ 23 ≤ base then base - 2 ^ 24 else if base < (acc : Int) - 2 ^ 23 then base + 2 ^ 24 else base
  e.toNat

/-- The bit of core `c`. -/
def coreBit (c : Nat) : Word64 := (1 : Word64) <<< c

/-- SEQ_ARRSLACK, signed and saturating: compiled end + slack - A (R154). -/
def arrSlackOf (cend slack a : Nat) : Int := satI32 ((cend : Int) + slack - a)

/-- An ARRIVE at its acceptance beat (R154). -/
def arriveAt (s : State) (core id : Nat) : State :=
  let g := s.seg
  let inOpen := g.opened && decide (g.segid = id)
  let inClosed := g.hasClosed && decide (g.cId = id) && !(inOpen && g.arrClosed.getLsbD core)
  if inClosed then
    let s := { s with seg := { g with arrClosed := g.arrClosed ||| coreBit core } }
    if g.cOn.getLsbD core then
      { s with seg := { s.seg with arrBeat := s.time.beat, arrSlack := arrSlackOf g.cEnd g.cSlack s.time.beat } }
    else s
  else if inOpen then
    { s with seg := { g with arrOpen := g.arrOpen ||| coreBit core, openArr := g.openArr ++ [(core, s.time.beat)] } }
  else dropBad s

/-- The queue releases its oldest record, at most eight a beat and not in the beat it entered (R157). -/
def effNoticeQueueRelease (s : State) : State :=
  let n := if s.ntc.outBeat = s.time.beat then s.ntc.outN else 0
  match s.ntc.queue with
  | [] => s
  | (b, r) :: rest =>
    if b < s.time.beat ∧ n < 8 then
      let s := { s with ntc := { s.ntc with queue := rest, outBeat := s.time.beat, outN := n + 1 } }
      match r with
      | .arrive c id => arriveAt s c id
      | r => { s with ntc := { s.ntc with flight := s.ntc.flight ++ [⟨s.time.beat + 4, s.time.beat, r⟩] } }
    else s

def execNoticeQueueRelease (s : State) : Out := live s effNoticeQueueRelease

/-- Start beat of a pre-lift term (R96): never earlier than the arrival. -/
def termStart (s : State) (d : Nat) (p : Int) (e r : Nat) : Nat :=
  if 0 < p then max r (e - ceilDiv p.toNat (rateBeat { s.sp.nth d with code := 0, quarter := false } 1).toNat) else max r e

/-- Adds a contribution to the domain's pending effect beat `e` at arrival beat `r` (R96, R159): no part of a term where the
domain is not ON, in hold, or past E + H_pl, and nothing for the sheaf in hold (R90, R158, R165). -/
def pendAdd (s : State) (d e r : Nat) (c : Contr) : State :=
  let held := decide (d < 93) && (s.shf.nth d).hold
  let old := pendAt s d e
  let leave := match old with
    | some p => leaveBeat s d p
    | none => e + (s.sp.nth d).plhold
  let dead := held || domSt s d ≠ .on || d = 92 || decide (leave ≤ r)
  let c := { c with p := if dead then 0 else c.p, act := !held }
  let s := match old with
    | some _ => modPend s d e fun p =>
        let q := { p with cs := p.cs ++ [c] }
        { q with
          start := if c.p = 0 then p.start else termStart s d (termSum q) e r
          arr := if held then p.arr else r
          restored := p.restored && !(c.act && decide (0 < c.dI)) }
    | none => modNd s d fun n => { n with pend := n.pend ++ [⟨e, r, [c], termStart s d c.p e r, leave, false, false⟩] }
  match pendAt s d e with
  | some p => if p.entered then retarget s d false else s
  | none => s

/-- A STEP record or NOTE that reaches its domain at beat `r` (R158, R159). `src` is none for a NOTE, which `exempt` frees
from the horizon and from being stale (R238). One that is dropped announces nothing (R161); a late one needs one of the eight slots even
when E + H_pl is past. DEDUCED, log 140; DESIGN CHOICE, log 158. -/
def stepArrive (s : State) (src : Option Nat) (d : Nat) (dI : Int) (e r : Nat) (exempt : Bool) : State :=
  if r + s.ntc.horizon < e ∧ exempt = false then dropBad s
  else if e + s.ntc.latewin < r ∧ exempt = false then { s with ntc := { s.ntc with stale := s.ntc.stale.inc 65535 } }
  else if (pendAt s d e).isNone ∧ 8 ≤ (s.nd.nth d).pend.length then dropBad s
  else
    let s := { s with ntc := { s.ntc with
      acc := s.ntc.acc + 1
      late := if e < r then s.ntc.late.inc 65535 else s.ntc.late } }
    let s := modNd s d fun n => { n with effs := ⟨e, src, dI⟩ :: n.effs }
    pendAdd s d e r ⟨src, dI, zllOf s d * dI, true, false⟩

/-- A CANCEL that reaches its domain (R160). -/
def cancelArrive (s : State) (src d e r : Nat) : State :=
  match pendAt s d e with
  | none => dropBad s
  | some p =>
    if p.cs.any fun c => c.src = some src then
      let q := { p with cs := p.cs.filter fun c => c.src ≠ some src }
      let q := if termSum q = termSum p then q else { q with start := termStart s d (termSum q) e r }
      let q := { q with entered := p.entered && decide (termSum q ≠ 0) }
      let s := modNd s d fun n => { n with effs := n.effs.filter fun x => ¬ (x.eff = e ∧ x.src = some src) }
      let s := if q.cs = [] then modNd s d fun n => { n with pend := n.pend.filter fun x => x.eff ≠ e }
               else modPend s d e fun _ => q
      if p.entered then retarget s d false else s
    else dropBad s

/-- The oldest accepted record reaches its sheaf and the set-point logic, four beats after its acceptance (R157). -/
def effNoticeArrival (s : State) : State :=
  match s.ntc.flight with
  | [] => s
  | f :: rest =>
    if f.arr ≤ s.time.beat then
      let s := { s with ntc := { s.ntc with flight := rest } }
      match f.r with
      | .step src d dI eb => stepArrive s (some src) d dI (extendEbeat f.acc eb) f.arr false
      | .cancel src d eb => cancelArrive s src d (extendEbeat f.acc eb) f.arr
      | .arrive _ _ => s
    else s

def execNoticeArrival (s : State) : Out := live s effNoticeArrival

/-- A reset of the sequencer or a REFCLK loss discards queued and accepted records (R165). -/
def discardNotice (s : State) (pending : Bool) : State :=
  let n := s.ntc.inBuf.length + s.ntc.queue.length + s.ntc.flight.length
  let s := { s with ntc := { s.ntc with inBuf := [], queue := [], flight := [], full := s.ntc.full.add 65535 n } }
  if pending then retargetAll { s with nd := s.nd.map fun n => { n with pend := [] } } else s

-- Coverage.

/-- A notice source: an armed lane owns the domain, or its port bit is set (R161). -/
def noticeSource (s : State) (d : Nat) : Bool :=
  s.ntc.npen.getLsbD d || s.lane.data.any fun l => laneOn l && l.mask.getLsbD d

/-- The summed steps of the merged records, each saturating in I16 (R159, R161). -/
def mergedSum (es : List EffRec) : Int :=
  sumList ((es.map (·.eff)).eraseDups.map fun e => satI16 (sumList ((es.filter (·.eff = e)).map (·.dI))))

/-- Evaluates coverage of one domain at the end of a measurement window w + 1: its unannounced step, and the contradiction of
window w, which belongs to that window (R161, R162). -/
def covEval (s : State) (d : Nat) : State :=
  let n := s.nd.nth d
  let x := s.dom.nth d
  let now := s.time.beat
  let th : Int := 32 * s.ntc.stepth
  let inWin := fun (lo hi : Nat) => n.effs.filter fun e => lo ≤ e.eff + 200 ∧ e.eff + 200 < hi
  let un := decide (n.i1 + th < x.ipk) && (inWin now (now + 200)).isEmpty
  let sum := mergedSum (inWin now (now + 100))
  let ct := decide (th ≤ sum.natAbs) && decide (max th (sum.natAbs / 2 : Nat) < (x.i - n.i2 - sum).natAbs)
  let eval := domSt s d = .on && noticeSource s d
  let before := match n.wins with
    | w :: ws => if n.prevEval then { w with ct := ct } :: ws else n.wins
    | [] => []
  let wins := if eval then (⟨un, false⟩ :: before).take 16 else n.wins
  let cov := eval && wins.all (fun w => !w.un) && decide ((wins.filter (·.ct)).length < 4)
  let s := modNd s d fun n => { n with
    wins := wins, cov := cov, prevEval := eval, i1 := x.i, i2 := n.i1
    unann := if eval && un then n.unann.inc 255 else n.unann
    contra := if eval && ct then n.contra.inc 255 else n.contra
    effs := n.effs.filter fun e => now ≤ e.eff + 300 }
  if n.cov && !cov then raise s bSEQ 3 (subjD d) else s

-- The start gate.

/-- Start index of engine `e` of core `d` (R164). -/
def startIndex (d e : Nat) : Nat := 64 * e + 16 * (d % 4) + d / 4

/-- Core of a start index. -/
def startCore (q : Nat) : Nat := q % 64 / 16 + 4 * (q % 16)

/-- The cores whose CO domain is ON. -/
def coresOn (s : State) : Word64 :=
  (List.range 64).foldl (fun m c => if domSt s c = .on then m ||| coreBit c else m) 0

/-- The last beat after a release's slots (R164). -/
def relEnd (r : Release) : Nat := r.base + 256 / max 1 r.rate

/-- The host presents a barrier release (R164, R165): its slots follow those of a release still granting. -/
def effBarrierRelease (s : State) : State :=
  let base := (s.sg.rels.map relEnd).foldl max s.time.beat
  { s with sg := { s.sg with rels := s.sg.rels ++ [⟨base, s.sg.rate, coresOn s, []⟩] } }

def execBarrierRelease (s : State) : Out := live s effBarrierRelease

/-- An engine asks to start (R163). -/
def execEngineStartRequest (c : Fin 64) (e : Fin 4) (s : State) : Out := live s fun s =>
  { s with sg := { s.sg with waiting := s.sg.waiting ++ [⟨s.time.beat, startIndex c.val e.val⟩] } }

/-- The release that governs start index `q` in Exact mode, if any. DEDUCED, log 39. -/
def relOf (s : State) (q : Nat) : Option Release :=
  if exactOn s then s.sg.rels.find? fun r => r.on.getLsbD (startCore q) && !r.done.contains q else none

/-- RATE in force: that of the release still granting, else the register's (R163, R165). -/
def rateNow (s : State) : Nat := (s.sg.rels.head?.map (·.rate)).getD s.sg.rate

/-- Whether a waiting request may be granted in this beat under the limits of R163 and its slot of R164.
DEDUCED, log 39. -/
def mayGrant (s : State) (w : WaitEng) : Bool :=
  let now := s.time.beat
  let core := startCore w.q
  let free := decide ((s.sg.grants.filter fun g => g.1 = now).length < rateNow s)
    && s.sg.grants.all fun g => decide (¬ (g.2 = core ∧ now < g.1 + 2))
  match relOf s w.q with
  | some r => free && decide (r.base + w.q / max 1 r.rate ≤ now)
  | none => free

/-- Request order, ties in ascending q (R164). -/
def waitsBefore (a b : WaitEng) : Bool := decide (a.req < b.req ∨ (a.req = b.req ∧ a.q < b.q))

/-- The start gate grants an engine's start (R163, R164). -/
def effEngineStartGrant (c : Fin 64) (e : Fin 4) (s : State) : State :=
  let q := startIndex c.val e.val
  match s.sg.waiting.find? fun w => w.q = q with
  | none => s
  | some w =>
    let first := (relOf s q).isSome || s.sg.waiting.all fun x => !(waitsBefore x w && mayGrant s x && (relOf s x.q).isNone)
    if mayGrant s w && first then
      let rel := relOf s q
      { s with sg := { s.sg with
          waiting := s.sg.waiting.erase w
          grants := (s.time.beat, c.val) :: s.sg.grants.filter fun g => s.time.beat < g.1 + 2
          rels := s.sg.rels.map fun r => if rel = some r then { r with done := q :: r.done } else r } }
    else s

def execEngineStartGrant (c : Fin 64) (e : Fin 4) (s : State) : Out := live s (effEngineStartGrant c e)

-- Clears of R166.

def execSeqTstatClrcnt (s : State) : Out := bus s fun s => { s with time := { s.time with slips := .zero } }

def execSeqNstatClrcnt (s : State) : Out := bus s fun s =>
  { s with ntc := { s.ntc with late := .zero, stale := .zero, bad := .zero, full := .zero } }

def execSeqNdomClrcnt (d : Fin 128) (s : State) : Out := bus s fun s =>
  modNd s d.val fun n => { n with unann := .zero, contra := .zero }

end Sys2Proof.Machine
end

