-- ==== Sys2Proof/Machine/Operands.lean ====
section
/-! DEFINITION. The fields of an instruction word and its forms A, B and C (R219, R221, R224, R225), the opcodes (R228), and
the check of operands at issue (R222, R223, R227, R234 to R263). A word is a natural number below 2^64. -/

namespace Sys2Proof.Machine

-- The word (R219).
def opc (w : Nat) : Nat := bits w 58 6
def psense (w : Nat) : Bool := bitOf w 57
def predOf (w : Nat) : Nat := bits w 54 3
def modf (w : Nat) : Nat := bits w 48 6

-- Form A (R221).
def fDom (w : Nat) : Nat := bits w 40 8
def fVal (w : Nat) : Nat := bits w 24 16
def fAux8 (w : Nat) : Nat := bits w 16 8
def fAux16 (w : Nat) : Nat := bits w 0 16
def fSet (w : Nat) : Nat := bits w 48 2
def fVreg (w : Nat) : Bool := bitOf w 50

-- Form B (R224).
def fVd (w : Nat) : Nat := bits w 44 4
def fVa (w : Nat) : Nat := bits w 40 4
def fVb (w : Nat) : Nat := bits w 36 4
def fAux4 (w : Nat) : Nat := bits w 32 4
def fImm (w : Nat) : Nat := bits w 0 32
def fImmSel (w : Nat) : Bool := bitOf w 53

-- Form C (R225).
def fBsel (w : Nat) : Nat := bits w 46 2
def fOff (w : Nat) : Nat := bits w 0 46
def fRel (w : Nat) : Bool := bitOf w 48

/-- The defined opcodes (R228). -/
def definedOp (o : Nat) : Bool :=
  decide (o ≤ 0x05 ∨ (0x08 ≤ o ∧ o ≤ 0x12) ∨ o = 0x14 ∨ (0x18 ≤ o ∧ o ≤ 0x1E) ∨ (0x20 ≤ o ∧ o ≤ 0x23)
    ∨ (0x28 ≤ o ∧ o ≤ 0x2A) ∨ o = 0x30 ∨ o = 0x31 ∨ (0x38 ≤ o ∧ o ≤ 0x3C))

/-- The opcodes that only the command window takes. -/
def commandOnly (o : Nat) : Bool := decide (0x38 ≤ o ∧ o ≤ 0x3C)

/-- The opcodes that need a lane's flow, and the undefined ones: the window answers OPCODE (R207). -/
def windowRefuses (o : Nat) : Bool :=
  !definedOp o || decide ((1 ≤ o ∧ o ≤ 4) ∨ (0x20 ≤ o ∧ o ≤ 0x23) ∨ o = 0x29)

/-- An actuation (R189). -/
def isActuation (o : Nat) : Bool := decide (0x08 ≤ o ∧ o ≤ 0x12)

/-- A domain-targeted action of this word: the group 0x08 to 0x0E, and CAP with kind 0 (R228, R244). -/
def domTargeted (w : Nat) : Bool := decide ((0x08 ≤ opc w ∧ opc w ≤ 0x0E) ∨ (opc w = 0x10 ∧ fAux8 w = 0))

/-- VREG is permitted (R235, R244). -/
def vregOk (w : Nat) : Bool :=
  decide (opc w = 0x08 ∨ opc w = 0x09 ∨ opc w = 0x0A ∨ opc w = 0x0B ∨ opc w = 0x0E ∨ opc w = 0x10)

/-- The range of VALUE, for the opcodes whose VALUE may come from a register (R223, R235, R244). -/
def valueOk (w v : Nat) : Bool :=
  match opc w with
  | 0x08 => decide (0x690 ≤ v ∧ v ≤ 0x1388)
  | 0x09 => decide (v ≤ 2000)
  | 0x0B => decide (v ≤ 15)
  | 0x10 =>
    match fAux8 w with
    | 0 => decide (0x10 ≤ v ∧ v ≤ 0x900)
    | 1 => decide (0x10 ≤ v ∧ v ≤ 0x47E0)
    | 2 => decide (0x190 ≤ v ∧ v ≤ 0xE10)
    | _ => decide (1 ≤ v ∧ v ≤ 30)
  | _ => true

/-- The target of a Form A action with a domain or a set (R221, R222). -/
def domainOk (w : Nat) : Bool :=
  let d := fDom w
  if d = 0xFF then true else decide (fSet w = 0) && decide (d < 128) && decide (typ d ≠ .none)

/-- The die as target, with SET zero (R221, R222). -/
def dieOk (w : Nat) : Bool := decide (fDom w = 0xFE ∧ fSet w = 0)

/-- VREG and the reserved bits of MOD (R221, R223), and VALUE's range unless a register gives it. -/
def modVal (w : Nat) : Bool :=
  decide (modf w < 8) &&
    (if fVreg w then vregOk w && decide (fVal w < 16) else valueOk w (fVal w))

/-- The priority order names three different classes (R246). -/
def prioOk (v : Nat) : Bool :=
  let a := bits v 0 2
  let b := bits v 2 2
  let c := bits v 4 2
  decide (v < 64 ∧ a ≠ 0 ∧ b ≠ 0 ∧ c ≠ 0 ∧ a ≠ b ∧ a ≠ c ∧ b ≠ c)

/-- The check of Form A operands by opcode (R235 to R247, R256 to R263). OVLY's slot tests are apart. -/
def formA (inLane : Bool) (w : Nat) : Bool :=
  let v := fVal w
  let a8 := fAux8 w
  let a16 := fAux16 w
  let die := dieOk w && decide (modf w = 0)
  match opc w with
  | 0x08 => domainOk w && modVal w && decide (a8 ≤ 40 ∧ a16 = 0)
  | 0x09 => domainOk w && modVal w && decide (a8 = 0 ∧ a16 = 0)
  | 0x0A => domainOk w && modVal w && decide (a8 = 0 ∧ 4 ≤ a16)
  | 0x0B => domainOk w && modVal w && decide (a8 = 0 ∧ a16 = 0)
  | 0x0C => domainOk w && modVal w && decide (v = 0 ∧ a8 < 4 ∧ a16 = 0)
  | 0x0D => domainOk w && modVal w && decide (v = 0 ∧ (a8 = 0 ∨ a8 = 2))
  | 0x0E => domainOk w && modVal w && decide (a8 < 4 ∧ a16 = 0)
  | 0x0F => die && decide ((v = 1 ∨ v = 2 ∨ v = 4 ∨ v = 8 ∨ v = 16) ∧ a8 = 0 ∧ a16 = 0)
  | 0x10 => decide (a8 < 4 ∧ a16 = 0) && (if a8 = 0 then domainOk w else dieOk w) && modVal w
  | 0x11 => die && decide ((v < 16 ∨ v = 0xFFFF) ∧ a8 = 0 ∧ a16 = 0)
  | 0x12 => die && prioOk v && decide (a8 = 0 ∧ a16 = 0)
  | 0x14 => die && decide (a8 < 3 ∧ a16 = 0 ∧ (a8 = 2 ∨ v = 0))
  | 0x2A => die && decide (v < 3 ∧ a8 = 0 ∧ a16 = 0) && !(inLane && decide (v = 2))
  | 0x30 => die && decide (v = 0 ∧ a8 < 2 ∧ a16 = 0)
  | 0x38 => die && decide (a16 = 0 ∧ ((a8 = 0 ∧ v < 10) ∨ (a8 = 1 ∧ v = 0)))
  | 0x39 => die && decide (a16 = 0 ∧ ((a8 < 4 ∧ v = 0) ∨ (a8 = 4 ∧ v < 16) ∨ (a8 = 5 ∧ v < 2)))
  | 0x3A => die && decide (v = 0 ∧ a8 = 0 ∧ a16 = 0)
  | 0x3B => die && decide (v = 0 ∧ a8 = 0 ∧ a16 = 0)
  | 0x3C => die && decide (v < 5 ∧ a8 = 0 ∧ a16 = 0)
  | _ => true

/-- The check of Form B operands by opcode (R234, R248 to R255). `l` is the issuing lane, for BAR. -/
def formB (l : Option Nat) (w : Nat) : Bool :=
  let m5 := decide (modf w % 32 = 0)
  match opc w with
  | 0x04 => decide (modf w < 2)
  | 0x18 => decide (fVb w = 0 ∧ fAux4 w = 0 ∧ modf w < 2 ∧ (modf w = 0 ∨ (fVd w < 4 ∧ fVa w < 4)))
  | 0x19 | 0x1A | 0x1B | 0x1C | 0x1D => m5 && decide (fAux4 w = 0)
  | 0x1E => m5 && decide (fAux4 w < 8 ∧ fVd w < 8)
  | 0x20 | 0x21 => decide (fVd w = 0 ∧ fVa w = 0 ∧ fVb w = 0 ∧ fAux4 w = 0 ∧ modf w = 0)
  | 0x22 => decide (modf w = 0 ∧ bits w 0 48 = 0)
  | 0x23 => decide (fVa w = 0 ∧ fVb w = 0 ∧ fAux4 w = 0 ∧ modf w = 0)
  | 0x28 => decide (modf w = 0 ∧ fAux4 w = 0 ∧ fImm w = 0 ∧ fVd w < 8)
  | 0x29 => decide (modf w = 0 ∧ fVd w = 0 ∧ fVa w = 0 ∧ fVb w = 0 ∧ fAux4 w = 0 ∧ fImm w < 65536)
      && (match l with
        | some l => bitOf (fImm w) l
        | none => true)
  | _ => true

/-- The check of Form C and of the words that must be all zero (R225, R230, R258). -/
def formC (w : Nat) : Bool :=
  match opc w with
  | 0x01 | 0x31 => decide (modf w = 0 ∧ bits w 0 48 = 0)
  | 0x02 | 0x03 | 0x05 => decide (modf w < 2)
  | _ => true

/-- The check at issue (R227) but for the slot tests of OVLY and the target test of BANK. -/
def operandsOk (l : Option Nat) (w : Nat) : Bool := formA l.isSome w && formB l w && formC w

end Sys2Proof.Machine
end

