-- ==== Sys2Proof/Machine/Estimator.lean ====
section
/-! DEFINITION. The activity estimator: features, arithmetic, application, monitor, weight images (R168 to R186). -/

namespace Sys2Proof.Machine

/-- Class of a domain (R170). -/
def estClass (d : Nat) : Nat :=
  match typ d with
  | .co => 0 | .cl => 1 | .ma | .aon => 2 | _ => 3

def byteN (l : List Byte) (i : Nat) : Nat := (l.getD i 0).toNat
def byteI (l : List Byte) (i : Nat) : Int := signExt 8 (byteN l i)

/-- Class section `c` of a weight image (R179). -/
def estSection (img : List Byte) (c : Nat) : List Byte := (img.drop (64 + 512 * c)).take 512

/-- A saturating dot product over pairs, from `acc` (R172). -/
def macs (acc : Int) : List Byte → List Nat → Int
  | w :: ws, x :: xs => macs (satI32 (acc + signExt 8 w.toNat * x)) ws xs
  | _, _ => acc

/-- The arithmetic of R172 on one class section: the estimate, and whether y or the estimate saturated. -/
def estEval (sec : List Byte) (gain offset : Int) (raw : List Nat) : Int × Bool :=
  let x := upTo 24 fun i => min 255 (raw.getD i 0 >>> byteN sec i)
  let s1 := byteN sec 24
  let s2 := byteN sec 25
  let h := upTo 16 fun j =>
    (clampInt 0 255 (rshift (macs (signExt 32 (le32 sec (48 + 4 * j))) ((sec.drop (112 + 24 * j)).take 24) x) s1)).toNat
  let y0 := rshift (macs (signExt 32 (le32 sec 44)) ((sec.drop 28).take 16) h) s2
  let y := satI16 y0
  let raw' := satI16 (y * 2 ^ byteN sec 26)
  let e0 := rshift (raw' * (32768 + gain)) 15 + offset
  (satI16 e0, decide (y ≠ y0) || decide (satI16 e0 ≠ e0))

/-- A pending effect beat of the domain lies in `n` beats from `a`. -/
def pendIn (s : State) (d a n : Nat) : Bool := (s.nd.nth d).pend.any fun p => decide (a ≤ p.eff ∧ p.eff < a + n)

/-- Raw features of a domain at the latch (R171): counters from the host (slots 0 to 12), the 64-byte lines
read and written (slots 13 and 14), and what Meser knows itself. A slot that the tables do not name reads zero.
DEDUCED, log 38. -/
def features (s : State) (d : Nat) (host : List Nat) (lines : Nat × Nat) : List Nat :=
  upTo 24 fun i =>
    let h := if i = 13 then lines.1 else if i = 14 then lines.2 else host.getD i 0
    let notice := if pendIn s d s.time.beat 128 then 255 else 0
    let op := 16 * (s.sp.nth d).opeff
    match typ d with
    | .co => if i < 15 then h else if i = 15 then notice else if i = 16 then op else 0
    | .cl =>
      if i < 4 ∨ i = 13 ∨ i = 14 then h
      else if i = 12 then 31 * ((List.range 8).filter fun j => domSt s (8 * ord d + j) = .on).length
      else if i = 15 then notice else if i = 16 then op else 0
    | .ma =>
      if i = 13 ∨ i = 14 then h else if i = 15 then notice else if i = 16 then op
      else if i = 17 then 3 * ((List.range 64).filter fun b => !(s.bank.nth (ord d)).gated.getLsbD b).length
      else 0
    | .aon => if i = 13 ∨ i = 14 then h else if i = 16 then op else 0
    | _ => if i < 4 then h else if i = 15 then notice else if i = 16 then op else 0

def sheafIdx : List Nat := upTo 93 id

/-- The order of evaluation: class by class, AON the last of the array class (R168, R170). -/
def estOrder : List Nat := upTo 88 id ++ [92, 88, 89, 90, 91]

/-- A domain becomes distrusted (R177); its good run starts again. -/
def distrustDom (s : State) (d : Nat) : State :=
  if (s.estd.nth d).distrust then s
  else
    let s := { s with est := { s.est with distr := s.est.distr.inc 65535 } }
    let s := modEstd s d fun e => { e with distrust := true, good := 0, term := none, wit := [] }
    retarget (raise s bEST 0 (subjD d)) d false

/-- A domain becomes trusted (R177). -/
def trustDom (s : State) (d : Nat) : State :=
  retarget (modEstd s d fun e => { e with distrust := false, trustAt := s.time.beat }) d false

/-- The latch that first uses an accepted image (R181), with every domain distrusted from it on (R177).
DEDUCED, log 38. -/
def switchWeights (s : State) : State :=
  match (s.est.next.filter fun x => decide (x.2 ≤ s.time.beat)).getLast? with
  | some (img, _) =>
    estOrder.foldl distrustDom { s with
      est := { s.est with
        img := some img, digest := (img.drop 32).take 32
        next := s.est.next.filter fun x => decide (s.time.beat < x.2) }
      setrec := { s.setrec with busy := true, pkgvalid := false } }
  | none => s

/-- No slip, freeze, mode change or reset interrupted the estimator window that starts at beat `b` (R151, R183). -/
def estWhole (s : State) (b : Nat) : Bool := wholeWin s b 64 && decide (s.est.wholeFrom ≤ b)

/-- The evaluation of one domain (R171, R172): without an image the estimate is zero (R184). -/
def estDom (s : State) (d : Nat) (host : List Nat) (lines : Nat × Nat) : Int × Bool :=
  let e := s.estd.nth d
  match s.est.img with
  | some img =>
    estEval (estSection img (estClass d)) e.gain e.offset (if e.wasAny then features s d host lines else [])
  | none => (0, false)

/-- EST_STAT.NDISTR counts the distrusted domains, at each latch and comparison (R177, R185). DEDUCED, log 93. -/
def countDistrust (s : State) : State :=
  { s with est := { s.est with
    ndistr := (sheafIdx.filter fun d => present s d && (s.estd.nth d).distrust).length } }

/-- The latch of window k at beat 64(k+1), with its evaluation (R168, R171, R181). An interrupted window is discarded, and a
second latch of a window changes nothing. DEDUCED, log 38, 93, 120. -/
def effEstimatorLatch (raw : List (List Nat)) (lines : List (Nat × Nat)) (s : State) : State :=
  if s.time.beat % 64 = 0 ∧ 64 ≤ s.time.beat then
    let s := countDistrust (switchWeights s)
    let k := s.time.beat / 64 - 1
    if estWhole s (64 * k) && s.est.wins.all (fun w => decide (w.k ≠ k)) then
      let res := sheafIdx.map fun d => estDom s d (raw.getD d []) (lines.getD d (0, 0))
      let sat := estOrder.filter fun d => (res.getD d (0, false)).2
      let win := sheafIdx.map fun d => (⟨(res.getD d (0, false)).1, s.est.img.isSome, (s.estd.nth d).wasAll⟩ : EstRes)
      let s := { s with est := { s.est with
        wins := (⟨k, win⟩ :: s.est.wins).take 4, sats := s.est.sats.add 65535 sat.length } }
      sat.foldl (fun s d => raise s bEST 2 (subjD d)) s
    else s
  else s

def execEstimatorLatch (raw : List (List Nat)) (lines : List (Nat × Nat)) (s : State) : Out :=
  live s (effEstimatorLatch raw lines)

/-- The evaluated window number `k`. -/
def winAt (s : State) (k : Nat) : Option EWin := s.est.wins.find? fun w => w.k = k

/-- I_w(k) of a window that has just closed or is the one before (R169). -/
def iwOf (e : EstD) (k : Nat) : Int := if e.iwK = k then estMean e else if e.iwK = k + 1 then e.iwWas else 0

/-- A window is bad for its class (R176). -/
def estBad (s : State) (d : Nat) (est iw : Int) : Bool :=
  let c := estClass d
  decide (max (1600 * cfg s 0x30 c) (cfg s 0x31 c * iw.natAbs) < 100 * (est - iw).natAbs)

/-- The monitor on one domain, for the windows k and k + 2 (R176, R177). A window evaluated without an image is skipped.
DEDUCED, log 141. -/
def compareDom (w : EWin) (s : State) (d : Nat) : State :=
  let r := w.res.getD d default
  let e := s.estd.nth d
  if present s d && r.whole && e.wasAll && r.loaded then
    if estBad s d r.est (iwOf e (w.k + 2)) then
      let s := modEstd s d fun e => { e with bad := min 255 (e.bad + 1), good := 0 }
      if cfg s 0x0B 0 ≤ (s.estd.nth d).bad then distrustDom s d else s
    else
      let s := modEstd s d fun e => { e with bad := 0, good := min 4095 (e.good + 1) }
      if (s.estd.nth d).distrust && decide (cfg s 0x0C 0 ≤ (s.estd.nth d).good) then trustDom s d else s
  else s

/-- The comparison beat of window k, 64(k+3), once (R168, R176). -/
def effEstimatorCompare (s : State) : State :=
  let k := s.time.beat / 64 - 3
  if s.time.beat % 64 = 0 ∧ 192 ≤ s.time.beat ∧ s.est.cmpAt ≠ s.time.beat then
    let s := switchWeights s
    let s := { s with est := { s.est with cmpAt := s.time.beat } }
    match winAt s k with
    | some w => countDistrust (if estWhole s (64 * (k + 2)) then estOrder.foldl (compareDom w) s else s)
    | none => countDistrust s
  else s

def execEstimatorCompare (s : State) : Out := live s effEstimatorCompare

/-- A LOADPLAN with the mode target that acts at the present beat sets Exact mode (R183, R260). -/
def exactComes (s : State) : Bool :=
  !armed s && s.acts.any fun a => decide (a.due ≤ s.time.beat ∧ opc a.word = 0x39 ∧ 5 ≤ fAux8 a.word) && bitOf (fVal a.word) 0

/-- The uses of R174 are open to a domain. -/
def estUsable (s : State) (d : Nat) : Bool := isOn s d && s.est.img.isSome && !exactOn s && !exactComes s

/-- The estimator term that a domain takes at application beat `a`, in 1/64 µV (R175). -/
def estTerm (s : State) (d a : Nat) (est : Int) : Option Int :=
  let e := s.estd.nth d
  let dI := min (est - iwOf e (a / 64 - 1)) (s.dom.nth d).ipeak
  if estUsable s d && !e.distrust && !(s.nd.nth d).cov && s.est.ffEn && decide (d ≠ 92) && !pendIn s d a 64
      && estWhole s (a - 64) && decide ((16 * cfg s 0x32 (estClass d) : Int) ≤ dI) then
    some (zllOf s d * dI)
  else none

/-- Application beat `a` on one domain, with its result of window k (R174, R175, R184). -/
def applyDom (a : Nat) (w : Option EWin) (s : State) (d : Nat) : State :=
  let was := s.estd.nth d
  let new := match w with
    | some w => estTerm s d a (w.res.getD d default).est
    | none => none
  let use := estUsable s d
  let s := match w with
    | some w =>
      let r := w.res.getD d default
      modEstd s d fun e => { e with
        iest := r.est, valid := r.loaded && r.whole
        wit := if r.loaded && !e.distrust then ((a, r.est) :: e.wit).take 110 else e.wit }
    | none => s
  let s := modEstd s d fun e => { e with use := use, term := new.map fun t => (t, a + 64) }
  let s := if new.isSome then { restoreShed s d with est := { s.est with ffcnt := s.est.ffcnt + 1 } } else s
  if decide (was.use ≠ use) || was.term.isSome || new.isSome then retarget s d false else s

/-- The application beat of window k, 64(k+2), after the comparison of that beat (R168, R174, R175, R183, R185). EVALS counts a
window once, here. DEDUCED, log 142. -/
def effEstimatorApply (s : State) : State :=
  if s.time.beat % 64 = 0 ∧ 128 ≤ s.time.beat then
    let s := effEstimatorCompare s
    let w := winAt s (s.time.beat / 64 - 2)
    let s := if w.isSome then { s with est := { s.est with evals := s.est.evals + 1 } } else s
    sheafIdx.foldl (applyDom s.time.beat w) s
  else s

def execEstimatorApply (s : State) : Out := live s effEstimatorApply

/-- At the end of a beat the estimator notes which domains are ON, and a window of 64 beats ends (R151, R171, R176). -/
def estBeat (s : State) : State :=
  let close := decide ((s.time.beat + 1) % 64 = 0)
  { s with estd := s.estd.mapIx fun d e =>
    let any := e.onAny || isOn s d
    let all := e.onAll && isOn s d
    if close then { e with wasAny := any, wasAll := all, onAny := false, onAll := true } else { e with onAny := any, onAll := all } }

/-- The window in progress is cut, and one that begins at the present beat starts clean (R151, R183). -/
def estRestart (s : State) : State :=
  { s with estd := s.estd.map fun e => { e with
    onAny := false, onAll := true, wasAny := false, wasAll := false, iwSum := 0, iwN := 0, iwWas := 0 } }

/-- Terms whose window a slip skipped leave V_tgt (R175). -/
def endEstTerms (s : State) : State :=
  sheafIdx.foldl (fun s d =>
    if (s.estd.nth d).term.any fun x => decide (x.2 < s.time.beat) then
      retarget (modEstd s d fun e => { e with term := none }) d false
    else s) s

/-- EST_CTL.CLRCNT (R185). -/
def execEstClrcnt (s : State) : Out := bus s fun s => { s with est := { s.est with distr := .zero, sats := .zero } }

def allZero (l : List Byte) : Bool := l.all (· = 0)

/-- A field of a class section is in its range, and its reserved bytes are zero (R179). -/
def sectionRange (sec : List Byte) : Bool :=
  (sec.take 24).all (fun b => b.toNat ≤ 7) && decide (byteN sec 24 ≤ 20 ∧ byteN sec 25 ≤ 20 ∧ byteN sec 26 ≤ 4)

def sectionRes (sec : List Byte) : Bool := decide (byteN sec 27 = 0) && allZero (sec.drop 496)

/-- The checks of R180 in order: zero, or the LASTERR code. -/
def estCheck (s : State) (img : List Byte) : Nat :=
  if exactOn s then 8
  else if s.est.busy then 9
  else if img.take 4 ≠ [0x4D, 0x45, 0x53, 0x54] then 1
  else if le16 img 4 ≠ 1 then 2
  else if le32 img 8 ≠ 2112 then 3
  else if byteN img 12 ≠ 24 ∨ byteN img 13 ≠ 16 ∨ byteN img 14 ≠ 4 then 4
  else if ¬ (allZero ((img.drop 15).take 17) && decide (le16 img 6 = 0)
      && (List.range 4).all (fun c => sectionRes (estSection img c))) then 5
  else if ¬ ((List.range 4).all fun c => sectionRange (estSection img c)) then 6
  else if (img.drop 32).take 32 ≠ sha256 (img.take 32 ++ img.drop 64) then 7
  else 0

/-- LOADPLAN target 2 at its action beat (R180, R181): the state and the rejection code. DEDUCED, log 20. -/
def loadWeights (s : State) (img : List Byte) : State × Nat :=
  let c := estCheck s img
  if c = 0 then ({ s with est := { s.est with busy := true, next := s.est.next ++ [(img, s.time.beat + 64)] } }, 0)
  else (raise { s with est := { s.est with lasterr := c } } bEST 1 subjDie, c)

end Sys2Proof.Machine
end

