-- ==== Sys2Proof/Machine/Track.lean ====
section
/-! DEFINITION. The sequencer: the track image, the tally, how lanes stop, and the issue of an instruction by a lane or by the
command context (R187 to R202, R209, R210, R220, R227). -/

namespace Sys2Proof.Machine

-- The image in track memory (R192, R193).

def tByte (s : State) (a : Nat) : Nat := (Memory.read s.mem.tmem a).toNat
def tHalf (s : State) (a : Nat) : Nat := tByte s a + 256 * tByte s (a + 1)
def tW32 (s : State) (a : Nat) : Nat := tHalf s a + 65536 * tHalf s (a + 2)

/-- Word `i` of the image. -/
def tWord (s : State) (i : Nat) : Nat := tW32 s (8 * i) + 2 ^ 32 * tW32 s (8 * i + 4)

def trkLen (s : State) : Nat := tHalf s 6
def trkEntry (s : State) (l : Nat) : Nat := tHalf s (8 + 2 * l)
def trkPk (s : State) : Nat := tHalf s 24
def trkOv (s : State) : Nat := tHalf s 26
def trkOwn (s : State) : Nat := tHalf s 28
def trkMinsp (s : State) : Nat := tHalf s 30

/-- The end of the code region (R193). -/
def codeEnd (s : State) : Nat := min (trkPk s) (min (trkOv s) (trkOwn s))

def inCode (s : State) (pc : Nat) : Bool := decide (8 ≤ pc ∧ pc < codeEnd s)

/-- The peak-current entries: SEGID, IDIE in 1/64 A, PPKG in mW. -/
def trkPeaks (s : State) : List (Nat × Int × Nat) :=
  let o := 8 * trkPk s
  upTo (min 4096 (tW32 s o)) fun i => (tHalf s (o + 8 + 16 * i), signExt 32 (tW32 s (o + 12 + 16 * i)), tW32 s (o + 16 + 16 * i))

/-- The overlay references: SLOT and DIGPFX. -/
def trkOvRefs (s : State) : List (Nat × List Byte) :=
  let o := 8 * trkOv s
  upTo (min 17 (tW32 s o)) fun i => (tByte s (o + 8 + 16 * i), Memory.readBytes s.mem.tmem (o + 16 + 16 * i) 8)

/-- MASK of lane `l`. -/
def trkMask (s : State) (l : Nat) : BitVec 128 :=
  BitVec.ofNat 128 ((upTo 16 fun i => tByte s (8 * trkOwn s + 32 * l + i) * 256 ^ i).foldl (· + ·) 0)

/-- ACTMAX of lane `l`. -/
def trkActmax (s : State) (l : Nat) : Nat := tByte s (8 * trkOwn s + 32 * l + 16)

-- The tally (R209, R210).

/-- A new entry; the ring holds the last 1,024. -/
def tallyAdd (s : State) (beat iword result source detail lanes aux cseq : Nat) : State :=
  { s with tally :=
      ⟨(⟨s.tally.count, cseq, beat, iword, result, source, detail, lanes, aux⟩ :: s.tally.ents).take 1024, s.tally.count + 1⟩ }

/-- An entry of a source other than the command window. -/
def tallyEvent (s : State) (beat source detail lanes aux : Nat) : State :=
  tallyAdd s beat 0 0 source detail lanes aux s.cmdw.accseq

/-- RESULT and DETAIL of entry `t` in place (R210). -/
def tallyResult (s : State) (t result detail : Nat) : State :=
  { s with tally := { s.tally with
      ents := s.tally.ents.map fun e => if e.tseq = t then { e with result := result, detail := detail } else e } }

-- Messages that leave on the ports (R321, R324, R325, R340).

/-- The header of a message without CHK, as bits [63:16]. -/
def msgHead (m : Msg) : Nat :=
  fld 60 4 m.kind + fld 54 6 m.job + fld 42 12 m.orig + fld 30 12 m.dest + fld 24 6 m.payload.length + fld 16 8 m.seq

/-- CHK over header bits [63:16] and the payload, most significant byte first. DEDUCED, log 59. -/
def msgChk (m : Msg) : Nat :=
  crc16 ((beBytes 8 (msgHead m)).take 6 ++ (m.payload.map fun w => beBytes 8 w.toNat).flatten)

/-- Priority of a kind (R323). -/
def msgPrio (k : Nat) : Nat := if k ≤ 2 then 0 else if k ≤ 6 then 1 else 2

/-- A message joins a port's queue; a full queue drops one of priority 0 or 1 (R325). DEDUCED, log 64. -/
def portPut (s : State) (k : Nat) (m : Msg) : State :=
  let p := s.side.port.nth k
  if p.en then
    if msgPrio m.kind < 2 ∧ 64 ≤ (p.q.filter fun x => decide (msgPrio x.1.kind < 2)).length then
      raise { s with side := { s.side with qfull := s.side.qfull.inc 65535 } } bSIDE 1 subjDie
    else { s with side := { s.side with port := s.side.port.modN k fun p => { p with q := p.q ++ [(m, m.payload.length + 1)] } } }
  else s

/-- Sends a message on every port that `f` picks. -/
def sendOn (s : State) (f : Nat → Port → Bool) (m : Msg) : State :=
  (upTo 19 id).foldl (fun s k => if (s.side.port.nth k).en && f k (s.side.port.nth k) then portPut s k m else s) s

/-- A message of this instance's own, numbered by its kind. -/
def ownMsg (s : State) (kind dest : Nat) (payload : List Word64) : Msg :=
  ⟨kind, s.side.jobtag, s.side.ord, dest, s.side.seqs.nth kind, payload⟩

def bumpSeq (s : State) (kind : Nat) : State :=
  { s with side := { s.side with seqs := s.side.seqs.modN kind fun n => (n + 1) % 256 } }

/-- The instance's own ARMRPT for base beat `b` (R340). The root records its own. -/
def sendArmrpt (s : State) (isArmed : Bool) (b : Nat) : State :=
  if s.side.en ∧ 1 < s.side.ninst then
    let w := BitVec.ofNat 64 (fld 32 32 (le32 s.seqr.tdig 0) + fld 31 1 (b2n isArmed) + fld 30 1 (b2n s.time.aligned)
      + fld 0 30 b)
    let m := ownMsg s 3 0 [w]
    let s := bumpSeq s 3
    if s.side.root then
      { s with side := { s.side with rpts := (s.side.ord, w) :: s.side.rpts.filter fun r => r.1 ≠ s.side.ord } }
    else sendOn s (fun _ p => decide (p.tree = 1)) m
  else s

-- Stops.

def laneBits (s : State) (f : Lane → Bool) : Nat :=
  ((upTo 8 id).filter fun l => (s.lane.data.map f).getD l false).foldl (fun a l => a + 2 ^ l) 0

/-- The open segment ends without a close, and a pending SAVE is discarded (R153, R257). -/
def endTrack (s : State) : State :=
  let s := { s with
    seg := { s.seg with opened := false }
    exa := { s.exa with svreq := none, svst := if s.exa.svst = 1 then 0 else s.exa.svst }
    side := { s.side with barPend := false } }
  let t := { s with side := { s.side with told := false } }
  if s.side.told = true ∧ s.time.beat < s.seqr.base then sendArmrpt t false s.seqr.base else t

/-- After lanes stopped: when none is left, the track is disarmed, with one tally entry unless an abort has made it (R197). -/
def afterStop (s : State) (was : Bool) (journal : Bool) : State :=
  if was ∧ armed s = false then
    let s := if journal then
        tallyEvent s s.time.beat 2 0 (laneBits s fun l => decide (l.st = .halted ∨ l.st = .aborted)) 0
      else s
    endTrack s
  else s

/-- The lanes of `mask` that are armed read HALTED (R197). -/
def haltLanes (s : State) (mask : Nat) : State :=
  let was := armed s
  let s := { s with
    lane := s.lane.mapIx fun i l =>
      if bitOf mask i && laneOn l then { l with st := .halted, wait := .no } else l }
  afterStop s was true

/-- A lane aborts (R199). A lane that halted meanwhile reads ABORTED too. -/
def abortLane (s : State) (i : Fin 8) (cause : Nat) : State :=
  let l := s.lane.get i
  if l.st = .idle ∨ l.st = .aborted then s
  else
    let was := armed s
    let s := { s with lane := s.lane.set i { l with st := .aborted, cause := cause, wait := .no } }
    let s := raise s bSEQ 5 (0x8200 + i.val)
    let s := tallyEvent s s.time.beat 4 cause (2 ^ i.val) 0
    afterStop s was false

-- Issue.

/-- A Class P reaction holds every lane in this beat (R201). -/
def beatHeld (s : State) : Bool := decide (s.classHold = some s.time.beat)

/-- A harmonised stall holds the lanes (R305). -/
def stallHeld (s : State) : Bool := s.exa.hold.any fun h => decide (s.time.beat < h)

/-- The application beat of a pending stall that names T: T, or the end of the hold in force (R306). -/
def stallBeat (s : State) (t : Nat) : Nat := max t (s.exa.hold.getD 0)

/-- The application beat of a stall received now that names T: T, or the latest end of the holds of the stalls applied that name
earlier beats (R306). -/
def stallDue (s : State) (t : Nat) : Nat :=
  ((s.exa.applied.filter fun p => decide (p.t < t)).map (·.fin)).foldl max t

/-- The present beat is one of a hold, its first included, in which the stall is yet to be applied (R305). -/
def stallNow (s : State) : Bool :=
  stallHeld s || (armed s && s.exa.pend.head?.any fun p => decide (stallBeat s p.t ≤ s.time.beat))

/-- The lane may issue at this MCLK (R188, R201, R305). -/
def laneReady (s : State) (l : Lane) : Bool :=
  decide (l.st = .run) && !beatHeld s && !stallNow s && decide (l.issBeat ≠ s.time.beat ∨ l.issN < 10)

/-- The register file of a context. -/
def rfOf (s : State) : Ctx → RegFile
  | .lane l => (s.lane.get l).rf
  | .cmd => s.cmdw.rf

def modRf (s : State) (c : Ctx) (f : RegFile → RegFile) : State :=
  match c with
  | .lane l => { s with lane := s.lane.mod l fun x => { x with rf := f x.rf } }
  | .cmd => { s with cmdw := { s.cmdw with rf := f s.cmdw.rf } }

/-- Predicate `i` of a file; p0 reads true (R187). -/
def RegFile.pred (r : RegFile) (i : Nat) : Bool := decide (i = 0) || r.p.getLsbD i

/-- Writes predicate `i`; p0 ignores it. -/
def RegFile.setPred (r : RegFile) (i : Nat) (x : Bool) : RegFile :=
  if i = 0 then r
  else { r with p := if x then r.p ||| ((1 : Byte) <<< i) else r.p &&& ~~~ ((1 : Byte) <<< i) }

/-- The command's result is known; COMMAND_COMPLETE writes it at beat `due` (R206). -/
def cmdDone (s : State) (result detail due : Nat) : State :=
  { s with cmdw := { s.cmdw with res := some (result, detail), due := due } }

/-- The lag of a context; the command context keeps none (R226). -/
def lagOf (s : State) : Ctx → Nat
  | .lane l => (s.lane.get l).lag
  | .cmd => 0

/-- The stated issue beat (R226). -/
def statedBeat (s : State) (c : Ctx) : Nat :=
  match c with
  | .lane l => s.time.beat - (s.lane.get l).lag
  | .cmd => s.cmdw.accbeat

/-- One MCLK of the lane is used, and the next word follows (R188). -/
def stepLane (s : State) (l : Fin 8) (actuation : Bool) : State :=
  { s with lane := s.lane.mod l fun x =>
      let same := decide (x.issBeat = s.time.beat)
      { x with
        pc := x.pc + 1, issBeat := s.time.beat
        issN := if same then x.issN + 1 else 1
        actN := (if same then x.actN else 0) + b2n actuation } }

/-- The window took the instruction (R206). -/
def stepCmd (s : State) : State := { s with cmdw := { s.cmdw with issued := true } }

/-- A ninth actuation waits for the next beat (R189, R202). -/
def deferAct (s : State) (l : Fin 8) : State :=
  if (s.lane.get l).ovrBeat = some s.time.beat then s
  else
    let s := { s with lane := s.lane.mod l fun x =>
      { x with ovr := x.ovr.inc 65535, lag := x.lag + 1, ovrBeat := some s.time.beat } }
    raise s bSEQ 7 (0x8200 + l.val)

/-- Actuations the lane has issued in this beat. -/
def actsNow (s : State) (l : Lane) : Nat := if l.issBeat = s.time.beat then l.actN else 0

/-- OVLY's slot tests at issue (R245): the slot holds an overlay, and a lane's image lists it. -/
def ovlySlot (s : State) (c : Ctx) (w : Nat) : Bool :=
  let v := fVal w
  if opc w = 0x11 then
    (decide (v = 0xFFFF) || (decide (v < 16) && (s.plan.slots.data.getD v default).valid)) &&
      (match c with
        | .lane _ => decide (v = 0xFFFF) || (trkOvRefs s).any fun r => decide (r.1 = v)
        | .cmd => true)
  else true

/-- BANK on a single present domain that is not MA (R235). DEDUCED, log 42. -/
def bankTarget (s : State) (w : Nat) : Bool :=
  !(decide (opc w = 0x0E) && decide (fDom w < 128) && present s (fDom w) && decide (typ (fDom w) ≠ .ma))

/-- The check of R227. -/
def checkIssue (s : State) (c : Ctx) (w : Nat) : Bool :=
  (match c with
    | .lane l => operandsOk (some l.val) w
    | .cmd => operandsOk none w) && bankTarget s w && (ovlySlot s c w || decide (c = .cmd))

/-- The predicate lets the instruction take effect (R220). -/
def takesEffect (s : State) (c : Ctx) (w : Nat) : Bool := (rfOf s c).pred (predOf w) != psense w

/-- A lane issues the word at its PC, when `want` accepts it: predicate, check, then `f` (R188, R189, R220, R227). A word
outside the code region aborts with cause 4. DEDUCED, log 118. -/
def issueLane (s : State) (l : Fin 8) (want : Nat → Bool) (f : Nat → State → State) : State :=
  let x := s.lane.get l
  if laneReady s x then
    if inCode s x.pc then
      let w := tWord s x.pc
      if want w then
        if opc w = 0 then f w (stepLane s l false)
        else if takesEffect s (.lane l) w then
          if isActuation (opc w) ∧ 8 ≤ actsNow s x then deferAct s l
          else if checkIssue s (.lane l) w then f w (stepLane s l (isActuation (opc w)))
          else abortLane (stepLane s l false) l 5
        else stepLane s l false
      else s
    else abortLane s l 4
  else s

/-- The command context issues the accepted word, in its acceptance beat (R200, R206, R207). R440 turns commands away by
life-cycle state. DEDUCED, log 118. -/
def issueCmd (s : State) (want : Nat → Bool) (f : Nat → State → State) : State :=
  let w := s.cmdw.word
  if s.cmdw.busy ∧ s.cmdw.issued = false ∧ s.cmdw.res = none ∧ want w then
    let s := stepCmd s
    let due := s.cmdw.accbeat + 4
    if (s.g.lc = 4 ∧ opc w ≠ 0x3C) ∨ (s.g.lc = 0 ∧ opc w = 0x3A) then cmdDone s 7 0 due
    else if opc w = 0 then f w s
    else if takesEffect s .cmd w then
      if checkIssue s .cmd w then
        if ovlySlot s .cmd w then f w s else cmdDone s 6 0 due
      else cmdDone s 4 0 due
    else cmdDone s 8 0 due
  else s

/-- A context issues an instruction whose word `want` accepts. DEDUCED, log 118. -/
def issue (c : Ctx) (want : Nat → Bool) (f : Nat → State → State) (s : State) : State :=
  match c with
  | .lane l => issueLane s l want f
  | .cmd => issueCmd s want f

/-- A word with opcode `o`. -/
def isOp (o : Nat) (w : Nat) : Bool := decide (opc w = o)

/-- An action of lane `l` is `n` beats late (R202). -/
def lateBy (s : State) (l : Fin 8) (n : Nat) : State :=
  match n with
  | 0 => s
  | 1 => { s with seqr := { s.seqr with late := s.seqr.late + 1 } }
  | _ => raise { s with seqr := { s.seqr with late2 := s.seqr.late2.inc 65535 } } bSEQ 6 (0x8200 + l.val)

/-- Lateness of an action at its issue (R202). -/
def countLate (s : State) (c : Ctx) : State :=
  match c with
  | .cmd => s
  | .lane l => lateBy s l (s.lane.get l).lag

/-- The instruction enters the pipeline as an action (R152). -/
def enqueue (c : Ctx) (w : Nat) (s : State) : State :=
  let s := countLate s c
  let b := match c with
    | .lane _ => s.time.beat
    | .cmd => s.cmdw.accbeat
  let a : Act := ⟨c, w, b, statedBeat s c, lagOf s c, b + 4, none, s.cmdw.cext, false⟩
  let s := { s with acts := s.acts ++ [a] }
  match c with
  | .lane l =>
    if isActuation (opc w) then { s with lane := s.lane.mod l fun x => { x with lastAct := a.due } } else s
  | .cmd => s

/-- An instruction that is complete at issue; a command completes at its action beat (R206). -/
def atOnce (c : Ctx) (f : State → State) (s : State) : State :=
  match c with
  | .lane _ => f s
  | .cmd => cmdDone (f s) 0 0 (s.time.beat + 4)

end Sys2Proof.Machine
end

