-- ==== Sys2Proof/Machine/Plans.lean ====
section
/-! DEFINITION. Plans and overlays: the checks of an image, taking effect, switching, and when a changed field acts (R346 to
R356). -/

namespace Sys2Proof.Machine

/-- The staged image of `n` bytes in GCTL_PLNIMG (R355). -/
def staged' (m : List Host.Cell) (n : Nat) : List Byte := Memory.readBytes m 0 n

/-- A present domain has this per-domain field (R94, R347). -/
def hasField (s : State) (fid d : Nat) : Bool :=
  present s d && (match typ d with
    | .none => false
    | .la => decide (fid = 0x41 ∨ fid = 0x50)
    | .aon => decide (fid = 0x41 ∨ fid = 0x42 ∨ fid = 0x43 ∨ fid = 0x46 ∨ fid = 0x50)
    | _ => true)

/-- The domain of an element of a per-domain field. -/
def fieldDom (fid idx : Nat) : Nat := if fid = 0x50 ∨ fid = 0x51 then idx / 16 else idx

/-- The field identifiers with the number of their elements (R347). -/
def fieldCounts : List (Nat × Nat) :=
  (upTo 9 fun i => (i + 1, 1)) ++ [(0x0A, 3), (0x0B, 1), (0x0C, 1), (0x0D, 3)]
    ++ (upTo 5 fun i => (0x10 + i, 5)) ++ (upTo 7 fun i => (0x20 + i, 4)) ++ (upTo 4 fun i => (0x28 + i, 3))
    ++ (upTo 3 fun i => (0x30 + i, 4)) ++ [(0x38, 16)] ++ (upTo 8 fun i => (0x40 + i, 128)) ++ [(0x50, 2048), (0x51, 2048)]

/-- Every element of every field. -/
def allFields : List (Nat × Nat) := (fieldCounts.map fun f => upTo f.2 fun i => (f.1, i)).flatten

/-- The range of one element (R269, R347); fields that a domain lacks are not asked. -/
def fieldRange (s : State) (fid idx v : Nat) : Bool :=
  let d := fieldDom fid idx
  let inR := fun lo hi => decide (lo ≤ v ∧ v ≤ hi)
  if perDom fid && !hasField s fid d then decide (v = 0)
  else match fid with
    | 0x01 => inR 400 3600
    | 0x02 => inR 1 30
    | 0x03 => inR 16 65535
    | 0x04 => inR 0x0F00 0x3E80
    | 0x05 => inR 400 3600
    | 0x06 => prioOk v
    | 0x07 => true
    | 0x08 => inR 1 255
    | 0x09 => inR 1 255
    | 0x0A => inR 0 15
    | 0x0B => inR 1 255
    | 0x0C => inR 16 4095
    | 0x0D => decide (signExt 16 v ≤ signExt 16 (fldDef 0x0D idx))
    | 0x10 | 0x11 | 0x12 => inR 0 0x7FFF
    | 0x13 => if idx = 4 then inR 32 512 else inR 256 8192
    | 0x14 => inR 4096 65535
    | 0x20 | 0x21 | 0x22 => inR 5 60
    | 0x23 => inR 0 4
    | 0x24 => inR 0x0690 0x0898
    | 0x25 => inR 8 50
    | 0x26 => inR 16 48
    | 0x28 | 0x29 => inR 2 16
    | 0x2A => inR 1 5
    | 0x2B => inR 0 12
    | 0x30 | 0x32 => inR 1 255
    | 0x31 => inR 5 100
    | 0x40 => inR 0 2000
    | 0x41 => inR 0x10 0x900
    | 0x42 | 0x43 => inR 1 40
    | 0x44 => inR 0 255
    | 0x45 => if typ d = .co then inR 1 8 else inR 1 4
    | 0x46 => inR 0 287
    | 0x47 => inR 5 40
    | 0x50 => inR (vLo d) (vHi d)
    | 0x51 => inR 100 4000
    | _ => true

/-- The reserved bytes of a plan image are zero (R346, R347). -/
def planReserved (img : List Byte) : Bool :=
  let z := fun o n => allZero ((img.drop o).take n)
  z 6 2 && z 12 20 && z 0x53 1 && z 0x5E 2 && z 0x92 0x6E && z 0x158 8 && z 0x170 0x10 && z 0x1A0 0x60
    && (List.range 4).all (fun b => z (0x108 + 16 * b) 8 && z (0x163 + 4 * b) 1)
    && (List.range 3).all (fun r => z (0x144 + 8 * r) 4)
    && (List.range 128).all (fun d => z (0x20B + 16 * d) 5)

/-- Entries that must be zero are (R347). -/
def planZero (s : State) (img : List Byte) : Bool :=
  allFields.all fun f => !perDom f.1 || hasField s f.1 (fieldDom f.1 f.2) || decide (imgField img f.1 f.2 = 0)

/-- Checks 7 to 10 of R348 on the field values `g`: zero, or the check's number. An absent domain has no table, and a type-wide pair
does not apply to it (R351). -/
def crossCheck (s : State) (g : Nat → Nat → Nat) : Nat :=
  let vf := (List.range 128).all fun d => !present s d || (List.range 15).all fun n =>
    decide (g 0x50 (16 * d + n) ≤ g 0x50 (16 * d + n + 1) ∧ g 0x51 (16 * d + n) ≤ g 0x51 (16 * d + n + 1))
  let gb := (List.range 4).all fun b => decide (g 0x20 b ≤ g 0x21 b ∧ g 0x21 b ≤ g 0x22 b)
  let ks := (List.range 5).all fun k => decide (g 0x10 k ≤ g 0x11 k ∧ g 0x11 k ≤ g 0x12 k)
  let bl := (List.range 3).all fun r => decide (g 0x28 r ≤ g 0x29 r)
  let t := fun i => signExt 16 (g 0x0D i)
  if !vf then 7 else if !gb then 8 else if !(ks && bl) then 9
  else if t 0 < t 1 ∧ t 1 < t 2 ∧ (List.range 3).all (fun i => decide (t i ≤ signExt 16 (fldDef 0x0D i))) then 0
  else 10

/-- The checks of a plan in the order of R348: zero, or the code. -/
def planCheck (s : State) (img : List Byte) : Nat :=
  if img.take 4 ≠ [0x4D, 0x50, 0x4C, 0x4E] then 0x40
  else if le16 img 4 ≠ 1 then 0x41
  else if le32 img 8 ≠ 10752 then 0x42
  else if ¬ (planReserved img && planZero s img) then 0x43
  else if (img.drop 32).take 32 ≠ sha256 (img.take 32 ++ img.drop 64) then 0x44
  else if ¬ (allFields.all fun f => fieldRange s f.1 f.2 (imgField img f.1 f.2)) then 0x45
  else match crossCheck s (imgField img) with
    | 0 => 0
    | n => 0x3F + n

/-- A failed check: code, source, result (R348, R352). -/
def planReject (s : State) (c : Nat) : State :=
  cmdDone (raise { s with plan := { s.plan with lasterr := c } } bSEQ 17 subjDie) 3 c s.time.beat

/-- The next multiple of 100 beats at or after `b`. -/
def next100 (b : Nat) : Nat := (b + 99) / 100 * 100

/-- LOADPLAN of a plan at its action beat (R348, R349). -/
def loadPlan (s : State) : State :=
  if armed s then cmdDone s 6 0 s.time.beat
  else
    let img := staged' s.mem.planmem 10752
    match planCheck s img with
    | 0 => { s with plan := { s.plan with next := some (img, next100 (s.time.beat + 1)) } }
    | c => planReject s c

-- Overlays.

/-- The pairs of an overlay image (R350). -/
def ovlImgPairs (img : List Byte) (n : Nat) : List (Nat × Nat × Nat) :=
  upTo n fun i => (le16 img (64 + 8 * i), le16 img (66 + 8 * i), le32 img (68 + 8 * i))

/-- A FID that an overlay may carry, with a valid IDX (R351, R352). -/
def pairIdx (s : State) (fid idx : Nat) : Bool :=
  decide (fid ≠ 2) &&
    ((fldPlace fid idx).isSome && (!perDom fid || hasField s fid (fieldDom fid idx))
      || (perDom fid && decide (0x8000 ≤ idx) &&
        (let n := idx - 0x8000
         if fid = 0x50 ∨ fid = 0x51 then decide (1 ≤ n / 16 ∧ n / 16 ≤ 6)
         else decide (n % 16 = 0 ∧ 1 ≤ n / 16 ∧ n / 16 ≤ 6))))

/-- The elements that a pair names (R351). -/
def pairElems (fid idx : Nat) : List Nat :=
  if perDom fid ∧ 0x8000 ≤ idx then
    let n := idx - 0x8000
    (domsOf (n / 16)).map fun d => if fid = 0x50 ∨ fid = 0x51 then 16 * d + n % 16 else d
  else [idx]

/-- A pair's VALUE is in range for every present domain it names (R347, R352). -/
def pairValue (s : State) (p : Nat × Nat × Nat) : Bool :=
  (pairElems p.1 p.2.1).all fun i => (perDom p.1 && !present s (fieldDom p.1 i)) || fieldRange s p.1 i p.2.2

/-- No pair named twice (R352). -/
def noTwice : List (Nat × Nat × Nat) → Bool
  | [] => true
  | p :: ps => (ps.all fun q => decide (¬ (q.1 = p.1 ∧ q.2.1 = p.2.1))) && noTwice ps

/-- The bits of VALUE above a field's width are zero (R350). -/
def pairUpper (p : Nat × Nat × Nat) : Bool :=
  match fldPlace p.1 0 with
  | some (_, 1) => decide (p.2.2 < 256)
  | some _ => decide (p.2.2 < 65536)
  | none => true

/-- The checks of an overlay in the order of R352: zero, or the code. -/
def ovlCheck (s : State) (img : List Byte) : Nat :=
  let n := byteN img 7
  let len := le32 img 8
  let ps := ovlImgPairs img n
  let body := img.take len
  if img.take 4 ≠ [0x4D, 0x4F, 0x56, 0x4C] then 0x50
  else if le16 img 4 ≠ 1 then 0x51
  else if ¬ (1 ≤ n ∧ n ≤ 64 ∧ len = 64 + 8 * n) then 0x52
  else if byteN img 6 ≠ 0 ∨ le32 img 12 ≠ 0 ∨ ¬ (ps.all pairUpper) then 0x53
  else if (img.drop 32).take 32 ≠ sha256 (img.take 32 ++ body.drop 64) then 0x54
  else if s.plan.loaded = false ∨ (img.drop 24).take 8 ≠ s.plan.digest.take 8 then 0x55
  else if ¬ (ps.all fun p => pairIdx s p.1 p.2.1) then 0x56
  else if ¬ (ps.all (pairValue s)) then 0x57
  else if ¬ noTwice ps then 0x58
  else if crossCheck s (fun f i => (pairsField ps f i).getD (planField s.plan f i)) ≠ 0 then 0x59
  else 0

/-- LOADPLAN of an overlay into slot `k` at its action beat (R352). DEDUCED, log 20. -/
def loadOverlay (s : State) (k : Nat) : State :=
  let listed := s.seqr.admitted && (trkOvRefs s).any fun r => decide (r.1 = k)
  if (s.plan.inforce.map (·.val)) = some k ∨ (armed s ∧ listed) then cmdDone s 6 0 s.time.beat
  else
    let img := staged' s.mem.planmem 576
    match ovlCheck s img with
    | 0 =>
      let n := byteN img 7
      { s with plan := { s.plan with
        nextOvl := some (k, ⟨true, n, ovlImgPairs img n, (img.drop 32).take 32⟩, s.time.beat + 200) } }
    | c => planReject s c

-- When a changed field acts (R353).

/-- In HOLD the frequency that the host runs at is remembered, where the table of its operating point changes (R353). -/
def heldFreq (s s0 : State) (d : Nat) : Option Nat :=
  let p := s.sp.nth d
  let f0 := cfg s0 0x51 (16 * d + p.freqOp)
  if domSt s d = .hold ∧ cfg s 0x51 (16 * d + p.freqOp) ≠ f0 then some (p.freqWas.getD f0) else p.freqWas

/-- A V-F table of a domain changed (R98, R353): a lower frequency is applied first; a voltage that waits for the host's clock goes on
waiting, and so does a raise that has not settled. -/
def vfChanged (s s0 : State) (d : Nat) : State :=
  let p := s.sp.nth d
  let n := p.opeff
  if domSt s d = .on then
    let f0 := cfg s0 0x51 (16 * d + n)
    let f1 := cfg s 0x51 (16 * d + n)
    if f1 < f0 ∧ ¬ (p.fpend ∧ p.freqOp ≠ n) then
      modSp (askClock s d n) d fun p => { p with
        freqOp := n, lower := some (n, s.time.beat + 2, false), vopNext := none, fpend := false, raiseBy := none }
    else
      let s := if p.lower.isSome ∨ vopFor s d n = p.vop then s else setVop s d (vopFor s d n) false
      if f0 < f1 ∨ p.fpend then raiseWaits s d else s
  else modSp s d fun p => { p with vop := vopFor s d n, freqWas := heldFreq s s0 d }

/-- Writes the registers behind the per-domain fields of domain `d` that `ch` says are written. LA and AON keep the fields that
the plan does not hold for them (R94, R116, R347); a Z_ll and a rate act where R100 and R353 let them. -/
def writeDom (ch : Nat → Nat → Bool) (s0 s : State) (d : Nat) : State :=
  if present s d then
    let s := if ch 0x40 d then
        modSp s d fun p => { p with zll := cfg s 0x40 d, zllT := if isOn s d || decide (domSt s d = .waking) then cfg s 0x40 d else p.zllT }
      else s
    let s := if ch 0x41 d then
        { s with loop := { s.loop with dl := s.loop.dl.modN d fun l => { l with ilim := cfg s 0x41 d } } }
      else s
    let s := if ch 0x42 d ∨ ch 0x43 d ∨ ch 0x44 d then
        modSp s d fun p => { p with
          rise := if ch 0x42 d ∧ typ d ≠ .la then cfg s 0x42 d else p.rise
          fall := if ch 0x43 d ∧ typ d ≠ .la then cfg s 0x43 d else p.fall
          riseF := if isOn s d ∧ ch 0x42 d ∧ typ d ≠ .la then cfg s 0x42 d else p.riseF
          fallF := if isOn s d ∧ ch 0x43 d ∧ typ d ≠ .la then cfg s 0x43 d else p.fallF
          plhold := if ch 0x44 d ∧ typ d ≠ .la ∧ typ d ≠ .aon then cfg s 0x44 d else p.plhold }
      else s
    if (List.range 16).any fun n => ch 0x50 (16 * d + n) || ch 0x51 (16 * d + n) then vfChanged s s0 d else s
  else s

/-- T_avg takes a value: in the coordinator at the next bin end, which restarts the bins (R273). -/
def setTavg (s : State) (v : Nat) : State :=
  { s with loop :=
      if s.g.coord then { s.loop with tavgNext := some v } else { s.loop with tavg := v, tavgNext := none } }

/-- Writes every register whose field `ch` says is written; the others act through the configuration in force. -/
def writeFields (ch : Nat → Nat → Bool) (s0 s : State) : State :=
  let s := { s with loop := { s.loop with
    cap := if ch 1 0 then cfg s 1 0 else s.loop.cap
    dieLim := if ch 3 0 then cfg s 3 0 else s.loop.dieLim
    prio := if ch 6 0 then cfg s 6 0 else s.loop.prio } }
  let s := if ch 2 0 then setTavg s (cfg s 2 0) else s
  retargetAll (allDoms.foldl (writeDom ch s0) s)

/-- Makes `k` the overlay in force, or none (R353). -/
def switchOverlay (s : State) (k : Option (Fin 16)) : State :=
  let s1 := { s with plan := { s.plan with inforce := k, sw := (s.plan.sw + 1) % 2 ^ 32 } }
  writeFields (fun f i => cfg s f i != cfg s1 f i) s s1

/-- The settings record has to be computed again (R309). -/
def setrecDirty (s : State) : State := { s with setrec := { s.setrec with busy := true, pkgvalid := false } }

/-- A copied plan takes effect (R349). -/
def effPlanTakeEffect (s : State) : State :=
  match s.plan.next with
  | none => s
  | some (img, b) =>
    if b ≤ s.time.beat ∧ s.time.beat % 100 = 0 then
      let s1 := { s with plan := { s.plan with
        loaded := true, act := some img, digest := (img.drop 32).take 32, inforce := none
        slots := s.plan.slots.map fun _ => default, next := none } }
      cmdDone (setrecDirty (writeFields (fun _ _ => true) s s1)) 0 0 s.time.beat
    else s

def execPlanTakeEffect (s : State) : Out := live s effPlanTakeEffect

/-- An accepted overlay is VALID in its slot (R352). DEDUCED, log 20. -/
def effOverlayValid (s : State) : State :=
  match s.plan.nextOvl with
  | none => s
  | some (k, o, _) =>
    cmdDone (setrecDirty { s with plan := { s.plan with slots := s.plan.slots.modN k fun _ => o, nextOvl := none } }) 0 0
      s.time.beat

def execOverlayValid (s : State) : Out := live s effOverlayValid

end Sys2Proof.Machine
end

