-- ==== Sys2Proof/Machine/Exact.lean ====
section
/-! DEFINITION. Segments at their close and opening, stall debt and harmonised stalls, the settings record, the state image of
SAVE, and resuming from it (R153, R154, R297 to R314). -/

namespace Sys2Proof.Machine

-- Debt and covered slack (R302, R303).

/-- The die debt D in beats (R302). -/
def dieDebt (s : State) : Nat := ceilDiv (s.exa.dd.data.foldl max 0) 256

/-- The covered slack C (R303). -/
def covered (s : State) : Nat := s.exa.covDone + (s.exa.pend.map (·.n)).foldl (· + ·) 0

/-- VOID, in Exact mode with a lane armed (R298). DEDUCED, log 78. -/
def setVoid (s : State) : State :=
  if exactOn s && armed s then { s with exa := { s.exa with void := true } } else s

/-- The close of a segment compares D with C (R303). -/
def closeDebt (s : State) : State :=
  let c := s.exa.covDone
  if dieDebt s ≤ c then { s with exa := { s.exa with dd := s.exa.dd.map fun _ => 0 } }
  else
    let s := setVoid { s with exa := { s.exa with
      overrun := true, ovr := s.exa.ovr.inc 65535, dd := s.exa.dd.map fun x => x - 256 * c } }
    raise s bSEQ 12 subjDie

-- Segments (R153, R154).

/-- A flagged segment that has not reported keeps the slack it has shown, once a further segment closes (R331). -/
def keepSlack (s : State) : State :=
  let g := s.seg
  { s with side := { s.side with gran := { s.side.gran with
    segs := s.side.gran.segs.map fun x =>
      if g.hasClosed ∧ g.cEnd = x.x ∧ x.dies = none ∧ g.arrClosed &&& g.cOn ≠ 0 then { x with kept := some g.arrSlack }
      else x } } }

/-- The open segment closes at the present beat, its compiled end. -/
def closeSeg (s : State) : State :=
  let g := s.seg
  let on := coresOn s
  let s := keepSlack s
  let qual := (g.openArr.filter fun a => on.getLsbD a.1).map (·.2)
  let s := { s with seg := { g with
    hasClosed := true, cId := g.segid, cEnd := s.time.beat, cSlack := g.slack, cOn := on, cGran := g.gran
    arrClosed := g.arrOpen, arrOpen := 0, openArr := []
    arrBeat := qual.foldl max 0
    arrSlack := if qual = [] then -2147483648 else arrSlackOf s.time.beat g.slack (qual.foldl max 0) } }
  closeDebt s

/-- A SEG at its action beat (R153, R303). One whose track was disarmed since does nothing. DEDUCED, log 126. -/
def segAction (s : State) (id slack : Nat) (gran : Bool) : State :=
  if armed s = false then s
  else if s.seg.opened ∧ s.seg.segid = id ∧ s.seg.beat = s.time.beat then s
  else
    let s := if s.seg.opened then closeSeg s else s
    { s with
      seg := { s.seg with opened := true, segid := id, slack := slack, gran := gran, beat := s.time.beat, arrOpen := 0, openArr := [] }
      exa := { s.exa with covDone := slack } }

-- Stalls (R304 to R306).

/-- A beat at or after `a` moves by `n`. -/
def moveBeat (a n x : Nat) : Nat := if a ≤ x then x + n else x

def moveWait (a n : Nat) : LaneWait → LaneWait
  | .beat t b => .beat (moveBeat a n t) b
  | .fence t => .fence (moveBeat a n t)
  | x => x

/-- Track time moves by `n` from beat `a` on (R305). DEDUCED, log 150. -/
def moveTime (s : State) (a n : Nat) : State :=
  let mv := moveBeat a n
  let rf := fun (r : RegFile) => { r with b := r.b.map fun x => mv x % 2 ^ 64 }
  { s with
    lane := s.lane.map fun l => { l with rf := rf l.rf, wait := moveWait a n l.wait, lastAct := mv l.lastAct }
    cmdw := { s.cmdw with rf := rf s.cmdw.rf, due := mv s.cmdw.due }
    acts := s.acts.map fun x => { x with due := mv x.due, stated := if a ≤ x.due then x.stated + n else x.stated }
    nd := s.nd.map fun x => { x with
      pend := x.pend.map fun p => if a ≤ p.eff then
        { p with eff := p.eff + n, leave := p.leave + n, start := if p.entered then p.start else mv p.start } else p
      effs := x.effs.map fun e => { e with eff := mv e.eff } }
    exa := { s.exa with svreq := s.exa.svreq.map fun r => (mv r.1, r.2) } }

/-- A stall of `n` beats acts from the present beat, or prolongs a hold in force (R305). -/
def applyStall (s : State) (t n : Nat) : State :=
  let s := moveTime s s.time.beat n
  let from' := max s.time.beat (s.exa.hold.getD 0)
  { s with exa := { s.exa with
    hold := some (from' + n), stalls := s.exa.stalls.inc 65535, stbeats := s.exa.stbeats + n
    covDone := if s.seg.opened then s.exa.covDone + n else s.exa.covDone
    applied := ⟨t, n, from' + n⟩ :: s.exa.applied.filter fun p => p.t ≠ t } }

/-- A pending stall, in ascending T; equal beats merge to the largest N (R306). -/
def stallInsert (p : StallP) : List StallP → List StallP
  | [] => [p]
  | q :: qs =>
    if p.t < q.t then p :: q :: qs
    else if p.t = q.t then { q with n := max p.n q.n } :: qs
    else q :: stallInsert p qs

/-- A stall received after its beat (R306). -/
def lateStall (s : State) (t n all : Nat) : State :=
  let s := applyStall s t n
  let s := setVoid { s with exa := { s.exa with
    stlate := true, applied := s.exa.applied.map fun p => if p.t = t then { p with n := all } else p } }
  raise s bSEQ 11 subjDie

/-- A stall handed to application: merged, late, or pending (R306). Without an armed lane it is not applied (R329). -/
def takeStall (s : State) (t n : Nat) : State :=
  if armed s = false then s
  else match s.exa.applied.find? fun p => p.t = t with
    | some p => if n ≤ p.n then s else lateStall s t (n - p.n) n
    | none =>
      if stallDue s t < s.time.beat then lateStall s t n n
      else { s with exa := { s.exa with pend := stallInsert ⟨t, n, 0⟩ s.exa.pend } }

/-- The pending stall of the lowest T reaches its application beat (R305, R306). -/
def effStallApply (s : State) : State :=
  match s.exa.pend with
  | [] => s
  | p :: ps =>
    if stallBeat s p.t ≤ s.time.beat then
      let s := { s with exa := { s.exa with pend := ps } }
      if armed s then applyStall s p.t p.n else s
    else s

def execStallApply (s : State) : Out := live s effStallApply

/-- The hold ends and the lanes resume (R305). -/
def execStallHoldEnd (s : State) : Out := live s fun s =>
  if s.exa.hold.any fun h => decide (h ≤ s.time.beat) then { s with exa := { s.exa with hold := none } } else s

/-- N of a request (R304). -/
def stallN (s : State) : Nat :=
  min 65472 (max (64 * s.exa.stallmin) (64 * ceilDiv (dieDebt s + s.exa.lead + 200 - covered s) 64))

/-- The request of a loop-engine step (R304, R327, R329). -/
def requestStall (s : State) : State :=
  let want := exactOn s && armed s && decide (0 < dieDebt s ∧ covered s < dieDebt s + s.exa.lead + 200)
  if want && s.time.aligned then
    let n := stallN s
    let t := s.time.beat + 100 + s.exa.lead
    let s := { s with exa := { s.exa with noreq := false, req := s.exa.req.inc 65535 } }
    let s := raise s bSEQ 10 subjDie
    let s := if s.side.en then
        let w := BitVec.ofNat 64 (fld 54 10 (n / 64) + fld 0 48 t)
        let m := ownMsg s 1 0 [w]
        let s := { s with side := { s.side with seen := ((m.orig, m.seq) :: s.side.seen).take 1024 } }
        sendOn (bumpSeq s 1) (fun _ _ => true) m
      else s
    takeStall s t n
  else { s with exa := { s.exa with noreq := want } }

-- A change of mode (R300).

/-- The telemetry period and the gleaner sweeps that the present beat falls into are cut (R151). -/
def cutPeriods (s : State) : State :=
  let t := if s.tel.fine then 12500 else 100000
  { s with
    tel := { s.tel with broken := s.tel.broken || decide (s.time.beat % t ≠ 0) }
    shr := s.shr.map fun r => { r with sweepPh := false, sweepSns := false, sweepBond := false } }

/-- LOADPLAN with the mode target at its action beat (R182, R260, R283, R300). -/
def loadMode (s : State) (ex : Bool) : State :=
  if armed s then cmdDone s 6 0 s.time.beat
  else if s.g.exact = ex then cmdDone s 0 0 s.time.beat
  else
    let s := { s with
      g := { s.g with exact := ex }
      exa := { s.exa with dd := s.exa.dd.map fun _ => 0, covDone := 0, pend := [] }
      time := { s.time with modeAt := s.time.beat }
      loop := { s.loop with adv := s.loop.core.map fun c => if ex then (65536, 64) else if s.loop.advEn then (c.b, c.cf) else (65536, 64) }
      estd := if ex then s.estd.map fun e => { e with term := none, use := false } else s.estd }
    let s := retargetAll (tallyEvent (cutPeriods s) s.time.beat 3 0 0 (b2n ex))
    let s := if ex then allDoms.foldl wakeRetry s else s
    cmdDone (setrecDirty s) 0 0 s.time.beat

-- The settings record (R308, R309).

def zeros (n : Nat) : List Byte := upTo n fun _ => 0

/-- A list cut or filled with zeros to `n` bytes. -/
def padTo (n : Nat) (l : List Byte) : List Byte := (l ++ zeros n).take n

/-- DESIGN CHOICE, log 7. -/
def fuseHashOf (f : Fuse) : List Byte :=
  padTo 32 (Config.fuseHash f.cores.toNat f.clusters.toNat f.arrays.toNat f.links.toNat f.phases)

/-- The settings record (R308). -/
def settingsRecord (s : State) : List Byte :=
  [0x4D, 0x53, 0x45, 0x54, 1, BitVec.ofNat 8 (b2n s.g.exact + 2 * b2n s.est.img.isSome)] ++ leBytes 2 Config.stepping
    ++ leBytes 1 s.mem.fuse.grade ++ zeros 7 ++ fuseHashOf s.mem.fuse ++ padTo 32 (if s.plan.loaded then s.plan.digest else [])
    ++ padTo 32 (if s.g.exact = false ∧ s.est.img.isSome then s.est.digest else [])
    ++ (s.plan.slots.data.map fun o => padTo 32 (if o.valid then o.digest else [])).flatten

/-- The coordinator computes the package digest from its own digest and the `others` in die order (R309). -/
def pkgDigest (others : List (List Byte)) (s : State) : State :=
  let rest := upTo 3 fun i => padTo 32 (others.getD i [])
  let all := (rest.take s.g.die ++ [padTo 32 (if s.g.mss then s.setrec.dig else [])] ++ rest.drop s.g.die).flatten
  if s.g.coord then { s with setrec := { s.setrec with pkgdig := sha256 all, pkgvalid := true } }
  else { s with setrec := { s.setrec with pkgvalid := false } }

/-- The record is computed again, and the coordinator's package digest with it; the digest of another die that changes brings
only the package digest anew (R309). `others` are the digests that the other dies sent, in die
order, 32 zero bytes for a die outside the minimum service set. DESIGN CHOICE, log 121. -/
def effSetrecRecompute (others : List (List Byte)) (s : State) : State :=
  if s.setrec.busy then
    let s := { s with setrec := { s.setrec with
      busy := false, gen := (s.setrec.gen + 1) % 2 ^ 32, dig := sha256 (settingsRecord s) } }
    raise (pkgDigest others s) bSEQ 16 subjDie
  else pkgDigest others s

def execSetrecRecompute (others : List (List Byte)) (s : State) : Out := live s (effSetrecRecompute others)

/-- SEQ_XSTAT.CLRCNT (R314). -/
def execSeqXstatClrcnt (s : State) : Out := bus s fun s =>
  { s with exa := { s.exa with stalls := .zero, req := .zero, pevt := .zero, ovr := .zero } }

end Sys2Proof.Machine
end

