-- ==== Sys2Proof/Machine/Save.lean ====
section
/-! DEFINITION. SAVE's state image, its capture and write, and what a resume checks and restores (R310 to R313). The spec
gives the parts of the image and their sizes; the order of the fields inside a part is the model's (log 21). -/

namespace Sys2Proof.Machine

/-- STATE codes of SEQ_LANE_STAT (R217). -/
def laneCode : LaneSt → Nat
  | .idle => 0 | .armed => 1 | .run => 2 | .waiting => 3 | .halted => 4 | .aborted => 5

def laneOfCode (n : Nat) : LaneSt :=
  match n with
  | 1 => .armed | 2 => .run | 3 => .waiting | 4 => .halted | 5 => .aborted | _ => .idle

/-- A beat relative to `c`, or a value that is no beat of the track, as it stands (R310). -/
def relBeat (base c x : Nat) : Nat := if base ≤ x then (signedBits 64 ((x : Int) - c)) else x

/-- The mark of a waiting lane's relative beat (R310). -/
def relMark (base x : Nat) : Nat := if base ≤ x then 128 else 0

/-- A context: 192 bytes. DESIGN CHOICE, log 21. -/
def ctxBytes (base c : Nat) (st : LaneSt) (lag pc : Nat) (r : RegFile) (w : LaneWait) : List Byte :=
  let rel := (upTo 4 fun i => b2n (decide (base ≤ r.b.nth i)) * 2 ^ i).foldl (· + ·) 0
  let wk := match w with
    | .no => (0, 0, 0) | .bar i m => (3, i, m.toNat)
    | .beat t none => (1 + relMark base t, relBeat base c t, 0) | .beat t (some k) => (2 + relMark base t, relBeat base c t, k)
    | .fence t => (4 + relMark base t, relBeat base c t, 0)
  padTo 192 (leBytes 2 (laneCode st) ++ leBytes 2 pc ++ leBytes 1 r.stack.length ++ [r.p]
    ++ leBytes 1 rel ++ leBytes 1 wk.1 ++ (r.v.data.map fun x => leBytes 4 x.toNat).flatten
    ++ (r.b.data.map fun x => leBytes 8 (relBeat base c x)).flatten ++ (r.s.data.map fun x => leBytes 16 x.toNat).flatten
    ++ (upTo 4 fun i => leBytes 2 (r.stack.getD i 0)).flatten ++ leBytes 8 wk.2.1 ++ leBytes 1 wk.2.2 ++ leBytes 4 (min (2 ^ 32 - 1) lag))

/-- A domain: 32 bytes. -/
def domBytes (s : State) (d : Nat) : List Byte :=
  let p := s.sp.nth d
  padTo 32 (leBytes 1 (domCode (domSt s d)) ++ leBytes 1 (p.oppref + 16 * b2n p.direct) ++ leBytes 2 p.vop ++ leBytes 2 p.zll
    ++ leBytes 1 p.rise ++ leBytes 1 p.fall ++ leBytes 1 p.plhold ++ leBytes 2 p.fet ++ leBytes 1 (p.feband + 64 * b2n p.feEn)
    ++ leBytes 2 (signedBits 16 (s.loop.dl.nth d).ilim) ++ leBytes 2 (signedBits 16 (satI16 (s.dom.nth d).i))
    ++ leBytes 4 (s.exa.dd.nth d) ++ leBytes 8 (if typ d = .ma then (s.bank.nth (ord d)).gated.toNat else 0))

/-- A domain's place among the loops of an image. -/
def loopIx (d : Nat) : Nat := if d < 93 then d else d - 3

/-- The loops: outputs, the means and counts of the bins, shares, ceilings and counts, SAT flags, the coordinator's outputs;
512 bytes. DESIGN CHOICE, log 21. -/
def loopBytes (s : State) : List Byte :=
  let l := s.loop
  let q := fun (f : Int) => leBytes 3 f.toNat
  let mean := fun (b : List Nat) => leBytes 4 (satU32 (rdivNat (b.foldl (· + ·) 0) (max 1 b.length))) ++ leBytes 1 b.length
  padTo 512 (q l.fcap ++ q l.fbud ++ q l.fdie ++ (allDoms.map fun d => q (l.dl.nth d).f).flatten
    ++ (l.tl.data.map fun t => q t.f).flatten ++ (l.bins.data.map mean).flatten ++ (l.bbins.data.map mean).flatten
    ++ (l.share.data.map fun x => leBytes 3 x).flatten ++ leBytes 2 (l.ceilC + 16 * l.ceilA + 256 * l.ceilL) ++ leBytes 2 l.dn
    ++ leBytes 2 l.up ++ leBytes 1 (b2n l.satCap + 2 * b2n l.satBud + 4 * b2n l.satDiei)
    ++ leBytes 13 ((allDoms.map fun d => if (l.dl.nth d).sat then 2 ^ loopIx d else 0).foldl (· + ·) 0)
    ++ leBytes 1 ((upTo 8 fun k => if (l.tl.nth k).sat then 2 ^ k else 0).foldl (· + ·) 0)
    ++ (l.capF.data.map q).flatten ++ (l.budF.data.map q).flatten)

/-- Retry count, latch and the phases in HICCUP of a sheaf, with the beats since the latest entered, in 10 µs; 4 bytes. -/
def hicBytes (s : State) (d : Nat) : List Byte :=
  let r := s.shr.nth d
  let hic := (phasesOf d).filter fun p => decide ((s.ph.nth p).st = .hiccup)
  let m := (hic.map fun p => 2 ^ phPos p).foldl (· + ·) 0
  let at' := (hic.map fun p => (s.phw.nth p).hicAt).foldl max 0
  leBytes 1 (r.retry + 128 * b2n r.latch) ++ leBytes 2 m ++ leBytes 1 (min 255 ((s.time.beat - at') / 1000))

/-- A pending action: 16 bytes. A lag above 65,535 beats is kept as that. DESIGN CHOICE, log 21. -/
def actBytes (c : Nat) (a : Act) : List Byte :=
  padTo 16 (leBytes 8 a.word ++ leBytes 1 (a.due - c)
    ++ leBytes 1 (match a.ctx with | .lane l => l.val | .cmd => 8)
    ++ leBytes 2 (b2n a.res.isSome) ++ leBytes 2 ((a.res.map (·.1)).getD 0) ++ leBytes 2 (min 65535 (a.issue - a.stated)))

/-- The image at boundary beat `c` with the lanes as `lanes` has them (R310), or the freeze image (R392).
DESIGN CHOICE, log 21. -/
def saveImage (s : State) (magic : List Byte) (c : Nat) (stop : Bool) (lanes : List Lane) : List Byte :=
  let base := s.seqr.base
  let ctxs := ((lanes.take 8).map fun l => ctxBytes base c l.st l.lag l.pc l.rf l.wait).flatten
    ++ ctxBytes base c .idle 0 0 s.cmdw.rf .no
  let seg := padTo 64 (leBytes 2 s.seg.segid ++ leBytes 1 (b2n s.seg.gran) ++ leBytes 1 (min 4 s.exa.pend.length)
    ++ leBytes 4 s.seg.slack ++ leBytes 4 (covered s) ++ leBytes 4 s.exa.covDone
    ++ (s.exa.pend.map fun p => leBytes 8 (signedBits 64 ((p.t : Int) - c)) ++ leBytes 4 p.n).flatten)
  let misc := padTo 64 (leBytes 1 ((s.plan.inforce.map (·.val)).getD 31) ++ leBytes 1 s.loop.prio ++ leBytes 1 s.side.gran.policy
    ++ leBytes 2 s.side.gran.hold ++ leBytes 1 s.sg.rate ++ leBytes 1 (b2n s.tel.fine))
  let acts := s.acts.filter fun a => decide (c < a.due)
  let head := magic ++ [1, BitVec.ofNat 8 (b2n s.g.exact + 2 * b2n stop), 0, 0] ++ leBytes 4 11088
    ++ leBytes 4 s.g.idReg ++ leBytes 8 c ++ leBytes 8 base
  let body := padTo 32 s.seqr.tdig ++ padTo 32 s.setrec.dig ++ ctxs ++ seg ++ (upTo 128 (domBytes s)).flatten ++ loopBytes s ++ misc
    ++ padTo 384 (upTo 93 (hicBytes s)).flatten
    ++ padTo 4112 (padTo 16 (leBytes 4 (min 256 acts.length)) ++ (acts.map (actBytes c)).flatten)
  head ++ sha256 (head ++ body) ++ body

/-- The boundary of a pending SAVE is the SEG action beat at or after its own (R257). With STOP every lane stops. -/
def saveBoundary (s : State) : State :=
  match s.exa.svreq with
  | none => s
  | some (b, stop) =>
    if s.seg.opened ∧ s.seg.beat = s.time.beat ∧ b ≤ s.time.beat then
      let s := { s with exa := { s.exa with
        svreq := none, svcap := some s.time.beat, svbeat := s.time.beat, svlanes := s.lane.data, svstop := stop } }
      let s := if stop then haltLanes s 0xFF else s
      { s with exa := { s.exa with svst := 1 } }
    else s

/-- The image is captured and its write starts (R310). -/
def effSaveCapture (s : State) : State :=
  match s.exa.svcap with
  | none => s
  | some c =>
    let lanes := if s.exa.svstop then s.exa.svlanes else s.lane.data
    { s with exa := { s.exa with
      svimg := saveImage s [0x4D, 0x53, 0x41, 0x56] c s.exa.svstop lanes, svcap := none, svlanes := [], svst := 2 } }

def execSaveCapture (s : State) : Out := live s effSaveCapture

/-- An image whose digest fits its bytes. -/
def sealImage (img : List Byte) : List Byte := img.take 32 ++ sha256 (img.take 32 ++ img.drop 64) ++ img.drop 64

/-- The window that holds the boundary beat ends, and its mean currents are in the image (R310). -/
def saveMeans (s : State) : State :=
  if s.exa.svst = 2 ∧ s.exa.svbeat / 100 = (s.time.beat - 1) / 100 then
    let put := fun (img : List Byte) d =>
      img.take (1934 + 32 * d) ++ leBytes 2 (signedBits 16 (satI16 (s.dom.nth d).i)) ++ img.drop (1936 + 32 * d)
    { s with exa := { s.exa with svimg := sealImage (allDoms.foldl put s.exa.svimg) } }
  else s

/-- The write finishes, once the window that holds the boundary beat has ended, or a bus error stops it (R310).
DESIGN CHOICE, log 32, 121. -/
def effSaveWriteDone (ok : Bool) (s : State) : State :=
  if s.exa.svst = 2 then
    if ok then
      if s.time.beat / 100 = s.exa.svbeat / 100 then s
      else { s with mem.hmem := Memory.writeBytes s.mem.hmem s.exa.svaddr s.exa.svimg, exa := { s.exa with svst := 3, svimg := [] } }
    else raise { s with exa := { s.exa with svst := 4, svimg := [] } } bSEQ 15 subjDie
  else s

def execSaveWriteDone (ok : Bool) (s : State) : Out := live s (effSaveWriteDone ok)

-- Resuming (R311, R312).

def numAt (img : List Byte) (o n : Nat) : Nat :=
  ((upTo n fun i => (img.getD (o + i) 0).toNat * 256 ^ i).foldl (· + ·) 0)

/-- A stored beat counted from the new base (R312). -/
def absBeat (base c b' x : Nat) (rel : Bool) : Nat := if rel then ((b' : Int) + signExt 64 x).toNat else if base ≤ x then x + b' - c else x

/-- The register file of context `i` of an image, with its beats at the new base `b'`. -/
def ctxFile (img : List Byte) (i b' : Nat) : RegFile :=
  let o := 128 + 192 * i
  let rel := numAt img (o + 6) 1
  ⟨Tab.make 16 fun k => BitVec.ofNat 32 (numAt img (o + 8 + 4 * k) 4),
   Tab.make 4 fun k => absBeat (2 ^ 64) 0 b' (numAt img (o + 72 + 8 * k) 8) (bitOf rel k),
   BitVec.ofNat 8 (numAt img (o + 5) 1),
   Tab.make 4 fun k => BitVec.ofNat 128 (numAt img (o + 104 + 16 * k) 16),
   upTo (min 4 (numAt img (o + 4) 1)) fun k => numAt img (o + 168 + 2 * k) 2⟩

/-- What the lane of context `i` waits for. -/
def ctxWait (img : List Byte) (i b' : Nat) : LaneWait :=
  let o := 128 + 192 * i
  let k := numAt img (o + 7) 1
  let x := numAt img (o + 176) 8
  let t := if 128 ≤ k then absBeat 0 0 b' x true else x
  match k % 128 with
  | 1 => .beat t none
  | 2 => .beat t (some (numAt img (o + 184) 1))
  | 3 => .bar (numAt img (o + 176) 8) (BitVec.ofNat 8 (numAt img (o + 184) 1))
  | 4 => .fence t
  | _ => .no

/-- Restores a domain; one that is ON moves to its operating point in the order of R98, with the resume pre-lift (R312). -/
def restoreDom (img : List Byte) (b' : Nat) (s : State) (d : Nat) : State :=
  let o := 1920 + 32 * d
  if present s d then
    let op := numAt img (o + 1) 1
    let feb := numAt img (o + 11) 1
    let s := modSp s d fun p => { p with
      oppref := op % 16, direct := decide (16 ≤ op), vop := numAt img (o + 2) 2
      vopWas := if domSt s d = .on then p.vop else p.vopWas, zll := numAt img (o + 4) 2
      rise := numAt img (o + 6) 1, fall := numAt img (o + 7) 1, plhold := numAt img (o + 8) 1
      fet := numAt img (o + 9) 2, feband := feb % 64, feEn := decide (64 ≤ feb) }
    let i := signExt 16 (numAt img (o + 14) 2)
    let g := BitVec.ofNat 64 (numAt img (o + 20) 8)
    let s := { s with
      loop := { s.loop with dl := s.loop.dl.modN d fun l => { l with ilim := signExt 16 (numAt img (o + 12) 2) } }
      exa := { s.exa with dd := s.exa.dd.modN d fun _ => numAt img (o + 16) 4 } }
    let s := if typ d = .ma then bankGate s (ord d) g else s
    if domSt s d = .on then
      let s := { s with exa := { s.exa with
        svpl := s.exa.svpl.modN d fun _ => some ((s.sp.nth d).zll * i, b' + (s.sp.nth d).plhold) } }
      followHeld s d
    else s
  else s

/-- Restores the loops (R312). DESIGN CHOICE, log 21. -/
def restoreLoops (img : List Byte) (s : State) : State :=
  let o := 6016
  let q := fun k => (numAt img (o + 3 * k) 3 : Int)
  let bins := fun (base k : Nat) => List.replicate (numAt img (base + 5 * k + 4) 1) (numAt img (base + 5 * k) 4)
  let b1 := o + 3 * 108
  let b2 := b1 + 20
  let sh := b2 + 20
  let c := numAt img (sh + 12) 2
  let f := numAt img (sh + 18) 1
  let fd := numAt img (sh + 19) 13
  let ft := numAt img (sh + 32) 1
  { s with loop := { s.loop with
    fcap := q 0, fbud := q 1, fdie := q 2
    dl := s.loop.dl.mapIx fun d l =>
      if d < 93 ∨ (96 ≤ d ∧ d < 100) then { l with f := q (3 + loopIx d), sat := bitOf fd (loopIx d) } else l
    tl := s.loop.tl.mapIx fun k t => { t with f := q (100 + k), sat := bitOf ft k }
    capF := Tab.make 4 fun k => numAt img (sh + 33 + 3 * k) 3
    budF := Tab.make 4 fun k => numAt img (sh + 45 + 3 * k) 3
    bins := Tab.make 4 (bins b1), bbins := Tab.make 4 (bins b2)
    share := Tab.make 4 fun k => numAt img (sh + 3 * k) 3
    ceilC := c % 16, ceilA := c / 16 % 16, ceilL := c / 256
    dn := numAt img (sh + 14) 2, up := numAt img (sh + 16) 2
    satCap := bitOf f 0, satBud := bitOf f 1, satDiei := bitOf f 2 } }

/-- A phase is in HICCUP since beat `at'`, or it is not and rejoins its sheaf (R312). -/
def setHiccup (s : State) (p : Nat) (hic : Bool) (at' : Nat) : State :=
  if hic then (if slotted s p then hiccupOff s p at' else modPhw s p fun w => { w with hicAt := at' })
  else if (s.ph.nth p).st = .hiccup then joinActive s p
  else s

/-- The hiccup state of a sheaf is the image's when the image is of this very chip, and clean otherwise (R312).
DEDUCED, log 147. -/
def restoreHic (img : List Byte) (same : Bool) (s : State) (d : Nat) : State :=
  let o := 6592 + 4 * d
  let r := numAt img o 1
  let m := numAt img (o + 1) 2
  let t := numAt img (o + 3) 1
  let s := modShr s d fun x => { x with retry := if same then r % 128 else 0, latch := same && decide (128 ≤ r) }
  (phasesOf d).foldl (fun s p => setHiccup s p (same && bitOf m (phPos p)) (s.time.beat - 1000 * t)) s

/-- A pending action of the image at offset `o`. The targets of a resolved one follow from its word and the restored set
registers `rf`. DESIGN CHOICE, log 21. -/
def restoreAct (s : State) (img : List Byte) (b' : Nat) (rf : Nat → RegFile) (o : Nat) : Act :=
  let w := numAt img o 8
  let due := b' + numAt img (o + 8) 1
  let l := numAt img (o + 9) 1
  let m : BitVec 128 :=
    if domTargeted w then (if fDom w = 0xFF then (rf l).s.nth (fSet w) else (1 : BitVec 128) <<< fDom w) else 0
  ⟨if h : l < 8 then .lane ⟨l, h⟩ else .cmd, w, due - 4, due - 4 - numAt img (o + 14) 2, numAt img (o + 14) 2, due,
    if numAt img (o + 10) 2 = 1 then some (numAt img (o + 12) 2, m) else none, s.cmdw.cext, decide (8 ≤ l)⟩

/-- The last actuation of lane `l` among actions, or `z`. -/
def lastDue (acts : List Act) (l z : Nat) : Nat :=
  acts.foldl (fun m a => if isActuation (opc a.word) then
    (match a.ctx with | .lane k => if k.val = l then max m a.due else m | .cmd => m) else m) z

/-- The whole restore at the resume's action beat (R312): the overlay, the loops, then the domains, and the rest. -/
def restoreAll (s : State) (img : List Byte) (b' : Nat) : State :=
  let c := numAt img 16 8
  let same := decide (numAt img 12 4 = s.g.idReg)
  let ov := numAt img 6528 1
  let pick : Option (Fin 16) := if h : ov < 16 then some ⟨ov, h⟩ else none
  let s := if s.plan.inforce = pick then s else switchOverlay s pick
  let s := allDoms.foldl (restoreDom img b') (restoreLoops img s)
  let s := sheafIdx.foldl (restoreHic img same) s
  let acts := upTo (min 256 (numAt img 6976 4)) fun i => restoreAct s img b' (fun l => ctxFile img l b') (6992 + 16 * i)
  let k := numAt img 1859 1
  { s with
    lane := s.lane.mapIx fun i l =>
      let o := 128 + 192 * i
      let st := laneOfCode (numAt img o 1)
      { l with
        st := if st = .run ∨ st = .waiting ∨ st = .armed then .armed else st
        lag := numAt img (o + 185) 4, pc := numAt img (o + 2) 2, rf := ctxFile img i b', wait := ctxWait img i b'
        lastAct := lastDue acts i 0 }
    cmdw := { s.cmdw with rf := ctxFile img 8 b' }
    seg := { s.seg with
      segid := numAt img 1856 2, gran := decide (numAt img 1858 1 = 1), slack := numAt img 1860 4, opened := true, beat := b'
      arrOpen := 0, openArr := [] }
    acts := s.acts ++ acts
    sg := { s.sg with rate := numAt img 6533 1 }
    tel := { s.tel with want := decide (numAt img 6534 1 = 1) }
    side := { s.side with gran := { s.side.gran with policy := numAt img 6530 1, hold := numAt img 6531 2 } }
    exa := { s.exa with
      covDone := numAt img 1868 4
      pend := upTo (min 4 k) fun i =>
        ⟨((b' : Int) + signExt 64 (numAt img (1872 + 12 * i) 8)).toNat, numAt img (1880 + 12 * i) 4, 0⟩
      hicdrop := !same, resumed := true }
    loop := { s.loop with prio := numAt img 6529 1 }
    seqr := { s.seqr with resume := some ⟨[], b', c⟩ } }

/-- The target of a domain once the V_op that waits for its clock is in force (R98, R311). -/
def finalTgt (s : State) (d : Nat) : Int :=
  match (s.sp.nth d).vopNext with
  | none => (s.sp.nth d).vtgt
  | some v => composed (modSp s d fun p => { p with vop := v }) d

/-- The longest slew of any domain to its restored target, in beats (R311). -/
def longestSlew (s : State) : Nat :=
  (allDoms.map fun d =>
    let p := s.sp.nth d
    let far := finalTgt s d - p.vcmd
    if domSt s d = .on then ceilDiv far.natAbs (rateBeat p (sgn far)).toNat else 0).foldl max 0

/-- The checks of a resume in order: zero, or the code (R311). `s'` is the restored state. -/
def resumeCheck (s s' : State) (img : List Byte) (b' : Nat) : Nat :=
  let ok := decide (img.take 4 = [0x4D, 0x53, 0x41, 0x56] ∧ numAt img 4 1 = 1 ∧ numAt img 8 4 = 11088
    ∧ (img.drop 32).take 32 = sha256 (img.take 32 ++ img.drop 64))
  if !ok then 0x28
  else if (img.drop 64).take 32 ≠ padTo 32 s.seqr.tdig then 0x29
  else if (img.drop 96).take 32 ≠ padTo 32 s.setrec.dig then 0x2A
  else if bitOf (numAt img 5 1) 0 ≠ s.g.exact then 0x2B
  else if ¬ (allDoms.all fun d => decide (numAt img (1920 + 32 * d) 1 ≠ 3 ∨ domSt s d = .on)) then 0x2C
  else if b' < s.time.beat + max 1000 (16 + longestSlew s') then 0x2D
  else 0

end Sys2Proof.Machine
end

