-- ==== Sys2Proof/Machine/Commands.lean ====
section
/-! DEFINITION. Track memory and admission (R191 to R194), sheaf microtables (R212 to R215), arming (R195, R311), the
life-cycle request (R440 to R443), at the action beats of the window's commands. -/

namespace Sys2Proof.Machine

-- Track memory (R191).

/-- Bytes written at byte `a` of the image, as a window write. -/
def trackWrite (s : State) (a : Nat) (bs : List Byte) : State :=
  if armed s then { s with seqr := { s.seqr with tmwig := s.seqr.tmwig.inc 65535 } }
  else { s with
    mem.tmem := Memory.writeBytes s.mem.tmem a bs
    seqr := { s.seqr with admitted := false, adm := s.seqr.adm.map fun a => { a with touched := true } } }

/-- A write of word `off` of the window (R191). -/
def execTrackMemoryWrite (off : Nat) (v : Word32) (s : State) : Out := bus s fun s =>
  trackWrite s (32768 * s.seqr.page + off % 32768 / 4 * 4) (leBytes 4 v.toNat)

-- Admission (R194).

/-- Tables of `n` words at word `o` of an image of `len` words. -/
def tabFits (len o n : Nat) : Bool := decide (9 ≤ o ∧ o + n ≤ len)

/-- Two tables apart. -/
def tabApart (a n b m : Nat) : Bool := decide (a + n ≤ b ∨ b + m ≤ a)

def pkWords (s : State) : Nat := 1 + 2 * tW32 s (8 * trkPk s)
def ovWords (s : State) : Nat := 1 + 2 * tW32 s (8 * trkOv s)

/-- Check 5. -/
def trkTables (s : State) : Bool :=
  let n := trkLen s
  tabFits n (trkPk s) (pkWords s) && tabFits n (trkOv s) (ovWords s) && tabFits n (trkOwn s) 32
    && tabApart (trkPk s) (pkWords s) (trkOv s) (ovWords s) && tabApart (trkPk s) (pkWords s) (trkOwn s) 32
    && tabApart (trkOv s) (ovWords s) (trkOwn s) 32

/-- The words of the code region. -/
def codeWords (s : State) : List Nat := upTo (codeEnd s - 8) fun i => tWord s (8 + i)

/-- Check 10. -/
def trkOwnership (s : State) : Bool :=
  ((List.range 8).all fun i => (List.range 8).all fun j => decide (i = j) || decide (trkMask s i &&& trkMask s j = 0))
    && (List.range 8).all fun l =>
      if trkEntry s l = 0xFFFF then decide (trkMask s l = 0 ∧ trkActmax s l = 0) else decide (1 ≤ trkActmax s l ∧ trkActmax s l ≤ 8)

/-- No element twice. -/
def distinct : List Nat → Bool
  | [] => true
  | x :: xs => !xs.contains x && distinct xs

/-- The die current limit that R30 and R43 give, in 1/64 A. -/
def dieLimMod (s : State) : Int := min (modLimit s) 73600

/-- The checks of a track image in order, but for the first and the last: zero, or the code (R194). -/
def trackCheck (s : State) : Nat :=
  let n := trkLen s
  if Memory.readBytes s.mem.tmem 0 4 ≠ [0x4D, 0x54, 0x52, 0x4B] then 2
  else if tByte s 4 ≠ 1 then 3
  else if ¬ (9 ≤ n ∧ n ≤ 32768) then 4
  else if ¬ trkTables s then 5
  else if Memory.readBytes s.mem.tmem 32 32 ≠ sha256 (Memory.readBytes s.mem.tmem 0 32 ++ Memory.readBytes s.mem.tmem 64 (8 * n - 64)) then 6
  else if tByte s 5 % 4 = 3 ∨ 4 ≤ tByte s 5 then 7
  else if ¬ (((List.range 8).all fun l => decide (trkEntry s l = 0xFFFF) || inCode s (trkEntry s l))
      && (List.range 8).any fun l => decide (trkEntry s l ≠ 0xFFFF)) then 8
  else if ¬ ((codeWords s).all fun w => definedOp (opc w) && !commandOnly (opc w)) then 9
  else if ¬ trkOwnership s then 10
  else if ¬ (decide (1 ≤ tW32 s (8 * trkPk s) ∧ tW32 s (8 * trkPk s) ≤ 4096) && distinct ((trkPeaks s).map (·.1))
      && (trkPeaks s).all fun p => decide (p.2.1 ≤ dieLimMod s ∧ p.2.2 ≤ 3800000)) then 11
  else if ¬ ((codeWords s).all fun w => decide (opc w ≠ 4) || ((trkPeaks s).map (·.1)).contains (bits w 32 16)) then 12
  else if ¬ (decide (tW32 s (8 * trkOv s) ≤ 17) && distinct ((trkOvRefs s).map (·.1))
      && (trkOvRefs s).all fun r => decide (r.1 < 16 ∨ r.1 = 0xFF)) then 13
  else 0

/-- A failed admission, arm or microtable check (R194, R195, R218). -/
def seqReject (s : State) (c : Nat) : State :=
  cmdDone (raise { s with seqr := { s.seqr with admerr := c } } bSEQ 8 subjDie) 3 c s.time.beat

/-- LOADPLAN of the track image at its action beat: check 1, then the checks run (R194). -/
def loadTrack (s : State) : State :=
  if armed s then seqReject { s with seqr := { s.seqr with admitted := false } } 1
  else { s with seqr := { s.seqr with admitted := false, adm := some ⟨false, trackCheck s⟩ } }

/-- Admission finishes; a window write meanwhile fails an image that stood before it with check 14 (R194, R216). -/
def effTrackAdmissionDone (s : State) : State :=
  match s.seqr.adm with
  | none => s
  | some a =>
    let s := { s with seqr := { s.seqr with adm := none } }
    let c := if a.touched then (if a.first = 0 then 14 else a.first) else trackCheck s
    match c with
    | 0 =>
      let s := { s with
        seqr := { s.seqr with admitted := true, mode := tByte s 5 % 4, tdig := Memory.readBytes s.mem.tmem 32 32 }
        lane := s.lane.mapIx fun i l => { l with mask := trkMask s i, actmax := trkActmax s i } }
      cmdDone s 0 0 s.time.beat
    | c => seqReject s c

def execTrackAdmissionDone (s : State) : Out := live s effTrackAdmissionDone

-- Microtables (R212 to R215).

def modMt (s : State) (d : Nat) (f : Mt → Mt) : State := { s with mt := s.mt.modN d f }

/-- The checks of a microtable image in order (R213). -/
def mtCheck (s : State) : Nat :=
  let h := Memory.readBytes s.mem.mtimg 0 64
  let n := byteN h 12
  if armed s then 0x30
  else if h.take 4 ≠ [0x4D, 0x53, 0x48, 0x54] then 0x31
  else if le16 h 4 ≠ 1 then 0x32
  else if ¬ (1 ≤ n ∧ n ≤ 63 ∧ le32 h 8 = 64 + 256 * n) then 0x33
  else if h.drop 32 ≠ sha256 (h.take 32 ++ Memory.readBytes s.mem.mtimg 64 (256 * n)) then 0x34
  else 0

/-- LOADPLAN of a microtable at its action beat (R213): the broadcast starts. -/
def loadMicrotable (s : State) : State :=
  match mtCheck s with
  | 0 =>
    let n := tByteOf s.mem.mtimg 12
    { s with
      mts := { s.mts with load := some ⟨Memory.readBytes s.mem.mtimg 32 32, Memory.readBytes s.mem.mtimg 64 (256 * n), n, none⟩ }
      mt := s.mt.mapIx fun d m =>
        if present s d ∧ (s.shf.nth d).hold = false then
          { m with st := 2, shadow := [], npkt := n, acked := false, nackOut := none, rounds := 0, gaveUp := false }
        else { m with acked := false, gaveUp := true, nackOut := none, rounds := 0 } }
  | c => seqReject s c
where tByteOf (m : List Host.Cell) (a : Nat) : Nat := (Memory.read m a).toNat

/-- A packet reaches a sheaf; with a good CRC it is one that Meser sends, a part of the staged body (R213). -/
def effMicrotablePacket (i : Fin 93) (n npkt : Nat) (data : List Byte) (crc : Word32) (s : State) : State :=
  let m := s.mt.get i
  if m.st = 2 ∧ (s.shf.get i).hold = false then
    if crc.toNat = crc32 (leBytes 1 n ++ leBytes 1 npkt ++ data) then
      if n < npkt ∧ npkt = m.npkt ∧ (s.mts.load.any fun l => decide (data = (l.body.drop (256 * n)).take 256)) then
        modMt s i.val fun m => { m with shadow := (n, data) :: m.shadow.filter fun p => p.1 ≠ n, lastpkt := n }
      else s
    else modMt s i.val fun m => { m with crcerr := m.crcerr.inc 65535 }
  else s

def execMicrotablePacket (i : Fin 93) (n npkt : Nat) (data : List Byte) (crc : Word32) (s : State) : Out :=
  live s (effMicrotablePacket i n npkt data crc)

/-- The packets a sheaf misses, as the mask of its NACK. -/
def mtMissing (m : Mt) : Word64 :=
  (List.range m.npkt).foldl (fun a n => if m.shadow.any fun p => decide (p.1 = n) then a else a ||| ((1 : Word64) <<< n)) 0

/-- END: the sheaf answers ACK, held as an empty mask, or NACK (R213). DESIGN CHOICE, log 121. -/
def effMicrotableEnd (i : Fin 93) (dig : List Byte) (s : State) : State :=
  let m := s.mt.get i
  if m.st = 2 ∧ (s.shf.get i).hold = false then
    let miss := mtMissing m
    modMt s i.val fun m => { m with
      nackOut := some miss, shdig := dig, nacks := if miss = 0 then m.nacks else m.nacks.inc 65535 }
  else s

def execMicrotableEnd (i : Fin 93) (dig : List Byte) (s : State) : Out := live s (effMicrotableEnd i dig)

/-- A sheaf has ACKed, used its rounds, or is in hold. -/
def mtSettled (s : State) (d : Nat) : Bool :=
  !present s d || (s.mt.nth d).acked || (s.mt.nth d).gaveUp || (s.shf.nth d).hold

/-- When every sheaf has settled, COMMIT names a beat 8 beats later (R213). -/
def mtMaybeCommit (s : State) : State :=
  match s.mts.load with
  | none => s
  | some l =>
    if l.commit = none ∧ sheafIdx.all (mtSettled s) then
      { s with mts := { s.mts with load := some { l with commit := some (s.time.beat + 8) } } }
    else s

/-- Meser records an ACK (R213). -/
def effMicrotableAck (i : Fin 93) (s : State) : State :=
  match s.mts.load with
  | some l =>
    if (s.mt.get i).nackOut = some 0 ∧ (s.mt.get i).shdig = l.dig then
      mtMaybeCommit (modMt s i.val fun m => { m with acked := true, nackOut := none })
    else s
  | none => s

def execMicrotableAck (i : Fin 93) (s : State) : Out := live s (effMicrotableAck i)

/-- Meser resends what a sheaf misses, for at most three rounds (R213). -/
def effMicrotableNack (i : Fin 93) (s : State) : State :=
  let m := s.mt.get i
  match s.mts.load, m.nackOut with
  | some _, some k =>
    if k = 0 then s
    else if m.rounds < 3 then modMt s i.val fun m => { m with rounds := m.rounds + 1, nackOut := none }
    else mtMaybeCommit (modMt s i.val fun m => { m with gaveUp := true, nackOut := none })
  | _, _ => s

def execMicrotableNack (i : Fin 93) (s : State) : Out := live s (effMicrotableNack i)

/-- The commit beat: ACKed sheaves switch, the others read FAILED and raise MT_FAIL, the command completes (R213, R218). Code 0x35 stands
in SEQ_ADMERR and raises no ADM_REJ. DESIGN CHOICE, log 156. -/
def effMicrotableCommit (s : State) : State :=
  let s := mtMaybeCommit s
  match s.mts.load with
  | none => s
  | some l =>
    if l.commit.any fun c => decide (c ≤ s.time.beat) then
      let ok := fun d => (s.mt.nth d).acked && !(s.shf.nth d).hold
      let bad := sheafIdx.filter fun d => present s d && !ok d
      let s := { s with
        mts := ⟨some l.dig, none⟩
        mt := s.mt.mapIx fun d m =>
          if present s d then
            if ok d then { m with dig := some l.dig, st := 1, shadow := [] } else { m with st := 3, shadow := [] }
          else m }
      if bad = [] then cmdDone s 0 0 s.time.beat
      else
        let s := bad.foldl (fun s d => raise s bSEQ 9 (subjD d)) { s with seqr := { s.seqr with admerr := 0x35 } }
        cmdDone s 3 0x35 s.time.beat
    else s

def execMicrotableCommit (s : State) : Out := live s effMicrotableCommit

/-- SHF_MTSTAT.CLRCNT (R215). -/
def execShfMtstatClrcnt (i : Fin 93) (s : State) : Out := bus s fun s =>
  modMt s i.val fun m => { m with crcerr := .zero, nacks := .zero }

-- Arming (R195, R214).

/-- Check 4: every present sheaf holds the committed digest, which is not the built-in one, and none reads FAILED. -/
def mtReady (s : State) : Bool :=
  s.mts.committed.isSome && sheafIdx.all fun d =>
    !present s d || (decide ((s.mt.nth d).dig = s.mts.committed) && decide ((s.mt.nth d).st ≠ 3))

/-- Check 6 for one reference. -/
def ovRefOk (s : State) (r : Nat × List Byte) : Bool :=
  if r.1 = 0xFF then s.plan.loaded && decide (s.plan.digest.take 8 = r.2)
  else
    let o := s.plan.slots.data.getD r.1 default
    o.valid && decide (o.digest.take 8 = r.2)

/-- The arm checks in order: zero, or the code (R195). -/
def armCheck (s : State) (b : Nat) : Nat :=
  if ¬ s.seqr.admitted then 0x20
  else if armed s then 0x21
  else if ¬ s.time.valid then 0x22
  else if ¬ mtReady s then 0x23
  else if (s.seqr.mode = 1 ∧ exactOn s) ∨ (s.seqr.mode = 2 ∧ ¬ exactOn s) then 0x24
  else if ¬ (trkOvRefs s).all (ovRefOk s) then 0x25
  else if ¬ (trkPeaks s).all (fun p => decide (p.2.1 ≤ dieLimEff s)) then 0x26
  else if ¬ (s.time.beat + 16 ≤ b ∧ b ≤ s.time.beat + 2 ^ 32) then 0x27
  else 0

/-- The arm's effects once its checks have passed: lanes wait for B, the last run's stall state is cleared, and the report
goes up (R195, R298, R340). -/
def armLanes (s : State) (b : Nat) : State :=
  { s with
    lane := s.lane.mapIx fun i l =>
      let used := decide (trkEntry s i ≠ 0xFFFF)
      { l with
        st := if used then .armed else .idle
        mask := trkMask s i, actmax := trkActmax s i, cause := 0, lag := 0, pc := if used then trkEntry s i else l.pc
        wait := .no, rf := RegFile.start b, ovrBeat := none }
    seqr := { s.seqr with base := b, started := false, resume := none, minsp := trkMinsp s }
    exa := { s.exa with dd := s.exa.dd.map fun _ => 0, covDone := 0, pend := [], applied := [], resumed := false, hicdrop := false } }

/-- The barrier's part of a passing ARM (R340). -/
def armReport (s : State) : State :=
  let s := { s with side := { s.side with
    barPend := s.side.en && decide (1 < s.side.ninst), barPass := false, barB := s.seqr.base, decided := false, told := true } }
  sendArmrpt s true s.seqr.base

/-- B of an ARM (R195). -/
def armBase (a : Act) : Nat := (a.ext.nth 0).toNat + 2 ^ 32 * (a.ext.nth 1).toNat

/-- ARM at its action beat, without and with resume (R195, R311, R313). DESIGN CHOICE, log 32. -/
def armAction (s : State) (a : Act) : State :=
  let b := armBase a
  let res := bitOf (a.ext.nth 2).toNat 31
  if res ∧ s.exa.svst = 2 then sendArmrpt (cmdDone s 6 0 s.time.beat) false b
  else match armCheck s b with
    | 0 =>
      let s1 := armLanes s b
      if res then
        let img := Memory.readBytes s.mem.hmem s.exa.svaddr 11088
        let s2 := restoreAll s1 img b
        match resumeCheck s s2 img b with
        | 0 => cmdDone (armReport s2) 0 0 s.time.beat
        | c => sendArmrpt (seqReject s c) false b
      else cmdDone (armReport s1) 0 0 s.time.beat
    | c => sendArmrpt (seqReject s c) false b

-- The life cycle (R440 to R443, R263).

/-- The transitions: some needToken. A request for TEST from RETURN carries its token in CMDW_EXT.
DESIGN CHOICE, log 29. -/
def lcStep (a b : Nat) : Option Bool :=
  match a, b with
  | 0, 1 => some false
  | 1, 2 => some false
  | 2, 3 => some true
  | 3, 1 => some true
  | 1, 4 | 2, 4 | 3, 4 => some false
  | _, _ => none

/-- The token of a request: the first 128 bits of the HMAC over LC_CHAL, the ID register and the state code (R442).
DESIGN CHOICE, log 6; DEDUCED, log 28. -/
def lcToken (s : State) (st : Nat) : List Byte :=
  (hmac Config.deviceKey (leBytes 8 s.g.lcChal.toNat ++ leBytes 4 s.g.idReg ++ leBytes 1 st)).take 16

/-- LCREQ at its action beat. DESIGN CHOICE, log 5, 29. -/
def lcreqAction (s : State) (a : Act) : State :=
  let st := fVal a.word % 8
  let tok := (a.ext.data.map fun x => leBytes 4 x.toNat).flatten
  if armed s then cmdDone s 6 0 s.time.beat
  else match lcStep s.g.lc st with
    | none => cmdDone s 7 0 s.time.beat
    | some false =>
      if tok.all (· = 0) then { s with g := { s.g with lcProg := some st } } else cmdDone s 4 0 s.time.beat
    | some true =>
      if s.g.lcLocked then cmdDone s 7 0 s.time.beat
      else if tok = lcToken s st then { s with g := { s.g with lcProg := some st } }
      else
        let s := { s with
          g := { s.g with
            lcFails := s.g.lcFails + 1, lcLocked := decide (8 ≤ s.g.lcFails + 1), lcChal := Config.challenge s.freeCtr }
          freeCtr := s.freeCtr + 1 }
        cmdDone s 7 0 s.time.beat

/-- The new state is programmed (R443). -/
def effLcProgramDone (s : State) : State :=
  match s.g.lcProg with
  | none => s
  | some st =>
    let t := { s with g := { s.g with lcNext := st, lcProg := none } }
    if s.cmdw.busy ∧ opc s.cmdw.word = 0x3C then cmdDone t 0 0 s.time.beat else t

def execLcProgramDone (s : State) : Out := powered s effLcProgramDone

end Sys2Proof.Machine
end

