-- ==== Sys2Proof/Machine/Faults.lean ====
section
/-! DEFINITION. Fault blocks: the conditions that persist, clearing, handling and history; the silo writer, the error pin,
injection and freeze (R375 to R399). -/

namespace Sys2Proof.Machine

def modFlt (s : State) (b : Fin 10) (f : Flt → Flt) : State := { s with flt := s.flt.mod b f }

/-- Some present domain with a sheaf satisfies `f`. -/
def anySheaf (s : State) (f : Nat → Bool) : Bool := sheafIdx.any fun d => present s d && f d

/-- TRISK of Exact mode: some domain is at risk (R307). -/
def triskNow (s : State) : Bool := exactOn s && anySheaf s fun d => (s.shr.nth d).trisk

/-- EXACT_TRISK is raised when the condition appears (R307, R376). -/
def triskBeat (s : State) : State :=
  let s' := { s with exa := { s.exa with trisk := triskNow s } }
  if triskNow s && !s.exa.trisk then raise s' bSEQ 13 subjDie else s'

/-- The condition of a "persists" source holds now (R141, R167, R218, R296, R316, R374, R397, R422). -/
def causeNow (s : State) (b src : Nat) : Bool :=
  match b, src with
  | 0, 1 => allDoms.any fun d => (s.pd.nth d).ovlatch
  | 0, 2 => s.prot.vbkill
  | 0, 7 => s.prot.low
  | 0, 8 => s.prot.dip
  | 0, 9 => s.prot.high
  | 0, 10 => s.prot.iinovr
  | 0, 11 => s.prot.warn
  | 0, 13 => s.prot.shutdn
  | 0, 14 => s.prot.coolant
  | 1, 2 => anySheaf s fun d => decide (domSt s d = .dark)
  | 1, 4 => anySheaf s fun d => (s.shr.nth d).latch
  | 1, 7 => s.bond.data.any (·.severe)
  | 3, 2 => s.time.alignCause && !s.time.aligned
  | 3, 9 => anySheaf s fun d => decide ((s.mt.nth d).st = 3)
  | 3, 13 => triskNow s
  | 4, 0 => s.loop.bud.feAct
  | 4, 1 => s.loop.bud.lostNow
  | 4, 6 => s.tel.buserr
  | 7, 5 => s.la.data.any (·.capped)
  | 7, 6 => (upTo 4 id).any fun l => decide (domSt s (96 + l) = .dark)
  | 7, 7 => s.swref.fallbk
  | 7, m => decide ((s.bm.nth m).st = .fault ∧ m < 4)
  | 8, k => s.mtrmRaw.getLsbD k
  | 9, 1 => decide (4096 ≤ s.mem.siloRecs.length)
  | _, _ => false

/-- RAW of a source: its condition, or an injection that holds it (R376, R390). -/
def rawBit (s : State) (b src : Nat) : Bool :=
  (srcInfo b src).2.2 && (causeNow s b src || s.dbg.held.any fun x => decide (x.blk = b ∧ x.src = src))

/-- RAW of a block (R396). -/
def rawWord (s : State) (b : Nat) : Word32 :=
  (List.range 32).foldl (fun w i => if rawBit s b i then w ||| ((1 : Word32) <<< i) else w) 0

/-- STAT bits cleared by a W1C write or by CLRF; a persisting cause latches its bit again (R382). -/
def statClear (s : State) (b : Fin 10) (bits : Word32) : State :=
  let raw := rawWord s b.val
  modFlt s b fun f => { f with stat := (f.stat &&& ~~~ bits) ||| (f.stat &&& bits &&& raw) }

def execFaultStatClear (b : Fin 10) (bits : Word32) (s : State) : Out := bus s fun s => statClear s b bits

/-- CTL.HANDLING written 1 (R381). -/
def execHandlingClear (b : Fin 10) (s : State) : Out := bus s fun s =>
  modFlt s b fun f => { f with handling := false, epi := none }

/-- CTL.HSET (R381). -/
def execHset (b : Fin 10) (s : State) : Out := bus s fun s =>
  modFlt s b fun f => { f with handling := true, epi := if f.handling then f.epi else none }

/-- CTL.HCLR (R379, R381). -/
def execHclr (b : Fin 10) (s : State) : Out := bus s fun s =>
  modFlt s b fun f => { f with hist := f.hist.map fun _ => default, next := 0, wrapped := false, empty := true, epi := none }

/-- A time of the AON oscillator that ends at beat `b` is over; without REFCLK no beat counts it. DEDUCED, log 155. -/
def timeUp (s : State) (b : Nat) : Bool := decide (b ≤ s.time.beat) || !s.time.refclk

/-- The pulse timer expires (R383). DEDUCED, log 155. -/
def execErrPinPulseEnd (s : State) : Out := powered s fun s =>
  if s.fpin.run && timeUp s s.fpin.endAt then { s with fpin := { s.fpin with run := false } } else s

/-- ERR_OUT_N driven low by this instance, or by EXTEST's cell (R383, R449, R464). DESIGN CHOICE, log 152. -/
def pinDrive (s : State) : Bool :=
  match s.pins.scan with
  | some x => !x.errOut
  | none => pinsLive s && (s.fpin.run || s.fpin.hold)

/-- SILO_STAT.CLRCNT (R398). -/
def execSiloClrcnt (s : State) : Out := bus s fun s =>
  { s with silo := { s.silo with drop := .zero, supp := .zero } }

/-- The writer programs the oldest capture and verifies it, or finds the silo full (R384, R385, R387, R388), its raises in ascending
source (R395). DESIGN CHOICE, log 121. -/
def effSiloProgram (ok : Bool) (s : State) : State :=
  match s.silo.wait with
  | [] => s
  | c :: rest =>
    let r := withChk c.bytes
    if s.mem.siloRecs.length < 4096 then
      let full := decide (s.mem.siloRecs.length + 1 = 4096)
      if ok then
        let s := { s with
          mem.siloRecs := s.mem.siloRecs ++ [r], silo := { s.silo with wait := rest }, g := { s.g with chipReq := s.g.chipReq || c.reset } }
        if full then raise s bDBG 1 subjDie else s
      else
        let s := { s with mem.siloRecs := s.mem.siloRecs ++ [r.modify 18 (· ^^^ 0xFF)] }
        raise (if full then raise s bDBG 1 subjDie else s) bDBG 2 subjDie
    else
      { s with
        silo := { s.silo with
          wait := rest, ring := s.silo.ring.modN s.silo.ovnext fun _ => r
          ovnext := (s.silo.ovnext + 1) % 64, ovwr := (s.silo.ovwr + 1) % 2 ^ 32 }
        g := { s.g with chipReq := s.g.chipReq || c.reset } }

def execSiloProgram (ok : Bool) (s : State) : Out := powered s (effSiloProgram ok)

-- Injection (R390).

/-- A source's RAW is held until beat `due`. -/
def holdRaw (s : State) (blk src due : Nat) : State :=
  { s with dbg := { s.dbg with held := ⟨blk, src, due⟩ :: s.dbg.held.filter fun x => ¬ (x.blk = blk ∧ x.src = src) } }

/-- GO of DBG_INJ, in TEST and outside freeze. -/
def effInjectGo (s : State) : State :=
  let d := s.dbg
  if s.g.lc = 1 ∧ d.active = false then
    let s := if d.mode = 0 then
        if h : d.blk < 10 then
          if d.src < (srcTable d.blk).length then
            let s := raiseWith s ⟨d.blk, h⟩ d.src d.subj true (!d.silo) none
            if (srcInfo d.blk d.src).2.2 then holdRaw s d.blk d.src (s.time.beat + 1000 * d.holdt) else s
          else s
        else s
      else { s with dbg := { s.dbg with injs := s.dbg.injs ++ [⟨d.mode, d.subj, d.arg⟩] } }
    raise s bDBG 4 d.subj
  else s

def execInjectGo (s : State) : Out := powered s effInjectGo

/-- STOP ends injections of modes 1 to 3. -/
def execInjectStop (s : State) : Out := powered s fun s =>
  if s.g.lc = 1 then { s with dbg := { s.dbg with injs := [] } } else s

/-- The hold of an injected source's RAW ends after HOLDT in units of 10 µs. DEDUCED, log 155. -/
def execInjectHoldEnd (blk src : Nat) (s : State) : Out := powered s fun s =>
  { s with dbg := { s.dbg with held := s.dbg.held.filter fun x => ¬ (x.blk = blk ∧ x.src = src ∧ timeUp s x.due = true) } }

-- Freeze (R391 to R395).

/-- What of the registers may still move in freeze, as it stands (R392). DEDUCED, log 94. -/
def keepRegs (s : State) : FrozenRegs :=
  { inp := s.inp, bm := s.bm, epp := s.epp, la := s.la, dom := s.dom, sns := s.sns, bond := s.bond, shf := s.shf, shw := s.shw
    shr := s.shr, ph := s.ph, phw := s.phw, sp := s.sp, gw := s.gw, clk := s.clk, time := s.time, pd := s.pd, prot := s.prot
    flt := s.flt, fpin := s.fpin, silo := s.silo, g := s.g, seg := s.seg, ntc := s.ntc, nd := s.nd, seqr := s.seqr, lane := s.lane
    tally := s.tally, exa := s.exa, tel := s.tel, loop := s.loop, recs := s.mem.siloRecs }

/-- The state as its registers show it: in freeze that of the end of the freeze beat (R392). DEDUCED, log 94. -/
def shown (s : State) : State :=
  match s.dbg.kept with
  | none => s
  | some k => { s with
    inp := k.inp, bm := k.bm, epp := k.epp, la := k.la, dom := k.dom, sns := k.sns, bond := k.bond, shf := k.shf, shw := k.shw
    shr := k.shr, ph := k.ph, phw := k.phw, sp := k.sp, gw := k.gw, clk := k.clk, time := k.time, pd := k.pd, prot := k.prot
    flt := k.flt, fpin := k.fpin, silo := k.silo, g := k.g, seg := k.seg, ntc := k.ntc, nd := k.nd, seqr := k.seqr, lane := k.lane
    tally := k.tally, exa := k.exa, tel := k.tel, loop := k.loop, mem.siloRecs := k.recs }

/-- The synchronised level of FREEZE_N is low: the pin's, or that of EXTEST's cell (R464). -/
def freezeLow (s : State) (low : Bool) : Bool :=
  match s.pins.scan with
  | some x => !x.freezeN
  | none => low

/-- FREEZE_N as sampled now (R399). -/
def samplePin (s : State) (low : Bool) : State := { s with dbg := { s.dbg with pin := freezeLow s low } }

/-- The freeze beat: `low` when FREEZE_N is sampled low (R391). Sweeps and the other windows under way are cut (R151). -/
def effFreezeEnter (low : Bool) (s : State) : State :=
  let s := samplePin s low
  if (s.dbg.pin ∨ s.dbg.req) ∧ s.dbg.active = false then
    let s := sheafIdx.foldl (fun s d => if present s d then holdSheaf s d true else s) s
    let s := ([96, 97, 98, 99] : List Nat).foldl (fun s d => if domSt s d = .on then holdDom s d else s) s
    { s with
      dbg := { s.dbg with
        active := true, imgrdy := false, beat := s.time.beat, cnt := s.dbg.cnt.inc 65535, kept := some (keepRegs s) }
      tel := { s.tel with broken := true }
      shr := s.shr.map fun r => { r with sweepPh := false, sweepSns := false, sweepBond := false }
      est := { s.est with wins := [] } }
  else s

def execFreezeEnter (low : Bool) (s : State) : Out := powered s fun s =>
  if s.dbg.active then samplePin s low else if s.time.refclk then effFreezeEnter low s else s

/-- A sheaf's snapshot; `node` is its local node in V16 at the freeze beat (R392). -/
def snapshot (s : State) (d node : Nat) : List Byte :=
  let h := s.shf.nth d
  let w := s.shw.nth d
  let ps := phasesOf d
  let st := (ps.map fun p => phCode (s.ph.nth p).st * 8 ^ phPos p).foldl (· + ·) 0
  padTo 64 (leBytes 2 node ++ leBytes 2 (satU16 (rdiv (s.sp.nth d).vcmd 16000)) ++ leBytes 2 (signedBits 16 (satI16 w.isw))
    ++ leBytes 2 (satU16 (rdiv h.b 4000)) ++ leBytes 2 (signedBits 16 h.trim) ++ leBytes 1 w.token
    ++ leBytes 1 (h.region + 4 * b2n h.skip + 8 * b2n w.fire.isSome) ++ leBytes 6 st
    ++ (upTo 9 fun k => leBytes 2 (signedBits 16 (satI16 (((ps.map fun p => (s.phw.nth p).iLast)).getD k 0)))).flatten)

/-- The image and the snapshots are written (R392). -/
def effFreezeImageDone (nodes : List Nat) (s : State) : State :=
  if s.dbg.active ∧ s.dbg.imgrdy = false then
    let f := shown s
    { s with dbg := { s.dbg with
      imgrdy := true, img := saveImage f [0x4D, 0x46, 0x52, 0x5A] s.dbg.beat false f.lane.data
      snap := Tab.make 93 fun d => snapshot f d (nodes.getD d 0) } }
  else s

def execFreezeImageDone (nodes : List Nat) (s : State) : Out := powered s (effFreezeImageDone nodes)

/-- The clocks start again in the beat after FREEZE_N was sampled high with REQ 0 (R394, R395). DEDUCED, log 27, 86. -/
def effFreezeExit (s : State) : State :=
  let s := samplePin s false
  if s.dbg.active ∧ s.dbg.req = false ∧ s.dbg.pin = false ∧ s.time.refclk then
    let gap := s.time.beat - s.dbg.beat - 1
    let mine := s.defer.filter fun x => decide (subjDom x.subj = none)
    let s := { s with
      dbg := { s.dbg with active := false, imgrdy := false, kept := none }
      time := { s.time with wholeFrom := s.time.beat }
      lane := s.lane.map fun l => if l.st = .run then { l with lag := l.lag + gap } else l
      defer := s.defer.filter fun x => decide (subjDom x.subj ≠ none) }
    let s := estRestart s
    let s := ([96, 97, 98, 99] : List Nat).foldl laReturn s
    let s := protEvent (raise s bDBG 0 subjDie)
    mine.foldl (fun s x => raiseWith s x.blk x.src x.subj (injected s x.subj) false (some (stampCap s x))) s
  else s


end Sys2Proof.Machine
end

