-- ==== Sys2Proof/Machine/Issue.lean ====
section
/-! DEFINITION. Instructions as a lane or the command context issues them (R230 to R258), starting and resuming lanes
(R196, R231, R255), and the command window (R204 to R207). Actions go into the pipeline; what they do at their action beat is
in Actions. -/

namespace Sys2Proof.Machine

-- The command window.

/-- GO (R205). A second GO before acceptance replaces what the first one sent. DEDUCED, log 23; DESIGN CHOICE, log 160. -/
def effCommandGo (s : State) : State :=
  let c := s.cmdw
  if c.busy then { s with cmdw := { c with refuse := 2, refcnt := c.refcnt.inc 65535 } }
  else if c.seq.toNat ≠ (c.accseq + 1) % 2 ^ 32 then
    { s with cmdw := { c with refuse := 1, refcnt := c.refcnt.inc 65535 } }
  else { s with cmdw := { c with
    refuse := 0, go := true, num := c.seq.toNat, word := c.lo.toNat + 2 ^ 32 * c.hi.toNat, cext := c.ext } }

def execCommandGo (s : State) : Out := bus s effCommandGo

/-- Actuations that the lanes have issued in this beat. -/
def laneActs (s : State) : Nat := sumList (s.lane.data.map fun l => (actsNow s l : Int)) |>.toNat

/-- The sequencer or the instance is in its own reset (R438). -/
def seqInReset (s : State) : Bool := s.rst.run.any fun r => decide (r.level = 5 ∨ r.level = 7)

/-- Acceptance (R200, R205 to R207, R209): the window's word waits for a free action slot when it is an actuation that
takes effect (R220). -/
def effCommandAccept (s : State) : State :=
  let c := s.cmdw
  if c.go ∧ c.busy = false ∧ seqInReset s = false
      ∧ (isActuation (opc c.word) = false ∨ takesEffect s .cmd c.word = false ∨ laneActs s < 64) then
    let s := tallyAdd s s.time.beat c.word 0xFF 0 0 0 (c.cext.nth 0).toNat c.num
    let s := { s with cmdw := { c with
      go := false, busy := true, accseq := c.num, accbeat := s.time.beat, result := 0xFF, detail := 0
      issued := false, res := none, tseq := s.tally.count - 1 } }
    if windowRefuses (opc c.word) then cmdDone s 5 0 (s.time.beat + 4) else s
  else s

def execCommandAccept (s : State) : Out := live s effCommandAccept

/-- Completion (R206, R210). -/
def effCommandComplete (s : State) : State :=
  match s.cmdw.res with
  | none => s
  | some (r, d) =>
    if s.cmdw.busy ∧ s.cmdw.due ≤ s.time.beat then
      tallyResult { s with cmdw := { s.cmdw with busy := false, result := r, detail := d, res := none } } s.cmdw.tseq r d
    else s

def execCommandComplete (s : State) : Out := live s effCommandComplete

/-- CMDW_STAT.CLRCNT (R204). -/
def execCmdwClrcnt (s : State) : Out := bus s fun s => { s with cmdw := { s.cmdw with refcnt := .zero } }

/-- SEQ_TRK.CLRCNT (R217). -/
def execSeqTrkClrcnt (s : State) : Out := bus s fun s =>
  { s with seqr := { s.seqr with spcviol := .zero, late2 := .zero, tmwig := .zero } }

/-- Bit 31 of SEQ_LANE[l]_OVR (R217). -/
def execSeqLaneOvrClear (l : Fin 8) (s : State) : Out := bus s fun s =>
  { s with lane := s.lane.mod l fun x => { x with ovr := .zero } }

-- Lanes.

def modLane (s : State) (l : Fin 8) (f : Lane → Lane) : State := { s with lane := s.lane.mod l f }

/-- An armed lane starts at its base beat, at its ENTRY or where a resumed image left it (R190, R196, R312). -/
def startLane (s : State) (i : Nat) (l : Lane) : Lane :=
  if l.st = .armed then
    let late := s.time.beat - s.seqr.base + b2n (beatHeld s)
    if s.seqr.resume.isSome then { l with st := if l.wait = .no then .run else .waiting, lag := l.lag + late }
    else { l with
      st := .run, pc := trkEntry s i, rf := RegFile.start s.seqr.base, wait := .no, lag := late, lastAct := 0, issN := 0, actN := 0 }
  else l

/-- The barrier of the job lets the lanes start (R342). -/
def barrierOpen (s : State) : Bool := !(s.side.en && decide (1 < s.side.ninst)) || s.side.barPass

/-- At base beat B the armed lanes start and the arm is journaled (R196, R298, R342). -/
def effLaneStart (s : State) : State :=
  if (s.lane.data.any fun l => decide (l.st = .armed)) ∧ s.seqr.base ≤ s.time.beat ∧ barrierOpen s then
    let lanes := laneBits s fun l => decide (l.st = .armed)
    let s := { s with lane := s.lane.mapIx (startLane s) }
    let s := { s with
      seqr := { s.seqr with resume := none, started := true }
      side := { s.side with barPend := false, told := false }
      exa := { s.exa with stalls := .zero, pevt := .zero, stbeats := 0, void := false } }
    tallyEvent s s.seqr.base 1 0 lanes 0
  else s

def execLaneStart (s : State) : Out := live s effLaneStart

/-- A waiting lane's beat has come (R202, R231, R232, R258). -/
def effLaneResume (l : Fin 8) (s : State) : State :=
  let x := s.lane.get l
  let now := s.time.beat
  if x.st = .waiting ∧ beatHeld s = false ∧ stallNow s = false then
    match x.wait with
    | .beat t setB =>
      if t ≤ now then modLane s l fun x => { x with
        st := .run, wait := .no, lag := now - t
        rf := match setB with
          | some k => { x.rf with b := x.rf.b.modN k fun _ => t }
          | none => x.rf }
      else s
    | .fence t => if t ≤ now then modLane s l fun x => { x with st := .run, wait := .no, lag := x.lag + (now - t) } else s
    | _ => s
  else s

def execLaneResume (l : Fin 8) (s : State) : Out := live s (effLaneResume l)

/-- Lane `x` counts as arrived at barrier `id` (R255). -/
def barArrived (id : Nat) (x : Lane) : Bool :=
  match x.st, x.wait with
  | .idle, _ | .halted, _ | .aborted, _ => true
  | .waiting, .bar i _ => decide (i = id)
  | _, _ => false

/-- Every member of lane `l`'s barrier has arrived: the waiting members go on in the next beat with lag 0 (R255). -/
def effBarComplete (l : Fin 8) (s : State) : State :=
  let x := s.lane.get l
  match x.st, x.wait with
  | .waiting, .bar id mask =>
    if (List.range 8).all fun m => !mask.getLsbD m || (s.lane.data.map (barArrived id)).getD m true then
      let go := max (s.time.beat + 1) (s.exa.hold.getD 0)
      { s with
        lane := s.lane.mapIx fun m y =>
          match y.st, y.wait with
          | .waiting, .bar i _ => if i = id ∧ mask.getLsbD m then { y with wait := .beat go none } else y
          | _, _ => y }
    else s
  | _, _ => s

def execBarComplete (l : Fin 8) (s : State) : Out := live s (effBarComplete l)

-- Control and timing.

/-- NOP (R230). -/
def execNop (c : Ctx) (s : State) : Out := live s (issue c (isOp 0x00) fun _ => atOnce c fun s => s)

/-- HALT (R230). -/
def execHalt (c : Ctx) (s : State) : Out := live s (issue c (isOp 0x01) fun _ s =>
  match c with
  | .lane l => haltLanes s (2 ^ l.val)
  | .cmd => s)

/-- T of Form C (R225). -/
def beatOperand (s : State) (c : Ctx) (w : Nat) : Nat :=
  ((if fRel w then statedBeat s c else (rfOf s c).b.nth (fBsel w)) + fOff w) % 2 ^ 64

/-- AT and WAIT: past T the lane goes on with its lag, before T it waits with lag 0 (R202, R231, R232). -/
def waitBeat (l : Fin 8) (t : Nat) (setB : Option Nat) (s : State) : State :=
  let s := modLane s l fun x => { x with st := .waiting, wait := .beat t setB, lag := 0 }
  if t ≤ s.time.beat then modLane s l fun x => { x with
    st := .run, wait := .no, lag := s.time.beat - t
    rf := match setB with
      | some k => { x.rf with b := x.rf.b.modN k fun _ => t }
      | none => x.rf }
  else s

/-- AT (R231). -/
def execAt (c : Ctx) (s : State) : Out := live s (issue c (isOp 0x02) fun w s =>
  match c with
  | .lane l => waitBeat l (beatOperand s c w) none s
  | .cmd => s)

/-- WAIT (R232). -/
def execWait (c : Ctx) (s : State) : Out := live s (issue c (isOp 0x03) fun w s =>
  match c with
  | .lane l => waitBeat l (beatOperand s c w) (some (fBsel w)) s
  | .cmd => s)

/-- SEG (R234): an action. -/
def execSeg (c : Ctx) (s : State) : Out := live s (issue c (isOp 0x04) (enqueue c))

/-- MARK (R233). -/
def execMark (c : Ctx) (s : State) : Out := live s (issue c (isOp 0x05) fun w => atOnce c fun s =>
  let t := beatOperand s c w
  modRf s c fun r => { r with b := r.b.modN (fBsel w) fun _ => t })

-- Actions.

def execVset (c : Ctx) (s : State) : Out := live s (issue c (isOp 0x08) (enqueue c))
def execLline (c : Ctx) (s : State) : Out := live s (issue c (isOp 0x09) (enqueue c))
def execNote (c : Ctx) (s : State) : Out := live s (issue c (isOp 0x0A) (enqueue c))
def execOpsel (c : Ctx) (s : State) : Out := live s (issue c (isOp 0x0B) (enqueue c))
def execGate (c : Ctx) (s : State) : Out := live s (issue c (isOp 0x0C) (enqueue c))
def execWake (c : Ctx) (s : State) : Out := live s (issue c (isOp 0x0D) (enqueue c))
def execBank (c : Ctx) (s : State) : Out := live s (issue c (isOp 0x0E) (enqueue c))
def execStartg (c : Ctx) (s : State) : Out := live s (issue c (isOp 0x0F) (enqueue c))

/-- The word is opcode `o` with kind `k` in AUX8; the reserved kinds, from `top` up, are turned away by the check of kind 0. -/
def isKind (o k top : Nat) (w : Nat) : Bool :=
  isOp o w && (decide (fAux8 w = k) || (decide (k = 0) && decide (top ≤ fAux8 w)))

def execCapDomainIlim (c : Ctx) (s : State) : Out := live s (issue c (isKind 0x10 0 4) (enqueue c))
def execCapDieLimit (c : Ctx) (s : State) : Out := live s (issue c (isKind 0x10 1 4) (enqueue c))
def execCapPackagePower (c : Ctx) (s : State) : Out := live s (issue c (isKind 0x10 2 4) (enqueue c))
def execCapAveragingPeriod (c : Ctx) (s : State) : Out := live s (issue c (isKind 0x10 3 4) (enqueue c))
def execOvly (c : Ctx) (s : State) : Out := live s (issue c (isOp 0x11) (enqueue c))
def execPrio (c : Ctx) (s : State) : Out := live s (issue c (isOp 0x12) (enqueue c))
def execTelNormal (c : Ctx) (s : State) : Out := live s (issue c (isKind 0x14 0 3) (enqueue c))
def execTelFine (c : Ctx) (s : State) : Out := live s (issue c (isKind 0x14 1 3) (enqueue c))
def execTelTag (c : Ctx) (s : State) : Out := live s (issue c (isKind 0x14 2 3) (enqueue c))
def execGran (c : Ctx) (s : State) : Out := live s (issue c (isOp 0x2A) (enqueue c))
def execSave (c : Ctx) (s : State) : Out := live s (issue c (isOp 0x30) (enqueue c))

-- Register arithmetic.

/-- LI (R248). -/
def liFile (w : Nat) (r : RegFile) : RegFile :=
  if bits w 48 2 = 0 then { r with v := r.v.modN (fVd w) fun _ => BitVec.ofNat 32 (fImm w) }
  else
    let k := 32 * (fVd w % 4)
    let keep := ~~~ (BitVec.ofNat 128 (0xFFFFFFFF * 2 ^ k))
    { r with s := r.s.modN (fVa w % 4) fun x => (x &&& keep) ||| BitVec.ofNat 128 (fImm w * 2 ^ k) }

def execLi (c : Ctx) (s : State) : Out := live s (issue c (isOp 0x18) fun w => atOnce c fun s => modRf s c (liFile w))

/-- The second operand y (R224). -/
def operandY (r : RegFile) (w : Nat) : Word32 := if fImmSel w then BitVec.ofNat 32 (fImm w) else r.v.nth (fVb w)

/-- v[VD] takes `f` of v[VA] and y (R249). -/
def arith (f : Word32 → Word32 → Word32) (w : Nat) (r : RegFile) : RegFile :=
  let x := f (r.v.nth (fVa w)) (operandY r w)
  { r with v := r.v.modN (fVd w) fun _ => x }

def execAdd (c : Ctx) (s : State) : Out :=
  live s (issue c (isOp 0x19) fun w => atOnce c fun s => modRf s c (arith (fun x y => x + y) w))
def execSub (c : Ctx) (s : State) : Out :=
  live s (issue c (isOp 0x1A) fun w => atOnce c fun s => modRf s c (arith (fun x y => x - y) w))
def execMin (c : Ctx) (s : State) : Out :=
  live s (issue c (isOp 0x1B) fun w => atOnce c fun s => modRf s c (arith minSigned w))
def execMax (c : Ctx) (s : State) : Out :=
  live s (issue c (isOp 0x1C) fun w => atOnce c fun s => modRf s c (arith maxSigned w))
def execMulq (c : Ctx) (s : State) : Out :=
  live s (issue c (isOp 0x1D) fun w => atOnce c fun s => modRf s c (arith mulQ w))

/-- CMP (R250). -/
def cmpFile (w : Nat) (r : RegFile) : RegFile :=
  r.setPred (fVd w % 8) (cmpCond (fAux4 w) (r.v.nth (fVa w)) (operandY r w))

def execCmp (c : Ctx) (s : State) : Out := live s (issue c (isOp 0x1E) fun w => atOnce c fun s => modRf s c (cmpFile w))

-- Flow, for lanes alone (R207, R251 to R253).

/-- DEDUCED, log 118. -/
def onLane (c : Ctx) (f : Fin 8 → State → State) (s : State) : State :=
  match c with
  | .lane l => f l s
  | .cmd => s

/-- BR (R251). -/
def execBr (c : Ctx) (s : State) : Out := live s (issue c (isOp 0x20) fun w => onLane c fun l s =>
  modLane s l fun x => { x with pc := fImm w })

/-- CALL (R251). -/
def execCall (c : Ctx) (s : State) : Out := live s (issue c (isOp 0x21) fun w => onLane c fun l s =>
  if 4 ≤ (s.lane.get l).rf.stack.length then abortLane s l 2
  else modLane s l fun x => { x with rf := { x.rf with stack := x.pc :: x.rf.stack }, pc := fImm w })

/-- RET (R252). -/
def execRet (c : Ctx) (s : State) : Out := live s (issue c (isOp 0x22) fun _ => onLane c fun l s =>
  match (s.lane.get l).rf.stack with
  | [] => abortLane s l 3
  | r :: rest => modLane s l fun x => { x with rf := { x.rf with stack := rest }, pc := r })

/-- LOOP (R251). -/
def execLoop (c : Ctx) (s : State) : Out := live s (issue c (isOp 0x23) fun w => onLane c fun l s =>
  modLane s l fun x =>
    let n := x.rf.v.nth (fVd w) - 1
    { x with rf := { x.rf with v := x.rf.v.modN (fVd w) fun _ => n }, pc := if n = 0 then x.pc else fImm w })

-- Across lanes.

/-- SEND (R254): the value is read at issue and written at the next beat. -/
def execSend (c : Ctx) (s : State) : Out := live s (issue c (isOp 0x28) fun w => atOnce c fun s =>
  let order := match c with
    | .lane l => l.val
    | .cmd => 8
  { s with sends := s.sends ++ [⟨s.time.beat, order, fVd w, fVb w, (rfOf s c).v.nth (fVa w)⟩] })

/-- BAR (R202, R255). -/
def execBar (c : Ctx) (s : State) : Out := live s (issue c (isOp 0x29) fun w => onLane c fun l s =>
  modLane s l fun x => { x with st := .waiting, wait := .bar (bits w 8 8) (BitVec.ofNat 8 (bits w 0 8)), lag := 0 })

/-- FENCE (R258). -/
def execFence (c : Ctx) (s : State) : Out := live s (issue c (isOp 0x31) fun _ s =>
  match c with
  | .lane l =>
    let t := (s.lane.get l).lastAct
    if t ≤ s.time.beat then s else modLane s l fun x => { x with st := .waiting, wait := .fence t }
  | .cmd => cmdDone s 0 0 (s.cmdw.accbeat + 4))

-- Commands of the window alone.

def execClrfFaultBlock (s : State) : Out := live s (issue .cmd (isKind 0x38 0 2) (enqueue .cmd))
def execClrfSat (s : State) : Out := live s (issue .cmd (isKind 0x38 1 2) (enqueue .cmd))
def execLoadplanTrack (s : State) : Out := live s (issue .cmd (isKind 0x39 0 6) (enqueue .cmd))
def execLoadplanMicrotable (s : State) : Out := live s (issue .cmd (isKind 0x39 1 6) (enqueue .cmd))
def execLoadplanWeights (s : State) : Out := live s (issue .cmd (isKind 0x39 2 6) (enqueue .cmd))
def execLoadplanPlan (s : State) : Out := live s (issue .cmd (isKind 0x39 3 6) (enqueue .cmd))
def execLoadplanOverlay (s : State) : Out := live s (issue .cmd (isKind 0x39 4 6) (enqueue .cmd))
def execLoadplanMode (s : State) : Out := live s (issue .cmd (isKind 0x39 5 6) (enqueue .cmd))

/-- CMDW_EXT[2] bit 31 of the accepted command: the arm resumes from an image (R311). -/
def resumeBit (s : State) : Bool := bitOf (s.cmdw.cext.nth 2).toNat 31

def execArm (s : State) : Out := live s fun s => issue .cmd (fun w => isOp 0x3A w && !resumeBit s) (enqueue .cmd) s
def execArmResume (s : State) : Out := live s fun s => issue .cmd (fun w => isOp 0x3A w && resumeBit s) (enqueue .cmd) s
def execDisarm (s : State) : Out := live s (issue .cmd (isOp 0x3B) (enqueue .cmd))
def execLcreq (s : State) : Out := live s (issue .cmd (isOp 0x3C) (enqueue .cmd))

end Sys2Proof.Machine
end

