-- ==== Sys2Proof/Machine/Actions.lean ====
section
/-! DEFINITION. The actuation pipeline from stage n + 1 on: operands resolved and ownership checked, and what each action does
at its action beat (R99, R100, R152, R198, R199, R223, R229, R235 to R247, R256 to R263, R301). -/

namespace Sys2Proof.Machine

-- Stage n + 1 (R152, R199, R223).

def domBit (d : Nat) : BitVec 128 := (1 : BitVec 128) <<< d

/-- The domains that an action names: one, or those of its set (R221). None for a die-wide action. -/
def namedDoms (s : State) (a : Act) : BitVec 128 :=
  if domTargeted a.word then
    if fDom a.word = 0xFF then (rfOf s a.ctx).s.nth (fSet a.word) else domBit (fDom a.word)
  else 0

/-- VALUE of an action, from its word or from the register it names (R223). -/
def valueNow (s : State) (a : Act) : Nat :=
  if domTargeted a.word || isActuation (opc a.word) then
    if fVreg a.word then ((rfOf s a.ctx).v.nth (fVal a.word % 16)).toNat % 65536 else fVal a.word
  else fVal a.word

/-- A named domain that is not reserved lies outside the mask; an absent one counts (R199). -/
def foreign (mask m : BitVec 128) : Bool :=
  (List.range 128).any fun d => m.getLsbD d && decide (typ d ≠ .none) && !mask.getLsbD d

/-- Stall debt of an OPSEL, GATE or WAKE that issued with a lag (R302). DEDUCED, log 41. -/
def lagDebt (s : State) (a : Act) (m : BitVec 128) : State :=
  if 0 < a.lag ∧ (opc a.word = 0x0B ∨ opc a.word = 0x0C ∨ opc a.word = 0x0D) then
    allDoms.foldl (fun s d => if m.getLsbD d then addDebt s d (256 * a.lag) else s) s
  else s

/-- Stage n + 1 of one action: the ownership check, its operand, and its place in the pipeline, or its drop.
DEDUCED, log 41. -/
def resolveAct (s : State) (a : Act) : State :=
  let m := namedDoms s a
  let v := valueNow s a
  let keep := fun (s : State) => lagDebt { s with acts := s.acts ++ [{ a with res := some (v, m) }] } a m
  let bad := fVreg a.word && isActuation (opc a.word) && !valueOk a.word v
  match a.ctx with
  | .lane l =>
    if foreign (s.lane.get l).mask m then abortLane s l 1
    else if bad then abortLane s l 5
    else keep s
  | .cmd => if bad then (if a.orphan then s else cmdDone s 4 0 a.due) else keep s

/-- Stage n + 1 of every action issued before the present beat. DEDUCED, log 41. -/
def stageOne (s : State) : State :=
  s.acts.foldl (fun s a => if a.res = none ∧ a.issue < s.time.beat then resolveAct s a else { s with acts := s.acts ++ [a] })
    { s with acts := [] }

-- Domain-targeted actions.

/-- One action on one present domain, with its resolved VALUE: the state, and whether the domain took an effect. -/
def actDom (a : Act) (v : Nat) (s : State) (d : Nat) : State × Bool :=
  let w := a.word
  match opc w with
  | 0x08 => (vsetDom s d v (fAux8 w), true)
  | 0x09 => if typ d = .aon ∨ typ d = .la then (s, false) else (llineDom s d v, true)
  | 0x0A => (stepArrive s none d (signExt 16 v) (a.stated + fAux16 w) s.time.beat true, true)
  | 0x0B => (opselDom s d v, true)
  | 0x0C => gateDom s d (bitOf (fAux8 w) 1) (bitOf (fAux8 w) 0)
  | 0x0D => wakeDom s d (bitOf (fAux8 w) 1) (fAux16 w) a.due
  | 0x0E =>
    if typ d = .ma then
      (bankGate s (ord d) (BitVec.ofNat 64 (v * 2 ^ (16 * (fAux8 w % 4)))),
        decide (domSt s d = .on) || decide (domSt s d = .retention))
    else (s, false)
  | _ => ({ s with loop := { s.loop with dl := s.loop.dl.modN d fun l => { l with ilim := v } } }, true)

/-- MINSP at run time: that of the armed image, whatever becomes of ADMITTED and also for a lane's action that outlives its arm
(R198). DEDUCED, log 26. -/
def spacing (lane : Bool) (s : State) (due d : Nat) : State :=
  let m := if armed s || lane then s.seqr.minsp else if s.seqr.admitted then trkMinsp s else 0
  let near := (s.seqr.spc.filter fun x => decide (x.1 = d ∧ due < x.2 + m ∧ x.2 < due + m)).length
  { s with seqr := { s.seqr with
    spcviol := s.seqr.spcviol.add 65535 near
    spc := (d, due) :: s.seqr.spc.filter fun x => decide (due < x.2 + m) } }

/-- Completes a command's action with a result; a lane's action has none. -/
def finish (s : State) (a : Act) (result : Nat) : State :=
  match a.ctx with
  | .lane _ => s
  | .cmd => cmdDone s result 0 a.due

/-- The domains for which a reset of levels 0 to 2 discards actuations from its request beat on (R436). -/
def rstRegion (s : State) : BitVec 128 :=
  match s.rst.run with
  | some r => if r.level ≤ 2 then r.region else 0
  | none => 0

/-- `m` names present domains, and all of them lie in `r`. -/
def within (s : State) (m r : BitVec 128) : Bool :=
  let ds := allDoms.filter fun d => m.getLsbD d && present s d
  decide (ds ≠ []) && ds.all fun d => r.getLsbD d

/-- A domain-targeted action at its action beat (R55, R99, R198, R222). DEDUCED, log 42. -/
def actTargets (s : State) (a : Act) (v : Nat) (m : BitVec 128) : State :=
  let single := decide (fDom a.word ≠ 0xFF)
  if within s m (rstRegion s) then finish s a 6
  else if single && !present s (fDom a.word) then
    match a.ctx with
    | .lane _ => { s with seqr := { s.seqr with absentAct := s.seqr.absentAct + 1 } }
    | .cmd => cmdDone s 2 0 a.due
  else
    let ds := allDoms.filter fun d => m.getLsbD d && present s d && !(rstRegion s).getLsbD d
    let r := ds.foldl (fun (x : State × Bool) d =>
      let y := actDom a v (spacing (decide (a.ctx ≠ .cmd)) x.1 a.due d) d
      (y.1, x.2 || y.2)) (s, decide (ds = []))
    finish r.1 a (if r.2 then 0 else 1)

-- The granary's exchange starts at a closing SEG (R331, R333).

/-- The segments whose balance may still come, and the one that closed now (R336). -/
def granSegs (s : State) : List GSeg :=
  let g := s.side.gran
  (g.segs.filter fun y => decide (s.time.beat ≤ y.x + g.rdly + 100)) ++ [⟨s.time.beat, s.seg.cSlack, none, none⟩]

/-- The closed segment was flagged: its dies will be balanced (R336), and in a job an exchange starts, unless one is under way, with
the policy of the beats before (R256, R319, R331, R333). -/
def granStart (s : State) : State :=
  let g := { s.side.gran with segs := granSegs s }
  if s.seg.cGran then
    match g.cur with
    | some _ => { s with side := { s.side with gran := { g with skip := true } } }
    | none =>
      { s with side := { s.side with gran := { g with
        cur := if s.side.en then
            some ⟨s.time.beat, s.seg.cId, if g.polAt = s.time.beat then g.polWas else g.policy, [], none, false, false,
              0, 0, 0, false, none⟩
          else none } } }
  else s

/-- SEG at its action beat (R153, R331). -/
def segEffect (s : State) (w : Nat) : State :=
  let closes := s.seg.opened && !(decide (s.seg.segid = bits w 32 16) && decide (s.seg.beat = s.time.beat))
  let s := segAction s (bits w 32 16) (fImm w) (bitOf w 48)
  if closes then granStart s else s

-- Die-wide actions.

/-- OVLY's choice: a slot, or the plan alone (R245). -/
def ovlyPick (v : Nat) : Option (Fin 16) := if h : v < 16 then some ⟨v, h⟩ else none

/-- The telemetry period in progress, in beats (R288). DEDUCED, log 109. -/
def telPeriod (fine : Bool) : Nat := if fine then 12500 else 100000

/-- The telemetry period has ended at this beat, and its record is still to close (R288). -/
def telEnded (s : State) : Bool := decide (s.time.beat % telPeriod s.tel.fine = 0 ∧ s.tel.start < s.time.beat)

/-- A tag that acts: it replaces one that waits for the same record (R247). -/
def telTagged (s : State) (v : Nat) : List (Nat × Nat) :=
  (s.tel.tags.filter fun x => telEnded s && decide (x.2 < s.time.beat)) ++ [(v, s.time.beat)]

/-- TEL (R247). -/
def telAction (s : State) (w : Nat) : State :=
  match fAux8 w with
  | 0 => { s with tel := { s.tel with want := false } }
  | 1 => { s with tel := { s.tel with want := true } }
  | _ => { s with tel := { s.tel with tags := telTagged s (fVal w) } }

/-- GRAN (R256, R330). A member that enters the shared policy starts with its nominal holding, clamped to its cap; so does one
that enters as flat-out, which counts as shared until it is admitted. DEDUCED, log 148. -/
def granAction (s : State) (v : Nat) : State :=
  let g := s.side.gran
  { s with side := { s.side with gran := { g with
    policy := v, polAt := s.time.beat, polWas := if g.polAt = s.time.beat then g.polWas else g.policy
    flat := g.flat && decide (v = 2)
    hold := if (v = 1 ∧ g.policy ≠ 1) ∨ (v = 2 ∧ g.policy = 0) then min g.nom (2 * s.loop.cap) else g.hold } } }

/-- SAVE (R257). -/
def saveAction (s : State) (a : Act) : State :=
  if armed s then
    finish { s with exa := { s.exa with
      svreq := some (a.due, bitOf (fAux8 a.word) 0), svst := if s.exa.svst = 2 then 2 else 1 } } a 0
  else finish s a 6

/-- The sticky SAT flags that a CLRF names (R259, R292). -/
def clearSat (s : State) (m : Nat) : State :=
  let l := s.loop
  { s with loop := { l with
    satCap := l.satCap && !bitOf m 0
    satBud := l.satBud && !bitOf m 1
    satDiei := l.satDiei && !bitOf m 2
    dl := if bitOf m 3 then l.dl.map fun x => { x with sat := false } else l.dl
    tl := if bitOf m 4 then l.tl.map fun x => { x with sat := false } else l.tl } }

/-- A pending SAVE is discarded (R257, R264). -/
def dropSave (s : State) : State :=
  { s with exa := { s.exa with svreq := none, svst := if s.exa.svst = 1 then 0 else s.exa.svst } }

/-- CLRF (R259). -/
def clrfAction (s : State) (a : Act) : State :=
  let x := a.ext.nth 0
  if fAux8 a.word = 0 then
    if h : fVal a.word < 10 then finish (statClear s ⟨fVal a.word, h⟩ x) a 0 else finish s a 4
  else finish (clearSat s x.toNat) a 0

/-- LOADPLAN (R260). The commands of an accepted image complete when its copy does. -/
def loadplanAction (s : State) (a : Act) : State :=
  match fAux8 a.word with
  | 0 => loadTrack s
  | 1 => loadMicrotable s
  | 2 =>
    let r := loadWeights s (staged' s.mem.estmem 2112)
    if r.2 = 0 then r.1 else cmdDone r.1 3 r.2 s.time.beat
  | 3 => loadPlan s
  | 4 => loadOverlay s (fVal a.word)
  | _ => loadMode s (bitOf (fVal a.word) 0)

/-- A die-wide action at its action beat. -/
def actDie (s : State) (a : Act) (v : Nat) : State :=
  let w := a.word
  match opc w with
  | 0x04 => segEffect s w
  | 0x0F => finish { s with sg := { s.sg with rate := v } } a 0
  | 0x10 =>
    match fAux8 w with
    | 1 => finish { s with loop := { s.loop with dieLim := v } } a 0
    | 2 => if s.g.coord then finish { s with loop := { s.loop with cap := v } } a 0 else finish s a 1
    | _ =>
      if s.g.coord then
        finish (setTavg s v) a 0
      else finish s a 1
  | 0x11 => finish (switchOverlay s (ovlyPick v)) a 0
  | 0x12 => finish { s with loop := { s.loop with prio := v } } a 0
  | 0x14 => finish (telAction s w) a 0
  | 0x2A => if s.g.coord then finish (granAction s v) a 0 else finish s a 1
  | 0x30 => saveAction s a
  | 0x38 => clrfAction s a
  | 0x39 => loadplanAction s a
  | 0x3A => armAction s a
  | 0x3B => cmdDone (haltLanes (dropSave s) (if (a.ext.nth 2).toNat % 256 = 0 then 0xFF else (a.ext.nth 2).toNat % 256)) 0 0 a.due
  | 0x3C => lcreqAction s a
  | _ => s

/-- The commands that an armed track in Exact mode turns away (R301). -/
def exactRefuses (s : State) (a : Act) : Bool :=
  let o := opc a.word
  exactOn s && armed s && decide (a.ctx = .cmd) &&
    decide (o = 0x0B ∨ o = 0x0C ∨ o = 0x0D ∨ o = 0x0F ∨ o = 0x11 ∨ o = 0x2A ∨ (o = 0x39 ∧ (fAux8 a.word = 3 ∨ fAux8 a.word = 4)))

/-- An action at its action beat. -/
def actDue (s : State) (a : Act) : State :=
  match a.res with
  | none => s
  | some (v, m) =>
    if exactRefuses s a then cmdDone s 6 0 a.due
    else if domTargeted a.word then actTargets s a v m
    else actDie s a v

/-- An action at its action beat; one that a resume restored completes no command (R312). -/
def actOne (s : State) (a : Act) : State :=
  if a.orphan then { actDue s a with cmdw := s.cmdw } else actDue s a

-- Order (R99, R229).

/-- OVLYs first, each time the lanes in order, then the command (R99, R229). -/
def actRank (a : Act) : Nat :=
  (if opc a.word = 0x11 then 0 else 9) +
    match a.ctx with
    | .lane l => l.val
    | .cmd => 8

def actBefore (a b : Act) : Bool := decide (a.due < b.due ∨ (a.due = b.due ∧ actRank a < actRank b))

/-- Puts an action before the first that it goes before; equal ones keep their issue order. -/
def actInsert (a : Act) : List Act → List Act
  | [] => [a]
  | b :: bs => if actBefore a b then a :: b :: bs else b :: actInsert a bs

def actSort (l : List Act) : List Act := l.foldl (fun acc a => actInsert a acc) []

/-- Every action whose action beat has come takes effect, and a pending SAVE meets its boundary (R152, R257); a stall of that beat
applies first (R313). -/
def effActionTakesEffect (s : State) : State :=
  let s := stageOne (effStallApply s)
  let due := actSort (s.acts.filter fun a => decide (a.due ≤ s.time.beat))
  let s := { s with acts := s.acts.filter fun a => decide (s.time.beat < a.due) }
  saveBoundary (due.foldl actOne s)

def execActionTakesEffect (s : State) : Out := live s effActionTakesEffect

/-- The accepted weight image is in the active store, and its command completes (R181, R206). -/
def effEstImageCopyDone (s : State) : State :=
  if s.est.busy then
    let s := { s with est := { s.est with busy := false } }
    if s.cmdw.busy ∧ opc s.cmdw.word = 0x39 ∧ fAux8 s.cmdw.word = 2 ∧ s.cmdw.res = none then cmdDone s 0 0 s.time.beat else s
  else s

def execEstImageCopyDone (s : State) : Out := live s effEstImageCopyDone

end Sys2Proof.Machine
end

