-- ==== Sys2Proof/Machine/Loops.lean ====
section
/-! DEFINITION. The loop engine: the loop law, the five loops, the ceiling manager, the selector, the throttle counts, and
telemetry (R265 to R296). Fractions inside the engine are Q16.16, so 65,536 is 1.0. -/

namespace Sys2Proof.Machine

def one : Int := 65536

/-- A Q0.16 field that holds a fraction; 0xFFFF is 1.0 (R8). -/
def fracOf (x : Nat) : Int := if x = 0xFFFF then one else x

/-- The field of a fraction (R8). -/
def fracBits (f : Int) : Nat := if one ≤ f then 0xFFFF else satU16 f

/-- The loop engine or the instance is in its own reset: no loop is evaluated and every output holds (R438, R445). -/
def loopInReset (s : State) : Bool := s.rst.run.any fun r => decide (r.level = 6 ∨ r.level = 7)

/-- A meaning of the loop engine. -/
def loopLive (s : State) (f : State → State) : Out := live s fun s => if loopInReset s then s else f s

-- The loop law (R267, R268).

/-- A saturating Q16.16 division, with whether it saturated. DEDUCED, log 43. -/
def satDiv (a : Int) (n : Nat) : Int × Bool :=
  let x := if n = 0 then (if 0 < a then 2 ^ 31 else if a < 0 then -(2 ^ 31) - 1 else 0) else rdiv (a * one) n
  (satI32 x, decide (satI32 x ≠ x))

/-- What one evaluation gives: the output, whether an operation saturated, whether the loop is outside its band. -/
structure LawRes where
  f : Int
  sat : Bool
  out : Bool
deriving DecidableEq, Repr

/-- The gain of the excess region (R268). DEDUCED, log 43. -/
def gainOf (ks km kl : Nat) (x : Int) : Int := if x < 2048 then ks else if x < 16384 then km else kl

/-- One evaluation with M - L = `diff`, normaliser `n`, normalised band `h`, gains in Q1.15 and floor `fmin` (R268).
DEDUCED, log 43. -/
def loopLaw (diff : Int) (n : Nat) (h : Int) (ks km kl : Nat) (fmin f : Int) : LawRes :=
  let e := satDiv diff n
  let lim := fun (x : Int) => clampInt fmin one x
  if h < e.1 then
    let d := rdiv (gainOf ks km kl (e.1 - h) * (e.1 - h)) 32768
    ⟨lim (f - d), e.2 || decide (2147483648 ≤ d), true⟩
  else if e.1 < -h then
    let d := rdiv (gainOf ks km kl (-e.1 - h) * (-e.1 - h)) 32768
    ⟨lim (f + d), e.2 || decide (2147483648 ≤ -e.1 - h) || decide (2147483648 ≤ f + d), true⟩
  else ⟨lim f, e.2, false⟩

/-- Loop `k`'s parameters from the configuration in force (R269). -/
def parKs (s : State) (k : Nat) : Nat := cfg s 0x10 k
def parKm (s : State) (k : Nat) : Nat := cfg s 0x11 k
def parKl (s : State) (k : Nat) : Nat := cfg s 0x12 k
def parH (s : State) (k : Nat) : Nat := cfg s 0x13 k
def parFmin (s : State) (k : Nat) : Int := fracOf (cfg s 0x14 k)

/-- Loop `k`'s evaluation of a difference against its limit as normaliser; the thermal loop's band is in 1/128 °C of 16 °C. -/
def lawOf (s : State) (k : Nat) (diff : Int) (n : Nat) (f : Int) : LawRes :=
  loopLaw diff n (if k = 4 then 32 * parH s k else parH s k) (parKs s k) (parKm s k) (parKl s k) (parFmin s k) f

/-- A loop's SAT flag is set for the first time: LOOP_SAT (R296). -/
def raiseSat (s : State) (was now : Bool) (subj : Nat) : State := if now && !was then raise s bLOOP 2 subj else s

-- Die and domain current (R277, R278).

/-- Mean of a list of currents. -/
def meanInt (l : List Int) : Int := rdiv (sumList l) (max 1 l.length)
def meanNat (l : List Nat) : Nat := rdivNat (l.foldl (· + ·) 0) (max 1 l.length)

def dieLoop (s : State) : State :=
  let l := s.loop
  let win := (dieCurrent s :: l.dieWin).take 100
  let m := meanInt win
  let s := { s with loop := { l with dieWin := win, dieAvg := m, dieEff := (rdiv (dieLimEff s) 4).toNat } }
  if l.dieiEn || l.dieOc then
    let lim := dieLimEff s
    let r := lawOf s 2 (m - lim) lim.toNat l.fdie
    raiseSat { s with loop := { s.loop with
      fdie := r.f, satDiei := l.satDiei || r.sat, dieOc := s.loop.dieOc && decide (r.f < one) } } l.satDiei r.sat subjDie
  else s

/-- ILIMEFF of a domain (R278). -/
def ilimEff (s : State) (d : Nat) : Int := min (s.loop.dl.nth d).ilim (s.loop.dl.nth d).icont

def modDl (s : State) (d : Nat) (f : DLoop → DLoop) : State := { s with loop := { s.loop with dl := s.loop.dl.modN d f } }

/-- LINK_OVER, once per entry (R278). -/
def linkOver (s : State) (d : Nat) : State :=
  let x := s.loop.dl.nth d
  if typ d = .lk ∨ typ d = .la ∨ typ d = .aon then
    if x.f < one then
      let s := modDl s d fun x => { x with low := x.low + 1, isOver := x.isOver || decide (100 ≤ x.low + 1) }
      if 100 ≤ x.low + 1 ∧ x.isOver = false then raise s bLOOP 3 (subjD d) else s
    else modDl s d fun x => { x with low := 0, isOver := false }
  else s

def domLoop (s : State) (d : Nat) : State :=
  if present s d ∧ domSt s d = .on ∧ (s.loop.domiEn || (s.pd.nth d).ocact) then
    let x := s.loop.dl.nth d
    let lim := ilimEff s d
    let r := lawOf s 3 ((s.dom.nth d).i - lim) lim.toNat x.f
    let s := modDl s d fun x => { x with f := r.f, out := r.out, sat := x.sat || r.sat }
    let s := modPd s d fun p => { p with ocact := p.ocact && decide (r.f < one) }
    linkOver (raiseSat s x.sat r.sat (subjD d)) d
  else s

-- Thermal (R279, R280).

/-- Sensors of a cluster. -/
def clusterSensors (c : Nat) : List Nat :=
  upTo 24 (fun i => 24 * c + i) ++ [192 + 2 * c, 193 + 2 * c] ++ upTo 4 fun i => 208 + 4 * c + i

/-- The hottest good sensor of a set, if any. -/
def hottest (ts : List (Option Int)) (ix : List Nat) : Option Int :=
  (ix.filterMap fun i => (ts.getD i none)).foldl (fun a t => some (max t (a.getD t))) none

/-- A cluster's thermal loop (R279); as a protection it runs whatever THERM_EN says from THROTTLE on, until it asks for nothing
(R357, R358). DEDUCED, log 52. -/
def thermLoop (s : State) (c : Nat) : State :=
  match hottest s.prot.temps (clusterSensors c) with
  | none => s
  | some t =>
    let x := s.loop.tl.nth c
    let run := s.loop.thermEn || decide (cfgS s 0x0D 1 ≤ t) || decide (x.f < one)
    let r := lawOf s 4 (t - cfgS s 0x0D 1) 2048 x.f
    let s := { s with loop := { s.loop with
      tl := s.loop.tl.modN c fun x => { x with
        t := t, f := if run then r.f else x.f, sat := x.sat || (run && r.sat) } } }
    raiseSat s x.sat (run && r.sat) (0x8300 + c)

/-- C_c in 1/64 (R280). -/
def clockFactor (f : Int) : Nat :=
  if 32768 ≤ f then (f * 16 / 65536).toNat * 4
  else if 16384 ≤ f then (f * 32 / 65536).toNat * 2
  else (f * 64 / 65536).toNat

/-- Division code of LOOP_THERM (R292). -/
def clockDiv (f : Int) : Nat := if 32768 ≤ f then 0 else if 16384 ≤ f then 1 else 2

-- The package cap and the budget (R270 to R276).

/-- Input power of each die in mW (R270). -/
def dieInput (s : State) (k : Nat) : Nat :=
  let total := (s.peer.data.map (·.pout)).foldl (· + ·) 0
  let own := (s.peer.nth k).pout
  if s.inp.pkgRev then own else if total = 0 then 0 else rdivNat (s.inp.pkgPin * own) total

/-- C_eff in 0.5 W units (R330). -/
def capEff (s : State) : Nat :=
  let g := s.side.gran
  if s.side.en ∧ (g.policy = 1 ∨ (g.policy = 2 ∧ g.flat = false)) then min (2 * s.loop.cap) g.hold else 2 * s.loop.cap

/-- VIN dip or input overcurrent holds F_cap (R365). -/
def vinHold (s : State) : Bool := s.prot.dip

/-- Shares at a bin end: none for a die outside the set; the others scaled to the sum 1.0, or equal when a die has joined
(R272, R291), each to the nearest LSB (R7). What rounding leaves to 65,536 goes to the lowest die in service.
DEDUCED, log 44, 49; DESIGN CHOICE, log 154. -/
def newShares (s : State) : Tab 4 Nat :=
  let ins := (List.range 4).filter fun k => (s.peer.nth k).mss
  let sum := (ins.map fun k => s.loop.share.nth k).foldl (· + ·) 0
  let fresh := ins.any fun k => s.loop.share.nth k = 0
  match ins with
  | [] => s.loop.share
  | first :: _ =>
    if fresh = false ∧ sum = 65536 then Tab.make 4 fun k => if ins.contains k then s.loop.share.nth k else 0
    else
      let base := fun k => if fresh then rdivNat 65536 ins.length else rdivNat (s.loop.share.nth k * 65536) (max 1 sum)
      let others := ((ins.filter (· ≠ first)).map base).foldl (· + ·) 0
      Tab.make 4 fun k => if k = first then 65536 - others else if ins.contains k then base k else 0

/-- One die's cap or budget evaluation: `m` in mW, `lim` the package limit in mW. DEDUCED, log 44, 101. -/
def dieLaw (s : State) (k : Nat) (m lim share : Nat) (f : Int) : LawRes :=
  let l := rdivNat (lim * share) 65536
  if share = 0 then ⟨one, false, false⟩ else lawOf s k ((m : Int) - l) l f

/-- A cap bin ends: the coordinator evaluates every die's cap loop (R271, R273). A bin that is not whole is discarded;
a new T_avg enters here and restarts the bins. DEDUCED, log 50, 93. -/
def effCapBinEnd (s : State) : State :=
  let l := s.loop
  if s.g.coord ∧ s.time.beat % (1000000 * max 1 l.tavg) = 0 ∧ 0 < s.time.beat then
    let whole := decide (10000 * l.tavg ≤ l.binN)
    let clear := fun (s : State) => { s with loop := { s.loop with
      binSum := l.binSum.map fun _ => 0, binN := 0
      tavg := l.tavgNext.getD l.tavg, tavgNext := none
      bins := if l.tavgNext.isSome then s.loop.bins.map fun _ => [] else s.loop.bins }, side.gran.ceff := capEff s }
    if whole then
      let bins := l.bins.mapIx fun k b => (rdivNat (l.binSum.nth k) l.binN :: b).take 100
      let s := { s with loop := { l with bins := bins, share := newShares s } }
      let rs := upTo 4 fun k => dieLaw s 0 (meanNat (bins.nth k)) (500 * capEff s) (s.loop.share.nth k) (l.capF.nth k)
      let sat := l.capEn && rs.any (·.sat)
      let hold := if vinHold s then parFmin s 0 else one
      let capF := Tab.make 4 fun k => min hold (if l.capEn then (rs.getD k ⟨one, false, false⟩).f else one)
      let s := { s with loop := { s.loop with
        capF := capF, fcapNext := capF.nth s.g.die, fcapAt := s.time.beat, satCap := l.satCap || sat
        capavg := ((upTo 4 fun k => meanNat (bins.nth k)).foldl (· + ·) 0) } }
      raiseSat (clear s) l.satCap sat subjDie
    else clear s
  else s

def execCapBinEnd (s : State) : Out := loopLive s effCapBinEnd

/-- The decoded budget of a valid reading, in W (R274). `x` is the duty in 0.1 %, or the voltage in 0.1 mV.
DESIGN CHOICE, log 48. -/
def budgetOf (mode x : Nat) : Nat :=
  if mode = 1 then 400 + rdivNat ((clampNat 50 950 x - 50) * 3200) 900
  else 400 + rdivNat ((clampNat 1250 23750 x - 1250) * 3200) 22500

/-- DEDUCED, log 47. -/
def budgetValid (mode x : Nat) (edge : Bool) : Bool :=
  if mode = 1 then edge && decide (20 ≤ x ∧ x ≤ 980) else decide (500 ≤ x ∧ x ≤ 24500)

/-- BUDGET is read: valid after three valid decodings, lost after three others (R274, R466). DESIGN CHOICE, log 48. -/
def budgetRead (s : State) (x : Nat) (edge : Bool) : State :=
  let b := s.loop.bud
  let v := budgetValid b.mode x edge
  let bad := if v then 0 else b.bad + 1
  let good := if v then b.good + 1 else 0
  let b := { b with bad := bad, good := good, duty := min 1023 (if b.mode = 1 then x else rdivNat x 25) }
  if v ∧ (b.valid ∨ 3 ≤ good) then
    { s with loop := { s.loop with bud := { b with lostNow := false, valid := true, pbud := budgetOf b.mode x } } }
  else if b.lostNow then { s with loop := { s.loop with bud := { b with pbud := cfg s 5 0 } } }
  else if 3 ≤ bad then
    raise { s with loop := { s.loop with bud := { b with
      valid := false, lostNow := true, lost := true, pbud := cfg s 5 0, timer := 0 } } } bLOOP 1 subjDie
  else { s with loop := { s.loop with bud := b } }

/-- The following error against FE; the timer counts the evaluations, 1 ms apart, that found it beyond (R276). -/
def budgetFollow (s : State) : State :=
  let b := s.loop.bud
  let err := (b.avg : Int) - 1000 * min b.pbud s.loop.cap
  let beyond := decide ((5 * b.fe * s.loop.cap : Int) < err) && (b.valid || b.lostNow)
  { s with loop := { s.loop with bud := { b with
    timer := if beyond && !b.lostNow then b.timer + 1 else 0
    feAct := b.feAct && beyond } } }

/-- The 1 ms bins of input power, kept whatever the mode (R275, R276). DEDUCED, log 50. -/
def budgetBins (s : State) : State :=
  let l := s.loop
  if 1000 ≤ l.bbinN then
    let bins := l.bbins.mapIx fun k b => (rdivNat (l.bbinSum.nth k) l.bbinN :: b).take 10
    { s with loop := { l with
      bbins := bins, bbinSum := l.bbinSum.map fun _ => 0, bbinN := 0
      bud := { l.bud with avg := (upTo 4 fun k => meanNat (bins.nth k)).foldl (· + ·) 0 } } }
  else { s with loop := { l with bbinSum := l.bbinSum.map fun _ => 0, bbinN := 0 } }

/-- The budget loops of the dies (R275). DEDUCED, log 47. -/
def budgetLoops (s : State) : State :=
  let l := s.loop
  let on := l.budEn && decide (l.bud.mode ≠ 0) && (l.bud.valid || l.bud.lostNow)
  let rs := upTo 4 fun k => dieLaw s 1 (meanNat (l.bbins.nth k)) (1000 * l.bud.pbud) (l.share.nth k) (l.budF.nth k)
  let sat := on && rs.any (·.sat)
  let budF := Tab.make 4 fun k => if on then (rs.getD k ⟨one, false, false⟩).f else one
  let l' := { l with budF := budF, fbudNext := budF.nth s.g.die, fbudAt := s.time.beat, satBud := l.satBud || sat }
  raiseSat { s with loop := l' } l.satBud sat subjDie

/-- The coordinator's 1 ms step of the budget (R274 to R276). -/
def effBudgetDecode (x : Nat) (edge : Bool) (s : State) : State :=
  if s.g.coord ∧ s.time.beat % 100000 = 0 ∧ 0 < s.time.beat then
    let s := budgetBins s
    let s := if s.loop.bud.mode = 0 then { s with loop := { s.loop with bud := { s.loop.bud with
        valid := false, lostNow := false, feAct := false, bad := 0, good := 0, timer := 0 } } }
      else budgetFollow (budgetRead s x edge)
    budgetLoops s
  else s

def execBudgetDecode (x : Nat) (edge : Bool) (s : State) : Out := loopLive s (effBudgetDecode x edge)

/-- The timer reaches FET (R276). -/
def effBudgetFeTimer (s : State) : State :=
  let b := s.loop.bud
  if s.g.coord ∧ b.feAct = false ∧ b.lostNow = false ∧ 10 * b.fet < b.timer then
    raise { s with loop := { s.loop with bud := { b with feAct := true } } } bLOOP 0 subjDie
  else s

def execBudgetFeTimer (s : State) : Out := loopLive s effBudgetFeTimer

-- The ceiling manager (R284 to R286).

/-- Ceilings and floors by class: 1 links, 2 arrays, 3 compute. -/
def classCeil (s : State) (c : Nat) : Nat :=
  if c = 1 then s.loop.ceilL else if c = 2 then s.loop.ceilA else s.loop.ceilC

def classFloor (s : State) (c : Nat) : Nat := cfg s 0x0A (3 - c)

def classDoms (c : Nat) : List Nat :=
  allDoms.filter fun d => decide (if c = 1 then typ d = .lk else if c = 2 then typ d = .ma else (typ d = .co ∨ typ d = .cl))

/-- Classes in PRIO order, first to last (R246). -/
def prioOrder (s : State) : List Nat := [bits s.loop.prio 0 2, bits s.loop.prio 2 2, bits s.loop.prio 4 2]

/-- A class ceiling takes a value, and its domains follow (R284, R98). -/
def setCeil (s : State) (c v : Nat) : State :=
  let s := { s with loop := { s.loop with
    ceilL := if c = 1 then v else s.loop.ceilL
    ceilA := if c = 2 then v else s.loop.ceilA
    ceilC := if c = 3 then v else s.loop.ceilC
    dn := 0, up := 0 } }
  (classDoms c).foldl (fun s d => if present s d then followOp s d false else s) s

def ceilings (s : State) : State :=
  let f := min s.loop.fcap s.loop.fbud
  let dn := if f ≤ fracOf (cfg s 7 0) then s.loop.dn + 1 else 0
  let up := if f = one then s.loop.up + 1 else 0
  let s := { s with loop := { s.loop with dn := dn, up := up } }
  let down := (prioOrder s).reverse.find? fun c => decide (classFloor s c < classCeil s c)
  let raises := (prioOrder s).find? fun c => decide (classCeil s c < 15)
  match (if cfg s 8 0 ≤ dn then down else none), (if cfg s 9 0 ≤ up then raises else none) with
  | some c, _ =>
    let v := classCeil s c - 1
    let s := setCeil s c v
    if v = classFloor s c then raise s bLOOP 4 subjDie else s
  | none, some c => setCeil s c (classCeil s c + 1)
  | none, none => s

-- The selector (R281).

/-- The candidates of core `d` with their reasons, in tie order (R281). Which of two domain loops that tie gives the reason the rule
leaves open: CO, CL, MA.2c, MA.2c + 1 in this order. DESIGN CHOICE, log 154. -/
def selList (s : State) (d : Nat) : List (Int × Nat) :=
  let c := d / 8
  let q := fun (f : Int) => fracOf (fracBits f)
  let dom := fun x =>
    let y := s.loop.dl.nth x
    (q y.f, if ilimEff s x = y.icont ∧ (s.dom.nth x).derate ≠ 0 then 8 else 2)
  [(q (s.loop.tl.nth c).f, 3), dom d, dom (64 + c), dom (72 + 2 * c), dom (73 + 2 * c),
   (q s.loop.fdie, 1), (q s.loop.fcap, 0), (q s.loop.fbud, 4)]

/-- The least of the candidates, the first on a tie. -/
def selMin : List (Int × Nat) → Int × Nat
  | [] => (one, 15)
  | x :: xs => let y := selMin xs; if x.1 ≤ y.1 ∧ x.1 < one then x else y

/-- B of a core, from F_sel and C in 1/64 (R281). -/
def issueFrac (f : Int) (cf : Nat) : Int := min one (rdiv (64 * f) (max 1 cf))

/-- The slots kept of 256 at F_sel and C_c (R281). DEDUCED, log 45. -/
def keptOf (f : Int) (cf : Nat) : Nat := (256 * issueFrac f cf / one).toNat

/-- Slot `j` of a run of 256 is withheld when `kept` are issued (R281). -/
def slotWithheld (kept j : Nat) : Bool := decide (j * (256 - kept) / 256 < (j + 1) * (256 - kept) / 256)

/-- The selector of core `d`; the fractions reach it as Q0.16 (R267, R281). DEDUCED, log 45. -/
def selectCore (s : State) (d : Nat) : CoreSel :=
  let r := selMin (selList s d)
  let cf := clockFactor (s.loop.tl.nth (d / 8)).f
  ⟨r.1, r.2, keptOf r.1 cf, cf, issueFrac r.1 cf⟩

/-- What the issue logic of core `d` works with: a new fraction reaches it 2 beats after it is computed (R266). -/
def issueSel (s : State) (d : Nat) : CoreSel :=
  if s.loop.since.nth d ≤ s.time.beat then s.loop.core.nth d else s.loop.was.nth d

/-- The selector of core `d` is computed again (R266). In Free mode with ADV_EN its scheduler hears of a change (R283).
DEDUCED, log 45. -/
def selectOne (s : State) (d : Nat) : State :=
  let c := s.loop.core.nth d
  let n := selectCore s d
  if n = c then s
  else
    let tell := s.loop.advEn && !exactOn s && decide ((n.b, n.cf) ≠ (c.b, c.cf))
    { s with loop := { s.loop with
      was := s.loop.was.modN d fun _ => issueSel s d
      since := s.loop.since.modN d fun _ => s.time.beat + 2
      core := s.loop.core.modN d fun _ => n
      adv := if tell then s.loop.adv.modN d fun _ => (n.b, n.cf) else s.loop.adv } }

def selectAll (s : State) : State := (List.range 64).foldl selectOne s

/-- The selectors that a step's outputs affect are computed as the step reaches them, 1 to 60 beats after its start (R265, R266).
DESIGN CHOICE, log 144. -/
def selectLater (s : State) : State :=
  { s with
    loop := { s.loop with selAt := Tab.make 64 fun d => s.time.beat + 1 + Config.loopDelay s.freeCtr d % 60 }
    freeCtr := s.freeCtr + 1 }

/-- Those whose beat has come. -/
def selectDue (s : State) : State :=
  (List.range 64).foldl (fun s d =>
    let a := s.loop.selAt.nth d
    if 0 < a ∧ a ≤ s.time.beat then
      selectOne { s with loop := { s.loop with selAt := s.loop.selAt.modN d fun _ => 0 } } d
    else s) s

-- The step (R265).

/-- Sums of the bins and of the telemetry period take the window just closed. -/
def sampleBins (s : State) : State :=
  let l := s.loop
  let add := fun (t : Tab 4 Nat) => t.mapIx fun k x => x + dieInput s k
  { s with loop := { l with binSum := add l.binSum, binN := l.binN + 1, bbinSum := add l.bbinSum, bbinN := l.bbinN + 1 } }

def runBms (s : State) : List Bm := s.bm.data.filter fun b => decide (b.st = .run)

/-- DESIGN CHOICE, log 51. -/
def sampleTel (s : State) : State :=
  let t := s.tel
  let vb := (runBms s).map (·.vb)
  { s with tel := { t with
    n := t.n + 1
    pinSum := t.pinSum + s.inp.pin
    pdieSum := t.pdieSum + dieInput s s.g.die
    idieSum := t.idieSum + dieCurrent s
    vbSum := t.vbSum + (if vb = [] then 0 else meanNat vb)
    vbN := t.vbN + (if vb = [] then 0 else 1)
    vSum := t.vSum.mapIx fun d x => x + (s.dom.nth d).vmean
    iSum := t.iSum.mapIx fun d x => x + (s.dom.nth d).i } }

/-- The fractions that the coordinator sent at an earlier step reach this die's loops, as Q0.16 (R267, R273). `fcap` and `fbud`
are what another die's coordinator sent, as Q0.16 fields, and apply as sent: the cap and budget loops run in the coordinator, and
its enables govern them (R271, R275, R292). DESIGN CHOICE, log 46; DEDUCED, log 52. -/
def applyFractions (s : State) (fcap fbud : Nat) : State :=
  let l := s.loop
  let own := fun (at' : Nat) (next old : Int) => if at' < s.time.beat then fracOf (fracBits next) else old
  let c := if s.g.coord then own l.fcapAt l.fcapNext l.fcap else fracOf fcap
  let b := if s.g.coord then own l.fbudAt l.fbudNext l.fbud else fracOf fbud
  { s with loop := { l with
    fcap := if !s.g.coord || l.capEn || vinHold s then c else one, fbud := if !s.g.coord || l.budEn then b else one } }

/-- The loop engine's step, at the end of a whole measurement window (R151, R265, R304). DESIGN CHOICE, log 46. -/
def effLoopEngineStep (fcap fbud : Nat) (s : State) : State :=
  if s.time.beat % 100 = 0 ∧ 100 ≤ s.time.beat ∧ wholeWin s (s.time.beat - 100) 100 then
    let s := sampleTel (sampleBins (applyFractions s fcap fbud))
    let s := dieLoop s
    let s := allDoms.foldl domLoop s
    let s := if s.time.beat % 1000 = 0 then ((List.range 8).filter fun c => present s (64 + c)).foldl thermLoop s else s
    let s := if s.loop.ceilEn ∧ s.time.beat % 100000 = 0 then ceilings s else s
    requestStall (selectLater s)
  else s

def execLoopEngineStep (fcap fbud : Nat) (s : State) : Out := loopLive s (effLoopEngineStep fcap fbud)

/-- A loop is disabled: its output becomes 1.0 at once (R291), but for an output that a protection holds (R357): 0 cap, 1
budget, 2 die current, 3 domain, 4 thermal. DEDUCED, log 52. -/
def effLoopDisable (k : Fin 5) (s : State) : State :=
  let l := s.loop
  let ones := Tab.make 4 fun _ => one
  let l := match k.val with
    | 0 =>
      if vinHold s || !s.g.coord then { l with capEn := false }
      else { l with capEn := false, capF := ones, fcap := one, fcapNext := one }
    | 1 => if s.g.coord then { l with budEn := false, budF := ones, fbud := one, fbudNext := one } else { l with budEn := false }
    | 2 => { l with dieiEn := false, fdie := if l.dieOc then l.fdie else one }
    | 3 => { l with
        domiEn := false
        dl := l.dl.mapIx fun d x => if (s.pd.nth d).ocact then x else { x with f := one, low := 0, isOver := false } }
    | _ => { l with
        thermEn := false
        tl := l.tl.map fun x => if decide (cfgS s 0x0D 1 ≤ x.t) && decide (x.f < one) then x else { x with f := one } }
  selectAll { s with loop := l }

def execLoopDisable (k : Fin 5) (s : State) : Out := bus s (effLoopDisable k)

-- Lost beats and throttle counts, at every beat (R282, R287).

/-- The coolant stop has reached the core's cluster (R368, R371). -/
def coolStopped (s : State) (d : Nat) : Bool := present s d && s.prot.coolant && decide (d / 8 < s.prot.stopNext)

/-- 1 - G of core `d` in 1/256, rounded down (R281, R282, R286). -/
def lostOf (s : State) (d : Nat) : Nat :=
  let c := s.loop.core.nth d
  let p := s.sp.nth d
  let fe := cfg s 0x51 (16 * d + p.opeff)
  let fp := cfg s 0x51 (16 * d + p.oppref)
  let num := c.cf * (issueSel s d).kept * (if p.opeff = p.oppref then 1 else fe)
  let den := 64 * (if p.opeff = p.oppref then 1 else max 1 fp)
  256 - ceilDiv num den

/-- The reasons that core `d` counts in this beat (R287). The issue that a reset withholds is none of them (R436). -/
def coreReasons (s : State) (d : Nat) : List Nat :=
  let on := isOn s d
  let c := s.loop.core.nth d
  (if on ∧ c.fsel < one then [c.reason] else []) ++ (if (s.pd.nth d).stretch then [5] else [])
    ++ (if coolStopped s d then [6] else []) ++ (if on && stallNow s then [7] else [])

def throttleBeat (s : State) : State :=
  let s := selectDue s
  let rs := Tab.make 64 (coreReasons s)
  let lose := Tab.make 64 fun d => if isOn s d && !coolStopped s d && !stallNow s then lostOf s d else 0
  let bump := fun (d : Nat) (t : Tab 9 Nat) => t.modEach (rs.nth d) fun _ x => x + 1
  let s := { s with
    loop := { s.loop with
      lost := s.loop.lost.mapIx fun d x => x + lose.nth d
      tcore := s.loop.tcore.mapIx bump
      tdie := s.loop.tdie.mapIx fun r x => if rs.data.any (·.contains r) then x + 1 else x }
    tel := { s.tel with
      beats := s.tel.beats + 1
      fselSum := s.tel.fselSum.mapIx fun d x => x + (s.loop.core.nth d).fsel.toNat
      rsn := s.tel.rsn.mapIx bump } }
  (List.range 64).foldl (fun s d => if 0 < lose.nth d then addDebt s d (lose.nth d) else s) s

-- Telemetry (R288 to R290).

/-- The period in progress starts again with nothing in it; one that starts in a reset of the loops is cut (R151, R439).
DEDUCED, log 109. -/
def telRestart (s : State) (b : Nat) : State :=
  { s with tel := { s.tel with
    start := b, broken := loopInReset s, n := 0, pinSum := 0, pdieSum := 0, idieSum := 0, vbSum := 0, vbN := 0
    vSum := s.tel.vSum.map fun _ => 0, iSum := s.tel.iSum.map fun _ => 0, beats := 0
    fselSum := s.tel.fselSum.map fun _ => 0, rsn := s.tel.rsn.map fun t => t.map fun _ => 0 } }

/-- LOOP_SAT (R292). -/
def loopSat (s : State) : Nat :=
  let l := s.loop
  b2n l.satCap + 2 * b2n l.satBud + 4 * b2n l.satDiei + 8 * b2n (l.dl.data.any (·.sat)) + 16 * b2n (l.tl.data.any (·.sat))

/-- The reason with the most beats, 15 when none has any (R289). DESIGN CHOICE, log 51. -/
def mostReason (t : Tab 9 Nat) : Nat :=
  let top := t.data.foldl max 0
  if top = 0 then 15 else (List.range 9).find? (fun r => decide (t.nth r = top)) |>.getD 15

/-- The tag of the record that closes now: the one that acted before (R247). -/
def telTag (s : State) : Nat := (((s.tel.tags.filter fun x => decide (x.2 < s.time.beat)).getLast?).map (·.1)).getD 0

/-- The record of the period that ends at the present beat, with its CRC (R289). DESIGN CHOICE, log 51. -/
def telRecord (s : State) : List Byte :=
  let t := s.tel
  let mean := fun (x : Int) => rdiv x (max 1 t.n)
  let flags := b2n t.fine + 2 * b2n s.g.exact + 4 * b2n t.gap + 8 * b2n s.g.coord
  let rsns := (List.range 9).foldl (fun a r => if (t.rsn.data.any fun x => decide (0 < x.nth r)) then a + 2 ^ r else a) 0
  let head := [0x4D, 0x54, 0x45, 0x4C, 1, BitVec.ofNat 8 flags] ++ leBytes 2 (telTag s) ++ leBytes 4 t.rseq
    ++ zeros 4 ++ leBytes 8 t.start ++ leBytes 8 s.time.beat
    ++ leBytes 4 (if s.g.coord then satU32 (mean t.pinSum) else 0) ++ leBytes 4 (satU32 (mean t.pdieSum))
    ++ leBytes 4 (signedBits 32 (satI32 (mean t.idieSum)))
    ++ leBytes 2 (satU16 (rdiv t.vbSum (max 1 t.vbN))) ++ leBytes 2 (fracBits (min s.loop.fcap s.loop.fbud)) ++ leBytes 2 rsns
    ++ leBytes 2 (loopSat s) ++ leBytes 2 (s.loop.ceilC + 16 * s.loop.ceilA + 256 * s.loop.ceilL) ++ zeros 6
  let doms := (allDoms.map fun d =>
    if present s d then
      leBytes 2 (satU16 (mean (t.vSum.nth d))) ++ leBytes 2 (signedBits 16 (satI16 (mean (t.iSum.nth d))))
        ++ leBytes 4 (energyReg (s.dom.nth d).e)
    else zeros 8).flatten
  let fsel := (upTo 64 fun d =>
    leBytes 2 (if present s d then fracBits (rdiv (t.fselSum.nth d) (max 1 t.beats)) else 0)).flatten
  let rsn := fun d => if present s d then (t.rsn.data.map mostReason).getD d 15 else 0
  let tail := doms ++ fsel ++ (upTo 32 fun k => BitVec.ofNat 8 (rsn (2 * k) + 16 * rsn (2 * k + 1))) ++ zeros 24
  head ++ leBytes 4 (crc32 (head ++ tail)) ++ tail

/-- `n` periods that are not recorded (R288, R290). -/
def telLoseN (n : Nat) (s : State) : State :=
  if n = 0 then s
  else { s with tel := { s.tel with rseq := (s.tel.rseq + n) % 2 ^ 32, lost := s.tel.lost.add 65535 n, gap := true } }

def telLose (s : State) : State := telLoseN 1 s

/-- The period's end: a record, or none (R288, R290). `ok` when the bus takes the write. DESIGN CHOICE, log 51. -/
def telClose (s : State) (ok : Bool) : State :=
  let t := s.tel
  if t.broken then telLose s
  else if (t.wr + 1) % 2 ^ t.log = t.rd then raise (telLose s) bLOOP 5 subjDie
  else if ok then
    { s with
      mem.hmem := Memory.writeBytes s.mem.hmem (t.base + 1024 * t.wr) (telRecord s)
      tel := { t with wr := (t.wr + 1) % 2 ^ t.log, rseq := (t.rseq + 1) % 2 ^ 32, gap := false, tags := t.tags.filter fun x => decide (s.time.beat ≤ x.2) } }
  else raise { telLose s with tel := { (telLose s).tel with buserr := true } } bLOOP 6 subjDie

/-- The end of a telemetry period, and a change of period (R247, R288). Periods that went by meanwhile, in a freeze, are lost.
DESIGN CHOICE, log 32. -/
def effTelemetryRecord (ok : Bool) (s : State) : State :=
  let t := s.tel
  let now := s.time.beat
  let per := telPeriod t.fine
  let ends := decide (now % per = 0)
  let turns := decide (t.want ≠ t.fine ∧ now % telPeriod t.want = 0)
  if ends || turns then
    let s := if t.en && !t.buserr && decide (t.start < now) then
        let s := telLoseN ((now - 1 - t.start) / per) s
        if ends then telClose s ok else telLose s
      else s
    let s := if turns then { s with tel := { s.tel with fine := t.want } } else s
    telRestart s now
  else s

/-- The beat counter jumps to `n`: the period in progress is cut, and one that it left is lost (R151, R288). -/
def telCut (n : Nat) (s : State) : State :=
  let t := s.tel
  let b := n / telPeriod t.fine * telPeriod t.fine
  let s := if t.en && !t.buserr && decide (b ≠ t.start) then telLose s else s
  { s with tel := { s.tel with start := b, broken := decide (b ≠ n) || decide (b = t.start) } }

/-- The period in progress is cut; one that has ended is still recorded (R151, R439). -/
def telBreak (s : State) : State := { s with tel := { s.tel with broken := s.tel.broken || !telEnded s } }

def execTelemetryRecord (ok : Bool) (s : State) : Out := live s (effTelemetryRecord ok)

/-- TEL_CTL.CLRCNT (R295). -/
def execTelClrcnt (s : State) : Out := bus s fun s => { s with tel := { s.tel with lost := .zero } }

end Sys2Proof.Machine
end

