-- ==== Sys2Proof/Machine/Side.lean ====
section
/-! DEFINITION. Across chips: the messages of the sideband and their routes, the granary, track distribution and the arm
barrier (R317 to R345). -/

namespace Sys2Proof.Machine

-- Receiving (R321, R322, R324).

/-- The header's fields; LEN comes from the payload. -/
def msgOf (h : Word64) (pay : List Word64) : Msg :=
  let n := h.toNat
  ⟨bits n 60 4, bits n 54 6, bits n 42 12, bits n 30 12, bits n 16 8, pay⟩

/-- LEN fits the kind (R323). -/
def lenOk (kind n : Nat) : Bool :=
  match kind with
  | 1 | 2 | 3 | 5 => decide (n = 1)
  | 4 | 9 => decide (n = 2)
  | 6 => decide (1 ≤ n ∧ n ≤ 8)
  | 7 | 8 => decide (n = 34)
  | _ => false

/-- A message or packet is dropped and counted (R322, R338). -/
def dropSide (s : State) : State :=
  raise { s with side := { s.side with bad := s.side.bad.inc 65535 } } bSIDE 0 subjDie

/-- A message of kind `kind` arrives on a port: dropped, or handed to `f` (R322). An instance outside a job and a port that
is off carry none (R318, R319). DEDUCED, log 58, 59. -/
def receive (kind : Nat) (port : Fin 19) (h : Word64) (pay : List Word64) (f : Msg → State → State) (s : State) : State :=
  let m := msgOf h pay
  if s.side.en && (s.side.port.get port).en then
    if bits h.toNat 0 16 = msgChk m ∧ m.job = s.side.jobtag ∧ m.kind = kind ∧ bits h.toNat 24 6 = pay.length
        ∧ lenOk kind pay.length then f m s
    else dropSide s
  else s

/-- Slot `i` of the payload. -/
def slot (m : Msg) (i : Nat) : Nat := ((m.payload.getD i 0 : Word64)).toNat

def forward (s : State) (port : Fin 19) (f : Port → Bool) (m : Msg) : State :=
  sendOn s (fun k p => decide (k ≠ port.val) && f p) m

/-- A tree port. -/
def treePort (p : Port) : Bool := decide (p.tree ≠ 0)
/-- The parent port. -/
def upPort (p : Port) : Bool := decide (p.tree = 1)
/-- The child port whose subtree holds `dest`. -/
def downPort (dest : Nat) (p : Port) : Bool := decide (p.tree = 2 ∧ p.lo ≤ dest ∧ dest ≤ p.hi)

/-- A flooded message already handled: the rule keeps ORIG and SEQ, and no kind (R324). DEDUCED, log 58. -/
def handled (s : State) (m : Msg) : Bool := s.side.seen.contains (m.orig, m.seq)

/-- Forwards a flooded message with its hop count advanced (R324). -/
def floodOn (s : State) (port : Fin 19) (m : Msg) : State :=
  let s := { s with side := { s.side with seen := ((m.orig, m.seq) :: s.side.seen).take 1024 } }
  let w := slot m 0
  let hops := bits w 48 4
  if hops + 1 < s.side.diam then
    forward s port (fun _ => true) { m with payload := [BitVec.ofNat 64 (w + 2 ^ 48)] }
  else s

-- Harmonised stalls (R328, R329).

/-- The beat near `now` whose low `k` bits are `lo` (R328). -/
def nearBeat (now k lo : Nat) : Nat :=
  let base := now / 2 ^ k * 2 ^ k + lo
  let half := 2 ^ (k - 1)
  if now + half ≤ base then base - 2 ^ k else if base + half < now then base + 2 ^ k else base

def onStall (port : Fin 19) (m : Msg) (s : State) : State :=
  if handled s m then s
  else
    let w := slot m 0
    floodOn (takeStall s (nearBeat s.time.beat 48 (bits w 0 48)) (64 * bits w 54 10)) port m

def execStall (port : Fin 19) (h : Word64) (pay : List Word64) (s : State) : Out :=
  live s (receive 1 port h pay (onStall port))

-- The arm barrier (R340 to R342).

/-- A barrier that failed: every lane halts, one tally entry, BAR_FAIL (R342). DEDUCED, log 61. -/
def barDisarm (s : State) : State :=
  raise (haltLanes { s with side := { s.side with barFail := true, barPend := false } } 0xFF) bSIDE 2 subjDie

/-- DEDUCED, log 61. -/
def onVerdict (port : Fin 19) (m : Msg) (s : State) : State :=
  if handled s m then s
  else
    let s := floodOn s port m
    let w := slot m 0
    if s.side.barPend then
      if bitOf w 63 then
        if bits w 0 40 = s.seqr.base % 2 ^ 40 then { s with side := { s.side with barPass := true } } else s
      else barDisarm s
    else s

def execVerdict (port : Fin 19) (h : Word64) (pay : List Word64) (s : State) : Out :=
  live s (receive 2 port h pay (onVerdict port))

/-- ARMRPT: up to the root, which keeps the last of each ordinal, but none after its decision (R340, R341, R343).
DEDUCED, log 66. -/
def onArmrpt (port : Fin 19) (m : Msg) (s : State) : State :=
  if s.side.root then
    if s.side.decided ∧ s.time.beat < s.side.barB then s
    else { s with side := { s.side with
      rpts := (m.orig, m.payload.getD 0 0) :: s.side.rpts.filter fun r => r.1 ≠ m.orig } }
  else forward s port upPort m

def execArmrpt (port : Fin 19) (h : Word64) (pay : List Word64) (s : State) : Out :=
  live s (receive 3 port h pay (onArmrpt port))

/-- A report marks its ordinal (R341). -/
def reportOk (s : State) (w : Word64) : Bool :=
  decide (bits w.toNat 30 2 = 3 ∧ bits w.toNat 32 32 = le32 s.seqr.tdig 0 ∧ bits w.toNat 0 30 = s.side.barB % 2 ^ 30)

/-- The ordinals below NINST that the root marks (R341). -/
def barMarked (s : State) : List Nat :=
  (List.range s.side.ninst).filter fun o => s.side.rpts.any fun r => decide (r.1 = o) && reportOk s r.2

/-- The root's decision at B - BDEC of its last ARM, whether it is still armed or not (R341). DEDUCED, log 66. -/
def effArmBarrierDecision (s : State) : State :=
  let x := s.side
  if x.root && x.en && !x.decided && decide (1 < x.ninst ∧ x.barB ≤ s.time.beat + x.bdec) then
    let marked := barMarked s
    let pass := decide (marked.length = x.ninst)
    let m := ownMsg s 2 0 [BitVec.ofNat 64 (fld 63 1 (b2n pass) + x.barB % 2 ^ 40)]
    let s := bumpSeq s 2
    let s := { s with side := { s.side with
      decided := true, barPass := pass && x.barPend, nmiss := x.ninst - marked.length
      abmap := marked.foldl (fun (a : BitVec 4096) o => a ||| ((1 : BitVec 4096) <<< o)) 0
      seen := ((m.orig, m.seq) :: s.side.seen).take 1024 } }
    let s := sendOn s (fun _ _ => true) m
    if x.barPend && !pass then barDisarm s else s
  else s

def execArmBarrierDecision (s : State) : Out := live s effArmBarrierDecision

/-- No passing verdict by B (R342). -/
def effArmBarrierTimeout (s : State) : State :=
  if s.side.barPend && !s.side.barPass && decide (s.seqr.base ≤ s.time.beat) then barDisarm s else s

def execArmBarrierTimeout (s : State) : Out := live s effArmBarrierTimeout

-- The granary (R330 to R336).

/-- The package's coordinator is a member that takes part in exchange `x` (R256, R327, R330, R334). -/
def granMember (s : State) (x : GExch) : Bool :=
  s.g.coord && s.side.en && decide (x.policy = 1 ∨ x.policy = 2) && !exactOn s && s.time.aligned

/-- A report in ascending order of ordinals, one for each. -/
def repInsert (r : GRep) : List GRep → List GRep
  | [] => [r]
  | q :: qs => if r.ord < q.ord then r :: q :: qs else if r.ord = q.ord then r :: qs else q :: repInsert r qs

def modGran (s : State) (f : Gran → Gran) : State := { s with side := { s.side with gran := f s.side.gran } }

/-- The holding's nominal budget, clamped to the cap (R330). -/
def granNom (s : State) : Nat := min s.side.gran.nom (2 * s.loop.cap)

/-- σ_D of this die at the report beat `xr` (R331). -/
def ownSlack (s : State) (x : GSeg) (xr : Nat) : Int :=
  match x.kept with
  | some v => v
  | none =>
  if s.seg.hasClosed ∧ s.seg.cEnd = x.x ∧ s.seg.arrClosed &&& s.seg.cOn ≠ 0 then s.seg.arrSlack
  else satI32 ((x.x : Int) + x.slack - xr)

/-- The member's own report in exchange `x` with package slack `sigma` (R331). -/
def ownReport (s : State) (x : GExch) (sigma : Int) : GRep :=
  ⟨s.side.ord, x.exid, x.policy, sigma, s.side.gran.hold, 2 * s.loop.cap, granNom s⟩

/-- X_r + 2, once the dies have reported: a member in Free mode sends its GRANRPT and counts its own report (R331).
DEDUCED, log 63. -/
def granSend (s : State) : State :=
  match s.side.gran.cur with
  | none => s
  | some x =>
    match x.sigma with
    | none => s
    | some sigma =>
      if x.sent = false ∧ x.x + s.side.gran.rdly + 2 ≤ s.time.beat then
        if granMember s x then
          let r := ownReport s x sigma
          let s := modGran s fun g => { g with cur := some { x with sent := true, reps := repInsert r x.reps } }
          let m := ownMsg s 4 0
            [BitVec.ofNat 64 (fld 48 16 x.exid + fld 46 2 x.policy + signedBits 32 sigma),
             BitVec.ofNat 64 (fld 48 16 r.h + fld 32 16 r.cap + fld 16 16 r.nom)]
          sendOn (bumpSeq s 4) (fun _ p => treePort p) m
        else modGran s fun g => { g with cur := some { x with sent := true } }
      else s

/-- Die `k` is in service (R432). -/
def dieIn (s : State) (k : Nat) : Bool := if k = s.g.die then s.g.mss else (s.peer.nth k).mss

/-- The dies' slacks at the report beat of `y`: `sig` are the other dies' σ_D, by die (R331). -/
def dieSlacks (sig : List Int) (s : State) (y : GSeg) : List (Option Int) :=
  upTo 4 fun k =>
    if dieIn s k then some (if k = s.g.die then ownSlack s y (y.x + s.side.gran.rdly) else sig.getD k 0) else none

/-- The smallest of the slacks (R331). -/
def minSlack (l : List Int) (z : Int) : Int := satI32 (l.foldl min (l.headD z))

/-- The report beat: the dies' slacks, and with them the package's (R331). DEDUCED, log 63. -/
def effGranReport (sig : List Int) (s : State) : State :=
  let g := s.side.gran
  match g.segs.find? fun y => decide (y.dies = none ∧ y.x + g.rdly ≤ s.time.beat) with
  | none => granSend s
  | some y =>
    let dies := dieSlacks sig s y
    let sigma := minSlack (dies.filterMap id) (ownSlack s y (y.x + g.rdly))
    granSend (modGran s fun g => { g with
      segs := g.segs.map fun z => if z.x = y.x then { z with dies := some dies } else z
      cur := g.cur.map fun c => if c.x = y.x then { c with sigma := some sigma } else c })

def execGranReport (sig : List Int) (s : State) : Out := live s (effGranReport sig)

/-- A received report joins the exchange it names (R331, R332). -/
def onGranrpt (port : Fin 19) (m : Msg) (s : State) : State :=
  let a := slot m 0
  let b := slot m 1
  let r : GRep := ⟨m.orig, bits a 48 16, bits a 46 2, signExt 32 (bits a 0 32), bits b 48 16, bits b 32 16, bits b 16 16⟩
  let s := modGran s fun g => { g with
    cur := g.cur.map fun x =>
      if x.exid = r.exid ∧ x.decided = false ∧ (r.policy = 1 ∨ r.policy = 2) then { x with reps := repInsert r x.reps } else x }
  forward s port treePort m

def execGranrpt (port : Fin 19) (h : Word64) (pay : List Word64) (s : State) : Out :=
  live s (receive 4 port h pay (onGranrpt port))

/-- A share-out under way: the member, what it wants or offers, and what it has been given. -/
structure Claim where
  r : GRep
  want : Int
  got : Int
deriving DecidableEq, Repr

/-- One unit each, in order, to the members with room left (R332). -/
def remainders : Int → List Claim → List Claim
  | _, [] => []
  | n, c :: cs => if 0 < n ∧ c.got < c.want then { c with got := c.got + 1 } :: remainders (n - 1) cs else c :: remainders n cs

/-- Shares out `mv` of the claims' sum in proportion, then the remainders (R332). -/
def shareOut (mv : Int) (cs : List Claim) : List Claim :=
  let w := sumList (cs.map (·.want))
  let cs := cs.map fun c => { c with got := if 0 < w then c.want * mv / w else 0 }
  remainders (mv - sumList (cs.map (·.got))) cs

/-- What a member takes part with: it wants at or below the mean less `db`, and offers at or above the mean plus `db`. -/
def claimWant (mean db : Int) (m : GRep) : Int :=
  if m.sigma ≤ mean - db then min ((m.cap * 4 / 100 : Nat) : Int) ((m.cap : Int) - m.h) else 0

def claimOffer (mean db : Int) (m : GRep) : Int :=
  if mean + db ≤ m.sigma then min ((m.cap * 4 / 100 : Nat) : Int) (max 0 ((m.h : Int) - (m.nom / 2 : Nat))) else 0

/-- The reallocation of R332 over the shared members, in ascending order: their new holdings. -/
def reallocate (db : Int) (sh : List GRep) : List GRep :=
  if sh.length < 2 then sh
  else
    let mean := sumList (sh.map (·.sigma)) / (sh.length : Int)
    let takers := sh.map fun m => (⟨m, claimWant mean db m, 0⟩ : Claim)
    let givers := sh.map fun m => (⟨m, claimOffer mean db m, 0⟩ : Claim)
    let mv := min (sumList (takers.map (·.want))) (sumList (givers.map (·.want)))
    (shareOut mv takers).zipWith (fun t g => { t.r with h := ((t.r.h : Int) + t.got - g.got).toNat }) (shareOut mv givers)

/-- The flat-out members that are admitted: the first NPKG div 16 (R332). -/
def admittedFlat (npkg : Nat) (reps : List GRep) : List Nat :=
  ((reps.filter fun m => decide (m.policy = 2)).map (·.ord)).take (npkg / 16)

/-- ALLOCDIG (R332). DEDUCED, log 67. -/
def allocDig (sh : List GRep) : Nat := crc32 (sh.map fun m => leBytes 2 (m.ord / 4) ++ leBytes 2 m.h).flatten

/-- The decision beat: a member's reallocation, and the root's GRANT (R332). DEDUCED, log 63. -/
def effGranDecision (s : State) : State :=
  let g := s.side.gran
  match g.cur with
  | none => s
  | some x =>
    if x.x + g.rdly + g.gwin ≤ s.time.beat ∧ x.decided = false ∧ x.sent = true then
      if granMember s x || (s.side.root && s.side.en && !exactOn s && !x.reps.isEmpty) then
        let flats := admittedFlat s.side.npkg x.reps
        let sh := reallocate g.db (x.reps.filter fun m => !flats.contains m.ord)
        let h := ((sh.find? fun m => decide (m.ord = s.side.ord)).map (·.h)).getD g.hold
        let dig : Word32 := BitVec.ofNat 32 (allocDig sh)
        let n := x.reps.length
        let s := modGran s fun g => { g with cur := some { x with
          decided := true, newH := h, nrep := n, dig := dig, flat := flats.contains s.side.ord
          grant := if s.side.root then some (n, dig) else x.grant } }
        if s.side.root then
          let m := ownMsg s 5 0 [BitVec.ofNat 64 (fld 48 16 x.exid + fld 36 12 n + dig.toNat)]
          sendOn (bumpSeq s 5) (fun _ p => treePort p) m
        else s
      else s
    else s

def execGranDecision (s : State) : Out := live s effGranDecision

/-- A received GRANT is kept for the apply beat (R333). -/
def onGrant (port : Fin 19) (m : Msg) (s : State) : State :=
  let w := slot m 0
  let s := modGran s fun g => { g with
    cur := g.cur.map fun x =>
      if x.exid = bits w 48 16 then { x with grant := some (bits w 36 12, BitVec.ofNat 32 w) } else x }
  forward s port treePort m

def execGrant (port : Fin 19) (h : Word64) (pay : List Word64) (s : State) : Out :=
  live s (receive 5 port h pay (onGrant port))

/-- The apply beat (R333). -/
def effGranApply (s : State) : State :=
  let g := s.side.gran
  match g.cur with
  | none => s
  | some x =>
    if x.x + g.rdly + g.gwin + 1000 ≤ s.time.beat then
      let s := modGran s fun g => { g with cur := none }
      if x.decided && granMember s x then
        let same := decide (x.grant = some (x.nrep % 4096, x.dig))
        let s := modGran s fun g => { g with
          hold := if same then x.newH else min g.hold x.newH
          exid := x.exid, nrep := x.nrep, flat := x.flat && decide (g.policy = 2), exch := (g.exch + 1) % 2 ^ 32
          diverge := g.diverge || !same
          div := if same then g.div else g.div.inc 65535 }
        if same then s else raise s bSIDE 4 subjDie
      else s
    else s

def execGranApply (s : State) : Out := live s effGranApply

/-- The dies in service as members of R332, with the slacks that they reported (R336). -/
def dieMembers (s : State) (dies : List (Option Int)) : List GRep :=
  let ins := (List.range 4).filter fun k => (dies.getD k none).isSome && (s.peer.nth k).mss
  ins.map fun k => ⟨k, 0, 1, (dies.getD k none).getD 0, s.loop.share.nth k, 32768, 65536 / max 1 ins.length⟩

/-- The coordinator balances its dies at X_r + 100 of every flagged segment (R336). -/
def effPkgBalance (s : State) : State :=
  let g := s.side.gran
  match g.segs with
  | [] => s
  | y :: ys =>
    if y.x + g.rdly + 100 ≤ s.time.beat then
      let t := modGran s fun g => { g with segs := ys }
      match y.dies with
      | none => t
      | some dies =>
        if s.g.coord && g.pkgEn && !exactOn s then
          { t with loop := { t.loop with
            share := (reallocate g.db (dieMembers s dies)).foldl (fun (t : Tab 4 Nat) m => t.modN m.ord fun _ => m.h) s.loop.share } }
        else t
    else s

def execPkgBalance (s : State) : Out := live s effPkgBalance

-- Track distribution (R337 to R339).

def modDist (s : State) (f : Dist → Dist) : State := { s with side := { s.side with dist := f s.side.dist } }

/-- Packets held. -/
def heldCount (b : BitVec 1024) : Nat := ((List.range 1024).filter fun i => b.getLsbD i).length

/-- A packet of `n` for the image in track memory: slots 0 to 33 (R337). DEDUCED, log 31. -/
def trkPacket (s : State) (id npkt n : Nat) : List Word64 :=
  let len := 8 * trkLen s
  let word := fun j => BitVec.ofNat 64 ((upTo 8 fun b =>
    let a := 256 * n + 8 * j + b
    if a < len then tByte s a * 256 ^ b else 0).foldl (· + ·) 0)
  let body := BitVec.ofNat 64 (fld 48 16 id + fld 38 10 n + fld 27 11 npkt) :: upTo 32 word
  body ++ [BitVec.ofNat 64 (crc32 (body.map fun w => leBytes 8 w.toNat).flatten)]

/-- Packets of an image of LENGTH words. -/
def trkNpkt (s : State) : Nat := ceilDiv (8 * trkLen s) 256

/-- START (R337). DEDUCED, log 62. -/
def effDistStart (s : State) : State :=
  if s.side.root && s.seqr.admitted && !armed s then
    let id := (s.side.dist.id + 1) % 65536
    let n := trkNpkt s
    let s := modDist s fun _ => ⟨1, s.side.dist.err, 0, id, BitVec.ofNat 1024 (2 ^ n - 1), n, s.time.beat⟩
    let s := (List.range n).foldl (fun s i =>
      sendOn (bumpSeq s 7) (fun _ p => treePort p) (ownMsg s 7 0 (trkPacket s id n i))) s
    let dig := BitVec.ofNat 64 ((upTo 8 fun i => byteN s.seqr.tdig i * 256 ^ i).foldl (· + ·) 0)
    sendOn (bumpSeq s 9) (fun _ p => treePort p)
      (ownMsg s 9 0 [BitVec.ofNat 64 (fld 48 16 id + fld 27 11 n), dig])
  else modDist s fun d => { d with err := true }

def execDistStart (s : State) : Out := live s effDistStart

/-- A new distribution identifier starts a new reception (R338). -/
def distMeet (s : State) (id npkt : Nat) : State :=
  if id = s.side.dist.id then modDist s fun d => { d with npkt := npkt, st := if d.st = 0 then 2 else d.st }
  else modDist s fun d => ⟨2, d.err, 0, id, 0, npkt, s.time.beat⟩

/-- A packet at a receiver: dropped for its CRC, ignored while armed, or written (R338). DEDUCED, log 31. -/
def takePacket (m : Msg) (s : State) : State :=
  let a := slot m 0
  let good := decide (crc32 ((m.payload.take 33).map fun w => leBytes 8 w.toNat).flatten = slot m 33 % 2 ^ 32)
  if !good then dropSide s
  else
    let n := bits a 38 10
    let s := distMeet s (bits a 48 16) (bits a 27 11)
    let s := modDist s fun d => { d with last := s.time.beat }
    if armed s then trackWrite s (256 * n) []
    else
      let s := trackWrite s (256 * n) (((m.payload.drop 1).take 32).map fun w => leBytes 8 w.toNat).flatten
      modDist s fun d =>
        let h := d.held ||| ((1 : BitVec 1024) <<< n)
        { d with held := h, st := if d.st = 2 ∧ d.npkt ≤ heldCount h then 3 else d.st }

/-- Priority-2 messages are taken only while their way on has room (R325). DEDUCED, log 64. -/
def roomFor (s : State) (port : Fin 19) (f : Port → Bool) : Bool :=
  (List.range 19).all fun k =>
    let p := s.side.port.nth k
    decide (k = port.val) || !p.en || !f p || decide ((p.q.filter fun x => decide (msgPrio x.1.kind = 2)).length < 64)

def onTrkpkt (port : Fin 19) (m : Msg) (s : State) : State :=
  if roomFor s port treePort then forward (takePacket m s) port treePort m else s

def execTrkpkt (port : Fin 19) (h : Word64) (pay : List Word64) (s : State) : Out :=
  live s (receive 7 port h pay (onTrkpkt port))

/-- A resent packet: for this instance, or on toward its destination (R324, R339). -/
def onTrkres (port : Fin 19) (m : Msg) (s : State) : State :=
  if m.dest = s.side.ord then takePacket m s
  else if roomFor s port (downPort m.dest) then forward s port (downPort m.dest) m else s

def execTrkres (port : Fin 19) (h : Word64) (pay : List Word64) (s : State) : Out :=
  live s (receive 8 port h pay (onTrkres port))

/-- TRKEND ends a distribution of which the receiver has a packet; one that got none cannot NACK (R339).
DEDUCED, log 31, 60. -/
def onTrkend (port : Fin 19) (m : Msg) (s : State) : State :=
  if roomFor s port treePort then
    let id := bits (slot m 0) 48 16
    let s := modDist s fun d => if d.st = 2 ∧ d.id = id then { d with npkt := bits (slot m 0) 27 11, last := s.time.beat } else d
    forward s port treePort m
  else s

def execTrkend (port : Fin 19) (h : Word64) (pay : List Word64) (s : State) : Out :=
  live s (receive 9 port h pay (onTrkend port))

/-- The root resends what a TRKNACK names; others pass it up (R339). -/
def onTrknack (port : Fin 19) (m : Msg) (s : State) : State :=
  if s.side.root then
    let d := s.side.dist
    let want := (m.payload.map fun w =>
      if bits w.toNat 48 16 = d.id then upTo (bits w.toNat 28 10 + 1) fun i => bits w.toNat 38 10 + i else []).flatten
    want.foldl (fun s n =>
      if n < d.npkt then
        sendOn (bumpSeq s 8) (fun _ p => downPort m.orig p) (ownMsg s 8 m.orig (trkPacket s d.id d.npkt n))
      else s) s
  else forward s port upPort m

def execTrknack (port : Fin 19) (h : Word64) (pay : List Word64) (s : State) : Out :=
  live s (receive 6 port h pay (onTrknack port))

/-- Runs of packets that are missing, as first and count, in ascending order. -/
def missingRuns (d : Dist) : List (Nat × Nat) :=
  (List.range d.npkt).foldl (fun acc i =>
    if d.held.getLsbD i then acc
    else match acc.reverse with
      | (a, n) :: rest => if a + n = i then (rest.reverse ++ [(a, n + 1)]) else acc ++ [(i, 1)]
      | [] => [(i, 1)]) []

/-- A receiver's TRKNACK, or FAILED after eight rounds (R339). DEDUCED, log 65. -/
def effDistNackTimer (s : State) : State :=
  let d := s.side.dist
  if d.st = 2 ∧ d.last + 5000 ≤ s.time.beat then
    if d.rounds < 8 then
      let runs := (missingRuns d).take 8
      let s := modDist s fun d => { d with rounds := d.rounds + 1, last := s.time.beat }
      let m := ownMsg s 6 0 (runs.map fun r => BitVec.ofNat 64 (fld 48 16 d.id + fld 38 10 r.1 + fld 28 10 (r.2 - 1)))
      sendOn (bumpSeq s 6) (fun _ p => upPort p) m
    else raise (modDist s fun d => { d with st := 4 }) bSIDE 3 subjDie
  else s

def execDistNackTimer (s : State) : Out := live s effDistNackTimer

-- Sending, at every beat (R320, R325).

/-- The position in a queue of the message whose slot goes next: priority 0 pre-empts, a message under way goes on, else the
oldest of the highest priority. -/
def nextMsg (q : List (Msg × Nat)) : Option Nat :=
  let prio := (q.map fun x => msgPrio x.1.kind).foldl min 3
  let first := q.findIdx? fun x => decide (msgPrio x.1.kind = prio)
  if prio = 0 then first
  else match q.findIdx? fun x => decide (x.2 ≤ x.1.payload.length) with
    | some i => some i
    | none => first

/-- One slot leaves on port `k` when this beat's slot is Meser's. -/
def portSlot (beat k : Nat) (p : Port) : Port :=
  if p.en ∧ (16 ≤ k ∨ beat % 2 = 1) then
    match nextMsg p.q with
    | none => p
    | some i =>
      match p.q[i]? with
      | none => p
      | some (m, n) =>
        if n ≤ 1 then { p with q := p.q.eraseIdx i, sent := some m }
        else { p with q := p.q.set i (m, n - 1) }
  else p

/-- The ports send; the root's distribution is complete once its packets have left. DEDUCED, log 62. -/
def sendSlots (s : State) : State :=
  let ports := s.side.port.mapIx fun k p => portSlot s.time.beat k p
  let busy := ports.data.any fun p => p.q.any fun x => decide (x.1.kind = 7 ∨ x.1.kind = 9)
  { s with side := { s.side with
    port := ports
    dist := { s.side.dist with st := if s.side.dist.st = 1 ∧ busy = false then 3 else s.side.dist.st } } }

-- Clears (R344).

def execSideClrcnt (s : State) : Out := bus s fun s => { s with side := { s.side with bad := .zero, qfull := .zero } }

def execGranDivClear (s : State) : Out := bus s fun s => modGran s fun g => { g with div := .zero }

end Sys2Proof.Machine
end

