-- ==== Sys2Proof/Machine/Protect.lean ====
section
/-! DEFINITION. Protection: overvoltage, undervoltage, droop, overcurrent, the input bus, temperature, coolant loss and the die
stop (R357 to R374, R481). -/

namespace Sys2Proof.Machine

-- Domain voltage (R359 to R361, R481).

/-- The domain's sheaf is switching, or EPP drives its rail. -/
def switching (s : State) (d : Nat) : Bool :=
  if d < 93 then (s.shf.nth d).run && !(s.pd.nth d).ovlatch else (laChannels (ord d)).any (driven s)

/-- The overvoltage trip level in 1/64 µV (R359). DEDUCED, log 115. -/
def ovLevel (s : State) (d : Nat) : Int :=
  if switching s d then min ((s.sp.nth d).vcmd + s.prot.ovm * mV) (vAbs d * v16u) else vAbs d * v16u

/-- The trip: every switch off (R359, R372). `node` is the local node in V16. DEDUCED, log 115. -/
def effOvTrip (d : Fin 128) (node : Int) (s : State) : State :=
  if present s d.val ∧ (s.pd.get d).ovact = false ∧ ovLevel s d.val ≤ node * v16u then
    let s := modPd s d.val fun p => { p with ovact := true, ovcnt := p.ovcnt.inc 65535, ovAt := s.time.beat }
    if d.val < 93 then
      let s := if (s.shw.nth d.val).fire.isSome then fireOver s d.val else s
      let s := { s with phw := s.phw.modEach (phasesOf d.val) fun _ w => { w with cond := false } }
      raiseShf s d.val bPROT 0 (subjD d.val)
    else raise s bPROT 0 (subjD d.val)
  else s

def execOvTrip (d : Fin 128) (node : Int) (s : State) : Out := sheafStep s (effOvTrip d node)

/-- The node falls 30 mV below the trip level: B is seeded again and the token starts at half-slot 0, or the next occupied one
(R75, R359). -/
def effOvTripClear (d : Fin 128) (node : Int) (s : State) : State :=
  if (s.pd.get d).ovact ∧ node * v16u < ovLevel s d.val - 30 * mV then
    let s := modPd s d.val fun p => { p with ovact := false }
    if d.val < 93 ∧ (s.shf.nth d.val).run then
      let s := modShw s d.val fun w => { w with token := 0, badWin := true, rearmed := true }
      settleToken (modShf s d.val fun h => { h with b := seedB s d.val }) d.val
    else s
  else s

def execOvTripClear (d : Fin 128) (node : Int) (s : State) : Out := sheafStep s (effOvTripClear d node)

/-- Overvoltage for 1 µs from its trip: the domain is off and latched; AON's phases are held off (R360, R481). -/
def effOvOff (d : Fin 128) (s : State) : State :=
  let p := s.pd.get d
  if p.ovact ∧ p.ovlatch = false ∧ p.ovAt + 100 ≤ s.time.beat ∧ domSt s d.val ≠ .hold then
    let s := if d.val = 92 then stopSheaf s 92 else goDark s d.val
    let s := modPd s d.val fun p => { p with ovlatch := true, offAt := s.time.beat }
    let s := protEvent (classP (raise s bPROT 1 (subjD d.val)))
    if d.val = 92 then serviceStop { s with g := { s.g with mss := false } } else s
  else s

def execOvOff (d : Fin 128) (s : State) : Out := live s (effOvOff d)

/-- Meser's MODE = OFF on every module of the die (R360, R371); one in FAULT is off, and only software's write counts toward its
return (R29). -/
def modulesOff (s : State) : State :=
  (allFin 4).foldl (fun s m => if (s.bm.get m).st = .fault then modBm s m fun b => { b with mode := 0 } else effBmModeOff m s) s

/-- VBKILL is set: VB_OV, and the modules stop (R360, R371). -/
def vbKill (s : State) : State :=
  if s.prot.vbkill then modulesOff s
  else protEvent (modulesOff (raise { s with prot := { s.prot with vbkill := true } } bPROT 2 subjDie))

/-- Overvoltage 10 µs after the domain went off (R360, R481). -/
def effOvAfterOff (d : Fin 128) (node : Int) (s : State) : State :=
  let p := s.pd.get d
  if p.ovlatch ∧ p.offAt + 1000 ≤ s.time.beat ∧ ovLevel s d.val < node * v16u then vbKill s else s

def execOvAfterOff (d : Fin 128) (node : Int) (s : State) : Out := live s (effOvAfterOff d node)

/-- VB above 5.40 V: every phase off, then the modules (R371). -/
def effVbOvervoltage (s : State) : State :=
  vbKill (classP (sheafIdx.foldl (fun s d => if present s d then stopSheaf s d else s) s))

def execVbOvervoltage (s : State) : Out := live s effVbOvervoltage

/-- The undervoltage check runs on the domain (R361). -/
def uvRuns (s : State) (d : Nat) : Bool :=
  (domSt s d = .on || domSt s d = .retention) && !(decide (d < 93) && ((s.shr.nth d).dhic || (s.shf.nth d).hold))
    && decide ((s.pd.nth d).since + 200 ≤ s.time.beat)

/-- VMIN of the check in V16: the lowest of the samples `samp` of the sense points in use, as they are sensed (R80, R390); the rail's one
remote sample for LA (R40). -/
def checkLow (s : State) (d : Nat) (samp : List Int) : Option Int :=
  if d < 93 then lowPoint s d (sensedLow s d samp) else samp.head?

def effUvTrip (d : Fin 128) (samp : List Int) (s : State) : State :=
  if uvRuns s d.val ∧ (s.pd.get d).uvact = false
      ∧ (checkLow s d.val samp).any (fun v => decide (v * v16u < vSset s d.val - s.prot.uvm * mV)) then
    let s := modPd s d.val fun p => { p with
      uvact := true, uvAt := s.time.beat, uvcnt := p.uvcnt.inc 65535, stretch := false }
    let s := modGw s d.val fun g => { g with
      ready := false, clock := g.clock && decide (typ d.val ≠ .co ∧ typ d.val ≠ .cl) }
    protEvent (classP (raise s bPROT 3 (subjD d.val)))
  else s

def execUvTrip (d : Fin 128) (samp : List Int) (s : State) : Out := live s (effUvTrip d samp)

/-- VMIN regains V_sset - UVM / 2 within 10 µs (R361). -/
def effUvRecover (d : Fin 128) (samp : List Int) (s : State) : State :=
  let p := s.pd.get d
  if p.uvact ∧ uvRuns s d.val ∧ s.time.beat ≤ p.uvAt + 1000
      ∧ (checkLow s d.val samp).any (fun v => decide (vSset s d.val - rdiv (s.prot.uvm * mV) 2 ≤ v * v16u)) then
    let s := modPd s d.val fun p => { p with uvact := false }
    modGw s d.val fun g => { g with
      clock := g.clock || (decide (typ d.val = .co ∨ typ d.val = .cl) && isOn s d.val), readyAt := s.time.beat + 2 }
  else s

def execUvRecover (d : Fin 128) (samp : List Int) (s : State) : Out := live s (effUvRecover d samp)

/-- Not regained within 10 µs: dark (R361). -/
def effUvDark (d : Fin 128) (s : State) : State :=
  let p := s.pd.get d
  if p.uvact ∧ uvRuns s d.val ∧ p.uvAt + 1000 ≤ s.time.beat then darken s d.val else s

def execUvDark (d : Fin 128) (s : State) : Out := live s (effUvDark d)

-- Droop (R362).

/-- The grid of core `c` falls below V_sset - DRT and the host doubles the clock period. `grid` in V16.
DESIGN CHOICE, log 57. -/
def effDroopStretch (c : Fin 64) (grid : Int) (s : State) : State :=
  if isOn s c.val ∧ (s.gw.nth c.val).clock ∧ grid * v16u < vSset s c.val - s.prot.drt * mV then
    modPd s c.val fun p => { p with stretch := true }
  else s

def execDroopStretch (c : Fin 64) (grid : Int) (s : State) : Out := live s (effDroopStretch c grid)

/-- The host reports an episode of `len` 1/256 beats; half of it was stretched (R362, R302). DESIGN CHOICE, log 57. -/
def effDroopReport (c : Fin 64) (len : Nat) (s : State) : State :=
  if present s c.val then
    let s := modPd s c.val fun p => { p with drp := (p.drp + 1) % 2 ^ 32, stretch := false }
    protEvent (raise (addDebt s c.val (len / 2)) bPROT 6 (subjD c.val))
  else s

def execDroopReport (c : Fin 64) (len : Nat) (s : State) : Out := live s (effDroopReport c len)

-- Overcurrent (R363, R364).

/-- True phase current at 6.0 A: off for the rest of the SWREF period, which counts as a period at the limit (R363). -/
def effPhaseHardLimit (p : Fin 720) (s : State) : State :=
  if slotted s p.val ∧ (s.shf.nth (phDom p.val)).run then
    modPhw s p.val fun w => { w with hardOff := true, cond := false, limPer := true }
  else s

def execPhaseHardLimit (p : Fin 720) (s : State) : Out := sheafStep s (effPhaseHardLimit p)

/-- Current above IPEAK for 2 µs (R364). DEDUCED, log 52. -/
def effDomainOvercurrent (d : Fin 128) (peak : Int) (s : State) : State :=
  if isOn s d.val ∧ (s.dom.get d).ipeak < peak then
    let s := modDl s d.val fun x => { x with f := min x.f (parFmin s 3) }
    let s := modPd s d.val fun p => { p with ocact := true }
    selectAll (classP (raise s bPROT 4 (subjD d.val)))
  else s

def execDomainOvercurrent (d : Fin 128) (peak : Int) (s : State) : Out := live s (effDomainOvercurrent d peak)

/-- The die's current of the last window above 1.25 times LIMEFF (R364). DEDUCED, log 52. -/
def effDieOvercurrent (s : State) : State :=
  if 5 * dieLimEff s < 4 * dieCurrent s then
    let s := { s with loop := { s.loop with fdie := min s.loop.fdie (parFmin s 2), dieOc := true } }
    selectAll (classP (raise s bPROT 5 subjDie))
  else s

def execDieOvercurrent (s : State) : Out := live s effDieOvercurrent

-- The input bus (R365), in the coordinator, after two or ten 1 µs means in a row (R358).

def effVinLow (s : State) : State :=
  if s.g.coord ∧ s.prot.low = false ∧ 10 ≤ s.prot.lowRun then
    raise { s with prot := { s.prot with low := true } } bPROT 7 subjDie
  else s

def execVinLow (s : State) : Out := live s effVinLow

def effVinHigh (s : State) : State :=
  if s.g.coord ∧ s.prot.high = false ∧ 10 ≤ s.prot.highRun then
    raise { s with prot := { s.prot with high := true } } bPROT 9 subjDie
  else s

def execVinHigh (s : State) : Out := live s effVinHigh

/-- VINHOLD is set: every die's F_cap at or below F_min (R365). DEDUCED, log 53. -/
def holdCaps (s : State) : State :=
  let f := parFmin s 0
  let capF := s.loop.capF.map fun x => min x f
  let s := { s with loop := { s.loop with capF := capF, fcapNext := capF.nth s.g.die } }
  if s.prot.dip then s
  else classP (raise { s with prot := { s.prot with dip := true } } bPROT 8 subjDie)

def effVinDip (s : State) : State :=
  if s.g.coord ∧ 2 ≤ s.prot.dipRun then holdCaps s else s

def execVinDip (s : State) : Out := live s effVinDip

/-- As the VIN dip, whose source comes first (R358, R395). DEDUCED, log 53. -/
def effInputOvercurrent (s : State) : State :=
  if s.g.coord ∧ 10 ≤ s.prot.iinRun then
    let s := holdCaps s
    if s.prot.iinovr then s else raise { s with prot := { s.prot with iinovr := true } } bPROT 10 subjDie
  else s

def execInputOvercurrent (s : State) : Out := live s effInputOvercurrent

/-- VIN has stood at or above VINLO, and BM_IIN below 95 A, for 1 ms: 1,000 means (R365). -/
def effVinHoldEnd (s : State) : State :=
  if s.g.coord ∧ (s.prot.dip ∨ s.prot.iinovr) ∧ 1000 ≤ s.prot.calmRun then
    let s := { s with prot := { s.prot with dip := false, iinovr := false } }
    if s.loop.capEn then s
    else { s with loop := { s.loop with capF := s.loop.capF.map fun _ => one, fcapNext := one } }
  else s

def execVinHoldEnd (s : State) : Out := live s effVinHoldEnd

-- Temperature (R366, R367).

/-- The sensors of a domain. -/
def domSensors (d : Nat) : List Nat :=
  match typ d with
  | .co => upTo 3 fun i => 3 * d + i
  | .cl => upTo 2 fun i => 192 + 2 * ord d + i
  | .ma => upTo 2 fun i => 208 + 2 * ord d + i
  | .lk | .la => upTo 4 fun i => 240 + 4 * ord d + i
  | .aon => upTo 32 fun i => 208 + i
  | .none => []

/-- Lower bound of a band in T16. DEDUCED, log 54. -/
def bandLow (b : Nat) : Int := if b = 1 then 5120 else if b = 2 then 8960 else if b = 3 then 12160 else -32768

/-- The band that a temperature alone gives. -/
def bandAt (t : Int) : Nat := if bandLow 3 ≤ t then 3 else if bandLow 2 ≤ t then 2 else if bandLow 1 ≤ t then 1 else 0

/-- The next band: up at a bound, down 3 °C below the lower bound of the present one (R366). DEDUCED, log 54. -/
def bandNext (b : Nat) (t : Int) : Nat :=
  if b < bandAt t then bandAt t
  else if t ≤ bandLow b - 384 then max (bandAt t) (if t ≤ bandLow (b - 1) - 384 then (if t ≤ bandLow (b - 2) - 384 then b - 3 else b - 2) else b - 1)
  else b

def throttleT (s : State) : Int := cfgS s 0x0D 1
def warnT (s : State) : Int := cfgS s 0x0D 0
def shutT (s : State) : Int := cfgS s 0x0D 2

/-- The evaluation of every 10 µs (R366, R367). A failed sensor is `none`. DEDUCED, log 55. -/
def effBandEvaluation (temps : List (Option Int)) (s : State) : State :=
  if s.time.beat % 1000 = 0 then
    let ts := upTo 256 fun i => temps.getD i none
    let top := hottest ts (List.range 256)
    let hot := (upTo 16 fun i => 240 + i).filter fun i =>
      (ts.getD i none).any fun t =>
        decide (throttleT s ≤ t) || (s.prot.linkHot.contains i && decide (throttleT s - 384 < t))
    let fresh := hot.filter fun i => !s.prot.linkHot.contains i
    let w := top.any fun t => decide (warnT s ≤ t) || (s.prot.warn && decide (warnT s - 384 < t))
    let newWarn := w && !s.prot.warn
    let s := { s with
      prot := { s.prot with
        temps := ts, tmax := top.getD s.prot.tmax, nfail := (ts.filter (·.isNone)).length, warn := w, linkHot := hot
        shutRun := if top.any fun t => decide (shutT s ≤ t) then s.prot.shutRun + 1 else 0 }
      pd := s.pd.mapIx fun d p =>
        { p with band := match hottest ts (domSensors d) with
          | some t => bandNext p.band t
          | none => 3 } }
    let s := if newWarn then raise s bPROT 11 subjDie else s
    let s := fresh.foldl (fun s i => raise s bPROT 12 (subjD (88 + (i - 240) / 4))) s
    retargetAll s
  else s

def execBandEvaluation (temps : List (Option Int)) (s : State) : Out := live s (effBandEvaluation temps)

-- The die stop (R368 to R370).

/-- The present beat is t0 of a die stop: waiting wakes are dropped (R372), the links move to OP0, as GATE moves them in their state
(R105, R110, R368). DEDUCED, log 149. -/
def dieStop (s : State) : State :=
  let s := { s with prot := { s.prot with stop := some s.time.beat, stopNext := 0 } }
  let s := allDoms.foldl dropWake s
  let s := ([88, 89, 90, 91, 96, 97, 98, 99] : List Nat).foldl (fun s d =>
    if present s d then (gateDom s d false false).1 else s) s
  protEvent (classP s)

/-- Cluster `c` at t0 + 200c, in a Class P hold of its own (R201, R358, R368). -/
def effDieStopCluster (c : Fin 8) (s : State) : State :=
  match s.prot.stop with
  | none => s
  | some t0 =>
    if s.prot.stopNext = c.val ∧ t0 + 200 * c.val ≤ s.time.beat then
      let s := { s with prot := { s.prot with
        stopNext := c.val + 1, stop := if c.val = 7 then none else s.prot.stop } }
      classP ((clusterDoms c.val).foldl (fun s d => if present s d then (gateDom s d false true).1 else s) s)
    else s

def execDieStopCluster (c : Fin 8) (s : State) : Out := live s (effDieStopCluster c)

/-- A sensor at SHUTDOWN in two evaluations (R367). -/
def effThermalShutdown (s : State) : State :=
  if 2 ≤ s.prot.shutRun ∧ s.prot.shutdn = false then
    let s := raise { s with prot := { s.prot with shutdn := true } } bPROT 13 subjDie
    if s.prot.stop.isSome then protEvent s else dieStop s
  else s

def execThermalShutdown (s : State) : Out := live s effThermalShutdown


/-- FLOW_LOSS_N low for 1 µs (R368, R370). -/
def effCoolantLoss (s : State) : State :=
  let s := { s with prot := { s.prot with flow := true } }
  if s.prot.coolant then s
  else
    let s := { s with prot := { s.prot with coolant := true } }
    let s := sheafIdx.foldl coolHeld s
    if s.live then dieStop (raise s bPROT 14 subjDie)
    else { s with prot := { s.prot with coolPend := true } }

def execCoolantLoss (s : State) : Out := powered s effCoolantLoss

/-- A write of 1 to COOLANT (R369). -/
def execCoolantClear (flowHigh : Bool) (s : State) : Out := bus s fun s =>
  let s := { s with prot := { s.prot with flow := !flowHigh } }
  if flowHigh then { s with prot := { s.prot with coolant := false } } else s

/-- A write of 1 to SHUTDN (R369). -/
def execShutdnClear (s : State) : Out := bus s fun s =>
  if s.prot.temps.all fun t => t.all fun t => decide (t < shutT s - 384) then
    { s with prot := { s.prot with shutdn := false } }
  else s

/-- A write of 1 to VBKILL (R371). -/
def execVbkillClear (s : State) : Out := bus s fun s => { s with prot := { s.prot with vbkill := false } }

/-- A write of 1 to OVLATCH (R360). -/
def execOvlatchClear (d : Fin 128) (s : State) : Out := bus s fun s => modPd s d.val fun p => { p with ovlatch := false }

/-- PROT_STAT.CLRCNT (R373). -/
def execProtClrcnt (s : State) : Out := bus s fun s =>
  { s with pd := s.pd.map fun p => { p with ovcnt := .zero, uvcnt := .zero } }

end Sys2Proof.Machine
end

