-- ==== Sys2Proof/Machine/Lifecycle.lean ====
section
/-! DEFINITION. Power and bring-up, the coordinator, host resets and Meser's own resets (R22, R23, R423 to R439, R445). -/

namespace Sys2Proof.Machine

-- The input switch and the autonomous start (R22, R23, R423, R424).

/-- VIN held inside 40 to 60 V for 1 ms, in VH16 (R22). -/
def execVinStart (vin : Nat) (s : State) : Out :=
  .next (if s.inp.sw = .opened ∧ 20000 ≤ vin ∧ vin ≤ 30000 then { s with inp := { s.inp with sw := .softStart } } else s)

/-- The part of the instance that outlives the power-up under way; a programmed life-cycle state takes effect (R443).
DEDUCED, log 85. -/
def partOf (s : State) : Part := ⟨s.g.die, s.mem.fuse, s.g.lcNext, s.mem.siloRecs, []⟩

/-- AON without power. -/
def aonOff (s : State) : State := zeroVcmd (stopSheaf (setDomSt s 92 .off) 92) 92

/-- What a power-up keeps of the block's surroundings: the meter, the pins, REFCLK and the alignment line of the host, the queue, and
the counter of free values (R401, R437). DEDUCED, log 76. -/
def keepAround (s t : State) : State :=
  { t with
    meter := s.meter
    pins := s.pins
    time := { t.time with refclk := s.time.refclk, aligned := s.time.aligned }
    pending := s.pending
    freeCtr := s.freeCtr + 1
    g := { t.g with lcChal := Config.challenge s.freeCtr } }

/-- The soft start ends: fuses read, every register at its power-up value, BM.0 starting (R423), and the straps
as the board ties them (R448, R458). -/
def effSoftStartEnd (s : State) : State :=
  let t := aonOff (keepAround s (State.start (partOf s)))
  bmStart { t with
    bm := t.bm.map fun b => { b with mode := 0, st := .off }
    pins := { t.pins with addr := (Config.addressStraps s.freeCtr).toNat }
    g := { t.g with boot := .module 0 } } 0 1

def execSoftStartEnd (s : State) : Out := .next (if s.inp.sw = .softStart then effSoftStartEnd s else s)

/-- The input switch opens, and everything behind it loses power (R22, R23). -/
def execUndervoltageStop (vin : Nat) (s : State) : Out :=
  .next (if s.inp.sw ≠ .opened ∧ vin < 19000 then { s with inp := { s.inp with sw := .opened } } else s)

def execOvervoltageStop (vin : Nat) (s : State) : Out :=
  .next (if s.inp.sw ≠ .opened ∧ 31000 < vin then { s with inp := { s.inp with sw := .opened } } else s)

/-- AON does not reach 0.80 V in time: the die stays unpowered (R424). -/
def execAonStartTimeout (s : State) : Out := powered s fun s =>
  if s.g.boot = .aon then aonOff { s with g := { s.g with boot := .dead } } else s

-- Bring-up steps (R425 to R430).

def modBu (s : State) (f : Bu → Bu) : State := { s with bu := f s.bu }
def modShb (s : State) (d : Nat) (f : Shbu → Shbu) : State := modBu s fun b => { b with shb := b.shb.modN d f }

/-- A step starts, or is refused with BUERR: its predecessor has not completed, a step is in progress, or the part is in END
(R425 to R429, R440). -/
def buStart (ready : Bool) (k : BuRun) (s : State) : State :=
  if ready ∧ s.bu.run = .no ∧ s.g.lc ≠ 4 then modBu s fun b => { b with run := k }
  else modBu s fun b => { b with buerr := true }

def execTrain (s : State) : Out := live s fun s => buStart s.g.pilot .train s
def execBer (s : State) : Out := live s fun s => buStart s.bu.trained .ber s
def execTopo (s : State) : Out := live s fun s => buStart s.bu.berdone .topo s

/-- CAL's conditions (R429); the rails of an earlier one are down. DEDUCED, log 69. -/
def calReady (s : State) : Bool :=
  s.bu.topodone && decide (0 < nRun s) && decide (s.bu.cal = .no)
    && allDoms.all fun d => !present s d || decide (d = 92) || decide (domSt s d = .off)

/-- A batch of the calibration: batch 0 holds the domains of clusters 0 to 3 and LK.0 and LK.1, batch 1 the rest (R429). -/
def calBatch (b d : Nat) : Bool :=
  match typ d with
  | .co => decide (d / 32 = b)
  | .cl => decide (ord d / 4 = b)
  | .ma => decide (ord d / 8 = b)
  | .lk => decide (ord d / 2 = b)
  | _ => false

/-- The domains of a batch that read OFF and whose sheaf has not failed (R428, R429). -/
def calDoms (s : State) (b : Nat) : List Nat :=
  sheafIdx.filter fun d => present s d && !sheafFailed s d && calBatch b d && decide (domSt s d = .off)

/-- 0.70 V in 1/64 µV. -/
def calVolt : Int := 44800000

/-- A batch is loaded: its rail sides stand at 0.70 V with the headers open (R429). DESIGN CHOICE, log 68. -/
def calLoad (s : State) (b : Nat) : State :=
  let s := (calDoms s b).foldl (fun s d =>
    modSp (startSheaf s d) d fun p => { p with vcmd := calVolt, vtgt := calVolt, dir := 0, slewNs := 0, revHold := false, credit := 0 }) s
  modBu s fun u => { u with cal := .loaded b s.time.beat }

/-- The sinks switch off, and the rail sides fall to 0 V at r_fall (R429). -/
def calWind (s : State) (b : Nat) : State :=
  let s := (calDoms s b).foldl (fun s d =>
    modSp s d fun p => { p with vtgt := 0, dir := -1, slewNs := 0, code := 0, quarter := false, fallF := p.fall }) s
  modBu s fun u => { u with cal := .winding b }

/-- The beats of a batch: 16 bond groups of 2.10 ms each (the text after R430). DESIGN CHOICE, log 68. -/
def calLong : Nat := 3360000

/-- What the calibration does at a beat's start: batch 0 winds down when it is measured, a batch whose rails are down stops its
sheaves, and batch 1 follows batch 0 (R429). DESIGN CHOICE, log 68. -/
def calBeat (s : State) : State :=
  match s.bu.cal with
  | .no => s
  | .loaded b t => if b = 0 ∧ t + calLong ≤ s.time.beat then calWind s 0 else s
  | .winding b =>
    if (calDoms s b).all fun d => decide ((s.sp.nth d).vcmd = 0) then
      let s := (calDoms s b).foldl stopSheaf s
      if b = 0 then calLoad s 1 else modBu s fun u => { u with cal := .no }
    else s

/-- CAL starts: the first batch is loaded (R429). -/
def effCal (s : State) : State :=
  let t := buStart (calReady s) .cal s
  if t.bu.run = .cal ∧ s.bu.run = .no then calLoad t 0 else t

def execCal (s : State) : Out := live s effCal

/-- The present sheaves. -/
def sheaves (s : State) : List Nat := sheafIdx.filter (present s)

/-- A sheaf that has failed has its phases held off: a domain that it carried goes dark, AON keeps its state (R428).
DESIGN CHOICE, log 153. -/
def sheafFail (s : State) (d : Nat) : State :=
  if (s.shf.nth d).run then (if d = 92 then stopSheaf s 92 else goDark s d) else s

/-- A sheaf's LINK or TOPO reads 3 until the next power-up (R428). -/
def linkFail (s : State) (d : Nat) : State := sheafFail (modShb s d fun b => { b with link := 3 }) d

/-- Training is complete; a list entry says whether that link or sense point trained (R425). -/
def effTrainDone (links sns : List Bool) (s : State) : State :=
  if s.bu.run = .train then
    let s := (sheaves s).foldl (fun s d => if links.getD d false then s else linkFail s d) s
    let mine := (List.range 946).filter fun n => present s (snsDom n)
    let bad := mine.filter fun n => !sns.getD n false
    let s := { s with sns := s.sns.modEach bad fun _ x => { x with excl := true, untrained := true } }
    let s := bad.foldl (fun s n => raise s bSHF 5 (0x1000 + n)) s
    modBu s fun b => { b with run := .no, trained := true, nsnsok := (mine.filter fun n => sns.getD n false).length }
  else s

def execTrainDone (links sns : List Bool) (s : State) : Out := live s (effTrainDone links sns)

/-- LINK from the errors of both directions (R426). -/
def linkOf (errs : Nat) : Nat := if errs = 0 then 1 else if errs ≤ 3 then 2 else 3

def effBerDone (errs : List Nat) (s : State) : State :=
  if s.bu.run = .ber then
    let s := (sheaves s).foldl (fun s d =>
      if (s.bu.shb.nth d).link = 3 then s
      else
        let n := errs.getD d 0
        let s := modShb s d fun b => { b with linkerr := min 255 n, link := linkOf n }
        if linkOf n = 3 then sheafFail s d else s) s
    modBu s fun b => { b with run := .no, berdone := true }
  else s

def execBerDone (errs : List Nat) (s : State) : Out := live s (effBerDone errs)

/-- No entry twice. -/
def apartAll (l : List Nat) : Bool := l.all fun x => decide ((l.filter (· = x)).length = 1)

/-- One sheaf's topology: `cl` are the positions that replies claim (R427). -/
def topoSheaf (s : State) (d : Nat) (cl : List Nat) : State :=
  let wrong := cl.any fun k => decide (nph d ≤ k) || decide ((s.ph.nth (firstPh d + k)).st = .absent)
  let miss := (phasesOf d).filter fun p => decide ((s.ph.nth p).st ≠ .absent) && !cl.contains (phPos p)
  if wrong || !apartAll cl then sheafFail (modShb s d fun b => { b with topo := 3, nmiss := miss.length }) d
  else
    let s := modShb s d fun b => { b with topo := if miss = [] then 1 else 2, nmiss := miss.length }
    miss.foldl (fun s p => excludePh s p 6) s

/-- Phase discovery ends (R427). A sheaf that has failed reports nothing. -/
def effTopoDone (claims : List (List Nat)) (s : State) : State :=
  if s.bu.run = .topo then
    let s := (sheaves s).foldl (fun s d => if sheafFailed s d then s else topoSheaf s d (claims.getD d [])) s
    modBu s fun b => { b with run := .no, topodone := true }
  else s

def execTopoDone (claims : List (List Nat)) (s : State) : Out := live s (effTopoDone claims)

/-- The baseline of one bond group in µΩ; outside 60 to 190 µΩ it is recorded as 0 with both flags (R429).
DEDUCED, log 70. -/
def calBond (s : State) (g z : Nat) : State :=
  let ok := decide (60 ≤ z ∧ z ≤ 190)
  let s := { s with bond := s.bond.modN g fun _ =>
    { (default : Bond) with znow := min 65535 z, zbase := if ok then z else 0, anom := !ok, severe := !ok } }
  if ok then s else raise (raise s bSHF 6 (0x2000 + g)) bSHF 7 (0x2000 + g)

/-- Calibration of one sheaf (R429). DESIGN CHOICE, log 68. -/
def calSheaf (badPh badSns z : List Nat) (s : State) (d : Nat) : State :=
  let take := (phasesOf d).filter fun p =>
    badPh.contains p && (decide (d ≠ 92) || decide (p = sparePh 92 ∧ (s.ph.nth p).st = .standby))
  let s := take.foldl (fun s p => excludePh s p 6) s
  let pts := (upTo (nsns d) fun k => firstSns d + k).filter fun n => badSns.contains n && !(s.sns.nth n).untrained
  let s := { s with sns := s.sns.modEach pts fun _ x => { x with excl := true, impl := true } }
  let s := pts.foldl (fun s n => raise s bSHF 5 (0x1000 + n)) s
  let s := if domSt s d = .dark then s
    else (upTo (nbond d) fun k => firstBond d + k).foldl (fun s g => calBond s g (z.getD g 0)) s
  let unset := ((upTo (nbond d) fun k => firstBond d + k).filter fun g => decide ((s.bond.nth g).zbase = 0)).length
  let f := fBond s d
  let s := modShr s d fun r => { r with fbond := f, trisk := triskOf r.ladder f r.trisk }
  let exc := (phasesOf d).any (fun p => decide ((s.ph.nth p).st = .excluded))
    || (upTo (nsns d) fun k => firstSns d + k).any fun n => (s.sns.nth n).excl
  modShb s d fun b => { b with
    nbase0 := unset, cal := if domSt s d = .dark then 3 else if exc || decide (0 < unset) then 2 else 1 }

/-- Batch 1 has been measured for its time (R429). -/
def calMeasured (s : State) : Bool :=
  match s.bu.cal with
  | .loaded b t => decide (b = 1 ∧ t + calLong ≤ s.time.beat)
  | _ => false

/-- Batch 1 of the calibration is complete (R429). `badPh` and `badSns` name the phases and sense points that failed, `z` the
measured resistances by group. DESIGN CHOICE, log 68. -/
def effCalDone (badPh badSns z : List Nat) (s : State) : State :=
  if s.bu.run = .cal ∧ calMeasured s = true then
    let s := ((sheaves s).filter fun d => !sheafFailed s d).foldl (calSheaf badPh badSns z) s
    calWind (modBu s fun b => { b with run := .no, caldone := true }) 1
  else s

def execCalDone (badPh badSns z : List Nat) (s : State) : Out := live s (effCalDone badPh badSns z)

-- The coordinator (R431, R432).

/-- PMBus conditions that are present: input, temperature, manufacturer (R461). Those of the other dies come from the path. -/
def pmbCond (s : State) : Byte × Byte × Byte :=
  let ds := (s.peer.modN s.g.die fun p =>
    { p with coolant := false, vbkill := false, shut := false, warn := false, bmFault := false, mss := s.g.mss }).data
  let b := fun (i : Nat) (x : Bool) => if x then (1 : Byte) <<< i else 0
  (b 6 s.prot.high ||| b 5 s.prot.low ||| b 4 s.prot.dip ||| b 2 s.prot.iinovr
      ||| b 0 (s.loop.capF.data.any fun f => decide (f < one)),
    b 7 (s.prot.shutdn || ds.any (·.shut)) ||| b 6 (s.prot.warn || ds.any (·.warn)),
    b 0 (s.prot.coolant || ds.any (·.coolant)) ||| b 1 s.loop.bud.lostNow ||| b 2 s.loop.bud.feAct
      ||| b 3 (ds.any fun p => !p.mss) ||| b 4 (s.mtrmRaw.getLsbD 0) ||| b 5 (s.mtrmRaw.getLsbD 2)
      ||| b 6 ((s.bm.data.any fun m => decide (m.st = .fault)) || ds.any (·.bmFault))
      ||| b 7 (s.prot.vbkill || ds.any (·.vbkill)))

/-- The conditions present latch. -/
def pmbCheck (s : State) : State := if s.g.coord then { s with pmb := pmbLatch s.pmb (pmbCond s) } else s

/-- PMBus of an instance that has not held the role: PMB_ALERT_N released, and no window of the millisecond under way counted (R448,
R459). -/
def pmbIdle (p : Pmb) : Pmb := { p with alert := false, n := 0, sumVin := 0, sumIin := 0, sumPin := 0, sumT := 0 }

/-- The role comes to this instance, with the state handed over, or with fresh bins and H = N when the old holder cannot be
reached (R432). DEDUCED, log 91. -/
def takeRole (s : State) (r : Option Role) : State :=
  let l := s.loop
  let tab := fun (x : List Nat) (dflt : Nat) => Tab.make 4 fun k => x.getD k dflt
  let loop := match r with
    | some r => { l with
        bins := Tab.make 4 fun k => r.bins.getD k [], binSum := tab r.binSum 0, binN := r.binN
        bbins := Tab.make 4 fun k => r.bbins.getD k [], bbinSum := tab r.bbinSum 0, bbinN := r.bbinN
        share := tab r.share 0, bud := { l.bud with timer := r.timer } }
    | none => { l with
        bins := Tab.make 4 fun _ => [], binSum := Tab.make 4 fun _ => 0, binN := 0
        bbins := Tab.make 4 fun _ => [], bbinSum := Tab.make 4 fun _ => 0, bbinN := 0 }
  let hold := match r with
    | some r => r.hold
    | none => granNom s
  let s := { s with
    g := { s.g with coord := true, coordReq := false, holder := some s.g.die }
    loop := loop
    mtrm := { s.mtrm with drive := false }
    side := { s.side with gran := { s.side.gran with hold := hold } } }
  { s with pmb := pmbLatch { (pmbIdle s.pmb) with inp := 0, temp := 0, cml := 0, mfr := 0 } (pmbCond s) }

/-- The role is at another die, or at none; the input protections act there (R365), and PMB_ALERT_N is released (R448).
DEDUCED, log 91. -/
def loseRole (s : State) (h : Option Nat) : State :=
  { s with
    g := { s.g with coord := false, holder := h }
    pmb := pmbIdle s.pmb
    prot := { s.prot with low := false, high := false, iinovr := false, dip := false } }

/-- A write of 1 to GCTL.COORD (R431). -/
def execCoordWrite (role : Option Role) (s : State) : Out := live s fun s =>
  if s.g.mss ∧ s.g.coord = false then takeRole s role else s


/-- PGOOD as this instance drives it, or EXTEST's cell (R432, R449, R464). DESIGN CHOICE, log 122, 152. -/
def pgood (s : State) : Bool :=
  match s.pins.scan with
  | some x => x.pgood
  | none => pinsLive s && s.g.coord && s.g.mss && s.bu.caldone

/-- This instance drives PMB_ALERT_N low (R448, R449, R461). -/
def alertLow (s : State) : Bool := pinsLive s && s.g.coord && s.pmb.alert

/-- SYNC_OUT runs, at SWREF / 5, while the coordinator has OUT_EN set; in every other case it is low (R70, R449, R456). EXTEST's cell
replaces its level (R464). DESIGN CHOICE, log 152. -/
def syncOut (s : State) : Bool := s.pins.scan.isNone && pinsLive s && s.g.coord && s.swref.outEn

/-- The level that EXTEST's cell holds SYNC_OUT at, if it does (R464). DESIGN CHOICE, log 152. -/
def syncOutCell (s : State) : Option Bool := s.pins.scan.map (·.syncOut)

/-- Its frequency in 0.01 MHz; zero while it is low (R69, R70). -/
def syncOutF (s : State) : Nat :=
  if syncOut s then (if s.swref.srcAct = 0 then 2500 else s.swref.fsync) else 0

-- Resets (R435 to R439).

def modRst (s : State) (f : Rst → Rst) : State := { s with rst := f s.rst }

def modRun (s : State) (f : RstRun → RstRun) : State := modRst s fun r => { r with run := r.run.map f }

/-- A request that is turned away (R438, R445). DEDUCED, log 71. -/
def rstRefuse (s : State) : State := modRst s fun r => { r with refused := true }

/-- Clusters of partition `k`. -/
def partClusters (s : State) (k : Nat) : List Nat := (List.range 8).filter fun c => (s.rst.part.nth k).getLsbD c

/-- The present core domains of a region of level 0 to 2 (R435). -/
def rstCores (s : State) (level target : Nat) : List Nat :=
  ((List.range 64).filter fun d =>
    match level with
    | 0 => decide (d = target)
    | 1 => decide (d / 8 = target)
    | _ => (partClusters s target).contains (d / 8)).filter (present s)

/-- The domains whose actuations are discarded and whose owners abort (R435). -/
def rstDoms (s : State) (level target : Nat) : BitVec 128 :=
  let ds := if level = 2 then ((partClusters s target).map clusterDoms).flatten else rstCores s level target
  ds.foldl (fun m d => m ||| domBit d) 0

def coreMask (l : List Nat) : Word64 := l.foldl (fun m d => m ||| coreBit d) 0

/-- The armed lanes that `f` takes abort with cause 6, with one tally entry that carries DETAIL 8 (R210, R435), whether or not a lane was
armed. DESIGN CHOICE, log 159. -/
def rstStop (s : State) (f : Lane → Bool) : State :=
  let was := armed s
  let hit := (List.range 8).filter fun i => (s.lane.data.map fun l => laneOn l && f l).getD i false
  let s := tallyEvent s s.time.beat 4 8 (hit.foldl (fun a i => a + 2 ^ i) 0) 0
  let s := { s with lane := s.lane.modEach hit fun _ l => { l with st := .aborted, cause := 6, wait := .no } }
  let s := hit.foldl (fun s i => raise s bSEQ 5 (0x8200 + i)) s
  afterStop s was false

/-- The lanes that own a domain of `m` abort (R436, R438). -/
def rstAbort (s : State) (m : BitVec 128) : State := rstStop s fun l => decide (l.mask &&& m ≠ 0)

/-- Pending actions for the domains of `m` are discarded: one that lies in them whole, with its command completing STATE; another
set loses those domains (R436, R438, R439). DEDUCED, log 71. -/
def rstDiscard (s : State) (m : BitVec 128) : State :=
  let mine := fun (a : Act) => domTargeted a.word &&
    if fDom a.word = 0xFF then a.res.any fun r => within s r.2 m else m.getLsbD (fDom a.word)
  let s := (s.acts.filter mine).foldl (fun s a => finish s a 6) s
  { s with acts := (s.acts.filter fun a => !mine a).map fun a => { a with res := a.res.map fun r => (r.1, r.2 &&& ~~~ m) } }

/-- The boundary beat z (R436). -/
def rstBoundary (s : State) : State :=
  match s.rst.run with
  | none => s
  | some r => modRun (rstAbort (rstDiscard s r.region) r.region) fun r => { r with z := some s.time.beat }

/-- A reset of levels 0 to 2 is done when its last cluster is gated and no core of it gates or wakes any more (R436).
DEDUCED, log 72. -/
def rstCheck (s : State) : State :=
  match s.rst.run with
  | none => s
  | some r =>
    if r.level ≤ 2 ∧ r.z.isSome ∧ r.clusters.length ≤ r.rank
        ∧ ((List.range 64).all fun d => !r.cores.getLsbD d || (decide (domSt s d ≠ .gating) && decide (domSt s d ≠ .waking))) then
      modRst s fun x => { x with run := none, resets := x.resets.inc 65535 }
    else s

/-- With MODE 1 a core of the region whose gating is over is woken, once (R436). DEDUCED, log 72. -/
def rstWake (s : State) (d : Nat) : State :=
  match s.rst.run with
  | none => s
  | some r =>
    if r.level ≤ 2 ∧ r.mode ∧ r.z.isSome ∧ r.cores.getLsbD d ∧ r.woke.getLsbD d = false ∧ domSt s d ≠ .gating then
      (wakeDom (modRun s fun r => { r with woke := r.woke ||| coreBit d }) d false 0 s.time.beat).1
    else s

/-- The next cluster of the region is gated (R436). DEDUCED, log 72. -/
def effResetClusterGate (s : State) : State :=
  match s.rst.run with
  | none => s
  | some r =>
    match r.z with
    | none => s
    | some z =>
      if r.level ≤ 2 ∧ r.rank < r.clusters.length ∧ z + 200 * r.rank ≤ s.time.beat then
        let c := r.clusters.getD r.rank 0
        let ds := (List.range 64).filter fun d => r.cores.getLsbD d && decide (d / 8 = c)
        let s := modRun s fun r => { r with rank := r.rank + 1 }
        let s := ds.foldl (fun s d => (gateDom s d false false).1) s
        rstCheck (ds.foldl rstWake s)
      else s

def execResetClusterGate (s : State) : Out := live s effResetClusterGate

/-- A gating completes, and a re-staging reset wakes its core (R105, R436). -/
def execGatingComplete (d : Fin 128) (s : State) : Out := live s fun s => rstCheck (rstWake (effGatingComplete d s) d.val)

def execWakeComplete (d : Fin 128) (s : State) : Out := live s fun s => rstCheck (effWakeComplete d s)

/-- A reset of level 0 to 2 starts at its request beat q (R436). -/
def rstStart (s : State) (level target : Nat) (mode : Bool) : State :=
  let cs := rstCores s level target
  let clusters := match level with
    | 0 => [target / 8]
    | 1 => [target]
    | _ => partClusters s target
  let s := modRst s fun x => { x with
    run := some ⟨level, target, mode, s.time.beat, coreMask cs, rstDoms s level target, 0, none, clusters, 0, 0, 0⟩ }
  if cs = [] then rstCheck (rstBoundary s) else s

/-- The host reports a core drained; the last report sets the boundary (R436). -/
def effCoreDrained (c : Fin 64) (s : State) : State :=
  match s.rst.run with
  | none => s
  | some r =>
    if r.level ≤ 2 ∧ r.z = none ∧ r.cores.getLsbD c.val then
      let d := r.drained ||| coreBit c.val
      let s := modRun s fun r => { r with drained := d }
      if r.cores &&& ~~~ d = 0 then rstBoundary s else s
    else s

def execCoreDrained (c : Fin 64) (s : State) : Out := live s (effCoreDrained c)

/-- DRAINT expires: 100 beats a microsecond (R436, R447). -/
def effDrainTimeout (s : State) : State :=
  match s.rst.run with
  | none => s
  | some r =>
    if r.level ≤ 2 ∧ r.z = none ∧ r.q + 100 * s.rst.draint ≤ s.time.beat then
      modRst (rstBoundary s) fun x => { x with drainto := true, dto := x.dto.inc 65535 }
    else s

def execDrainTimeout (s : State) : Out := live s effDrainTimeout

-- Meser's own resets (R438).

/-- A controller comes back: B, trim, lock, shed and skip, share integrators, hiccup retries and the measured fields at their
reset values. DEDUCED, log 74. -/
def sheafFresh (s : State) (d : Nat) : State :=
  let s := modShf s d fun h => { h with
    region := 0, lock := false, lockRun := 0, lockLim := false, skip := false, skipRun := 0, nactR := 0, nshedR := 0
    hold := false, firedR := false, firedW := false, b := 0, dt := 0, flim := 0, f := 0, pherrR := 0, pherrW := 0, trim := 0
    nosns := false, tsat := false, cfgWr := none }
  let s := modShw s d fun w => { w with
    token := 0, nCount := 0, badWin := true, fire := none, rearmed := true, fireCyc := 0, reseed := false, holdFrz := false
    hbLost := false, tbandF := 3, shedLow := none, wholeFrom := s.time.beat, parT := parOf (cfg s) d 0 3, parF := parOf (cfg s) d 0 3 }
  let s := modShr s d fun r => { r with
    devmax := 0, shareDev := false, devW := 0, devHit := false, retry := 0, onAt := none, rising := false, darkPend := false
    sweepPh := false, sweepSns := false, sweepBond := false }
  { s with
    phw := s.phw.modEach (phasesOf d) fun _ w => { w with
      share := 0, offs := 0, rip := 0, ripArea := 0, ripStep := 0, lowOff := false, waitPer := false, devFrom := none, lowRun := 0
      limRun := 0, rejoin := none, fails := 0, cond := false }
    sns := s.sns.modEach (upTo (nsns d) fun k => firstSns d + k) fun _ x => { x with v := 0 }
    bond := s.bond.modEach (upTo (nbond d) fun k => firstBond d + k) fun _ x => { x with znow := 0 } }

/-- Reset of sheaf controller `d`: as R133 step 1, and steps 2 and 3 where the domain was ON, without a hiccup's reports. Of a domain
that was woken before, which cannot be OFF again (R56), MA goes to retention and LK through steps 2 and 3 too.
DEDUCED, log 74. -/
def resetSheaf (s : State) (d : Nat) : State :=
  let st := domSt s d
  let s := rstAbort (rstDiscard s (domBit d)) (domBit d)
  let s := sheafFresh (zeroVcmd (stopSheaf (leaveOn s d) d) d) d
  let woken := (s.gw.nth d).woken
  let s := modGw s d fun g => { g with stage := 0, wake := none, gateTo := .no, waitAdm := false, held := [] }
  let again := modShr (setDomSt s d .waking) d fun r => { r with dhic := true, soft := true, hicAt := s.time.beat }
  match st with
  | .on | .hold => again
  | .absent | .dark | .off => s
  | _ =>
    if woken && decide (typ d = .lk) then again
    else
      let s := modShr s d fun r => { r with dhic := false, soft := false }
      if woken && decide (typ d = .ma) then modGw (setDomSt s d .gating) d fun g => { g with gateTo := .retention }
      else goOff s d

/-- The controller of an MA region that its reset sent to retention starts again, and V_cmd rises to the retention voltage (R108,
R438). DEDUCED, log 74. -/
def sheafBack (s : State) (d : Nat) : State :=
  if domSt s d = .gating ∧ (s.gw.nth d).gateTo = .retention ∧ (s.shf.nth d).run = false ∧ s.prot.vbkill = false then
    retarget (startSheaf s d) d false
  else s

/-- Every lane reads IDLE, the command in the window completes with STATE, and what the sequencer had in flight is discarded; the tally
entry comes whether or not a lane was armed. DEDUCED, log 75; DESIGN CHOICE, log 159. -/
def resetSeq (s : State) : State :=
  let bits := laneBits s laneOn
  let was := armed s
  let s := tallyEvent s s.time.beat 4 8 bits 0
  let s := if s.cmdw.busy then tallyResult { s with cmdw := { s.cmdw with busy := false, result := 6, detail := 0 } } s.cmdw.tseq 6 0
    else s
  let s := if was then endTrack s else s
  let s := { s with
    lane := s.lane.map fun l => { Lane.start with mask := l.mask, actmax := l.actmax, ovr := l.ovr }
    cmdw := { s.cmdw with go := false, issued := false, res := none, rf := RegFile.start 0 }
    acts := [], sends := []
    seg := ⟨0, false, false, 0, 0, 0, 0, 0, [], false, 0, 0, 0, 0, 0, false⟩
    sg := { s.sg with waiting := [], rels := [], grants := [] }
    seqr := { s.seqr with adm := none, resume := none, started := false, spc := [] }
    mts := { s.mts with load := none }
    mt := s.mt.map fun m => if m.st = 2 then { m with st := if m.dig.isSome then 1 else 0, shadow := [] } else m
    exa := { s.exa with
      dd := s.exa.dd.map fun _ => 0, covDone := 0, pend := [], applied := [], hold := none, svreq := none
      svst := if s.exa.svst = 1 then 0 else s.exa.svst } }
  discardNotice s true

/-- The evaluation pipeline and the step schedule stop; the telemetry period is discarded, the bins are kept (R151, R438). -/
def resetLoops (s : State) : State :=
  { (telBreak s) with loop := { s.loop with selAt := s.loop.selAt.map fun _ => 0 } }

/-- Every domain becomes distrusted, and the window in progress is cut (R151, R177, R377, R438). -/
def distrustAll (s : State) : State :=
  let s := estOrder.foldl distrustDom s
  estRestart { s with
    est := { s.est with wins := [], wholeFrom := s.time.beat }
    estd := s.estd.map fun e => { e with bad := 0, good := 0 } }

/-- The port queues and the repeat table are flushed (R377). -/
def flushSide (s : State) : State :=
  { s with side := { s.side with port := s.side.port.map fun p => { p with q := [], sent := none }, seen := [] } }

/-- The central blocks restart while every sheaf is in hold. -/
def resetCentral (s : State) : State :=
  let s := flushSide (distrustAll (resetLoops (resetSeq s)))
  let s := { s with
    time := { s.time with wholeFrom := s.time.beat }
    side := { s.side with dist := ⟨0, false, 0, 0, 0, 0, 0⟩, gran := { s.side.gran with cur := none } }
    shr := s.shr.map fun r => { r with sweepPh := false, sweepSns := false, sweepBond := false } }
  let s := sheafIdx.foldl (fun s d => if present s d then holdSheaf s d false else s) s
  ([96, 97, 98, 99] : List Nat).foldl (fun s d => if domSt s d = .on then holdDom s d else s) s

/-- A reset of level 4 to 7 begins (R438). -/
def meserReset (s : State) (level target : Nat) : State :=
  let run := fun (n : Nat) (s : State) => modRst s fun x => { x with
    run := some ⟨level, target, false, s.time.beat, 0, 0, 0, none, [], 0, 0, s.time.beat + n⟩ }
  match level with
  | 4 => if target = 92 then rstRefuse s else run 200 (resetSheaf s target)
  | 5 => run 100 (resetSeq s)
  | 6 => run 1000 (resetLoops s)
  | _ => run 10000 (resetCentral s)

/-- A Meser reset ends after its duration (R438). -/
def effPartialResetEnd (s : State) : State :=
  match s.rst.run with
  | none => s
  | some r =>
    if 4 ≤ r.level ∧ r.due ≤ s.time.beat then
      let s := modRst s fun x => { x with run := none, resets := x.resets.inc 65535 }
      if r.level = 7 then ([96, 97, 98, 99] : List Nat).foldl laReturn s
      else if r.level = 4 then sheafBack s r.target else s
    else s

def execPartialResetEnd (s : State) : Out := live s effPartialResetEnd

-- The whole-chip reset (R437).

/-- Fault blocks keep their history. DEDUCED, log 76. -/
def keepHist (old new : Flt) : Flt :=
  { new with hist := old.hist, next := old.next, wrapped := old.wrapped, empty := old.empty, hcnt := old.hcnt }

/-- Every persisting source whose cause is present is raised anew. -/
def raiseStanding (s : State) : State :=
  (allFin 10).foldl (fun s b => (List.range 32).foldl (fun s i =>
    if (srcInfo b.val i).2.2 && causeNow s b.val i then raise s b i subjDie else s) s) s

/-- What a whole-chip reset stops: every lane aborts with cause 6, the pending actions are discarded, and the BUSY command
completes with STATE (R210, R216, R435). DEDUCED, log 143; DESIGN CHOICE, log 159. -/
def chipStop (s : State) : State :=
  let s := if armed s || decide (s.acts ≠ []) then rstStop s fun _ => true else s
  let s := { s with acts := [] }
  if s.cmdw.busy then
    tallyResult { s with cmdw := { s.cmdw with busy := false, go := false, issued := false, res := none, result := 6, detail := 0 } }
      s.cmdw.tseq 6 0
  else s

/-- A whole-chip reset begins: its lanes stop, and the die stops under R368; a reset under way is replaced (R435, R437, R445).
DEDUCED, log 76. -/
def chipStart (s : State) : State :=
  let s := { s with g := { s.g with chipReq := false } }
  if s.rst.run.any fun r => decide (r.level = 3) then s
  else
    let s := modRst (chipStop s) fun x => { x with run := some ⟨3, 0, false, s.time.beat, 0, 0, 0, none, [], 0, 0, 0⟩ }
    if s.prot.stop.isSome then s else dieStop s

/-- The die stop of a whole-chip reset is over: every cluster is gated, and no CO, CL or MA domain is still on its way (R368, R437).
DEDUCED, log 76. -/
def chipStopped (s : State) : Bool :=
  (s.rst.run.any fun r => decide (r.level = 3)) && s.prot.stop.isNone && decide (s.prot.stopNext = 8)
    && (List.range 88).all fun d => decide (domSt s d ≠ .gating)

/-- The instance returns to the state after the autonomous start, but for what R437 keeps; a telemetry record whose period has
ended goes out first (R439). Where this ends Exact mode, no mode-change entry is written.
DEDUCED, log 76; DESIGN CHOICE, log 159. -/
def wholeChip (s : State) : State :=
  let s := effTelemetryRecord true s
  let t := State.start ⟨s.g.die, s.mem.fuse, s.g.lc, s.mem.siloRecs, s.silo.wait⟩
  raiseStanding { t with
    tally := s.tally
    flt := t.flt.mapIx fun i f => keepHist (s.flt.data.getD i f) f
    time := { t.time with
      beat := s.time.beat, valid := s.time.valid, aligned := s.time.aligned, refclk := s.time.refclk
      everLoaded := s.time.everLoaded, alignCause := s.time.alignCause, wholeFrom := s.time.beat }
    seqr := { t.seqr with restamp := s.seqr.restamp }
    est := { t.est with wholeFrom := s.time.beat }
    g := { t.g with
      lcNext := s.g.lcNext, lcProg := s.g.lcProg, lcChal := s.g.lcChal
      nmi := s.g.nmi, pilot := true, boot := .done }
    pmb := { t.pmb with addr := s.pmb.addr }
    pins := s.pins
    prot := { t.prot with flow := s.prot.flow, coolant := s.prot.flow, stopNext := if s.prot.flow then 8 else t.prot.stopNext }
    meter := s.meter
    mem.hmem := s.mem.hmem
    freeCtr := s.freeCtr
    pending := s.pending }

-- Requests.

/-- The target of a request exists (R4, R447). DEDUCED, log 71. -/
def rstTarget (s : State) (level target : Nat) : Bool :=
  match level with
  | 0 => decide (target < 64) && present s target
  | 1 => decide (target < 8)
  | 2 => decide (target < 8)
  | 4 => decide (target < 93) && present s target
  | _ => decide (level < 8)

/-- A reset request (R435, R438, R445): during freeze it waits for its end; a whole-chip reset replaces a running one.
DEDUCED, log 112. -/
def resetRequest (s : State) (level target : Nat) (mode : Bool) : State :=
  if s.dbg.active then
    if s.rst.later.isSome ∧ level ≠ 3 then rstRefuse s
    else modRst s fun x => { x with later := some (level, target, mode) }
  else if level = 3 then chipStart s
  else if s.rst.run.isSome ∨ rstTarget s level target = false then rstRefuse s
  else if level ≤ 2 then rstStart s level target mode
  else meserReset s level target

/-- RST_CTL with GO. DEDUCED, log 86. -/
def rstGo (s : State) (level target : Nat) (mode : Bool) : State :=
  resetRequest (modRst s fun x => { x with level := level, target := target, mode := mode }) level target mode

/-- An issue slot, the `j`-th of a run of 256, of core `d` is withheld: by its selector, a harmonised stall, a coolant stop or a
reset of its region (R281, R305, R368, R436). -/
def slotHeld (s : State) (d j : Nat) : Bool :=
  !isOn s d || slotWithheld (issueSel s d).kept j || stallNow s || coolStopped s d
    || s.rst.run.any fun r => decide (r.level ≤ 2) && r.cores.getLsbD d

/-- A meaning of the reset unit; REFCLK must run. DEDUCED, log 86. -/
def rstLive (s : State) (f : State → State) : Out := .next (if s.powered && s.time.refclk then f s else s)

def execResetCore (c : Nat) (mode : Bool) (s : State) : Out := rstLive s fun s => rstGo s 0 c mode
def execResetCluster (c : Nat) (mode : Bool) (s : State) : Out := rstLive s fun s => rstGo s 1 c mode
def execResetPartition (k : Nat) (mode : Bool) (s : State) : Out := rstLive s fun s => rstGo s 2 k mode
def execResetWholeChip (s : State) : Out := rstLive s fun s => rstGo s 3 0 false
def execResetSheafController (i : Nat) (s : State) : Out := rstLive s fun s => rstGo s 4 i false
def execResetSequencer (s : State) : Out := rstLive s fun s => rstGo s 5 0 false
def execResetLoopEngine (s : State) : Out := rstLive s fun s => rstGo s 6 0 false
def execResetInstance (s : State) : Out := rstLive s fun s => rstGo s 7 0 false

/-- The host's reset unit (R435). -/
def execHostResetRequest (level target : Nat) (mode : Bool) (s : State) : Out := rstLive s fun s =>
  if level ≤ 3 then resetRequest s level target mode else s

/-- RST_STAT.CLRCNT (R447). -/
def execRstClrcnt (s : State) : Out := bus s fun s => modRst s fun x => { x with resets := .zero, dto := .zero }

/-- The meter mirror restarts. The causes that persist while LINK and REFOK read 0 stand on (R377, R422). -/
def resetMirror (s : State) : State :=
  { s with mtrm := { Mtrm.start with drive := s.mtrm.drive, gap := s.mtrm.gap }, mtrmRaw := s.mtrmRaw &&& 0x11 }

/-- The reset of the block with a fault block's code, for a subject (R377). -/
def blockReset (s : State) (x : Nat × Nat) : State :=
  match x.1 with
  | 1 => match subjDom x.2 with
    | some d => resetRequest s 4 d false
    | none => s
  | 3 => resetRequest s 5 0 false
  | 4 => resetRequest s 6 0 false
  | 5 => distrustAll s
  | 6 => flushSide s
  | 8 => resetMirror s
  | _ => s

/-- The block resets that reactions asked for (R377): one that meets a running reset is refused. DEDUCED, log 25, 73. -/
def blockResets (s : State) : State := s.blkReset.foldl blockReset { s with blkReset := [] }

end Sys2Proof.Machine
end

