-- ==== Sys2Proof/Machine/Beat.lean ====
section
/-! DEFINITION. The beat: REFCLK edges, markers, loss and alignment, and the end of autonomous hold and of freeze (R90, R91,
R145 to R149, R202, R254, R370, R394). -/

namespace Sys2Proof.Machine

/-- What the beat counter and its checks need: power and REFCLK. -/
def clocked (s : State) (f : State → State) : Out := .next (if s.powered && s.time.refclk then f s else s)

/-- V_cmd of one domain over the ten MCLKs of a beat (R101, R102). A reversal hold's own beat counts into the time since the slew
began. DEDUCED, log 84. -/
def slewBeat (p : Sp) : Sp := if p.revHold then p else slewFor p 10

/-- Every V_cmd moves; without MCLK only the sheaves' own (R90, R391). DEDUCED, log 84. -/
def slewAll (s : State) : State :=
  { s with sp := s.sp.mapIx fun d p => if decide (d < 93) || !s.dbg.active then slewBeat p else p }

/-- Source order of SENDs that reach one register in one beat (R254). -/
def sendBefore (a b : SendV) : Bool := decide (a.issue < b.issue ∨ (a.issue = b.issue ∧ a.order < b.order))

def sendInsert (a : SendV) : List SendV → List SendV
  | [] => [a]
  | b :: bs => if sendBefore a b then a :: b :: bs else b :: sendInsert a bs

/-- SENDs issued in an earlier beat are written, in order (R254). -/
def deliverSends (s : State) : State :=
  let due := (s.sends.filter fun x => decide (x.issue < s.time.beat)).foldl (fun l x => sendInsert x l) []
  let s := { s with sends := s.sends.filter fun x => decide (s.time.beat ≤ x.issue) }
  due.foldl (fun s x => { s with lane := s.lane.modN x.lane fun l =>
    { l with rf := { l.rf with v := l.rf.v.modN x.reg fun _ => x.val } } }) s

/-- A resume's pre-lift terms whose time is over leave V_tgt (R312). -/
def endResumeTerms (s : State) : State :=
  allDoms.foldl (fun s d =>
    if (s.exa.svpl.nth d).any fun x => decide (x.2 ≤ s.time.beat) then
      retarget { s with exa := { s.exa with svpl := s.exa.svpl.modN d fun _ => none } } d false
    else s) s

/-- What a beat counts: the suspended following-error deadlines wait (R104), the start gate counts a beat with a waiting engine
(R163), releases past their last slot end (R164). -/
def beatCounts (s : State) : State :=
  let sp := s.sp.mapIx fun d p => if feSuspended s d then { p with feDue := p.feDue.map (· + 1) } else p
  { s with
    sp := sp
    sg := { s.sg with
      wait := if s.sg.waiting = [] then s.sg.wait else s.sg.wait + 1
      rels := s.sg.rels.filter fun r => decide (s.time.beat < relEnd r) } }

/-- What the central clocks do at a beat's start, beside the rows that have their own command. DEDUCED, log 24. -/
def centralBeat (s : State) : State :=
  let s := calBeat (deliverSends (stageOne (blockResets s)))
  let s := if s.classHold = some s.time.beat then lagAll s else s
  triskBeat <| rstCheck (sendSlots (granSend <| throttleBeat (endEstTerms (endResumeTerms (beatCounts s)))))

/-- A whole-chip reset that a reaction asked for begins, and one whose die stop is over completes (R377, R437). In freeze it waits
(R445). -/
def chipBeat (s : State) : State :=
  if chipStopped s then wholeChip s else if s.g.chipReq then chipStart s else s

/-- A REFCLK rising edge ends a beat, whose records the notice port takes in, and starts the next (R145, R157).
DEDUCED, log 25, 116. -/
def effRefclkEdge (s : State) : State :=
  let s := slewAll (if s.dbg.active then s else estBeat (portTake s))
  let s := { s with time := { s.time with beat := (s.time.beat + 1) % 2 ^ 64 } }
  if s.dbg.active then s else chipBeat (centralBeat s)

def execRefclkEdge (s : State) : Out := clocked s effRefclkEdge

-- Markers (R146 to R148).

/-- The tally entry that waited for the first valid beat takes it (R148). DEDUCED, log 77. -/
def restampTally (s : State) : State :=
  match s.seqr.restamp with
  | none => s
  | some t =>
    { s with
      seqr := { s.seqr with restamp := none }
      tally := { s.tally with ents := s.tally.ents.map fun e => if e.tseq = t then { e with beat := s.time.beat } else e } }

/-- An action of a lane whose beat the slip to beat `n` skipped counts as late (R147, R202). DEDUCED, log 92. -/
def slipLate (n : Nat) (s : State) (a : Act) : State :=
  match a.ctx with
  | .cmd => s
  | .lane l => if a.due < n ∧ a.lag = 0 then lateBy s l (n - a.due) else s

/-- A forward slip: what the skipped interval held issues at once, late (R147). DEDUCED, log 92. -/
def slipForward (s : State) (gap : Nat) : State :=
  let s := s.acts.foldl (slipLate s.time.beat) s
  effActionTakesEffect { s with
    lane := s.lane.map fun l => if l.st = .run then { l with lag := l.lag + gap } else l }

/-- A beat marker loads the counter, or checks it and corrects a slip (R146, R147, R298). DEDUCED, log 77, 92. -/
def effBeatMarker (n : Nat) (s : State) : State :=
  let n := n % 2 ^ 64
  if s.time.valid = false then
    restampTally (estRestart { (telCut n s) with time := { s.time with beat := n, valid := true, everLoaded := true, wholeFrom := n } })
  else if n = s.time.beat then s
  else
    let old := s.time.beat
    let s := { s with
      time := { s.time with beat := n, slip := true, slips := s.time.slips.inc 65535, wholeFrom := n }
      est := { s.est with wins := s.est.wins.filter fun w => decide (64 * (w.k + 1) ≤ n) } }
    let s := estRestart (telCut n s)
    let s := setVoid (raise s bSEQ 0 subjDie)
    if old < n then slipForward s (n - old) else s

/-- In freeze the counter counts on without markers (R391). -/
def execBeatMarker (n : Nat) (s : State) : Out := live s (effBeatMarker n)

/-- REFCLK is lost: every lane is disarmed, notice is dropped, a harmonised stall ends (R148, R165, R298). -/
def effRefclkLoss (s : State) : State :=
  let void := exactOn s && armed s
  let hit := (List.range 8).filter fun i => (s.lane.data.map laneOn).getD i false
  let s := { s with
    time := { s.time with valid := false, refloss := true, refclk := false }
    tel := { s.tel with broken := true } }
  let s := raise s bSEQ 1 subjDie
  let s := { s with lane := s.lane.modEach hit fun _ l => { l with st := .aborted, cause := 7, wait := .no } }
  let s := hit.foldl (fun s i => raise s bSEQ 5 (0x8200 + i)) s
  let s := if hit = [] then s else endTrack s
  let bits := hit.foldl (fun a i => a + 2 ^ i) 0
  let s := discardNotice s true
  { s with
    seqr := { s.seqr with journal := if hit = [] then s.seqr.journal else some bits }
    exa := { s.exa with hold := none, voidLater := s.exa.voidLater || void } }

def execRefclkLoss (s : State) : Out := clocked s effRefclkLoss

/-- REFCLK returns: the disarms are journaled, to be stamped with the first valid beat, and VOID is set (R148, R298).
DEDUCED, log 77, 78. -/
def effRefclkReturn (s : State) : State :=
  let s := { s with
    time := { s.time with refclk := true, wholeFrom := s.time.beat }
    exa := { s.exa with void := s.exa.void || s.exa.voidLater, voidLater := false } }
  match s.seqr.journal with
  | none => s
  | some bits =>
    let s := tallyEvent s s.time.beat 4 7 bits 0
    { s with seqr := { s.seqr with journal := none, restamp := s.tally.ents.head?.map (·.tseq) } }

def execRefclkReturn (s : State) : Out := powered s fun s => if s.time.refclk then s else effRefclkReturn s

-- Alignment (R149, R328).

/-- What a fall of ALIGNED does: ALOSS and its raise while armed (R149); before the base beat of an arm the root hears of it (R340). -/
def alignFell (s : State) : State :=
  let s := if armed s then setVoid (raise { s with time := { s.time with aloss := true, alignCause := true } } bSEQ 2 subjDie) else s
  if s.side.told = true ∧ s.time.beat < s.seqr.base then sendArmrpt s false s.seqr.base else s

/-- ALIGNED falls with the host's line (R149); in freeze nothing else follows before its end (R391). -/
def effAlignLoss (s : State) : State :=
  let t := { s with time := { s.time with aligned := false } }
  if s.time.aligned && !s.dbg.active then alignFell t else t

def execAlignLoss (s : State) : Out := powered s effAlignLoss

def execAlignmentLineRise (s : State) : Out := powered s fun s => { s with time := { s.time with aligned := true, alignCause := false } }

-- The end of hold (R91, R110, R140, R370, R395).

/-- A domain whose sheaf's controllers already acted on a coolant loss completes the stop (R370). -/
def coolFinish (s : State) (d : Nat) : State :=
  match typ d, domSt s d with
  | .co, .on | .cl, .on =>
    modGw (setDomSt (leaveOn s d) d .gating) d fun g => { g with stage := 0, nstg := 8, gateTo := .off, wake := none }
  | .ma, .on =>
    retarget (modGw (setDomSt (leaveOn s d) d .gating) d fun g => { g with gateTo := .retention, wake := none }) d false
  | _, _ => (gateDom s d false true).1

/-- COOLANT that no clock could raise is raised now; its die stop needs no stagger, and the LA domains move to OP0 (R370). -/
def coolRaise (s : State) : State :=
  if s.prot.coolPend then
    let s := { s with prot := { s.prot with coolPend := false, stop := none, stopNext := 8 } }
    let s := protEvent (classP (raise s bPROT 14 subjDie))
    ([96, 97, 98, 99] : List Nat).foldl (fun s d => if present s d then (gateDom s d false false).1 else s) s
  else s

/-- The end of a hold, whose sheaf has read on: the raises that waited (R395), the set-point that came meanwhile where the domain is ON
again (R100), the darkening or the coolant stop that the hold kept from completing (R128, R370, R372), and the GATEs and WAKEs that
were recorded (R110). -/
def endHold (s : State) (d : Nat) (frz dark : Bool) (acts : List HeldAct) : State :=
  let s := raiseDeferred (if frz then s else raise s bDBG 3 (subjD d)) d
  let s := if isOn s d then followHeld s d else retarget s d false
  let s := modGw (modShr s d fun r => { r with darkPend := false }) d fun g => { g with held := [] }
  let cool := s.prot.coolant
  let s := if cool then coolRaise s else s
  let s := if dark then protEvent (classP (goDark s d)) else if cool then coolFinish (dropWake s d) d else s
  acts.foldl (fun s a => heldAct s d a) s

/-- AON leaves the local timing of the autonomous start: B is seeded again at the first SWREF period (R91, R423). -/
def leaveLocal (s : State) (d : Nat) : State :=
  modShw (modShf s d fun h => { h with lock := false, lockRun := 0 }) d fun w =>
    { w with localOsc := false, reseed := true, badWin := true }

/-- The sheaf's heartbeat has been back for 16 beats (R91). -/
def effHoldExit (i : Fin 93) (s : State) : State :=
  let d := i.val
  let running := s.rst.run.any fun r => decide (r.level = 7)
  if (s.shf.get i).hold ∧ running = false then
    endHold (unholdSheaf s d) d (s.shw.get i).holdFrz (s.shr.get i).darkPend (s.gw.nth d).held
  else if (s.shw.get i).localOsc ∧ (s.shf.get i).hold = false then leaveLocal s d
  else s

def execHoldExit (i : Fin 93) (s : State) : Out := live s (effHoldExit i)

-- The end of freeze (R370, R394, R395, R445).

/-- Overdue actions act at once, a coolant loss met in freeze is raised, a waiting reset request is taken.
DEDUCED, log 27, 116. -/
def freezeEnds (s : State) : State :=
  let s := effActionTakesEffect s
  let s := coolRaise s
  match s.rst.later with
  | none => s
  | some (level, target, mode) => resetRequest (modRst s fun x => { x with later := none }) level target mode

/-- The alignment line fell in the freeze and is still low (R149, R391). -/
def alignLost (s : State) : Bool := !s.time.aligned && s.dbg.kept.any fun k => k.time.aligned

/-- FREEZE_N is high; the freeze ends unless REQ holds it (R394). -/
def execFreezeExit (s : State) : Out := powered s fun s =>
  let t := effFreezeExit s
  if s.dbg.active && !t.dbg.active then (if alignLost s then alignFell (freezeEnds t) else freezeEnds t) else t

end Sys2Proof.Machine
end

