-- ==== Sys2Proof/Machine/Window.lean ====
section
/-! DEFINITION. The end of a measurement window: every measurement register, ratings and derating, the minimum service set, and
the passing of the coordinator role (R26, R32, R33, R42, R57 to R61, R92, R93, R111, R112, R119, R126, R127, R161, R270, R307,
R431 to R434, R461). -/

namespace Sys2Proof.Machine

/-- Readings of the modules and channels (R28, R32, R42): a module stands at its limit or above 260 W by its own readings, a
channel deviates after more than 1 µs outside ±5 % of the rail mean. A channel whose TFLT reads a fault keeps its temperature.
DEDUCED, log 87. -/
def winPower (m : WindowMeas) (s : State) : State :=
  let bm := s.bm.mapIx fun i b =>
    match m.bm[i]? with
    | none => b
    | some x => { b with
        vb := satU16 x.vb, iout := satI16 x.iout, pout := satU32 x.pout, temp := satI16 x.temp
        ilimAct := bmAtLimit b x.iout, ovl := decide (260000 < x.pout) }
  let epp := s.epp.mapIx fun i e =>
    match m.epp[i]? with
    | none => e
    | some x =>
      if e.absent then e
      else { e with
        isns := satI16 x.isns, temp := if x.tflt then e.temp else satI16 x.temp, tflt := x.tflt
        shareDev := decide (20 < e.devRun) }
  { s with bm := bm, epp := epp }

/-- The 1 µs means in a row beyond each input threshold: VIN in VH16 against settings of 0.1 V, 50 LSB; the current against 100 A and
95 A (R358, R365). -/
def inputRuns (v : Nat) (i : Int) (p : Prot) : Prot :=
  let run := fun (c : Bool) (n lim : Nat) => if c then min lim (n + 1) else 0
  { p with
    lowRun := run (decide (v < 50 * p.vinlo)) p.lowRun 10
    dipRun := run (decide (v < 50 * p.vindip)) p.dipRun 2
    highRun := run (decide (50 * p.vinhi < v)) p.highRun 10
    iinRun := run (decide (6400 < i)) p.iinRun 10
    calmRun := run (decide (50 * p.vinlo ≤ v) && decide (i < 6080)) p.calmRun 1000 }

/-- The package input (R26, R33, R270), with the coordinator's registers and protections (R365); FLOW falls with the pin (R373). -/
def winInput (m : WindowMeas) (s : State) : State :=
  let s := { s with
    inp := { s.inp with pkgPin := if m.iin < 0 then 0 else satU32 m.pin, pkgRev := decide (m.iin < 0) }
    pins := { s.pins with scan := m.scan }
    prot := { s.prot with flow := s.prot.flow && (match m.scan with | some x => !x.flowN | none => m.flowLow) } }
  if s.g.coord then
    let v := satU16 m.vin
    { s with
      inp := { s.inp with
        vin := v, iin := satI16 m.iin, pin := if m.iin < 0 then 0 else satU32 m.pin
        vinMin := min s.inp.vinMin v, vinMax := max s.inp.vinMax v }
      prot := { inputRuns v (satI16 m.iin) s.prot with
        low := s.prot.low && decide (v < 50 * s.prot.vinlo)
        high := s.prot.high && decide (50 * s.prot.vinhi < v) } }
  else s

/-- The sheaf measures over the whole window: present, and not in hold in any part of it (R90, R151). -/
def measured (s : State) (d : Nat) : Bool :=
  present s d && (decide (93 ≤ d) || (!(s.shf.nth d).hold && decide ((s.shw.nth d).wholeFrom + 100 ≤ s.time.beat)))

/-- VMIN and VMEAN over the sense points that are not excluded (R59). DESIGN CHOICE, log 11. -/
def domVolts (m : WindowMeas) (s : State) (d : Nat) : Nat × Nat :=
  if d < 93 then
    let pts := ((upTo (nsns d) fun k => firstSns d + k).filter fun n => !(s.sns.nth n).excl).map fun n => m.sns.getD n 0
    match pts with
    | [] => ((Config.noPoints s.freeCtr d false).toNat, (Config.noPoints s.freeCtr d true).toNat)
    | x :: xs => (satU16 (xs.foldl min x), satU16 (rdiv (sumList pts) pts.length))
  else
    let v := satU16 (m.laV.getD (d - 96) 0)
    (v, v)

/-- Rating in force (R41, R127): ladder rating times F_bond, rounded down; with a severe bond the peak is the continuous
rating. DEDUCED, log 88. -/
def ratingNow (s : State) (d : Nat) : Int × Int :=
  if d < 93 then
    let r := rating d (ladderStep s d)
    let f := (s.shr.nth d).fbond
    let cut := fun (x : Int) => if f = 0xFFFF then x else x * (f : Int) / 65536
    (cut r.1, if anySevere s d then cut r.1 else cut r.2)
  else if domSt s d = .waking ∨ domSt s d = .on ∨ domSt s d = .hold then rating d (4 - healthy s d)
  else rating d 0

/-- DERATE (R59): ladder, bond, or both. -/
def derateNow (s : State) (d : Nat) : Nat :=
  if d < 93 then b2n (decide (0 < ladderStep s d)) + 2 * b2n (decide ((s.shr.nth d).fbond < 0xFFFF) || anySevere s d)
  else b2n (decide (healthy s d < 4))

/-- The free spare is healthy and stands by (R53, R59); where the sheaf does not run, a free spare that reads OFF counts too.
DEDUCED, log 151. -/
def spareNow (s : State) (d : Nat) : Bool :=
  decide (d < 93) && (phasesOf d).any fun p => decide ((s.ph.nth p).st = .standby) || (decide (p = sparePh d) && spareFree s d)

/-- The registers of one domain (R57, R59). P in mW is V16 times I16 over 256; E adds P for 1 µs. In hold ratings and health stay
too (R140). -/
def winDom (m : WindowMeas) (s : State) (x : Dom) (d : Nat) : Dom :=
  if measured s d then
    let r := ratingNow s d
    let x := { x with
      nphOk := healthy s d, spareAvail := spareNow s d, derate := derateNow s d, icont := r.1, ipeak := r.2 }
    let v := domVolts m s d
    let i := satI16 (if d < 93 then sumList ((phasesOf d).map fun p => satI16 (m.phI.getD p 0))
      else sumList ((laChannels (ord d)).map fun c => (s.epp.nth c).isns))
    let p := satU32 (rdiv ((v.2 : Int) * i) 256)
    { x with vmin := v.1, vmean := v.2, i := i, ipk := satI16 (m.domPk.getD d 0), p := p, e := (x.e + p) % (2 ^ 32 * 1000000) }
  else x

/-- The loop and sharing registers of one sheaf (R92, R142). -/
def winShf (m : WindowMeas) (s : State) (d : Nat) (h : Shf) : Shf :=
  if measured s d then
    { h with
      nactR := nactOf s d, nshedR := countPh s d fun p => p.st = .shed
      firedR := h.firedW || (s.shw.nth d).fire.isSome, firedW := false
      pherrR := h.pherrW, pherrW := 0
      f := (clampInt 0 16383 (m.freq.getD d 0)).toNat }
  else { h with firedW := false, pherrW := 0 }

/-- DEVMAX and SHARE_DEV, from the sensed currents of the window's SWREF periods (R119, R142). DEDUCED, log 90. -/
def winShr (s : State) (d : Nat) (r : Shr) : Shr :=
  let r' := { r with devW := 0, devHit := false }
  if measured s d then { r' with devmax := satI16 r.devW, shareDev := r.devHit } else r'

/-- The registers of one phase (R61, R143). -/
def winPh (m : WindowMeas) (s : State) (p : Nat) (x : Ph) : Ph :=
  if measured s (phDom p) && decide (x.st ≠ .absent) then
    let lim := (s.phw.nth p).limWin
    { x with
      i := satI16 (m.phI.getD p 0), ipk := satI16 (m.phPk.getD p 0), ilimAct := lim
      limwin := if lim then x.limwin.inc 65535 else x.limwin }
  else x

/-- The window's measures as the sense reports them under injections; the highest sum of a domain with an injected phase is that of the
SWREF periods as sensed (R59, R390). DEDUCED, log 120. -/
def sensedWin (s : State) (m : WindowMeas) : WindowMeas :=
  if s.dbg.injs = [] then m
  else { m with
    phI := upTo 720 fun p => sensedI s p (m.phI.getD p 0)
    phPk := upTo 720 fun p => sensedI s p (m.phPk.getD p 0)
    domPk := upTo 128 fun d =>
      if s.dbg.injs.any fun x => decide (x.mode ≠ 3 ∧ x.subj < 720 ∧ phDom x.subj = d) then (s.shw.nth d).ipkW else m.domPk.getD d 0
    sns := upTo 946 fun n => sensedV s n (m.sns.getD n 0) }

/-- Every measurement register of the instance, together (R57). -/
def winRegs (m : WindowMeas) (s : State) : State :=
  let dom := s.dom.mapIx fun d x => if x.present && decide (typ d ≠ .none) then winDom m s x d else x
  let shf := s.shf.mapIx (winShf m s)
  let shr := s.shr.mapIx (winShr s)
  let ph := s.ph.mapIx (winPh m s)
  let phw := s.phw.map fun w => { w with limWin := false }
  let shw := s.shw.map fun w => { w with ipkW := 0 }
  let sns := s.sns.mapIx fun n x => if measured s (snsDom n) then { x with v := satU16 (m.sns.getD n 0) } else x
  let dl := s.loop.dl.mapIx fun d x => { x with icont := (dom.nth d).icont, derate := decide ((dom.nth d).derate ≠ 0) }
  { s with
    dom := dom, shf := shf, shw := shw, shr := shr, ph := ph, phw := phw, sns := sns
    loop := { s.loop with dl := dl }
    swref := { s.swref with
      fsync := (clampInt 0 4095 m.fsync).toNat, syncOk := decide (1600 ≤ m.fsync ∧ m.fsync ≤ 3200) }
    freeCtr := s.freeCtr + 1 }

/-- SHARE_DEV rises (R141). DEDUCED, log 90. -/
def winRaises (old s : State) : State :=
  sheafIdx.foldl (fun s d =>
    if (s.shr.nth d).shareDev && !(old.shr.nth d).shareDev then raiseShf s d bSHF 8 (subjD d) else s) s

-- The minimum service set and the coordinator.

/-- The conditions of the minimum service set that Meser observes (R433). A hold of AON that freeze, REFCLK or an instance reset
causes is no sign of a silent root. DEDUCED, log 56, 127. -/
def mssNow (s : State) : Bool :=
  s.bu.caldone && decide (3 ≤ healthy s 92) && !sheafFailed s 92 && (s.shf.nth 92).run && !(s.pd.nth 92).ovlatch
    && !(s.shw.nth 92).hbLost && decide (2 ≤ nRun s)
    && (List.range 64).any fun d =>
      present s d && decide (domSt s d ≠ .dark) && !sheafFailed s d && decide (6 ≤ healthy s d)

/-- What this die contributes to the in-package path. -/
def ownPeer (s : State) : Peer :=
  { mss := s.g.mss, pout := (s.bm.data.map (·.pout)).foldl (· + ·) 0, tmax := s.prot.tmax
    coolant := s.prot.coolant, vbkill := s.prot.vbkill, shut := s.prot.shutdn, warn := s.prot.warn
    bmFault := s.bm.data.any fun b => decide (b.st = .fault)
    coOff := (List.range 64).all fun d => !present s d || decide (domSt s d = .off ∨ domSt s d = .dark) }

/-- MSS at the window's end; its fall stops the die's service (R433, R434). -/
def winMss (s : State) : State :=
  let was := s.g.mss
  let now := mssNow s
  let s := { s with g := { s.g with mss := now } }
  if was && !now then serviceStop s else s

def winPeers (m : WindowMeas) (s : State) : State :=
  { s with peer := Tab.make 4 fun k => if k = s.g.die then ownPeer s else m.peers.getD k default }

/-- Where the role goes: a write of COORD moved it; else it passes when its holder's die has left the set, or when no instance
holds it, to the lowest die in the set (R431, R432). DEDUCED, log 91. -/
def roleAt (m : WindowMeas) (old s : State) : Option Nat :=
  let free := match s.g.holder with
    | none => true
    | some h => (old.peer.nth h).mss && !(s.peer.nth h).mss
  match m.coordAt with
  | some k => some k
  | none => if s.g.coordReq && s.g.mss then some s.g.die else if free then (List.range 4).find? fun k => (s.peer.nth k).mss else s.g.holder

/-- The role moves with its state, `m.role`, or without where the old holder cannot be reached; a write of COORD is met by now (R431,
R432). DEDUCED, log 91, 95. -/
def winRole (m : WindowMeas) (old s : State) : State :=
  let h := roleAt m old s
  let s := { s with g := { s.g with coordReq := false } }
  if h = some s.g.die then (if s.g.coord then s else takeRole s m.role)
  else if s.g.coord then loseRole s h
  else { s with g := { s.g with holder := h } }

/-- The highest TMAX of the dies in service (R459); this die's own where none is. DEDUCED, log 91. -/
def hottestDie (s : State) : Int :=
  match (s.peer.data.filter (·.mss)).map (·.tmax) with
  | [] => s.prot.tmax
  | x :: xs => xs.foldl max x

/-- The sums of 1,000 windows whose means PMBus answers, over the last completed millisecond (R459). -/
def winPmb (s : State) : State :=
  if s.g.coord then
    let p := s.pmb
    let p := { p with
      n := p.n + 1, sumVin := p.sumVin + s.inp.vin, sumIin := p.sumIin + s.inp.iin, sumPin := p.sumPin + s.inp.pin
      sumT := p.sumT + hottestDie s }
    let p := if p.n < 1000 then p
      else { p with
        n := 0, sumVin := 0, sumIin := 0, sumPin := 0, sumT := 0
        vin := p.sumVin, iin := p.sumIin, pin := p.sumPin, t := p.sumT }
    pmbCheck { s with pmb := p }
  else s


/-- A window that was interrupted is discarded with all that it gathered (R151). -/
def winDiscard (s : State) : State :=
  { s with
    shf := s.shf.map fun h => { h with firedW := false, pherrW := 0 }
    shw := s.shw.map fun w => { w with ipkW := 0 }
    shr := s.shr.map fun r => { r with devW := 0, devHit := false }
    phw := s.phw.map fun w => { w with limWin := false } }

/-- The window ends (R57); one that was interrupted is discarded (R151). -/
def effMeasurementWindowEnd (m : WindowMeas) (s : State) : State :=
  if s.time.beat % 100 ≠ 0 then s
  else if wholeWin s (s.time.beat - 100) 100 ∧ 100 ≤ s.time.beat then
    let t := winRaises s (winRegs (sensedWin s m) (winInput m (winPower m s)))
    let t := retargetAll (allDoms.foldl covEval t)
    let t := allDoms.foldl wakeRetry t
    let t := winPeers m (winMss t)
    saveMeans (winPmb (winRole m s t))
  else winRole m s (winDiscard s)

def execMeasurementWindowEnd (m : WindowMeas) (s : State) : Out := live s (effMeasurementWindowEnd m)

end Sys2Proof.Machine
end

