-- ==== Sys2Proof/Machine/Meter.lean ====
section
/-! DEFINITION. The Nolcy meter: windows, energy, checks, requests, calibration, seal and I²C port (R400 to R417), and Meser's
mirror of it with the DMA buffer (R418 to R422). -/

namespace Sys2Proof.Machine

def modMtr (s : State) (f : Meter → Meter) : State := { s with meter := f s.meter }

/-- A meaning of the meter alone: it needs only its own supply (R401). -/
def metered (s : State) (f : Meter → Meter) : Out := .next (if s.meter.supply then modMtr s f else s)

/-- Number of the window in progress; it wraps as WSEQ does (R405, R418). -/
def winNo (m : Meter) : Nat := (m.wseq + 1) % 2 ^ 32

/-- Nominal window length in 100 ns ticks (R405). -/
def nominalTw (m : Meter) : Nat := if m.freq60 then 166667 else 200000

-- Calibrated codes (R402, R413).

/-- rshift((raw - ofs) * gn, 30). DESIGN CHOICE, log 81. -/
def calCode (c : Coef) (raw : Int) : Int := rshift ((raw - c.ofs) * c.gn) 30

/-- An unsigned or signed code in its 24 bits. DESIGN CHOICE, log 81. -/
def code24 (signed : Bool) (x : Int) : Int := if signed then clampInt (-8388608) 8388607 x else clampInt 0 16777215 x

def signedCh (ch : Nat) : Bool := decide (ch ≠ 0 ∧ ch ≠ 2)

/-- C's calibrated code for a channel: ZERO and TEST pass IIN's front end; TEMP has no coefficients. -/
def cCode (m : Meter) (ch : Nat) (raw : Int) : Int :=
  code24 (signedCh ch) (match ch with
    | 0 => calCode (m.coef.nth 2) raw
    | 2 => calCode (m.coef.nth 4) raw
    | 3 => raw
    | _ => calCode (m.coef.nth 3) raw)

/-- A code as the frame carries it (R418). -/
def fmtCode (al : Bool) (x : Int) : Nat := if al then signedBits 24 x * 256 else signedBits 32 x

-- What C converts (R403, R411).

/-- C's work in one window: the channel, whether a request asked for it, urgently, and whether the frame reports it. -/
structure CConv where
  ch : Nat
  urgent : Bool
  asked : Bool
  valid : Bool

/-- The auxiliary slot's turn. DEDUCED, log 96. -/
def auxCh (m : Meter) : Nat := if m.aux = 5 ∧ m.testEn = false then 4 else m.aux

/-- The calibration whose windows have begun: it takes C from the window after the command's (R413). -/
def calNow (m : Meter) : Option MtrCal := m.cal.filter fun c => decide (c.win ≠ winNo m)

/-- DESIGN CHOICE, log 81; DEDUCED, log 96. -/
def convOf (m : Meter) : CConv :=
  let n := winNo m
  let single := m.req.filter fun r => decide (r.win ≠ n) && !r.urgent
  match calNow m with
  | some c => ⟨c.ch, false, false, true⟩
  | none =>
    match m.req.filter fun r => decide (r.win ≠ n) && r.urgent with
    | some r => ⟨r.ch, true, true, true⟩
    | none =>
      if n % 2 = 1 then ⟨1, false, false, true⟩
      else if n % 4 = 0 then ⟨0, false, false, true⟩
      else match single with
        | some r => ⟨r.ch, false, true, true⟩
        | none => if m.cont then ⟨auxCh m, false, false, true⟩ else ⟨4, false, false, false⟩

-- The checks of a window (R404, R412).

/-- One comparison of a channel: failures and passes in a row, its flag, and whether it sets now. DEDUCED, log 79. -/
def plausStep (flag : Bool) (run ok : Nat) (fails : Bool) : Bool × Nat × Nat :=
  if fails then (flag || decide (3 ≤ run + 1), min 3 (run + 1), 0)
  else (flag && decide (ok + 1 < 16), 0, min 16 (ok + 1))

/-- The check of M against C. Only a window's scheduled check counts, and none during a calibration. DEDUCED, log 79. -/
def meterCheck (m : Meter) (k : CConv) (v i c : Int) : Meter :=
  let check := (calNow m).isNone && !k.asked
  let was := m.plausV || m.plausI
  let m :=
    if check ∧ k.ch = 1 then
      let r := plausStep m.plausI m.runI m.okI (decide (16777 < (i - c).natAbs))
      { m with plausI := r.1, runI := r.2.1, okI := r.2.2 }
    else if check ∧ k.ch = 0 then
      let r := plausStep m.plausV m.runV m.okV (decide (33554 < (v - c).natAbs))
      { m with plausV := r.1, runV := r.2.1, okV := r.2.2 }
    else m
  let m := if k.ch = 5 then { m with testFail := decide (8389 < (c - 2000 * m.testCode).natAbs) } else m
  if !was && (m.plausV || m.plausI) then { m with reg := { m.reg with plausCnt := min 65535 (m.reg.plausCnt + 1) } } else m

-- Energy (R407, R408).

/-- 1 mWh in units of 1e-17 J. -/
def mWh : Nat := 360000000000000000

/-- The product of a registering window goes to one accumulator. -/
def addEnergy (r : MtrNv) (x : Int) : MtrNv :=
  if 0 ≤ x then
    let a := r.remImp + x.toNat
    { r with eimp := (r.eimp + a / mWh) % 2 ^ 64, remImp := a % mWh }
  else
    let a := r.remRev + (-x).toNat
    { r with erev := (r.erev + a / mWh) % 2 ^ 64, remRev := a % mWh }

/-- The frame of a window: 48 bytes and their CRC-32 (R418). -/
def buildFrame (m : Meter) (k : CConv) (sync refOk : Bool) (v i c : Int) (tw : Nat) (einc : Int) : List Byte :=
  let flags := fld 0 1 (b2n sync) + fld 1 1 (b2n refOk) + fld 2 1 (b2n m.isSealed) + fld 3 1 (b2n (m.plausV || m.plausI))
    + fld 4 1 (b2n m.testFail) + fld 5 1 (b2n (decide (i < 0))) + fld 6 1 (b2n m.align) + fld 7 1 (b2n k.valid)
    + fld 8 2 m.refsel + fld 10 1 (b2n m.freq60)
  let body := leBytes 4 m.wseq ++ leBytes 2 flags ++ leBytes 1 (k.ch + 8 * b2n k.urgent + 16 * b2n k.asked) ++ [0]
    ++ leBytes 4 (fmtCode m.align v) ++ leBytes 4 (fmtCode m.align i) ++ leBytes 4 (if k.valid then fmtCode m.align c else 0)
    ++ leBytes 4 tw ++ leBytes 4 (signedBits 32 einc) ++ leBytes 2 m.reg.sbrk ++ leBytes 2 m.reg.plausCnt
    ++ leBytes 8 m.reg.eimp ++ leBytes 8 m.reg.erev
  body ++ leBytes 4 (crc32 body)

/-- A calibration average takes one more complete window (R413). -/
def calTake (m : Meter) (mv mi cv : Int) : Meter :=
  { m with cal := m.cal.map fun c =>
      if c.win ≠ winNo m ∧ c.n < 16 then
        { c with n := c.n + 1, m := c.m + (if c.ch = 0 then mv else mi), c := c.c + cv }
      else c }

/-- Windows from window `u` to window `n`, whose numbers wrap (R19, R421). -/
def windowsSince (u n : Nat) : Nat := (n + 2 ^ 32 - u) % 2 ^ 32

/-- The end of a window of length `tw`. -/
def closeWindow (m : Meter) (tw : Nat) (mv mi cv : Int) (refOk nvOk : Bool) : Meter :=
  let k := convOf m
  let v := code24 false (calCode (m.coef.nth 0) mv)
  let i := code24 true (calCode (m.coef.nth 1) mi)
  let c := cCode m k.ch cv
  let x : Int := v * i * tw
  let m := calTake (meterCheck m k v i c) mv mi cv
  let m := { m with
    reg := if refOk then addEnergy m.reg x else { m.reg with unreg := min (2 ^ 32 - 1) (m.reg.unreg + 1) }
    aux := if k.valid && !k.asked && decide (2 ≤ k.ch) && (calNow m).isNone then (if m.aux = 5 then 2 else m.aux + 1) else m.aux
    req := if k.asked then none else m.req
    urgAt := if k.urgent then some (winNo m) else m.urgAt.filter fun u => decide (windowsSince u (winNo m) < 8) }
  let m := if m.nverr && nvOk then { m with nv := m.reg, nverr := false } else m
  let m := { m with wseq := (m.wseq + 1) % 2 ^ 32, endTw := none }
  { m with frame := buildFrame m k m.sync refOk v i c tw (if refOk then satI32 (rdiv x 100000000000) else 0) }

/-- A window boundary: `mv`, `mi`, `cv` are the converters' raw codes, `refOk` that REF_SETTLED stayed set, `nvOk` that a
repeated commit verifies (R405 to R409). -/
def effMeterWindowEnd (mv mi cv : Int) (refOk nvOk : Bool) (m : Meter) : Meter :=
  if m.running then
    match m.endTw with
    | some tw => closeWindow m tw mv mi cv refOk nvOk
    | none => if m.sync then m else closeWindow m (nominalTw m) mv mi cv refOk nvOk
  else if m.refSet && !m.sync then { m with running := true }
  else m

def execMeterWindowEnd (mv mi cv : Int) (refOk nvOk : Bool) (s : State) : Out :=
  metered s (effMeterWindowEnd mv mi cv refOk nvOk)

/-- A MAINS_SYNC rising edge, `period` ticks after the last and `since` ticks into the window (R406, R457). -/
def effMainsSyncEdge (period since : Nat) (m : Meter) : Meter :=
  if period < 50000 then m
  else if period < 153800 ∨ 222200 < period then { m with sync := false, edges := 0, endTw := none }
  else
    let m := { m with edges := min 8 (m.edges + 1), sync := decide (8 ≤ m.edges + 1) }
    if m.sync = false then m
    else if m.running then (if nominalTw m ≤ 2 * since then { m with endTw := some since } else m)
    else if m.refSet then { m with running := true }
    else m

def execMainsSyncEdge (period since : Nat) (s : State) : Out := metered s (effMainsSyncEdge period since)

/-- MAINS_SYNC is lost (R406). -/
def execMainsSyncLoss (s : State) : Out := metered s fun m => { m with sync := false, edges := 0, endTw := none }

/-- The meter's supply becomes valid (R407, R409, R415). -/
def execMeterSupplyValid (s : State) : Out :=
  .next (if s.meter.supply then s else modMtr s fun m => Meter.start m.nv m.isSealed m.coef m.accepted)

def execRefSettled (s : State) : Out := metered s fun m => { m with refSet := true }

/-- A commit, `ok` when it verifies; `fall` when the supply has fallen (R409). -/
def effNvCommit (ok fall : Bool) (m : Meter) : Meter :=
  let m := { m with nv := if ok then m.reg else m.nv, nverr := !ok }
  if fall then { m with supply := false, refSet := false, running := false } else m

def execNvCommit (ok fall : Bool) (s : State) : Out := metered s (effNvCommit ok fall)

-- Requests (R411, R420).

/-- A request from Meser or from the I²C port; none when it is refused. DEDUCED, log 100. -/
def meterRequest (m : Meter) (ch : Nat) (urgent meser : Bool) : Option Meter :=
  let n := winNo m
  let soon := m.urgAt.any fun u => decide (windowsSince u (n + 1) < 8)
  let free := match m.req with
    | none => true
    | some r => decide (r.win = n) && r.meser != meser
  if decide (ch < 6) && free && !(urgent && (soon || m.cal.isSome)) then some { m with req := some ⟨ch, urgent, meser, n⟩ } else none

-- The I²C port (R417).

/-- The meter does not answer without its supply. -/
def i2cNone (s : State) : State := { s with io := { s.io with i2cAck := false, i2c := [] } }

/-- A read: the data and the PEC byte over address, code, address and data. DESIGN CHOICE, log 12. -/
def i2cRead (code : Nat) (data : Meter → List Byte) (s : State) : Out :=
  .next (if s.meter.supply then
      let d := data s.meter
      { s with io := { s.io with
          i2cAck := true, i2c := d ++ [crc8 ([0x98, BitVec.ofNat 8 code, 0x99] ++ d)] } }
    else i2cNone s)

/-- A write: acknowledged unless it is refused. -/
def i2cWrite (f : Meter → Meter × Bool) (s : State) : Out :=
  .next (if s.meter.supply then
      let r := f s.meter
      { modMtr s (fun _ => r.1) with io := { s.io with i2cAck := r.2, i2c := [] } }
    else i2cNone s)

/-- DEDUCED, log 97. -/
def frameFlags (l : List Byte) : Nat := le16 l 4

def execMtrId (s : State) : Out := i2cRead 0x00 (fun _ => padTo 4 Config.meterIdentity) s
def execMtrStatus (s : State) : Out :=
  i2cRead 0x01 (fun m => leBytes 2 (frameFlags m.frame % 2048 + 2048 * b2n m.nverr + 4096 * b2n m.cal.isSome)) s
def execMtrEimp (s : State) : Out := i2cRead 0x02 (fun m => leBytes 8 m.reg.eimp) s
def execMtrErev (s : State) : Out := i2cRead 0x03 (fun m => leBytes 8 m.reg.erev) s
def execMtrSbrk (s : State) : Out := i2cRead 0x04 (fun m => leBytes 2 m.reg.sbrk) s
def execMtrPlauscnt (s : State) : Out := i2cRead 0x05 (fun m => leBytes 2 m.reg.plausCnt) s
def execMtrUnreg (s : State) : Out := i2cRead 0x06 (fun m => leBytes 4 m.reg.unreg) s
def execMtrWseq (s : State) : Out := i2cRead 0x07 (fun m => leBytes 4 m.wseq) s
def execMtrLast (s : State) : Out := i2cRead 0x08 (fun m => m.frame.take 48) s

/-- CFG, with a word to write, or none to read (R407, R416). -/
def execMtrCfg (w : Option Nat) (s : State) : Out :=
  match w with
  | none => i2cRead 0x10 (fun m => leBytes 2 (b2n m.freq60 + 2 * m.refsel + 8 * b2n m.testEn + 16 * m.testCode)) s
  | some x => i2cWrite (fun m =>
      if m.isSealed ∨ bits x 1 2 = 1 ∨ bits x 1 2 = 3 then (m, false)
      else ({ m with freq60 := bitOf x 0, refsel := bits x 1 2, testEn := bitOf x 3, testCode := bits x 4 12 }, true)) s

def execMtrReq (v : Nat) (s : State) : Out :=
  i2cWrite (fun m => match meterRequest m (v % 8) (bitOf v 3) false with
    | some m => (m, true)
    | none => (m, false)) s

def execMtrCtl (w : Option Nat) (s : State) : Out :=
  match w with
  | none => i2cRead 0x12 (fun m => leBytes 1 (b2n m.cont + 2 * b2n m.align)) s
  | some x => i2cWrite (fun m => ({ m with cont := bitOf x 0, align := bitOf x 1 }, true)) s

-- Calibration (R413 to R416).

/-- CALZ: refused when sealed, while a calibration runs, for a channel that has none, or below 20 V on VIN.
DEDUCED, log 98. -/
def effCalz (ch : Nat) (x : Int) (m : Meter) : Meter × Bool :=
  if m.isSealed then ({ m with calCh := ch % 8, calRes := 5 }, false)
  else if m.cal.isSome ∨ 2 < ch ∨ (ch = 0 ∧ x < 4000000) then (m, false)
  else ({ m with cal := some ⟨ch, false, x, winNo m, 0, 0, 0⟩, zero := none, calCh := ch }, true)

def execCalz (ch : Nat) (x : Int) (s : State) : Out := i2cWrite (effCalz ch x) s

/-- CALF: refused besides without a completed CALZ of the same channel. -/
def effCalf (ch : Nat) (x : Int) (m : Meter) : Meter × Bool :=
  if m.isSealed then ({ m with calCh := ch % 8, calRes := 5 }, false)
  else if m.cal.isSome then (m, false)
  else if m.zero.any fun z => decide (z.ch = ch) then
    ({ m with cal := some ⟨ch, true, x, winNo m, 0, 0, 0⟩, calCh := ch }, true)
  else ({ m with calCh := ch % 8, calRes := 4 }, false)

def execCalf (ch : Nat) (x : Int) (s : State) : Out := i2cWrite (effCalf ch x) s

/-- Gain and offset of one path from its two points, and the code of R417 that CALSTAT shows: 0 accepted, 1 span, 2 gain,
3 offset. -/
def calPath (x0 x1 c0 c1 : Int) : Coef × Nat :=
  let dc := c1 - c0
  if dc < 2 ^ 20 then (⟨0, 0⟩, 1)
  else
    let gn := rdiv (2 ^ 30 * (x1 - x0)) dc.toNat
    if 20 * gn < 19 * 2 ^ 30 ∨ 21 * 2 ^ 30 < 20 * gn then (⟨gn, 0⟩, 2)
    else
      let ofs := rdiv (c0 * gn - x0 * 2 ^ 30) gn.toNat
      (⟨gn, ofs⟩, if 2 ^ 18 < ofs.natAbs then 3 else 0)

/-- The 16 windows of a CALZ or CALF are over. -/
def effCalAverageDone (m : Meter) : Meter :=
  match m.cal with
  | none => m
  | some c =>
    if c.n < 16 then m
    else
      let am := rdiv c.m 16
      let ac := rdiv c.c 16
      let m := { m with cal := none }
      if c.high = false then { m with zero := some ⟨c.ch, c.x, am, ac⟩ }
      else match m.zero with
        | none => m
        | some z =>
          let pc := calPath z.x c.x z.c ac
          let pm := if c.ch = 2 then pc else calPath z.x c.x z.m am
          let m := { m with zero := none, calRes := if pm.2 ≠ 0 then pm.2 else pc.2 }
          if pm.2 = 0 ∧ pc.2 = 0 then
            { m with
              accepted := m.accepted.modN c.ch fun _ => true
              coef := match c.ch with
                | 0 => (m.coef.modN 0 fun _ => pm.1).modN 2 fun _ => pc.1
                | 1 => (m.coef.modN 1 fun _ => pm.1).modN 3 fun _ => pc.1
                | _ => m.coef.modN 4 fun _ => pc.1 }
          else m

def execCalAverageDone (s : State) : Out := metered s effCalAverageDone

def execCalstat (s : State) : Out :=
  i2cRead 0x22 (fun m => leBytes 2 (b2n m.cal.isSome + 2 * (m.calCh % 8) + 16 * m.calRes)) s

def execCoef (s : State) : Out :=
  i2cRead 0x23 (fun m => (m.coef.data.map fun c => leBytes 4 (signedBits 32 c.gn) ++ leBytes 4 (signedBits 32 c.ofs)).flatten) s

/-- SEAL with 0x5E (R415). -/
def execSealMeter (s : State) : Out :=
  i2cWrite (fun m =>
    if m.cal.isSome || m.accepted.data.any (! ·) then (m, false) else ({ m with isSealed := true }, true)) s

/-- SEAL with 0xA5 (R415): the count is committed with the state. -/
def execUnsealMeter (s : State) : Out :=
  i2cWrite (fun m =>
    if m.isSealed then
      let n := min 65535 (m.reg.sbrk + 1)
      ({ m with isSealed := false, reg := { m.reg with sbrk := n }, nv := { m.nv with sbrk := n } }, true)
    else (m, true)) s

-- Meser's side: the start/stop path (R400, R411, R421).

def modMtrm (s : State) (f : Mtrm → Mtrm) : State := { s with mtrm := f s.mtrm }

/-- MTRM_REQ with GO, in the coordinator that drives the path: a new one drives it from its first write of MTRM_CTL (R420). A
meter without supply leaves it pending. -/
def effMtrmReqGo (ch : Nat) (urgent : Bool) (s : State) : State :=
  if s.g.coord then
    let s := modMtrm s fun x => { x with ch := ch % 8, urgent := urgent }
    if s.mtrm.drive = false then s
    else if s.meter.supply = false then modMtrm s fun x => { x with reqSt := 1 } else
    match meterRequest s.meter (ch % 8) urgent true with
    | some m => modMtrm { s with meter := m } fun x => { x with reqSt := 1 }
    | none => modMtrm s fun x => { x with reqSt := 3 }
  else s

def execMtrmReqGo (ch : Nat) (urgent : Bool) (s : State) : Out := live s (effMtrmReqGo ch urgent)

/-- MTRM_CTL.CLRCNT, in the coordinator. -/
def effMtrmClrcnt (s : State) : State :=
  if s.g.coord then modMtrm s fun x => { x with lost := .zero, bad := .zero } else s

def execMtrmClrcnt (s : State) : Out := live s effMtrmClrcnt

def setRaw (w : Word32) (i : Nat) (x : Bool) : Word32 :=
  let bit : Word32 := 1 <<< i
  if x then w ||| bit else w &&& ~~~ bit

/-- A write of MTRM_CTL, in the coordinator: the meter takes STREAM, CONT and ALIGN, and SYNC_EXP may enter MTR_SYNC (R422). -/
def effMtrmCtlWrite (v : Word32) (s : State) : State :=
  if s.g.coord then
    let w := v.toNat
    let s := modMtrm s fun x => { x with
      stream := bitOf w 0, cont := bitOf w 1, align := bitOf w 2, syncExp := bitOf w 3, bufEn := bitOf w 4, drive := true }
    let s := if bitOf w 31 then effMtrmClrcnt s else s
    let nosync := bitOf w 3 && !bitOf (frameFlags s.mtrm.last) 0
    let was := s.mtrmRaw.getLsbD 5
    let s := { s with mtrmRaw := setRaw s.mtrmRaw 5 nosync }
    let s := if nosync && !was then raise s bMTRM 5 subjDie else s
    if s.meter.supply then modMtr s fun m => { m with stream := bitOf w 0, cont := bitOf w 1, align := bitOf w 2 } else s
  else s

def execMtrmCtlWrite (v : Word32) (s : State) : Out := live s (effMtrmCtlWrite v)

-- The mirror (R418 to R422).

/-- A record goes to the buffer, or is lost (R290, R419). `lostBefore` when frames before this one never reached it; the
mark waits for the next record written (R420). DEDUCED, log 82. -/
def bufferFrame (s : State) (bytes : List Byte) (lostBefore ok : Bool) : State :=
  let x := s.mtrm
  let gap := x.gap || lostBefore
  if s.g.coord && x.drive && x.bufEn && !x.buserr then
    if (x.wr + 1) % 2 ^ x.log = x.rd then
      raise (modMtrm s fun x => { x with lost := x.lost.inc 65535, gap := true }) bMTRM 7 subjDie
    else if ok then
      let r := bytes.take 48 ++ leBytes 8 s.time.beat ++ (bytes.drop 48).take 4 ++ leBytes 4 (b2n gap)
      modMtrm { s with mem.hmem := Memory.writeBytes s.mem.hmem (x.base + 64 * x.wr) r } fun x =>
        { x with wr := (x.wr + 1) % 2 ^ x.log, gap := false }
    else
      let s := modMtrm s fun x => { x with gap := true, buserr := true }
      raise { s with mtrmRaw := setRaw s.mtrmRaw 8 true } bMTRM 8 subjDie
  else modMtrm s fun x => { x with gap := gap || x.buserr }

/-- What a good frame shows, and what rises with it (R421, R422). DEDUCED, log 82, 97, 100. -/
def mirrorFrame (s : State) (bytes : List Byte) (ok : Bool) : State :=
  let old := s.mtrm
  let f := frameFlags bytes
  let cch := (bytes.getD 6 0).toNat
  let seq := le32 bytes 0
  let lostBefore := if old.seen then decide (seq ≠ (le32 old.last 0 + 1) % 2 ^ 32) else decide (seq ≠ 1)
  let raw := s.mtrmRaw
  let nosync := old.syncExp && !bitOf f 0
  let raw' := setRaw (setRaw (setRaw (setRaw (setRaw raw 0 false) 2 (bitOf f 3)) 4 (!bitOf f 1)) 5 nosync) 9 s.meter.nverr
  let s := { s with
    mtrmRaw := raw'
    mtrm := { old with
      last := bytes.take 48, link := true, seen := true, goodAt := s.time.beat, nverr := s.meter.nverr
      res := if bitOf cch 4 then le32 bytes 16 else old.res
      reqSt := if bitOf cch 4 ∧ old.reqSt = 1 then 2 else old.reqSt } }
  let rise := fun (s : State) (i : Nat) => if raw'.getLsbD i && !raw.getLsbD i then raise s bMTRM i subjDie else s
  let s := rise s 2
  let s := if bitOf f 4 && !bitOf (frameFlags old.last) 4 then raise s bMTRM 3 subjDie else s
  let s := rise (rise s 4) 5
  let s := if old.seen && (bitOf f 2 != bitOf (frameFlags old.last) 2 || decide (le16 bytes 28 ≠ le16 old.last 28)) then
      raise s bMTRM 6 subjDie
    else s
  bufferFrame (rise s 9) bytes lostBefore ok

/-- The CRC of a frame is right (R418). -/
def frameGood (bytes : List Byte) : Bool := decide (bytes.length = 52 ∧ crc32 (bytes.take 48) = le32 bytes 48)

/-- The meter pushes frames: it has its supply, and the coordinator that drives it has left STREAM at 1 (R400, R418). What
another coordinator has set is not known here. DEDUCED, log 82. -/
def pushes (s : State) : Bool := s.meter.supply && (s.meter.stream || !(s.g.coord && s.mtrm.drive))

/-- A frame arrives; `ok` when the bus takes its record (R418). A good one is the frame that the meter formed, where this
instance drives it; an instance reset loses the frames that come during it (R420). -/
def effMeterFrame (bytes : List Byte) (ok : Bool) (s : State) : State :=
  if !pushes s || s.rst.run.any (fun r => decide (r.level = 7)) then s
  else if frameGood bytes then
    if s.g.coord && s.mtrm.drive && decide (bytes ≠ s.meter.frame) then s else mirrorFrame s bytes ok
  else raise (modMtrm s fun x => { x with bad := x.bad.inc 65535 }) bMTRM 1 subjDie

def execMeterFrame (bytes : List Byte) (ok : Bool) (s : State) : Out := live s (effMeterFrame bytes ok)

/-- No good frame for 3 nominal windows and 1 ms, in beats (R421, R422). DEDUCED, log 82. -/
def effMeterLinkLoss (s : State) : State :=
  let x := s.mtrm
  let late := if bitOf (frameFlags x.last) 10 then 5100010 else 6100000
  if x.link ∧ x.goodAt + late ≤ s.time.beat then
    raise { s with mtrm := { x with link := false }, mtrmRaw := setRaw s.mtrmRaw 0 true } bMTRM 0 subjDie
  else s

def execMeterLinkLoss (s : State) : Out := live s effMeterLinkLoss

end Sys2Proof.Machine
end

