-- ==== Sys2Proof/Machine/Pmbus.lean ====
section
/-! DEFINITION. The PMBus target of the coordinator (R458 to R462). -/

namespace Sys2Proof.Machine

def modPmb (s : State) (f : Pmb → Pmb) : State := { s with pmb := f s.pmb }

-- LINEAR11 (R460).

/-- The mantissa of num / den at exponent `n` - 16. -/
def linY (num : Int) (den n : Nat) : Int :=
  if n < 16 then rdiv (num * 2 ^ (16 - n)) den else rdiv num (den * 2 ^ (n - 16))

/-- The word of num / den, with the smallest exponent at which the mantissa fits. -/
def linear11 (num : Int) (den : Nat) : Nat :=
  let fits := fun (n : Nat) => decide (-1024 ≤ linY num den n ∧ linY num den n ≤ 1023)
  let n := ((List.range 32).find? fits).getD 31
  signedBits 5 ((n : Int) - 16) * 2048 + signedBits 11 (clampInt (-1024) 1023 (linY num den n))

/-- A written word's value times `k`, rounded. -/
def linTimes (w k : Nat) : Int :=
  let n := signExt 5 (bits w 11 5)
  let y := signExt 11 (bits w 0 11) * k
  if n < 0 then rdiv y (2 ^ n.natAbs) else y * 2 ^ n.natAbs

-- Transactions (R458, R462).

/-- DESIGN CHOICE, log 19. -/
def pmbAddr (s : State) : Nat := 0x40 + s.pmb.addr

/-- The target's answer. DEDUCED, log 99. -/
def pmbSay (ack : Bool) (l : List Byte) (s : State) : State := modPmb s fun p => { p with ack := ack, resp := l }

/-- A transaction at the target's address; only the coordinator answers. DEDUCED, log 99. -/
def pmbus (f : State → State) (s : State) : Out :=
  live s fun s => if s.g.coord then f s else pmbSay false [] s

/-- The answer to a read: the data with its PEC (R458, R462). -/
def pmbReply (code : Nat) (d : List Byte) (s : State) : State :=
  let a := 2 * pmbAddr s
  pmbSay true (d ++ [crc8 ([BitVec.ofNat 8 a, BitVec.ofNat 8 code, BitVec.ofNat 8 (a + 1)] ++ d)]) s

/-- A read of data with its PEC. DEDUCED, log 99. -/
def pmbRead (code : Nat) (data : State → List Byte) (s : State) : Out := pmbus (fun s => pmbReply code (data s) s) s

def pmbWord (code : Nat) (f : State → Nat) (s : State) : Out := pmbRead code (fun s => leBytes 2 (f s)) s
def pmbByte (code : Nat) (f : State → Nat) (s : State) : Out := pmbRead code (fun s => leBytes 1 (f s)) s

/-- A STATUS_CML bit latches (R461, R462). DEDUCED, log 83. -/
def pmbCml (i : Nat) (s : State) : State :=
  let bit : Byte := 1 <<< i
  modPmb s fun p => { p with cml := p.cml ||| bit, alert := p.alert || decide (p.cml &&& bit = 0) }

/-- A write: discarded for its PEC, turned away in END, or carried out. -/
def pmbWrite (pecOk : Bool) (f : State → State) (s : State) : State :=
  let s := pmbSay true [] s
  if pecOk = false then pmbCml 5 s
  else if s.g.lc = 4 then pmbCml 7 s
  else f s

-- Status (R461).

def pmbAny (p : Pmb) : Bool := decide (p.inp ≠ 0) || decide (p.temp ≠ 0) || decide (p.mfr ≠ 0) || decide (p.cml ≠ 0)

/-- DEDUCED, log 83. -/
def pmbStatus (s : State) : Nat :=
  let p := s.pmb
  let i := decide (p.inp ≠ 0)
  let m := decide (p.mfr ≠ 0)
  let off := (ownPeer s).coOff && ((List.range 4).all fun k => decide (k = s.g.die) || (s.peer.nth k).coOff)
  fld 13 1 (b2n i) + fld 12 1 (b2n m) + fld 2 1 (b2n (decide (p.temp ≠ 0))) + fld 1 1 (b2n (decide (p.cml ≠ 0)))
    + fld 11 1 (b2n (!pgood s)) + fld 6 1 (b2n off) + fld 3 1 (b2n (p.inp.getLsbD 5)) + fld 0 1 (b2n (i || m))

/-- CLEAR_FAULTS: latched bits clear, and those whose condition is present latch again. -/
def execClearFaults (pecOk : Bool) (s : State) : Out :=
  pmbus (pmbWrite pecOk fun s =>
    let c := pmbCond s
    modPmb s fun p =>
      let q := { p with inp := c.1, temp := c.2.1, mfr := c.2.2, cml := 0 }
      { q with alert := pmbAny q }) s

def execStatusByte (s : State) : Out := pmbByte 0x78 (fun s => pmbStatus s % 256) s
def execStatusWord (s : State) : Out := pmbWord 0x79 pmbStatus s
def execStatusInput (s : State) : Out := pmbByte 0x7C (fun s => s.pmb.inp.toNat) s
def execStatusTemperature (s : State) : Out := pmbByte 0x7D (fun s => s.pmb.temp.toNat) s
def execStatusCml (s : State) : Out := pmbByte 0x7E (fun s => s.pmb.cml.toNat) s
def execStatusMfrSpecific (s : State) : Out := pmbByte 0x80 (fun s => s.pmb.mfr.toNat) s

-- Fixed answers, limits and readings (R459).

def execCapability (s : State) : Out := pmbByte 0x19 (fun _ => 0xD0) s
def execPmbusRevision (s : State) : Out := pmbByte 0x98 (fun _ => 0x44) s
def execMfrId (s : State) : Out := pmbRead 0x99 (fun _ => [4, 0x53, 0x54, 0x56, 0x4C]) s
def execMfrModel (s : State) : Out := pmbRead 0x9A (fun _ => [5, 0x4C, 0x4F, 0x52, 0x34, 0x53]) s
def execOtFaultLimit (s : State) : Out := pmbWord 0x4F (fun s => linear11 (shutT s) 128) s
def execOtWarnLimit (s : State) : Out := pmbWord 0x51 (fun s => linear11 (warnT s) 128) s
def execVinOvFaultLimit (s : State) : Out := pmbWord 0x55 (fun _ => linear11 62 1) s
def execIinOcFaultLimit (s : State) : Out := pmbWord 0x5B (fun _ => linear11 100 1) s
def execPinOpWarnLimit (s : State) : Out := pmbWord 0x6B (fun s => linear11 s.loop.cap 1) s
def execReadVin (s : State) : Out := pmbWord 0x88 (fun s => linear11 s.pmb.vin 500000) s
def execReadIin (s : State) : Out := pmbWord 0x89 (fun s => linear11 s.pmb.iin 64000) s
def execReadTemperature1 (s : State) : Out := pmbWord 0x8D (fun s => linear11 s.pmb.t 128000) s
def execReadPin (s : State) : Out := pmbWord 0x97 (fun s => linear11 s.pmb.pin 1000000) s

/-- PROT_VIN.VINLO in 0.1 V, 400 to 440 (R9, R373). -/
def setVinlo (s : State) (x : Int) : State := { s with prot := { s.prot with vinlo := (clampInt 400 440 x).toNat } }
/-- PROT_VIN.VINDIP, 385 to 400. -/
def setVindip (s : State) (x : Int) : State := { s with prot := { s.prot with vindip := (clampInt 385 400 x).toNat } }
/-- PROT_VIN.VINHI, 560 to 615. -/
def setVinhi (s : State) (x : Int) : State := { s with prot := { s.prot with vinhi := (clampInt 560 615 x).toNat } }

/-- A limit in 0.1 V: a word to write, or none to read. -/
def pmbLimit (code : Nat) (get : State → Nat) (set : State → Int → State) (w : Option Nat) (pecOk : Bool) (s : State) : Out :=
  match w with
  | none => pmbWord code (fun s => linear11 (get s) 10) s
  | some x => pmbus (pmbWrite pecOk fun s => set s (linTimes x 10)) s

def execVinOvWarnLimit (w : Option Nat) (pecOk : Bool) (s : State) : Out := pmbLimit 0x57 (fun s => s.prot.vinhi) setVinhi w pecOk s
def execVinUvWarnLimit (w : Option Nat) (pecOk : Bool) (s : State) : Out := pmbLimit 0x58 (fun s => s.prot.vinlo) setVinlo w pecOk s
def execVinUvFaultLimit (w : Option Nat) (pecOk : Bool) (s : State) : Out := pmbLimit 0x59 (fun s => s.prot.vindip) setVindip w pecOk s

/-- The alert response address: a target that pulls PMB_ALERT_N low answers its address and lets go (R461). -/
def execAlertResponse (s : State) : Out := live s fun s =>
  if alertLow s then
    let a := BitVec.ofNat 8 (2 * pmbAddr s)
    modPmb (pmbSay true [a, crc8 [0x19, a]] s) fun p => { p with alert := false }
  else pmbSay false [] s

/-- A code that the target does not support, or a write to a read-only command (R462); `rd` is the number of data bytes that a read
takes. -/
def execPmbusUnsupported (code : Nat) (rd : Option Nat) (pecOk : Bool) (s : State) : Out :=
  match rd with
  | some n => pmbus (fun s => pmbReply code (List.replicate n 0xFF) (pmbCml 7 s)) s
  | none => pmbus (pmbWrite pecOk (pmbCml 7)) s

end Sys2Proof.Machine
end

