-- ==== Sys2Proof/Machine/RegRead.lean ====
section
/-! DEFINITION. What every register of the window reads (R10 to R14, R57, R467 to R477), and the 64-bit values that a _LO and a
_HI register share (R11). -/

namespace Sys2Proof.Machine

/-- A signed number in 16 bits. -/
def s16 (x : Int) : Nat := signedBits 16 x

/-- V16 from 1/64 µV (R6). -/
def v16Of (x : Int) : Nat := satU16 (rdiv x 16000)

/-- Element `(o - base) / stride` of a family with `n` elements, and the offset within it. -/
def slotAt (o base stride n : Nat) : Option (Nat × Nat) :=
  if base ≤ o ∧ o < base + stride * n then some ((o - base) / stride, (o - base) % stride) else none

/-- Two counters of kind S in one register. -/
def pairCnt (lo hi : CntS) : Nat := fld 0 16 lo.n + fld 16 16 hi.n

def countIf {α : Type} (l : List α) (f : α → Bool) : Nat := (l.filter f).length

/-- Identity, life cycle (R446). -/
def readId (s : State) (o : Nat) : Nat :=
  match o with
  | 0x00 => s.g.idReg
  | 0x04 => fld 0 7 (countIf allDoms (present s)) + fld 8 7 (countIf (upTo 64 id) (present s))
  | 0x10 => fld 0 3 s.g.lc + fld 3 1 (b2n (decide (s.g.lc = 1 ∨ s.g.lc = 3)))
  | 0x14 => fld 0 4 s.g.lcFails + fld 4 1 (b2n s.g.lcLocked) + fld 5 1 (b2n s.g.lcProg.isSome) + fld 8 3 s.g.lcNext
  | 0x18 => s.g.lcChal.toNat % 2 ^ 32
  | 0x1C => s.g.lcChal.toNat / 2 ^ 32
  | _ => 0

/-- Global, bring-up and reset registers (R447). -/
def readGlobal (s : State) (o : Nat) : Nat :=
  let u := s.bu
  let r := s.rst
  let isOver := fun (f : Shbu → Bool) => countIf (sheaves s) fun d => f (u.shb.nth d)
  match o with
  | 0x1000 => b2n s.g.exact + fld 1 1 (b2n s.g.coord)
  | 0x1004 =>
    b2n s.g.pilot + fld 1 1 (b2n u.trained) + fld 2 1 (b2n u.berdone) + fld 3 1 (b2n u.topodone) + fld 4 1 (b2n u.caldone)
      + fld 5 1 (b2n s.g.mss) + fld 6 1 (b2n u.buerr)
  | 0x100C =>
    fld 0 7 (isOver fun x => x.link = 3) + fld 8 7 (isOver fun x => x.link = 2) + fld 16 7 (isOver fun x => x.topo = 3)
      + fld 24 7 (isOver fun x => x.cal = 3)
  | 0x1010 => fld 0 10 u.nsnsok
  | 0x1100 => fld 0 4 r.level + fld 4 8 r.target + fld 12 1 (b2n r.mode)
  | 0x1104 =>
    b2n r.run.isSome + fld 1 1 (b2n r.drainto) + fld 2 1 (b2n r.refused) + fld 3 1 (b2n r.resets.ovf) + fld 4 1 (b2n r.dto.ovf)
  | 0x1108 => fld 0 14 r.draint
  | 0x1110 => pairCnt r.resets r.dto
  | _ =>
    match slotAt o 0x1120 4 8, slotAt o 0x1200 4 93 with
    | some (k, 0), _ => (r.part.data.getD k 0).toNat
    | _, some (d, 0) =>
      let x := u.shb.nth d
      fld 0 8 (min 255 x.linkerr) + fld 8 2 x.link + fld 10 2 x.topo + fld 12 2 x.cal + fld 14 4 x.nmiss + fld 18 5 x.nbase0
    | _, _ => 0

/-- The settings record (R308, R315). -/
def readSetrec (s : State) (o : Nat) : Nat :=
  match o with
  | 0x1400 => b2n s.setrec.busy + fld 1 1 (b2n (s.g.coord && s.setrec.pkgvalid))
  | 0x1404 => s.setrec.gen
  | _ =>
    if 0x1420 ≤ o ∧ o < 0x1440 then le32 s.setrec.dig (o - 0x1420)
    else if 0x1440 ≤ o ∧ o < 0x1460 then (if s.g.coord then le32 s.setrec.pkgdig (o - 0x1440) else 0)
    else if 0x1800 ≤ o ∧ o < 0x1A70 then le32 (settingsRecord s) (o - 0x1800)
    else 0

/-- The 32 bytes of a tally entry (R209). -/
def tallyBytes (t : TallyEnt) : List Byte :=
  leBytes 4 t.tseq ++ leBytes 4 t.cseq ++ leBytes 8 t.beat ++ leBytes 8 t.iword ++ leBytes 1 t.result ++ leBytes 1 t.source
    ++ leBytes 1 t.detail ++ leBytes 1 t.lanes ++ leBytes 4 t.aux

/-- The command window and the tally (R204, R209, R211). -/
def readCmd (s : State) (o : Nat) : Nat :=
  let c := s.cmdw
  match o with
  | 0x2000 => c.seq.toNat
  | 0x2004 => c.lo.toNat
  | 0x2008 => c.hi.toNat
  | 0x2010 => (c.ext.nth 0).toNat
  | 0x2014 => (c.ext.nth 1).toNat
  | 0x2018 => (c.ext.nth 2).toNat
  | 0x201C => (c.ext.nth 3).toNat
  | 0x2024 =>
    fld 0 8 c.result + fld 8 8 c.detail + fld 16 1 (b2n c.busy) + fld 17 2 c.refuse + fld 19 1 (b2n c.refcnt.ovf)
  | 0x2028 => c.accseq
  | 0x202C => c.refcnt.n
  | 0x2030 => c.accbeat % 2 ^ 32
  | 0x2034 => c.accbeat / 2 ^ 32
  | 0x2100 =>
    s.tally.count % 1024 + fld 16 1 (b2n (decide (1024 < s.tally.count))) + fld 17 1 (b2n (decide (s.tally.count = 0)))
  | 0x2104 => ((s.tally.ents.head?.map (·.tseq)).getD 0)
  | _ =>
    match slotAt o 0x8000 32 1024 with
    | some (i, r) =>
      match s.tally.ents.find? fun t => t.tseq % 1024 = i with
      | some t => le32 (tallyBytes t) r
      | none => 0
    | none => 0

/-- DOM[d] (R59, R116, R170, R184, R293). A reserved index reads zero throughout, an absent domain everywhere but in DOM_ID (R45,
R57). While a raise waits, OPEFF reads the new operating point. DEDUCED, log 103, 104. -/
def readDom (s : State) (d o : Nat) : Nat :=
  let x := s.dom.nth d
  let p := s.sp.nth d
  let l := s.loop.dl.nth d
  let e := s.estd.nth d
  if typ d = .none then 0
  else if o = 0 then
    fld 0 7 d + fld 7 1 (b2n x.present) + fld 8 3 (typCode (typ d)) + fld 11 1 (b2n (decide (96 ≤ d))) + fld 12 6 (ord d)
      + fld 18 4 (nph d) + fld 22 4 (nsns d) + fld 26 5 (nbond d)
  else if x.present = false then 0
  else match o with
  | 0x04 => domCode x.st + fld 3 4 x.nphOk + fld 7 1 (b2n x.spareAvail) + fld 8 2 x.derate
  | 0x08 => fld 0 16 x.vmin + fld 16 16 x.vmean
  | 0x0C => s16 x.i + fld 16 16 (s16 x.ipk)
  | 0x10 => x.p
  | 0x14 => energyReg x.e
  | 0x18 => s16 x.icont + fld 16 16 (s16 x.ipeak)
  | 0x1C =>
    v16Of p.vcmd + fld 16 1 (b2n (decide (p.vcmd ≠ p.vtgt))) + fld 17 2 p.gsel + fld 19 1 (b2n p.clampHi)
      + fld 20 1 (b2n p.clampLo) + fld 24 8 (signedBits 8 (rdiv (preliftSum s d) 32000))
  | 0x20 =>
    fld 0 4 p.oppref + fld 4 4 p.opeff + fld 8 1 (b2n p.direct) + fld 9 1 (b2n p.fpend) + fld 10 1 (b2n p.idle)
      + fld 16 16 p.vop
  | 0x24 => fld 0 8 p.rise + fld 8 8 p.fall + fld 16 8 p.plhold
  | 0x28 => fld 0 11 p.zll
  | 0x2C => fld 0 16 p.fet + fld 16 6 p.feband + fld 24 1 (b2n p.feEn)
  | 0x30 => s16 l.ilim + fld 16 16 (s16 (ilimEff s d))
  | 0x34 =>
    fracBits l.f + fld 16 1 (b2n l.out) + fld 17 1 (b2n l.sat) + fld 18 4 (ceilOf s d)
      + fld 22 1 (b2n (l.derate && decide (ilimEff s d = l.icont)))
  | 0x38 =>
    if d < 93 then
      s16 e.iest + fld 16 1 (b2n e.distrust) + fld 17 1 (b2n e.term.isSome) + fld 18 1 (b2n e.valid) + fld 19 8 (min 255 e.bad)
    else 0
  | _ => 0

/-- Set-point counters, banks and B_tr (R117). -/
def readDomCnt (s : State) (o : Nat) : Nat :=
  match slotAt o 0x12000 16 128, slotAt o 0x12800 8 16, slotAt o 0x12880 4 16 with
  | some (d, r), _, _ =>
    let g := s.gw.nth d
    if present s d = false then 0
    else match r with
    | 0 => pairCnt g.sup g.rev
    | 4 => pairCnt g.defr g.stgto
    | 8 => fld 0 16 g.late.n + fld 16 16 (min 65535 g.lastLate)
    | 12 =>
      b2n g.sup.ovf + fld 1 1 (b2n g.rev.ovf) + fld 2 1 (b2n g.defr.ovf) + fld 3 1 (b2n g.stgto.ovf) + fld 4 1 (b2n g.late.ovf)
        + fld 16 1 (b2n (s.sp.nth d).feAct) + fld 17 1 (b2n g.waitAdm) + fld 18 1 (b2n g.forced) + fld 19 1 (b2n g.wrefuse)
    | _ => 0
  | _, some (m, r), _ =>
    let w := (s.bank.nth m).gated.toNat
    if r = 0 then w % 2 ^ 32 else w / 2 ^ 32
  | _, _, some (m, _) => (s.bank.nth m).wakes % 2 ^ 32
  | _, _, _ => if o = 0x12900 then fld 0 16 (cfg s 0x04 0) else 0

/-- SHF[s] (R60, R92, R142, R215). NACT, NSHED, FIRED, F and PHERR are of the last whole window, the other fields live.
DEDUCED, log 103, 107, 145. -/
def readShf (s : State) (d o : Nat) : Nat :=
  let h := s.shf.nth d
  let r := s.shr.nth d
  let m := s.mt.nth d
  let hic := fun p => decide ((s.ph.nth p).st = .hiccup)
  let bonds := upTo (nbond d) fun i => s.bond.nth (firstBond d + i)
  if 93 ≤ d then 0
  else if o = 0 then
    fld 0 7 d + fld 7 1 (b2n (present s d)) + fld 8 10 (firstPh d) + fld 18 4 (nph d) + fld 22 4 (nsns d) + fld 26 5 (nbond d)
  else if o = 4 then fld 0 11 (firstBond d) + fld 16 10 (firstSns d)
  else if present s d = false then 0
  else match o with
  | 0x08 =>
    fld 0 2 h.region + fld 2 2 (s.shw.nth d).tbandF + fld 4 1 (b2n h.lock) + fld 5 1 (b2n h.lockLim) + fld 6 1 (b2n h.skip)
      + fld 7 4 h.nactR + fld 11 4 h.nshedR + fld 15 1 (b2n h.hold) + fld 16 1 (b2n h.firedR) + fld 17 1 (b2n h.fireCnt.ovf)
      + fld 18 1 (b2n h.lockLoss.ovf)
  | 0x0C => fld 0 9 (satU16 (rdiv h.b 4000)) + fld 16 8 h.dt + fld 24 8 h.flim
  | 0x10 => fld 0 14 h.f + fld 16 7 h.pherrR + fld 23 9 h.base
  | 0x14 => signedBits 11 h.trim + fld 16 1 (b2n h.nosns) + fld 17 1 (b2n h.tsat)
  | 0x18 => fld 0 6 h.uf + fld 6 1 (b2n h.skipEn) + fld 7 1 (b2n h.shedEn) + fld 8 2 h.kt + fld 10 1 (b2n h.rampEn)
  | 0x1C => pairCnt h.fireCnt h.lockLoss
  | 0x20 => s16 r.devmax + fld 16 1 (b2n r.shareDev)
  | 0x24 => fld 0 8 r.nhic + fld 8 8 r.th + fld 16 7 r.ilim
  | 0x28 =>
    b2n (r.dhic && !r.soft) + fld 1 4 r.retry + fld 5 1 (b2n r.latch) + fld 8 6 (countIf (phasesOf d) hic) + fld 14 1 (b2n r.dhiccnt.ovf)
      + fld 16 16 r.dhiccnt.n
  | 0x2C =>
    fld 0 10 r.lastph + fld 10 3 r.lastcause + fld 13 2 r.ladder + fld 15 1 (b2n r.trisk) + fld 16 1 (b2n r.nospare)
  | 0x30 => fld 0 16 r.fbond + fld 16 5 (countIf bonds (·.anom)) + fld 21 5 (countIf bonds (·.severe))
  | 0x34 => le32 (m.dig.getD []) 0
  | 0x38 =>
    fld 0 2 m.st + fld 2 6 m.lastpkt + fld 8 2 m.rounds + fld 10 1 (b2n m.crcerr.ovf) + fld 11 1 (b2n m.nacks.ovf)
  | 0x3C => pairCnt m.crcerr m.nacks
  | _ =>
    match slotAt o 0x40 4 (nsns d), slotAt o 0x80 4 (nbond d), slotAt o 0xC0 4 (nbond d) with
    | some (k, _), _, _ =>
      let x := s.sns.nth (firstSns d + k)
      fld 0 16 x.v + fld 16 1 (b2n x.excl) + fld 17 1 (b2n x.impl)
    | _, some (g, _), _ =>
      let x := s.bond.nth (firstBond d + g)
      fld 0 16 x.znow + fld 16 1 (b2n x.anom) + fld 17 1 (b2n x.severe)
    | _, _, some (g, _) => fld 0 16 (s.bond.nth (firstBond d + g)).zbase
    | _, _, _ => 0

/-- SWREF and the gleaner (R93, R144). -/
def readSwref (s : State) (o : Nat) : Nat :=
  let w := s.swref
  let g := s.gln
  let derated := fun d =>
    let r := s.shr.nth d
    present s d && (decide (r.ladder = 1 ∨ r.ladder = 2) || decide (r.fbond < 0xFFFF))
  match o with
  | 0x28000 => w.src + fld 1 1 (b2n w.outEn)
  | 0x28004 => w.srcAct + fld 1 1 (b2n w.syncOk) + fld 2 1 (b2n w.fallbk) + fld 16 12 w.fsync
  | 0x28100 => b2n g.phEn + fld 1 1 (b2n g.snsEn) + fld 2 1 (b2n g.bondEn) + fld 3 1 (b2n g.sptEn)
  | 0x28104 => fld 0 6 g.snsdev + fld 8 6 g.anom + fld 16 8 g.severe + fld 24 6 g.step
  | 0x28108 =>
    fld 0 7 (countIf sheafIdx fun d => present s d && (s.shr.nth d).nospare) + fld 8 7 (countIf sheafIdx derated)
      + fld 16 7 (countIf allDoms fun d => domSt s d = .dark)
  | 0x2810C => g.sweeps % 2 ^ 32
  | _ => 0

/-- PH[p] (R61, R143). DEDUCED, log 103. -/
def readPh (s : State) (p o : Nat) : Nat :=
  let x := s.ph.nth p
  let d := phDom p
  match o with
  | 0x0 =>
    fld 0 7 d + fld 7 4 (phPos p) + fld 11 1 (b2n (decide (p = sparePh d))) + fld 12 3 (phCode x.st) + fld 15 1 (b2n x.ilimAct)
  | 0x4 => if x.st = .absent then 0 else s16 x.i + fld 16 16 (s16 x.ipk)
  | 0x8 =>
    if x.st = .absent then 0
    else fld 2 3 x.xcause + fld 5 1 (b2n x.suspect) + fld 8 1 (b2n x.limwin.ovf) + fld 9 1 (b2n x.hiccnt.ovf)
      + fld 10 1 (b2n x.exclcnt.ovf)
  | 0xC => if x.st = .absent then 0 else fld 0 16 x.limwin.n + fld 16 8 x.hiccnt.n + fld 24 8 x.exclcnt.n
  | _ => 0

/-- Half of a 64-bit number. -/
def half (hi : Bool) (x : Nat) : Nat := if hi then x / 2 ^ 32 % 2 ^ 32 else x % 2 ^ 32

/-- The sequencer (R191, R217). -/
def readSeq (s : State) (o : Nat) : Nat :=
  let q := s.seqr
  match o with
  | 0x4E000 => fld 0 3 q.page
  | 0x4E004 =>
    b2n q.admitted + fld 1 1 (b2n (armed s)) + fld 2 2 q.mode + fld 4 1 (b2n q.spcviol.ovf) + fld 5 1 (b2n q.late2.ovf)
      + fld 6 1 (b2n q.tmwig.ovf)
  | 0x4E008 => fld 0 8 q.admerr
  | 0x4E010 => half false q.base
  | 0x4E014 => half true q.base
  | 0x4E060 =>
    fld 0 7 (countIf (sheaves s) fun d => s.mts.committed.isSome && decide ((s.mt.nth d).dig = s.mts.committed))
      + fld 8 7 (countIf (sheaves s) fun d => (s.mt.nth d).st = 3)
  | 0x4E070 => half false q.late
  | 0x4E074 => half true q.late
  | 0x4E078 => q.late2.n
  | 0x4E07C => q.spcviol.n
  | 0x4E080 => half false q.absentAct
  | 0x4E084 => half true q.absentAct
  | 0x4E088 => q.tmwig.n
  | _ =>
    if 0x4E020 ≤ o ∧ o < 0x4E040 then le32 q.tdig (o - 0x4E020)
    else if 0x4E040 ≤ o ∧ o < 0x4E060 then le32 (s.mts.committed.getD []) (o - 0x4E040)
    else match slotAt o 0x4E100 16 8 with
    | none => 0
    | some (i, r) =>
      match s.lane.data[i]? with
      | none => 0
      | some l =>
        match r with
        | 0 => fld 0 3 (laneCode l.st) + fld 3 3 l.cause + fld 6 1 (b2n l.ovr.ovf) + fld 8 8 (min 255 l.lag) + fld 16 15 l.pc
        | 4 => fld 0 8 l.actmax
        | 8 => l.ovr.n
        | _ => 0

/-- SEQ_BEAT; in freeze it holds the freeze beat (R166, R392). -/
def beatReg (s : State) : Nat := if s.dbg.active then s.dbg.beat else s.time.beat

/-- Time and notice (R166). -/
def readTime (s : State) (o : Nat) : Nat :=
  let t := s.time
  let g := s.seg
  let n := s.ntc
  match o with
  | 0x4F000 => half false (beatReg s)
  | 0x4F004 => half true (beatReg s)
  | 0x4F008 =>
    b2n t.valid + fld 1 1 (b2n t.aligned) + fld 2 1 (b2n t.slip) + fld 3 1 (b2n t.refloss) + fld 4 1 (b2n t.aloss)
      + fld 5 1 (b2n t.slips.ovf)
  | 0x4F00C => t.slips.n
  | 0x4F010 => fld 0 16 g.segid + fld 16 1 (b2n g.gran) + fld 17 1 (b2n g.opened)
  | 0x4F014 => g.slack % 2 ^ 32
  | 0x4F018 => half false g.beat
  | 0x4F01C => half true g.beat
  | 0x4F020 => half false g.arrBeat
  | 0x4F024 => half true g.arrBeat
  | 0x4F028 => signedBits 32 g.arrSlack
  | 0x4F030 => fld 0 16 n.horizon + fld 16 8 n.latewin + fld 24 8 n.stepth
  | 0x4F040 => n.npen.toNat % 2 ^ 32
  | 0x4F044 => n.npen.toNat / 2 ^ 32 % 2 ^ 32
  | 0x4F048 => n.npen.toNat / 2 ^ 64 % 2 ^ 32
  | 0x4F04C => n.npen.toNat / 2 ^ 96
  | 0x4F050 => half false n.acc
  | 0x4F054 => half true n.acc
  | 0x4F058 => pairCnt n.late n.stale
  | 0x4F05C => pairCnt n.bad n.full
  | 0x4F060 => b2n n.late.ovf + fld 1 1 (b2n n.stale.ovf) + fld 2 1 (b2n n.bad.ovf) + fld 3 1 (b2n n.full.ovf)
  | 0x4F068 => half false s.sg.wait
  | 0x4F06C => half true s.sg.wait
  | 0x4F070 => fld 0 5 s.sg.rate + fld 8 1 (b2n (s.sg.rels.any fun r => decide (beatReg s < relEnd r)))
  | _ =>
    match slotAt o 0x4F100 4 128 with
    | none => 0
    | some (d, _) =>
      let x := s.nd.nth d
      if present s d then
        b2n x.cov + fld 1 1 (b2n x.unann.ovf) + fld 2 1 (b2n x.contra.ovf) + fld 16 8 x.unann.n + fld 24 8 x.contra.n
      else 0

/-- Exact mode and save (R314). -/
def readExact (s : State) (o : Nat) : Nat :=
  let x := s.exa
  match o with
  | 0x4F400 => fld 0 12 x.lead + fld 16 10 x.stallmin
  | 0x4F404 =>
    b2n s.g.exact + fld 1 1 (b2n (triskNow s)) + fld 2 1 (b2n x.void) + fld 3 1 (b2n x.overrun) + fld 4 1 (b2n x.stlate)
      + fld 5 1 (b2n x.noreq) + fld 6 1 (b2n x.debtSat) + fld 8 1 (b2n x.stalls.ovf) + fld 9 1 (b2n x.req.ovf)
      + fld 10 1 (b2n x.pevt.ovf) + fld 11 1 (b2n x.ovr.ovf)
  | 0x4F408 => satU32 (dieDebt s)
  | 0x4F40C => satU32 (covered s)
  | 0x4F410 => half false ((x.pend.head?.map (·.t)).getD 0)
  | 0x4F414 => half true ((x.pend.head?.map (·.t)).getD 0)
  | 0x4F418 => fld 0 16 ((x.pend.head?.map (·.n)).getD 0)
  | 0x4F420 => pairCnt x.stalls x.req
  | 0x4F428 => half false x.stbeats
  | 0x4F42C => half true x.stbeats
  | 0x4F430 => pairCnt x.pevt x.ovr
  | 0x4F440 => half false x.svaddr
  | 0x4F444 => half true x.svaddr
  | 0x4F448 => fld 0 3 x.svst + fld 3 1 (b2n x.hicdrop) + fld 4 1 (b2n x.resumed)
  | 0x4F450 => half false x.svbeat
  | 0x4F454 => half true x.svbeat
  | _ =>
    match slotAt o 0x4F800 4 128 with
    | some (d, _) => if present s d then x.dd.nth d else 0
    | none => 0

/-- Loops (R292, R294). The coordinator's registers read zero in the other instances. -/
def readLoop (s : State) (o : Nat) : Nat :=
  let l := s.loop
  let b := l.bud
  let co := fun x => if s.g.coord then x else 0
  match o with
  | 0x50000 =>
    b2n l.capEn + fld 1 1 (b2n l.budEn) + fld 2 1 (b2n l.dieiEn) + fld 3 1 (b2n l.domiEn) + fld 4 1 (b2n l.thermEn)
      + fld 5 1 (b2n l.ceilEn) + fld 6 1 (b2n l.advEn)
  | 0x50004 => loopSat s
  | 0x50010 => co (fld 0 12 l.cap + fld 16 5 (l.tavgNext.getD l.tavg))
  | 0x50014 => co (satU32 l.capavg)
  | 0x50018 => fracBits l.fcap + fld 16 16 (fracBits l.fbud)
  | 0x50020 => co (fracBits (l.share.nth 0))
  | 0x50024 => co (fracBits (l.share.nth 1))
  | 0x50028 => co (fracBits (l.share.nth 2))
  | 0x5002C => co (fracBits (l.share.nth 3))
  | 0x50030 => fld 0 2 b.mode + fld 2 6 b.fe + fld 8 12 (cfg s 0x05 0) + fld 20 12 b.fet
  | 0x50034 =>
    fld 0 12 b.pbud + fld 12 1 (b2n b.valid) + fld 13 1 (b2n b.lost) + fld 14 1 (b2n b.feAct) + fld 16 10 b.duty
  | 0x50038 => co (satU32 b.avg)
  | 0x50040 => fld 0 16 l.dieLim + fld 16 16 l.dieEff
  | 0x50044 => signedBits 32 (satI32 l.dieAvg)
  | 0x50048 => fracBits l.fdie
  | 0x50180 => fld 0 16 (cfg s 0x07 0) + fld 16 8 (cfg s 0x08 0) + fld 24 8 (cfg s 0x09 0)
  | 0x50184 => fld 0 4 (cfg s 0x0A 0) + fld 4 4 (cfg s 0x0A 1) + fld 8 4 (cfg s 0x0A 2)
  | 0x50188 => fld 0 4 l.ceilC + fld 4 4 l.ceilA + fld 8 4 l.ceilL
  | 0x5018C => fld 0 6 l.prio
  | _ =>
    match slotAt o 0x50100 16 5, slotAt o 0x50200 4 8, slotAt o 0x50220 4 8, slotAt o 0x50400 4 64, slotAt o 0x50600 8 64 with
    | some (k, r), _, _, _, _ =>
      if r = 0 then fld 0 16 (cfg s 0x10 k) + fld 16 16 (cfg s 0x11 k)
      else if r = 4 then fld 0 16 (cfg s 0x12 k) + fld 16 16 (cfg s 0x13 k)
      else if r = 8 then fld 0 16 (cfg s 0x14 k)
      else 0
    | _, some (c, _), _, _, _ =>
      let t := l.tl.nth c
      fracBits t.f + fld 16 2 (clockDiv t.f) + fld 18 7 (clockFactor t.f) + fld 25 1 (b2n t.sat)
    | _, _, some (c, _), _, _ => s16 (l.tl.nth c).t
    | _, _, _, some (d, _), _ =>
      let c := l.core.nth d
      if present s d then fracBits c.fsel + fld 16 4 c.reason + fld 20 9 c.kept else 0
    | _, _, _, _, some (d, r) => if present s d then half (decide (r = 4)) (l.lost.nth d) else 0
    | _, _, _, _, _ =>
      match slotAt o 0x51000 8 9, slotAt o 0x52000 128 64 with
      | some (k, r), _ => half (decide (r = 4)) (l.tdie.data.getD k 0)
      | _, some (d, r) =>
        match l.tcore.data[d]? with
        | some t => if r < 72 ∧ present s d then half (decide (r % 8 = 4)) (t.data.getD (r / 8) 0) else 0
        | none => 0
      | _, _ => 0

/-- The estimator (R185). DEDUCED, log 93. -/
def readEst (s : State) (o : Nat) : Nat :=
  let e := s.est
  match o with
  | 0x60000 => b2n e.ffEn + fld 1 1 (b2n e.witEn)
  | 0x60004 =>
    b2n e.img.isSome + fld 1 1 (b2n e.busy) + fld 2 1 (b2n s.g.exact) + fld 3 1 (b2n e.distr.ovf) + fld 4 1 (b2n e.sats.ovf)
      + fld 8 4 e.lasterr + fld 16 7 e.ndistr
  | 0x60008 => fld 0 8 (cfg s 0x0B 0) + fld 16 12 (cfg s 0x0C 0)
  | 0x60048 => half false e.evals
  | 0x6004C => half true e.evals
  | 0x60050 => half false e.ffcnt
  | 0x60054 => half true e.ffcnt
  | 0x60058 => pairCnt e.distr e.sats
  | _ =>
    if 0x60020 ≤ o ∧ o < 0x60040 then le32 e.digest (o - 0x60020)
    else match slotAt o 0x60010 4 4, slotAt o 0x60100 4 93 with
    | some (c, _), _ => fld 0 8 (cfg s 0x30 c) + fld 8 8 (cfg s 0x31 c) + fld 16 8 (cfg s 0x32 c)
    | _, some (d, _) => if present s d then s16 (s.estd.nth d).gain + fld 16 16 (s16 (s.estd.nth d).offset) else 0
    | _, _ => if 0x68000 ≤ o ∧ o < 0x69000 then (Memory.word s.mem.estmem (o - 0x68000)).toNat else 0

/-- Telemetry (R295). -/
def readTel (s : State) (o : Nat) : Nat :=
  let t := s.tel
  match o with
  | 0x70000 => b2n t.en + fld 1 1 (b2n t.want)
  | 0x70004 => b2n t.buserr + fld 1 1 (b2n t.lost.ovf) + fld 2 1 (b2n (!t.tags.isEmpty))
  | 0x70008 => half false t.base
  | 0x7000C => half true t.base
  | 0x70010 => fld 0 5 t.log
  | 0x70014 => fld 0 16 t.wr
  | 0x70018 => fld 0 16 t.rd
  | 0x7001C => fld 0 16 ((t.tags.getLast?.map (·.1)).getD 0)
  | 0x70020 => t.rseq % 2 ^ 32
  | 0x70024 => t.lost.n
  | _ => 0

/-- Protection (R373). -/
def readProt (s : State) (o : Nat) : Nat :=
  let p := s.prot
  match o with
  | 0x80000 => fld 0 8 p.ovm + fld 8 8 p.uvm + fld 16 8 p.uvt + fld 24 7 p.drt
  | 0x80004 => if s.g.coord then fld 0 10 p.vinlo + fld 10 10 p.vindip + fld 20 10 p.vinhi else 0
  | 0x80008 =>
    b2n p.coolant + fld 1 1 (b2n p.flow) + fld 2 1 (b2n p.shutdn) + fld 3 1 (b2n (s.g.coord && vinHold s)) + fld 4 1 (b2n p.vbkill)
      + fld 5 1 (b2n p.warn) + fld 6 1 (b2n (s.g.coord && p.iinovr))
  | 0x8000C => s16 p.tmax + fld 16 8 (min 255 p.nfail)
  | _ =>
    match slotAt o 0x80100 4 128, slotAt o 0x80300 4 128, slotAt o 0x80500 4 128 with
    | some (d, _), _, _ =>
      let x := s.pd.nth d
      if present s d then
        fld 0 2 x.band + fld 2 1 (b2n x.ovact) + fld 3 1 (b2n x.ovlatch) + fld 4 1 (b2n x.uvact) + fld 5 1 (b2n x.ocact)
          + fld 6 1 (b2n x.ovcnt.ovf) + fld 7 1 (b2n x.uvcnt.ovf)
      else 0
    | _, some (d, _), _ => if present s d then pairCnt (s.pd.nth d).ovcnt (s.pd.nth d).uvcnt else 0
    | _, _, some (d, _) => if present s d then (s.pd.nth d).drp % 2 ^ 32 else 0
    | _, _, _ => 0

/-- The 16 bytes of a history entry (R380). -/
def histBytes (h : HistEnt) : List Byte :=
  leBytes 8 h.beat ++ leBytes 4 h.mask.toNat ++ leBytes 2 h.subj
    ++ leBytes 1 (h.src + 32 * b2n h.inj + 64 * b2n h.masked + 128 * b2n h.silo) ++ leBytes 1 h.merge

/-- Fault block `b`, and its register `o` (R396). -/
def readFlt (s : State) (b o : Nat) : Nat :=
  match s.flt.data[b]? with
  | none => 0
  | some f =>
    match o with
    | 0x00 => f.stat.toNat
    | 0x04 => (rawWord s b).toNat
    | 0x08 => f.mask.toNat
    | 0x0C => b2n f.handling + fld 3 1 (b2n f.trapped)
    | 0x20 => f.next + fld 4 1 (b2n f.wrapped) + fld 5 1 (b2n f.empty) + fld 16 16 f.hcnt
    | _ =>
      match slotAt o 0x10 4 4, slotAt o 0x40 16 16 with
      | some (i, _), _ => (upTo 8 fun j => fld (4 * j) 4 (f.react.nth (8 * i + j))).foldl (· + ·) 0
      | _, some (i, r) => le32 (histBytes (f.hist.nth i)) r
      | _, _ => 0

/-- Error pin and silo (R398). -/
def readSilo (s : State) (o : Nat) : Nat :=
  let p := s.fpin
  let q := s.silo
  let n := s.mem.siloRecs.length
  match o with
  | 0x83000 => fld 0 9 p.width + fld 16 1 (b2n p.hold) + fld 17 1 (b2n (pinDrive s)) + fld 24 4 p.lastBlk
  | 0x83004 => fld 0 5 p.lastSrc
  | 0x83008 => p.pulses % 2 ^ 32
  | 0x84000 =>
    fld 0 13 n + fld 13 1 (b2n (decide (4096 ≤ n))) + fld 14 1 (b2n (!q.wait.isEmpty)) + fld 16 6 q.ovnext
      + fld 22 1 (b2n q.drop.ovf) + fld 23 1 (b2n q.supp.ovf)
  | 0x84004 => fld 0 6 q.page
  | 0x84008 => q.drop.n
  | 0x8400C => q.supp.n
  | 0x84010 => q.ovwr % 2 ^ 32
  | _ =>
    match slotAt o 0x88000 64 64, slotAt o 0x89000 64 64 with
    | some (i, r), _ => le32 (s.mem.siloRecs.getD (64 * q.page + i) []) r
    | _, some (i, r) => le32 (q.ring.data.getD i []) r
    | _, _ => 0

/-- Sideband and granary (R344). DEDUCED, log 93. -/
def readSide (s : State) (o : Nat) : Nat :=
  let x := s.side
  let g := x.gran
  let co := fun v => if s.g.coord then v else 0
  match o with
  | 0x90000 => b2n x.en + fld 1 6 x.jobtag + fld 7 1 (b2n x.root) + fld 8 12 x.ord + fld 20 4 x.diam
  | 0x90004 => fld 0 13 x.ninst + fld 16 11 x.npkg
  | 0x90008 => b2n x.bad.ovf + fld 1 1 (b2n x.qfull.ovf)
  | 0x90060 => pairCnt x.bad x.qfull
  | 0x90080 =>
    b2n (x.barPend && !x.barPass) + fld 1 1 (b2n x.barPass) + fld 2 1 (b2n x.barFail)
      + fld 4 12 (if x.root then min 4095 x.nmiss else 0)
  | 0x90084 => fld 0 16 x.bdec
  | 0x90304 => fld 0 3 x.dist.st + fld 3 1 (b2n x.dist.err) + fld 4 4 x.dist.rounds
  | 0x90308 => fld 0 16 x.dist.id
  | 0x9030C => fld 0 11 (heldCount x.dist.held) + fld 16 11 x.dist.npkt
  | 0x91000 => fld 0 2 g.policy + co (fld 2 1 (b2n g.pkgEn) + fld 3 1 (b2n g.flat))
  | 0x91004 => co (fld 0 16 (granNom s))
  | 0x91008 => co (fld 0 16 g.rdly + fld 16 16 g.db)
  | 0x9100C => co (fld 0 16 g.gwin)
  | 0x91010 => co (fld 0 16 g.hold + fld 16 16 g.ceff)
  | 0x91014 =>
    co (fld 0 16 g.exid + fld 16 12 g.nrep + fld 28 1 (b2n g.diverge) + fld 29 1 (b2n g.skip) + fld 30 1 (b2n g.div.ovf))
  | 0x91018 => co (g.exch % 2 ^ 32)
  | 0x9101C => co (fld 0 16 g.div.n)
  | _ =>
    match slotAt o 0x90010 4 19, slotAt o 0x90100 4 128 with
    | some (k, _), _ =>
      let p := x.port.nth k
      b2n p.en + fld 1 2 p.tree + fld 4 12 p.lo + fld 16 12 p.hi
    | _, some (n, _) => if x.root then x.abmap.toNat / 2 ^ (32 * n) % 2 ^ 32 else 0
    | _, _ => 0

/-- EPP, bus modules and the package input (R32, R33, R42). -/
def readPower (s : State) (o : Nat) : Nat :=
  let co := fun v => if s.g.coord then v else 0
  match slotAt o 0xA0000 0x40 16, slotAt o 0xB0000 0x40 4 with
  | some (c, r), _ =>
    let e := s.epp.nth c
    match r with
    | 0x00 => b2n e.en + fld 1 7 e.div + fld 8 2 e.slot + fld 10 2 (c / 4)
    | 0x04 =>
      eppCode s c + fld 2 1 (b2n e.tflt) + fld 3 1 (b2n e.shareDev) + fld 4 1 (b2n e.lim.ovf) + fld 5 1 (b2n e.flt.ovf)
    | 0x08 => s16 e.isns
    | 0x0C => s16 e.temp
    | 0x10 => s16 e.ilim
    | 0x14 => pairCnt e.lim e.flt
    | _ => 0
  | _, some (m, r) =>
    let b := s.bm.nth m
    match r with
    | 0x00 => fld 0 2 b.mode + fld 2 2 b.slot
    | 0x04 =>
      bmCode b.st + fld 3 1 (b2n b.ilimAct) + fld 4 1 (b2n b.ovl) + fld 8 4 b.cause + fld 12 1 (b2n b.trips.ovf)
    | 0x08 => fld 0 16 b.vb
    | 0x0C => s16 b.iout
    | 0x10 => b.pout
    | 0x14 => s16 b.temp
    | 0x18 => s16 b.ilim
    | 0x1C => b.trips.n
    | _ => 0
  | _, _ =>
    match o with
    | 0xB0100 => co (fld 0 16 s.inp.vin)
    | 0xB0104 => co (s16 s.inp.iin)
    | 0xB0108 => co s.inp.pin
    | 0xB010C => co (fld 0 16 s.inp.vinMin)
    | 0xB0110 => co (fld 0 16 s.inp.vinMax)
    | _ => 0

/-- The meter mirror (R421). -/
def readMtrm (s : State) (o : Nat) : Nat :=
  let x := s.mtrm
  let co := fun v => if s.g.coord then v else 0
  match o with
  | 0xC0000 => b2n x.stream + fld 1 1 (b2n x.cont) + fld 2 1 (b2n x.align) + fld 3 1 (b2n x.syncExp) + fld 4 1 (b2n x.bufEn)
  | 0xC0004 =>
    b2n x.link + fld 1 11 (le16 x.last 4) + fld 12 1 (b2n x.nverr) + fld 13 1 (b2n x.buserr) + fld 14 1 (b2n x.lost.ovf)
      + fld 15 1 (b2n x.bad.ovf)
  | 0xC0008 => fld 0 3 x.ch + fld 3 1 (b2n x.urgent) + fld 5 2 x.reqSt
  | 0xC000C => x.res % 2 ^ 32
  | 0xC0010 => le32 x.last 0
  | 0xC0018 => le32 x.last 32
  | 0xC001C => le32 x.last 36
  | 0xC0020 => le32 x.last 40
  | 0xC0024 => le32 x.last 44
  | 0xC0028 => le32 x.last 28
  | 0xC0080 => co (half false x.base)
  | 0xC0084 => co (half true x.base)
  | 0xC0088 => co (fld 0 5 x.log)
  | 0xC008C => co (fld 0 16 x.wr)
  | 0xC0090 => co (fld 0 16 x.rd)
  | 0xC00A0 => pairCnt x.lost x.bad
  | _ => if 0xC0030 ≤ o ∧ o < 0xC0060 then le32 x.last (o - 0xC0030) else 0

/-- The plan fields that may lie at byte `o` of an image (R347). -/
def fieldsNear (o : Nat) : List (Nat × Nat) :=
  if o < 0x40 then []
  else if o < 0x60 then (upTo 13 fun f => upTo 3 fun i => (f + 1, i)).flatten
  else if o < 0x100 then upTo 5 fun f => (0x10 + f, (o - 0x60) / 10)
  else if o < 0x140 then upTo 7 fun f => (0x20 + f, (o - 0x100) / 16)
  else if o < 0x160 then upTo 4 fun f => (0x28 + f, (o - 0x140) / 8)
  else if o < 0x180 then upTo 3 fun f => (0x30 + f, (o - 0x160) / 4)
  else if o < 0x200 then [(0x38, (o - 0x180) / 2)]
  else if o < 0xA00 then upTo 8 fun f => (0x40 + f, (o - 0x200) / 16)
  else upTo 2 fun f => (0x50 + f, (o - 0xA00) / 4)

/-- Byte `o` of the plan defaults, laid out as an image (R347). DESIGN CHOICE, log 13. -/
def planDefByte (o : Nat) : Nat :=
  if o < 0x40 then (Config.planHead o).toNat
  else
    let hit := (fieldsNear o).find? fun f =>
      match fldPlace f.1 f.2 with
      | some (p, w) => decide (p ≤ o ∧ o < p + w)
      | none => false
    match hit with
    | some f => match fldPlace f.1 f.2 with
      | some (p, _) => fldDef f.1 f.2 / 256 ^ (o - p) % 256
      | none => 0
    | none => 0

/-- Plan and overlays (R355). -/
def readPlan (s : State) (o : Nat) : Nat :=
  let p := s.plan
  match o with
  | 0xD0000 =>
    b2n p.loaded + fld 1 1 (b2n (p.next.isSome || p.nextOvl.isSome)) + fld 8 8 p.lasterr
      + fld 16 5 ((p.inforce.map (·.val)).getD 31)
  | 0xD0010 => p.sw % 2 ^ 32
  | _ =>
    if 0xD4000 ≤ o ∧ o < 0xD6A00 then
      match p.act with
      | some img => le32 img (o - 0xD4000)
      | none => (upTo 4 fun i => planDefByte (o - 0xD4000 + i) * 256 ^ i).foldl (· + ·) 0
    else if 0xD8000 ≤ o ∧ o < 0xDB000 then (Memory.word s.mem.planmem (o - 0xD8000)).toNat
    else match slotAt o 0xD0040 4 16 with
    | some (k, _) => b2n (p.slots.nth k).valid + fld 8 7 (p.slots.nth k).npair
    | none => 0

/-- Debug and freeze (R399). -/
def readDbg (s : State) (o : Nat) : Nat :=
  let d := s.dbg
  match o with
  | 0xF0000 =>
    b2n d.req + fld 1 1 (b2n d.pin) + fld 2 1 (b2n d.active) + fld 3 1 (b2n d.imgrdy) + fld 4 1 (b2n d.cnt.ovf)
  | 0xF0004 => d.cnt.n
  | 0xF0008 => half false d.beat
  | 0xF000C => half true d.beat
  | 0xF0040 => fld 0 2 d.mode + fld 2 4 d.blk + fld 6 5 d.src + fld 11 1 (b2n d.silo)
  | 0xF0044 => fld 0 16 d.subj + fld 16 8 d.arg + fld 24 8 d.holdt
  | _ =>
    if 0xF1000 ≤ o ∧ o < 0xF3B50 then le32 d.img (o - 0xF1000)
    else match slotAt o 0xF4000 64 93 with
    | some (i, r) => le32 (d.snap.data.getD i []) r
    | none => 0

/-- The register at offset `o` (R470 to R476). What the tables do not list reads zero (R12). -/
def readWord (s : State) (o : Nat) : Nat :=
  if o % 4 ≠ 0 then 0
  else if o < 0x1000 then readId s o
  else if o < 0x1400 then readGlobal s o
  else if o < 0x2000 then readSetrec s o
  else if o < 0x10000 then readCmd s o
  else if o < 0x12000 then readDom s ((o - 0x10000) / 64) (o % 64)
  else if o < 0x20000 then readDomCnt s o
  else if o < 0x26000 then readShf s ((o - 0x20000) / 256) (o % 256)
  else if o < 0x30000 then readSwref s o
  else if o < 0x32D00 then readPh s ((o - 0x30000) / 16) (o % 16)
  else if o < 0x40000 then 0
  else if o < 0x48000 then (Memory.word s.mem.tmem (32768 * s.seqr.page + (o - 0x40000))).toNat
  else if o < 0x4C000 then (Memory.word s.mem.mtimg (o - 0x48000)).toNat
  else if o < 0x4F000 then readSeq s o
  else if o < 0x4F400 then readTime s o
  else if o < 0x50000 then readExact s o
  else if o < 0x60000 then readLoop s o
  else if o < 0x70000 then readEst s o
  else if o < 0x80000 then readTel s o
  else if o < 0x81000 then readProt s o
  else if o < 0x83000 then
    (if (o - 0x81000) / 0x200 < 10 then readFlt s ((o - 0x81000) / 0x200) ((o - 0x81000) % 0x200) else 0)
  else if o < 0x90000 then readSilo s o
  else if o < 0xA0000 then readSide s o
  else if o < 0xC0000 then readPower s o
  else if o < 0xD0000 then readMtrm s o
  else if o < 0xE0000 then readPlan s o
  else if o < 0xF0000 then 0
  else readDbg s o

/-- The offsets of _LO registers outside the indexed families (R471 to R476). -/
def loneLo : List Nat :=
  [0x18, 0x2004, 0x2030, 0x4E010, 0x4E070, 0x4E080, 0x4F000, 0x4F018, 0x4F020, 0x4F050, 0x4F068, 0x4F410, 0x4F428, 0x4F440,
   0x4F450, 0x60048, 0x60050, 0x70008, 0xC0018, 0xC0020, 0xC0080, 0xF0008]

/-- The register at `o` is the _LO of a 64-bit quantity (R11, R380). DEDUCED, log 114. -/
def isLo (o : Nat) : Bool :=
  loneLo.contains o || (slotAt o 0x12800 8 16).any (fun x => x.2 = 0) || (slotAt o 0x50600 8 64).any (fun x => x.2 = 0)
    || (slotAt o 0x51000 8 9).any (fun x => x.2 = 0)
    || (slotAt o 0x52000 128 64).any (fun x => decide (x.2 < 72 ∧ x.2 % 8 = 0))
    || (slotAt o 0x81000 0x200 10).any (fun x => (slotAt x.2 0x40 16 16).any fun y => y.2 = 0)

/-- The register at `o` is the _HI of a 64-bit quantity. DEDUCED, log 114. -/
def isHi (o : Nat) : Bool := decide (4 ≤ o) && isLo (o - 4)

end Sys2Proof.Machine
end

