-- ==== Sys2Proof/Machine/RegWrite.lean ====
section
/-! DEFINITION. What a write of every register does (R9, R12, R14, and the field tables of the chapters). A field that has a row
of its own among the commands acts as that row. -/

namespace Sys2Proof.Machine

/-- The state after a row that always answers one. -/
def after (s : State) (f : State → Out) : State :=
  match f s with
  | .next t => t
  | _ => s

/-- The row, where the bit is written 1. -/
def whenBit (v i : Nat) (f : State → Out) (s : State) : State := if bitOf v i then after s f else s

def setIf (c : Bool) (f : State → State) (s : State) : State := if c then f s else s

/-- A field of `w` bits from bit `lo`, clamped (R9). -/
def clamped (v lo w a b : Nat) : Nat := clampNat a b (bits v lo w)

/-- RST_CTL, RST_STAT, RST_DRAIN and RST_PART; a GO with a reserved LEVEL is refused (R435, R447). DEDUCED, log 112. -/
def writeRst (s : State) (o v : Nat) : State :=
  match o with
  | 0x1100 =>
    let s := modRst s fun r => { r with level := bits v 0 4, target := bits v 4 8, mode := bitOf v 12 }
    if bitOf v 31 then
      if bits v 0 4 ≤ 7 then resetRequest s (bits v 0 4) (bits v 4 8) (bitOf v 12) else rstRefuse s
    else s
  | 0x1104 =>
    whenBit v 31 execRstClrcnt
      (modRst s fun r => { r with drainto := r.drainto && !bitOf v 1, refused := r.refused && !bitOf v 2 })
  | 0x1108 => modRst s fun r => { r with draint := clamped v 0 14 1 10000 }
  | _ =>
    match slotAt o 0x1120 4 8 with
    | some (k, _) => modRst s fun r => { r with part := r.part.modN k fun _ => BitVec.ofNat 8 v }
    | none => s

/-- Global control and bring-up (R431, R447); a write of COORD brings the role from its holder at the next window end.
DEDUCED, log 95. -/
def writeGlobal (s : State) (o v : Nat) : State :=
  match o with
  | 0x1000 => setIf (bitOf v 1 && s.g.mss && !s.g.coord) (fun s => { s with g := { s.g with coordReq := true } }) s
  | 0x1004 => modBu s fun b => { b with buerr := b.buerr && !bitOf v 6 }
  | 0x1008 => whenBit v 3 execCal (whenBit v 2 execTopo (whenBit v 1 execBer (whenBit v 0 execTrain s)))
  | _ => writeRst s o v

/-- The command window (R204, R205). -/
def writeCmd (s : State) (o v : Nat) : State :=
  let ext := fun (k : Nat) => { s with cmdw := { s.cmdw with ext := s.cmdw.ext.modN k fun _ => BitVec.ofNat 32 v } }
  match o with
  | 0x2000 => { s with cmdw := { s.cmdw with seq := BitVec.ofNat 32 v } }
  | 0x2010 => ext 0
  | 0x2014 => ext 1
  | 0x2018 => ext 2
  | 0x201C => ext 3
  | 0x2020 => whenBit v 0 execCommandGo s
  | 0x2024 => whenBit v 31 execCmdwClrcnt s
  | _ => s

/-- DOM_FE and DOM_SPSTAT of a present domain (R116, R117). DEDUCED, log 103. -/
def writeDomReg (s : State) (o v : Nat) : State :=
  match slotAt o 0x10000 64 128, slotAt o 0x12000 16 128 with
  | some (d, 0x2C), _ =>
    if present s d then modSp s d fun p => { p with
      fet := clamped v 0 16 50 10000, feband := clamped v 16 6 5 60, feEn := bitOf v 24 }
    else s
  | _, some (d, 0xC) =>
    if h : d < 128 then
      if present s d then
        whenBit v 31 (execDomSpstatClrcnt ⟨d, h⟩)
          (modGw s d fun g => { g with forced := g.forced && !bitOf v 18, wrefuse := g.wrefuse && !bitOf v 19 })
      else s
    else s
  | _, _ => s

/-- SHF[s] of a present sheaf (R92, R142, R215). -/
def writeShf (s : State) (d o v : Nat) : State :=
  if h : d < 93 then
    if present s d then
      match o with
      | 0x14 => setIf (bitOf v 17) (fun s => modShf s d fun x => { x with tsat := false }) s
      | 0x18 => effShfCfgWrite ⟨d, h⟩ (BitVec.ofNat 32 v) s
      | 0x24 => modShr s d fun r => { r with
          nhic := clamped v 0 8 1 255, th := clamped v 8 8 1 255, ilim := clamped v 16 7 32 88 }
      | 0x28 => whenBit v 5 (execLatchClear ⟨d, h⟩) s
      | 0x38 => whenBit v 31 (execShfMtstatClrcnt ⟨d, h⟩) s
      | _ => s
    else s
  else s

/-- SWREF and the gleaner (R93, R144). -/
def writeSwref (s : State) (o v : Nat) : State :=
  match o with
  | 0x28000 => { s with swref := { s.swref with src := bits v 0 1, outEn := bitOf v 1 } }
  | 0x28004 => whenBit v 2 execFallbkClear s
  | 0x28100 => { s with gln := { s.gln with phEn := bitOf v 0, snsEn := bitOf v 1, bondEn := bitOf v 2, sptEn := bitOf v 3 } }
  | 0x28104 => { s with gln := { s.gln with
      snsdev := clamped v 0 6 5 40, anom := clamped v 8 6 10 60, severe := clamped v 16 8 50 200, step := clamped v 24 6 5 50 } }
  | _ => s

/-- PH[p]_CTL of a phase that is not ABSENT: CLRCNT first (R16), then EXCLUDE, which goes before READMIT (R130, R143).
DEDUCED, log 111. -/
def writePh (s : State) (p o v : Nat) : State :=
  if h : p < 720 then
    if o = 8 ∧ (s.ph.nth p).st ≠ .absent then
      let s := whenBit v 31 (execPhClrcnt ⟨p, h⟩) s
      if bitOf v 1 then after s (execPhExclude ⟨p, h⟩) else whenBit v 0 (execReadmit ⟨p, h⟩) s
    else s
  else s

/-- The sequencer (R191, R217). -/
def writeSeq (s : State) (o v : Nat) : State :=
  match o with
  | 0x4E000 => { s with seqr := { s.seqr with page := bits v 0 3 } }
  | 0x4E004 => whenBit v 31 execSeqTrkClrcnt s
  | _ =>
    match slotAt o 0x4E100 16 8 with
    | some (l, 8) => if h : l < 8 then whenBit v 31 (execSeqLaneOvrClear ⟨l, h⟩) s else s
    | _ => s

/-- Time and notice (R166). -/
def writeTime (s : State) (o v : Nat) : State :=
  let t := s.time
  let n := s.ntc
  let npen := fun (k : Nat) =>
    let old := n.npen.toNat / 2 ^ (32 * k) % 2 ^ 32
    { s with ntc := { n with npen := BitVec.ofNat 128 (n.npen.toNat - old * 2 ^ (32 * k) + v * 2 ^ (32 * k)) } }
  match o with
  | 0x4F008 =>
    whenBit v 31 execSeqTstatClrcnt { s with time := { t with
      slip := t.slip && !bitOf v 2, refloss := t.refloss && !bitOf v 3, aloss := t.aloss && !bitOf v 4 } }
  | 0x4F030 => { s with ntc := { n with
      horizon := clamped v 0 16 64 65535, latewin := bits v 16 8, stepth := clamped v 24 8 2 255 } }
  | 0x4F040 => npen 0
  | 0x4F044 => npen 1
  | 0x4F048 => npen 2
  | 0x4F04C => npen 3
  | 0x4F060 => whenBit v 31 execSeqNstatClrcnt s
  | _ =>
    match slotAt o 0x4F100 4 128 with
    | some (d, _) => if h : d < 128 then whenBit v 7 (execSeqNdomClrcnt ⟨d, h⟩) s else s
    | none => s

/-- Exact mode (R314). -/
def writeExact (s : State) (o v : Nat) : State :=
  let x := s.exa
  match o with
  | 0x4F400 => { s with exa := { x with lead := clamped v 0 12 400 4095, stallmin := clamped v 16 10 1 1023 } }
  | 0x4F404 =>
    whenBit v 31 execSeqXstatClrcnt { s with exa := { x with
      void := x.void && !bitOf v 2, overrun := x.overrun && !bitOf v 3, stlate := x.stlate && !bitOf v 4
      debtSat := x.debtSat && !bitOf v 6 } }
  | _ => s

/-- A bit of LOOP_CTL: its fall disables the loop, with its output (R268). -/
def loopBit (v : Nat) (k : Fin 5) (on : State → Bool) (set : State → State) (s : State) : State :=
  if bitOf v k.val then set s else if on s then after s (execLoopDisable k) else s

/-- LOOP_CTL (R292). -/
def writeLoopCtl (s : State) (v : Nat) : State :=
  let s := loopBit v 0 (·.loop.capEn) (fun s => { s with loop := { s.loop with capEn := true } }) s
  let s := loopBit v 1 (·.loop.budEn) (fun s => { s with loop := { s.loop with budEn := true } }) s
  let s := loopBit v 2 (·.loop.dieiEn) (fun s => { s with loop := { s.loop with dieiEn := true } }) s
  let s := loopBit v 3 (·.loop.domiEn) (fun s => { s with loop := { s.loop with domiEn := true } }) s
  let s := loopBit v 4 (·.loop.thermEn) (fun s => { s with loop := { s.loop with thermEn := true } }) s
  { s with loop := { s.loop with ceilEn := bitOf v 5, advEn := bitOf v 6 } }

/-- LOOP_BUD_CTL: MODE 3 is stored as 0, a change of MODE makes BUDGET invalid until three valid decodings, and the
budget loop is disabled in MODE 0 (R268, R274, R292). FBK is the plan's. DEDUCED, log 102, 108. -/
def writeBudCtl (s : State) (v : Nat) : State :=
  let b := s.loop.bud
  let m := if bits v 0 2 = 3 then 0 else bits v 0 2
  let b := { b with mode := m, fe := clamped v 2 6 1 40, fet := clamped v 20 12 10 4095 }
  if m = s.loop.bud.mode then { s with loop := { s.loop with bud := b } }
  else
    let s := { s with loop := { s.loop with bud := { b with bad := 0, good := 0, valid := false } } }
    if m = 0 then
      selectAll { s with loop := { s.loop with
        bud := { s.loop.bud with lostNow := false, feAct := false, timer := 0 }
        budF := Tab.make 4 fun _ => one, fbud := one, fbudNext := one } }
    else s

/-- Loops (R292). -/
def writeLoop (s : State) (o v : Nat) : State :=
  match o with
  | 0x50000 => writeLoopCtl s v
  | 0x50030 => writeBudCtl s v
  | 0x50034 => setIf (bitOf v 13) (fun s => { s with loop := { s.loop with bud := { s.loop.bud with lost := false } } }) s
  | _ => s

/-- The estimator; bytes 2,112 and above of the staging window are ignored (R185). -/
def writeEst (s : State) (o v : Nat) : State :=
  if o = 0x60000 then whenBit v 31 execEstClrcnt { s with est := { s.est with ffEn := bitOf v 0, witEn := bitOf v 1 } }
  else match slotAt o 0x60100 4 93 with
  | some (d, _) =>
    if present s d then modEstd s d fun e => { e with gain := signExt 16 (bits v 0 16), offset := signExt 16 (bits v 16 16) }
    else s
  | none =>
    if 0x68000 ≤ o ∧ o < 0x68000 + 2112 then
      { s with mem.estmem := Memory.setWord s.mem.estmem (o - 0x68000) (BitVec.ofNat 32 v) }
    else s

/-- Telemetry (R295). The first record covers the first whole period after EN is set (R288). DEDUCED, log 109. -/
def writeTel (s : State) (o v : Nat) : State :=
  let t := s.tel
  match o with
  | 0x70000 =>
    let s := whenBit v 31 execTelClrcnt { s with tel := { t with en := bitOf v 0 } }
    if bitOf v 0 && !t.en then telRestart s (ceilDiv s.time.beat (telPeriod t.fine) * telPeriod t.fine) else s
  | 0x70004 => setIf (bitOf v 0) (fun s => { s with tel := { s.tel with buserr := false } }) s
  | 0x70010 => { s with tel := { t with log := clamped v 0 5 4 16 } }
  | 0x70018 => { s with tel := { t with rd := bits v 0 16 } }
  | _ => s

/-- Protection (R369, R371, R373). DEDUCED, log 106. -/
def writeProt (s : State) (o v : Nat) : State :=
  match o with
  | 0x80000 => { s with prot := { s.prot with
      ovm := clamped v 0 8 60 200, uvm := clamped v 8 8 60 200, uvt := clamped v 16 8 20 200, drt := clamped v 24 7 20 80 } }
  | 0x80004 =>
    if s.g.coord then setVinhi (setVindip (setVinlo s (bits v 0 10)) (bits v 10 10)) (bits v 20 10) else s
  | 0x80008 =>
    whenBit v 31 execProtClrcnt (whenBit v 4 execVbkillClear (whenBit v 2 execShutdnClear
      (whenBit v 0 (execCoolantClear (!s.prot.flow)) s)))
  | _ =>
    match slotAt o 0x80100 4 128 with
    | some (d, _) => if h : d < 128 then whenBit v 3 (execOvlatchClear ⟨d, h⟩) s else s
    | none => s

/-- The sources that block `b` has. DEDUCED, log 105. -/
def nSrc (b : Nat) : Nat := (srcTable b).length

/-- REACT[i]: a field written 5 to 7 in its low bits stays (R377). DEDUCED, log 105. -/
def writeReact (b i v : Nat) (f : Flt) : Flt :=
  (List.range 8).foldl (fun f j =>
    let x := bits v (4 * j) 4
    if 8 * i + j < nSrc b ∧ ¬ (5 ≤ x % 8) then { f with react := f.react.modN (8 * i + j) fun _ => x } else f) f

/-- A fault block (R377, R378, R381, R396). DEDUCED, log 105, 111. -/
def writeFlt (s : State) (b : Fin 10) (o v : Nat) : State :=
  match o with
  | 0x00 => after s (execFaultStatClear b (BitVec.ofNat 32 v))
  | 0x08 => modFlt s b fun f => { f with mask := BitVec.ofNat 32 (v % 2 ^ nSrc b.val) }
  | 0x0C =>
    setIf (bitOf v 3) (fun s => modFlt s b fun f => { f with trapped := false })
      (whenBit v 2 (execHclr b) (whenBit v 1 (execHset b) (whenBit v 0 (execHandlingClear b) s)))
  | _ =>
    match slotAt o 0x10 4 4 with
    | some (i, _) => modFlt s b (writeReact b.val i v)
    | none => s

/-- Error pin and silo (R398). -/
def writeSilo (s : State) (o v : Nat) : State :=
  match o with
  | 0x83000 => { s with fpin := { s.fpin with width := clamped v 0 9 2 500, hold := bitOf v 16 } }
  | 0x84000 => whenBit v 31 execSiloClrcnt s
  | 0x84004 => { s with silo := { s.silo with page := bits v 0 6 } }
  | _ => s

/-- SIDE_JOB, SIDE_NINST and SIDE_PORT, which a lane that is armed shuts (R317). A package that so becomes a member
starts with H = N (R330, log 148). TREE 3, which no table lists, is stored and reads back: a port that is neither the parent nor a child's.
DEDUCED, log 110, 148; DESIGN CHOICE, log 146. -/
def writeJob (s : State) (o v : Nat) : State :=
  let x := s.side
  if armed s then s
  else match o with
  | 0x90000 =>
    let s := { s with side := { x with
      en := bitOf v 0, jobtag := bits v 1 6, root := bitOf v 7, ord := bits v 8 12, diam := clamped v 20 4 1 12 } }
    if bitOf v 0 && !x.en && s.g.coord && decide (x.gran.policy ≠ 0) then modGran s fun g => { g with hold := granNom s } else s
  | 0x90004 => { s with side := { x with ninst := clamped v 0 13 1 4096, npkg := clamped v 16 11 1 1024 } }
  | _ =>
    match slotAt o 0x90010 4 19 with
    | some (k, _) => { s with side := { x with port := x.port.modN k fun p => { p with
        en := bitOf v 0, tree := bits v 1 2, lo := bits v 4 12, hi := bits v 16 12 } } }
    | none => s

/-- The granary, in the coordinator (R344). DEDUCED, log 106. -/
def writeGran (s : State) (o v : Nat) : State :=
  if s.g.coord then
    match o with
    | 0x91000 => modGran s fun g => { g with pkgEn := bitOf v 2 }
    | 0x91004 => modGran s fun g => { g with nom := min (bits v 0 16) (2 * s.loop.cap) }
    | 0x91008 => modGran s fun g => { g with rdly := clamped v 0 16 64 65535, db := bits v 16 16 }
    | 0x9100C => modGran s fun g => { g with gwin := clamped v 0 16 1024 65535 }
    | 0x91014 => modGran s fun g => { g with diverge := g.diverge && !bitOf v 28, skip := g.skip && !bitOf v 29 }
    | 0x9101C => whenBit v 31 execGranDivClear s
    | _ => s
  else s

/-- The sideband (R344). -/
def writeSide (s : State) (o v : Nat) : State :=
  match o with
  | 0x90008 => whenBit v 31 execSideClrcnt s
  | 0x90080 => setIf (bitOf v 2) (fun s => { s with side := { s.side with barFail := false } }) s
  | 0x90084 => { s with side := { s.side with bdec := clamped v 0 16 600 65535 } }
  | 0x90300 => whenBit v 0 execDistStart s
  | 0x90304 => setIf (bitOf v 3) (fun s => modDist s fun d => { d with err := false }) s
  | _ => if o < 0x90060 then writeJob s o v else writeGran s o v

/-- EPP[c] (R42). -/
def writeEpp (s : State) (c : Fin 16) (o v : Nat) : State :=
  match o with
  | 0x00 =>
    whenBit v 31 (execEppClrcnt c) (effEppEnWrite c (bitOf v 0)
      (modEpp s c fun e => { e with div := clamped v 1 7 25 125, slot := bits v 8 2 }))
  | 0x10 => modEpp s c fun e => { e with ilim := clampInt 64 640 (signExt 16 v) }
  | _ => s

/-- BM[m] (R28, R32). A write of MODE 3 leaves MODE. -/
def writeBm (s : State) (m : Fin 4) (o v : Nat) : State :=
  match o with
  | 0x00 =>
    let s := modBm s m fun b => { b with slot := bits v 2 2 }
    let s := match bits v 0 2 with
      | 0 => effBmModeOff m s
      | 1 => effBmModePilot m s
      | 2 => effBmModeRun m s
      | _ => s
    whenBit v 31 (execBmClrcnt m) s
  | 0x18 => modBm s m fun b => { b with ilim := clampInt 1280 7680 (signExt 16 v) }
  | _ => s

/-- DEDUCED, log 106. -/
def writePower (s : State) (o v : Nat) : State :=
  match slotAt o 0xA0000 0x40 16, slotAt o 0xB0000 0x40 4 with
  | some (c, r), _ => if h : c < 16 then writeEpp s ⟨c, h⟩ r v else s
  | _, some (m, r) => if h : m < 4 then writeBm s ⟨m, h⟩ r v else s
  | _, _ => if o = 0xB0114 then whenBit v 0 execClrmm s else s

/-- The meter mirror; outside the coordinator CTL, REQ and BUF take no write (R421). DEDUCED, log 106. -/
def writeMtrm (s : State) (o v : Nat) : State :=
  match o with
  | 0xC0000 => after s (execMtrmCtlWrite (BitVec.ofNat 32 v))
  | 0xC0004 =>
    setIf (bitOf v 13) (fun s => { modMtrm s (fun x => { x with buserr := false }) with mtrmRaw := setRaw s.mtrmRaw 8 false }) s
  | 0xC0008 =>
    if bitOf v 4 then after s (execMtrmReqGo (bits v 0 3) (bitOf v 3))
    else if s.g.coord then modMtrm s fun x => { x with ch := bits v 0 3, urgent := bitOf v 3 }
    else s
  | 0xC0088 => if s.g.coord then modMtrm s fun x => { x with log := clamped v 0 5 4 16 } else s
  | 0xC0090 => if s.g.coord then modMtrm s fun x => { x with rd := bits v 0 16 } else s
  | _ => s

/-- Debug and freeze; DBG_INJ and DBG_INJARG take writes in TEST alone (R390, R391, R399). DEDUCED, log 111. -/
def writeDbg (s : State) (o v : Nat) : State :=
  match o with
  | 0xF0000 => { s with dbg := { s.dbg with req := bitOf v 0 } }
  | 0xF0040 =>
    if s.g.lc = 1 then
      whenBit v 12 execInjectGo (whenBit v 13 execInjectStop { s with dbg := { s.dbg with
        mode := bits v 0 2, blk := bits v 2 4, src := bits v 6 5, silo := bitOf v 11 } })
    else s
  | 0xF0044 =>
    if s.g.lc = 1 then
      { s with dbg := { s.dbg with subj := bits v 0 16, arg := bits v 16 8, holdt := bits v 24 8 } }
    else s
  | _ => s

/-- A write of the register at offset `o` while the block is not frozen. RO and CMD fields and what the tables do not list
ignore it (R12, R14). -/
def writeWord (s : State) (o v : Nat) : State :=
  if o % 4 ≠ 0 then s
  else if o < 0x1000 then s
  else if o < 0x1400 then writeGlobal s o v
  else if o < 0x2000 then s
  else if o < 0x8000 then writeCmd s o v
  else if o < 0x10000 then s
  else if o < 0x20000 then writeDomReg s o v
  else if o < 0x26000 then writeShf s ((o - 0x20000) / 256) (o % 256) v
  else if o < 0x30000 then writeSwref s o v
  else if o < 0x32D00 then writePh s ((o - 0x30000) / 16) (o % 16) v
  else if o < 0x40000 then s
  else if o < 0x48000 then after s (execTrackMemoryWrite (o - 0x40000) (BitVec.ofNat 32 v))
  else if o < 0x4C000 then { s with mem.mtimg := Memory.setWord s.mem.mtimg (o - 0x48000) (BitVec.ofNat 32 v) }
  else if o < 0x4F000 then writeSeq s o v
  else if o < 0x4F400 then writeTime s o v
  else if o < 0x50000 then writeExact s o v
  else if o < 0x60000 then writeLoop s o v
  else if o < 0x70000 then writeEst s o v
  else if o < 0x80000 then writeTel s o v
  else if o < 0x81000 then writeProt s o v
  else if o < 0x83000 then
    (if h : (o - 0x81000) / 0x200 < 10 then writeFlt s ⟨(o - 0x81000) / 0x200, h⟩ ((o - 0x81000) % 0x200) v else s)
  else if o < 0x90000 then writeSilo s o v
  else if o < 0xA0000 then writeSide s o v
  else if o < 0xC0000 then writePower s o v
  else if o < 0xD0000 then writeMtrm s o v
  else if 0xD8000 ≤ o ∧ o < 0xDB000 then { s with mem.planmem := Memory.setWord s.mem.planmem (o - 0xD8000) (BitVec.ofNat 32 v) }
  else if 0xF0000 ≤ o then writeDbg s o v
  else s

/-- A write of the whole 64-bit value whose _LO lies at `o` (R11): the pairs that take writes (R204, R295, R314, R421). -/
def writeWide (s : State) (o x : Nat) : State :=
  match o with
  | 0x2004 => { s with cmdw := { s.cmdw with lo := BitVec.ofNat 32 x, hi := BitVec.ofNat 32 (x / 2 ^ 32) } }
  | 0x4F440 => { s with exa := { s.exa with svaddr := x % 2 ^ 64 / 64 * 64 } }
  | 0x70008 => { s with tel := { s.tel with base := x % 2 ^ 64 / 1024 * 1024 } }
  | 0xC0080 => if s.g.coord then modMtrm s fun m => { m with base := x % 2 ^ 64 / 64 * 64 } else s
  | _ => s

/-- Writes that act in freeze: the debug unit's, and a reset request, which waits (R392, R445). DEDUCED, log 94. -/
def freezeOpen (o : Nat) : Bool := decide (0xF0000 ≤ o) || decide (o = 0x1100)

/-- A register write as the bus delivers it (R392). DEDUCED, log 94. -/
def busWord (s : State) (o v : Nat) : State := if s.dbg.active && !freezeOpen o then s else writeWord s o v

def busWide (s : State) (o x : Nat) : State := if s.dbg.active then s else writeWide s o x

end Sys2Proof.Machine
end

