-- ==== Sys2Proof/Machine/Bus.lean ====
section
/-! DEFINITION. The access paths: the management bus and JTAG, each with its shadows and held values, and the errors they
answer (R10, R11, R58, R393). -/

namespace Sys2Proof.Machine

def pathOf (s : State) : Path → PathSt
  | .mgmt => s.io.mgmt
  | .jtag => s.io.jtag

def modPath (s : State) (p : Path) (f : PathSt → PathSt) : State :=
  match p with
  | .mgmt => { s with io := { s.io with mgmt := f s.io.mgmt } }
  | .jtag => { s with io := { s.io with jtag := f s.io.jtag } }

/-- The path answers with data and no error. -/
def answer (s : State) (p : Path) (x : Word32) : State := modPath s p fun q => { q with err := false, data := x }

/-- The path answers an error, and nothing else changes (R10, R393). -/
def answerErr (s : State) (p : Path) : State := modPath s p fun q => { q with err := true }

/-- Takes the entry of an offset out of a path's list. -/
def without (l : List (Nat × Word32)) (o : Nat) : List (Nat × Word32) := l.filter fun x => x.1 ≠ o

def held (l : List (Nat × Word32)) (o : Nat) : Option Word32 := (l.find? fun x => x.1 = o).map (·.2)

/-- The register at `o`, in freeze as at the end of the freeze beat (R392). -/
def word (s : State) (o : Nat) : Word32 := BitVec.ofNat 32 (readWord (shown s) o)

/-- A read of _LO captures the value, with its upper half in the shadow (R11). -/
def readLoAt (p : Path) (o : Nat) (s : State) : State :=
  answer (modPath s p fun q => { q with shadow := (o, word s (o + 4)) :: without q.shadow o }) p (word s o)

/-- A read of _HI answers and consumes the shadow, or answers the live upper half (R11). -/
def readHiAt (p : Path) (o : Nat) (s : State) : State :=
  match held (pathOf s p).shadow (o - 4) with
  | some x => answer (modPath s p fun q => { q with shadow := without q.shadow (o - 4) }) p x
  | none => answer s p (word s o)

/-- A write of _LO is held (R11). -/
def writeLoAt (p : Path) (o : Nat) (v : Word32) (s : State) : State :=
  modPath s p fun q => { q with err := false, held := (o, v) :: without q.held o }

/-- A write of _HI applies the pair, with the held low value or the present low half (R11). -/
def writeHiAt (p : Path) (o : Nat) (v : Word32) (s : State) : State :=
  let lo := (held (pathOf s p).held (o - 4)).getD (word s (o - 4))
  let s := modPath s p fun q => { q with err := false, held := without q.held (o - 4) }
  busWide s (o - 4) (lo.toNat + 2 ^ 32 * v.toNat)

/-- A read of DOM_VSNS copies DOM_I, DOM_P and DOM_E of the domain (R58). -/
def readVsns (p : Path) (d : Nat) (s : State) : State :=
  let b := 0x10000 + 64 * d
  answer (modPath s p fun q => { q with vsns := some (d, word s (b + 0xC), word s (b + 0x10), word s (b + 0x14)) }) p
    (word s (b + 8))

/-- What the path's DOM_VSNS shadow answers for an offset (R58). -/
def vsnsHit (q : PathSt) (o : Nat) : Option Word32 :=
  match q.vsns with
  | some (d, i, pw, e) =>
    if o = 0x10000 + 64 * d + 0xC then some i
    else if o = 0x10000 + 64 * d + 0x10 then some pw
    else if o = 0x10000 + 64 * d + 0x14 then some e
    else none
  | none => none

/-- A read of the word at an aligned offset. DEDUCED, log 114. -/
def readAt (p : Path) (o : Nat) (s : State) : State :=
  if isLo o then readLoAt p o s
  else if isHi o then readHiAt p o s
  else match slotAt o 0x10000 64 128 with
  | some (d, 8) => readVsns p d s
  | _ => answer s p ((vsnsHit (pathOf s p) o).getD (word s o))

/-- A write of the word at an aligned offset. -/
def writeAt (p : Path) (o : Nat) (v : Word32) (s : State) : State :=
  if isLo o then writeLoAt p o v s
  else if isHi o then writeHiAt p o v s
  else modPath (busWord s o v.toNat) p fun q => { q with err := false }

/-- The offset names an aligned word of the window (R10, R467). DEDUCED, log 114. -/
def aligned (o : Nat) : Bool := decide (o % 4 = 0 ∧ o < 0x100000)

/-- What JTAG may read and write in a life-cycle state (R393). DEDUCED, log 113. -/
def jtagMay (lc o : Nat) (wr : Bool) : Bool :=
  if lc = 1 ∨ lc = 3 then true
  else if lc = 4 then !wr && (decide (o < 0x20) || decide (0x84000 ≤ o ∧ o < 0x8A000))
  else if wr then decide (o = 0xF0000)
  else decide (o < 0x20) || decide (0x2000 ≤ o ∧ o < 0x2108) || decide (0x8000 ≤ o ∧ o < 0x10000)
    || decide (0x80000 ≤ o ∧ o < 0x90000) || decide (0xF0000 ≤ o)

/-- The path may access the offset: JTAG as R393 says, the management bus every one. -/
def pathMay (s : State) (p : Path) (o : Nat) (wr : Bool) : Bool :=
  match p with
  | .mgmt => true
  | .jtag => jtagMay s.g.lc o wr

/-- A write of a register or a field with no row of its own acts by its access code (R14). -/
def execRegisterWrite (p : Path) (off : Nat) (v : Word32) (s : State) : Out := powered s fun s =>
  if aligned off && pathMay s p off true then writeAt p off v s else answerErr s p

/-- A narrower or misaligned access answers an error and changes no register (R10). -/
def execMisalignedAccess (p : Path) (off size : Nat) (_wr : Bool) (s : State) : Out := powered s fun s =>
  if size = 4 ∧ aligned off then s else answerErr s p

def execReadLo (p : Path) (off : Nat) (s : State) : Out := powered s fun s =>
  if pathMay s p off false then if isLo off then readLoAt p off s else readAt p off s else answerErr s p

def execReadHi (p : Path) (off : Nat) (s : State) : Out := powered s fun s =>
  if pathMay s p off false then if isHi off then readHiAt p off s else readAt p off s else answerErr s p

def execWriteLo (p : Path) (off : Nat) (v : Word32) (s : State) : Out := powered s fun s =>
  if pathMay s p off true then if isLo off then writeLoAt p off v s else writeAt p off v s else answerErr s p

def execWriteHi (p : Path) (off : Nat) (v : Word32) (s : State) : Out := powered s fun s =>
  if pathMay s p off true then if isHi off then writeHiAt p off v s else writeAt p off v s else answerErr s p

def execDomVsnsRead (p : Path) (d : Fin 128) (s : State) : Out := powered s fun s =>
  if pathMay s p (0x10008 + 64 * d.val) false then readVsns p d.val s else answerErr s p

/-- What Capture-DR returns of the previous operation: its read data, DONE and ERR (R393). -/
def captureWord (q : PathSt) : Word64 := BitVec.ofNat 64 (fld 24 32 q.data.toNat + fld 56 1 (b2n q.done) + fld 57 1 (b2n q.err))

/-- The capture of a scan of MSR_ACC, which is no EXTEST (R393, R464). DESIGN CHOICE, log 152. -/
def scanCapture (s : State) : State :=
  { s with io := { s.io with captured := captureWord s.io.jtag }, pins := { s.pins with scan := none } }

/-- A scan of MSR_ACC (R393, R464): the capture of the operation before, then this one. OP 1 reads and OP 2 writes the word of this
instance at the word address; OP 0 leaves the last result to be captured again; an operation with the reserved OP 3 ends with ERR; after
one for another instance there is none of this instance's to capture. DEDUCED, log 113. -/
def execMsrAcc (op inst adr : Nat) (v : Word32) (s : State) : Out := powered s fun s =>
  let s := scanCapture s
  let o := 4 * (adr % 2 ^ 18)
  let ended := fun (s : State) => modPath s .jtag fun q => { q with done := true, err := false, data := 0 }
  if op = 0 then s
  else if inst ≠ s.g.die then modPath s .jtag fun q => { q with done := false, err := false, data := 0 }
  else if 3 ≤ op ∨ pathMay s .jtag o (decide (op = 2)) = false then answerErr (ended s) .jtag
  else if op = 1 then readAt .jtag o (ended s)
  else writeAt .jtag o v (ended s)

end Sys2Proof.Machine
end

