-- ==== Sys2Proof/Machine/Dispatch.lean ====
section
/-! DEFINITION. The meaning of each command, one arm for each row of the table. -/

namespace Sys2Proof.Machine

def exec (i : Instr) (s : State) : Host.Outcome State Fault Refusal :=
  match i with
  | .registerWrite p off v => Sys2Proof.Machine.execRegisterWrite p off v s
  | .misalignedAccess p off size wr => Sys2Proof.Machine.execMisalignedAccess p off size wr s
  | .readLo p off => Sys2Proof.Machine.execReadLo p off s
  | .readHi p off => Sys2Proof.Machine.execReadHi p off s
  | .writeLo p off v => Sys2Proof.Machine.execWriteLo p off v s
  | .writeHi p off v => Sys2Proof.Machine.execWriteHi p off v s
  | .domVsnsRead p d => Sys2Proof.Machine.execDomVsnsRead p d s
  | .vinStart vin => Sys2Proof.Machine.execVinStart vin s
  | .softStartEnd => Sys2Proof.Machine.execSoftStartEnd s
  | .undervoltageStop vin => Sys2Proof.Machine.execUndervoltageStop vin s
  | .overvoltageStop vin => Sys2Proof.Machine.execOvervoltageStop vin s
  | .bmModeRun m => Sys2Proof.Machine.execBmModeRun m s
  | .bmModePilot m => Sys2Proof.Machine.execBmModePilot m s
  | .bmModeOff m => Sys2Proof.Machine.execBmModeOff m s
  | .bmStartingEnd m => Sys2Proof.Machine.execBmStartingEnd m s
  | .bmFault m trip => Sys2Proof.Machine.execBmFault m trip s
  | .bmClrcnt m => Sys2Proof.Machine.execBmClrcnt m s
  | .clrmm => Sys2Proof.Machine.execClrmm s
  | .eppEnWrite c en => Sys2Proof.Machine.execEppEnWrite c en s
  | .eppClrcnt c => Sys2Proof.Machine.execEppClrcnt c s
  | .eppDutyUpdate l vsns isns => Sys2Proof.Machine.execEppDutyUpdate l vsns isns s
  | .eppOutOfService c tflt => Sys2Proof.Machine.execEppOutOfService c tflt s
  | .vbSample u vb => Sys2Proof.Machine.execVbSample u vb s
  | .measurementWindowEnd m => Sys2Proof.Machine.execMeasurementWindowEnd m s
  | .swrefPeriod u cur vfly tind => Sys2Proof.Machine.execSwrefPeriod u cur vfly tind s
  | .conductionIntervalStart u k node => Sys2Proof.Machine.execConductionIntervalStart u k node s
  | .conductionIntervalEnd u k node peak => Sys2Proof.Machine.execConductionIntervalEnd u k node peak s
  | .lockWindowEnd u err => Sys2Proof.Machine.execLockWindowEnd u err s
  | .trimCycleEnd u low idom => Sys2Proof.Machine.execTrimCycleEnd u low idom s
  | .pulseSkipStart u => Sys2Proof.Machine.execPulseSkipStart u s
  | .phaseShed u => Sys2Proof.Machine.execPhaseShed u s
  | .fireStart u node gap => Sys2Proof.Machine.execFireStart u node gap s
  | .firePulseLimit u k => Sys2Proof.Machine.execFirePulseLimit u k s
  | .fireEnd u node => Sys2Proof.Machine.execFireEnd u node s
  | .shfCfgWrite u v => Sys2Proof.Machine.execShfCfgWrite u v s
  | .shfClrcnt u => Sys2Proof.Machine.execShfClrcnt u s
  | .syncInLoss => Sys2Proof.Machine.execSyncInLoss s
  | .fallbkClear => Sys2Proof.Machine.execFallbkClear s
  | .swrefSourceChange => Sys2Proof.Machine.execSwrefSourceChange s
  | .holdEnter u => Sys2Proof.Machine.execHoldEnter u s
  | .holdExit u => Sys2Proof.Machine.execHoldExit u s
  | .noticeRestore u eff => Sys2Proof.Machine.execNoticeRestore u eff s
  | .noticeRampStart u eff => Sys2Proof.Machine.execNoticeRampStart u eff s
  | .preliftEnter d eff => Sys2Proof.Machine.execPreliftEnter d eff s
  | .preliftLeave d eff => Sys2Proof.Machine.execPreliftLeave d eff s
  | .reversalHoldEnd d => Sys2Proof.Machine.execReversalHoldEnd d s
  | .frequencyRaiseRequest d vlow => Sys2Proof.Machine.execFrequencyRaiseRequest d vlow s
  | .frequencyLowerApplied d => Sys2Proof.Machine.execFrequencyLowerApplied d s
  | .feDeadline d vlow => Sys2Proof.Machine.execFeDeadline d vlow s
  | .headerStageOpen d => Sys2Proof.Machine.execHeaderStageOpen d s
  | .headerStageClose d near ns => Sys2Proof.Machine.execHeaderStageClose d near ns s
  | .gatingComplete d => Sys2Proof.Machine.execGatingComplete d s
  | .wakeComplete d => Sys2Proof.Machine.execWakeComplete d s
  | .readyRise d => Sys2Proof.Machine.execReadyRise d s
  | .firstWakeOn d vlow => Sys2Proof.Machine.execFirstWakeOn d vlow s
  | .wakeForced d => Sys2Proof.Machine.execWakeForced d s
  | .bankGateComplete m => Sys2Proof.Machine.execBankGateComplete m s
  | .bankWakeRequest m b => Sys2Proof.Machine.execBankWakeRequest m b s
  | .bankWakeReady m b => Sys2Proof.Machine.execBankWakeReady m b s
  | .domSpstatClrcnt d => Sys2Proof.Machine.execDomSpstatClrcnt d s
  | .phaseOpenDetect p => Sys2Proof.Machine.execPhaseOpenDetect p s
  | .phaseShortDetect p high => Sys2Proof.Machine.execPhaseShortDetect p high s
  | .spareActive u => Sys2Proof.Machine.execSpareActive u s
  | .phExclude p => Sys2Proof.Machine.execPhExclude p s
  | .readmit p => Sys2Proof.Machine.execReadmit p s
  | .phClrcnt p => Sys2Proof.Machine.execPhClrcnt p s
  | .phaseHiccupEnter p => Sys2Proof.Machine.execPhaseHiccupEnter p s
  | .phaseHiccupRetry p => Sys2Proof.Machine.execPhaseHiccupRetry p s
  | .phaseRetrySuccess p => Sys2Proof.Machine.execPhaseRetrySuccess p s
  | .domainHiccup u => Sys2Proof.Machine.execDomainHiccup u s
  | .domainHiccupRestart u => Sys2Proof.Machine.execDomainHiccupRestart u s
  | .domainRetrySuccess u => Sys2Proof.Machine.execDomainRetrySuccess u s
  | .latchClear u => Sys2Proof.Machine.execLatchClear u s
  | .gleanerSweepStart u => Sys2Proof.Machine.execGleanerSweepStart u s
  | .phaseHealthSweep u m => Sys2Proof.Machine.execPhaseHealthSweep u m s
  | .plausibilitySweep u low node => Sys2Proof.Machine.execPlausibilitySweep u low node s
  | .bondMeasurement g dv u => Sys2Proof.Machine.execBondMeasurement g dv u s
  | .beatMarker n => Sys2Proof.Machine.execBeatMarker n s
  | .refclkLoss => Sys2Proof.Machine.execRefclkLoss s
  | .refclkReturn => Sys2Proof.Machine.execRefclkReturn s
  | .alignLoss => Sys2Proof.Machine.execAlignLoss s
  | .step w => Sys2Proof.Machine.execStep w s
  | .cancel w => Sys2Proof.Machine.execCancel w s
  | .arrive w => Sys2Proof.Machine.execArrive w s
  | .noticeQueueRelease => Sys2Proof.Machine.execNoticeQueueRelease s
  | .noticeArrival => Sys2Proof.Machine.execNoticeArrival s
  | .barrierRelease => Sys2Proof.Machine.execBarrierRelease s
  | .engineStartRequest core e => Sys2Proof.Machine.execEngineStartRequest core e s
  | .engineStartGrant core e => Sys2Proof.Machine.execEngineStartGrant core e s
  | .seqTstatClrcnt => Sys2Proof.Machine.execSeqTstatClrcnt s
  | .seqNstatClrcnt => Sys2Proof.Machine.execSeqNstatClrcnt s
  | .seqNdomClrcnt d => Sys2Proof.Machine.execSeqNdomClrcnt d s
  | .estimatorLatch raw lines => Sys2Proof.Machine.execEstimatorLatch raw lines s
  | .estimatorApply => Sys2Proof.Machine.execEstimatorApply s
  | .estimatorCompare => Sys2Proof.Machine.execEstimatorCompare s
  | .estImageCopyDone => Sys2Proof.Machine.execEstImageCopyDone s
  | .estClrcnt => Sys2Proof.Machine.execEstClrcnt s
  | .trackMemoryWrite off v => Sys2Proof.Machine.execTrackMemoryWrite off v s
  | .trackAdmissionDone => Sys2Proof.Machine.execTrackAdmissionDone s
  | .laneStart => Sys2Proof.Machine.execLaneStart s
  | .laneResume l => Sys2Proof.Machine.execLaneResume l s
  | .barComplete l => Sys2Proof.Machine.execBarComplete l s
  | .actionTakesEffect => Sys2Proof.Machine.execActionTakesEffect s
  | .commandGo => Sys2Proof.Machine.execCommandGo s
  | .commandAccept => Sys2Proof.Machine.execCommandAccept s
  | .commandComplete => Sys2Proof.Machine.execCommandComplete s
  | .cmdwClrcnt => Sys2Proof.Machine.execCmdwClrcnt s
  | .seqTrkClrcnt => Sys2Proof.Machine.execSeqTrkClrcnt s
  | .seqLaneOvrClear l => Sys2Proof.Machine.execSeqLaneOvrClear l s
  | .microtablePacket u n npkt data crc => Sys2Proof.Machine.execMicrotablePacket u n npkt data crc s
  | .microtableEnd u dig => Sys2Proof.Machine.execMicrotableEnd u dig s
  | .microtableAck u => Sys2Proof.Machine.execMicrotableAck u s
  | .microtableNack u => Sys2Proof.Machine.execMicrotableNack u s
  | .microtableCommit => Sys2Proof.Machine.execMicrotableCommit s
  | .shfMtstatClrcnt u => Sys2Proof.Machine.execShfMtstatClrcnt u s
  | .nop c => Sys2Proof.Machine.execNop c s
  | .halt c => Sys2Proof.Machine.execHalt c s
  | .atB c => Sys2Proof.Machine.execAt c s
  | .wait c => Sys2Proof.Machine.execWait c s
  | .seg c => Sys2Proof.Machine.execSeg c s
  | .mark c => Sys2Proof.Machine.execMark c s
  | .vset c => Sys2Proof.Machine.execVset c s
  | .lline c => Sys2Proof.Machine.execLline c s
  | .note c => Sys2Proof.Machine.execNote c s
  | .opsel c => Sys2Proof.Machine.execOpsel c s
  | .gate c => Sys2Proof.Machine.execGate c s
  | .wake c => Sys2Proof.Machine.execWake c s
  | .bank c => Sys2Proof.Machine.execBank c s
  | .startg c => Sys2Proof.Machine.execStartg c s
  | .capDomainIlim c => Sys2Proof.Machine.execCapDomainIlim c s
  | .capDieLimit c => Sys2Proof.Machine.execCapDieLimit c s
  | .capPackagePower c => Sys2Proof.Machine.execCapPackagePower c s
  | .capAveragingPeriod c => Sys2Proof.Machine.execCapAveragingPeriod c s
  | .ovly c => Sys2Proof.Machine.execOvly c s
  | .prio c => Sys2Proof.Machine.execPrio c s
  | .telNormal c => Sys2Proof.Machine.execTelNormal c s
  | .telFine c => Sys2Proof.Machine.execTelFine c s
  | .telTag c => Sys2Proof.Machine.execTelTag c s
  | .li c => Sys2Proof.Machine.execLi c s
  | .add c => Sys2Proof.Machine.execAdd c s
  | .sub c => Sys2Proof.Machine.execSub c s
  | .min c => Sys2Proof.Machine.execMin c s
  | .max c => Sys2Proof.Machine.execMax c s
  | .mulq c => Sys2Proof.Machine.execMulq c s
  | .cmp c => Sys2Proof.Machine.execCmp c s
  | .br c => Sys2Proof.Machine.execBr c s
  | .call c => Sys2Proof.Machine.execCall c s
  | .ret c => Sys2Proof.Machine.execRet c s
  | .loop c => Sys2Proof.Machine.execLoop c s
  | .send c => Sys2Proof.Machine.execSend c s
  | .bar c => Sys2Proof.Machine.execBar c s
  | .gran c => Sys2Proof.Machine.execGran c s
  | .save c => Sys2Proof.Machine.execSave c s
  | .fence c => Sys2Proof.Machine.execFence c s
  | .clrfFaultBlock => Sys2Proof.Machine.execClrfFaultBlock s
  | .clrfSat => Sys2Proof.Machine.execClrfSat s
  | .loadplanTrack => Sys2Proof.Machine.execLoadplanTrack s
  | .loadplanMicrotable => Sys2Proof.Machine.execLoadplanMicrotable s
  | .loadplanWeights => Sys2Proof.Machine.execLoadplanWeights s
  | .loadplanPlan => Sys2Proof.Machine.execLoadplanPlan s
  | .loadplanOverlay => Sys2Proof.Machine.execLoadplanOverlay s
  | .loadplanMode => Sys2Proof.Machine.execLoadplanMode s
  | .arm => Sys2Proof.Machine.execArm s
  | .armResume => Sys2Proof.Machine.execArmResume s
  | .disarm => Sys2Proof.Machine.execDisarm s
  | .lcreq => Sys2Proof.Machine.execLcreq s
  | .loopEngineStep fcap fbud => Sys2Proof.Machine.execLoopEngineStep fcap fbud s
  | .capBinEnd => Sys2Proof.Machine.execCapBinEnd s
  | .budgetDecode x edge => Sys2Proof.Machine.execBudgetDecode x edge s
  | .budgetFeTimer => Sys2Proof.Machine.execBudgetFeTimer s
  | .loopDisable k => Sys2Proof.Machine.execLoopDisable k s
  | .telemetryRecord ok => Sys2Proof.Machine.execTelemetryRecord ok s
  | .telClrcnt => Sys2Proof.Machine.execTelClrcnt s
  | .stallApply => Sys2Proof.Machine.execStallApply s
  | .stallHoldEnd => Sys2Proof.Machine.execStallHoldEnd s
  | .saveCapture => Sys2Proof.Machine.execSaveCapture s
  | .saveWriteDone ok => Sys2Proof.Machine.execSaveWriteDone ok s
  | .seqXstatClrcnt => Sys2Proof.Machine.execSeqXstatClrcnt s
  | .setrecRecompute others => Sys2Proof.Machine.execSetrecRecompute others s
  | .stall port head pay => Sys2Proof.Machine.execStall port head pay s
  | .verdict port head pay => Sys2Proof.Machine.execVerdict port head pay s
  | .armrpt port head pay => Sys2Proof.Machine.execArmrpt port head pay s
  | .granrpt port head pay => Sys2Proof.Machine.execGranrpt port head pay s
  | .grant port head pay => Sys2Proof.Machine.execGrant port head pay s
  | .trkpkt port head pay => Sys2Proof.Machine.execTrkpkt port head pay s
  | .trkres port head pay => Sys2Proof.Machine.execTrkres port head pay s
  | .trkend port head pay => Sys2Proof.Machine.execTrkend port head pay s
  | .trknack port head pay => Sys2Proof.Machine.execTrknack port head pay s
  | .distNackTimer => Sys2Proof.Machine.execDistNackTimer s
  | .distStart => Sys2Proof.Machine.execDistStart s
  | .granReport sig => Sys2Proof.Machine.execGranReport sig s
  | .granDecision => Sys2Proof.Machine.execGranDecision s
  | .granApply => Sys2Proof.Machine.execGranApply s
  | .pkgBalance => Sys2Proof.Machine.execPkgBalance s
  | .armBarrierDecision => Sys2Proof.Machine.execArmBarrierDecision s
  | .armBarrierTimeout => Sys2Proof.Machine.execArmBarrierTimeout s
  | .sideClrcnt => Sys2Proof.Machine.execSideClrcnt s
  | .granDivClear => Sys2Proof.Machine.execGranDivClear s
  | .planTakeEffect => Sys2Proof.Machine.execPlanTakeEffect s
  | .overlayValid => Sys2Proof.Machine.execOverlayValid s
  | .ovTrip d node => Sys2Proof.Machine.execOvTrip d node s
  | .ovTripClear d node => Sys2Proof.Machine.execOvTripClear d node s
  | .ovOff d => Sys2Proof.Machine.execOvOff d s
  | .ovAfterOff d node => Sys2Proof.Machine.execOvAfterOff d node s
  | .vbOvervoltage => Sys2Proof.Machine.execVbOvervoltage s
  | .uvTrip d vmin => Sys2Proof.Machine.execUvTrip d vmin s
  | .uvRecover d vmin => Sys2Proof.Machine.execUvRecover d vmin s
  | .uvDark d => Sys2Proof.Machine.execUvDark d s
  | .droopStretch c grid => Sys2Proof.Machine.execDroopStretch c grid s
  | .droopReport c len => Sys2Proof.Machine.execDroopReport c len s
  | .phaseHardLimit p => Sys2Proof.Machine.execPhaseHardLimit p s
  | .domainOvercurrent d peak => Sys2Proof.Machine.execDomainOvercurrent d peak s
  | .dieOvercurrent => Sys2Proof.Machine.execDieOvercurrent s
  | .vinLow => Sys2Proof.Machine.execVinLow s
  | .vinDip => Sys2Proof.Machine.execVinDip s
  | .vinHigh => Sys2Proof.Machine.execVinHigh s
  | .inputOvercurrent => Sys2Proof.Machine.execInputOvercurrent s
  | .vinHoldEnd => Sys2Proof.Machine.execVinHoldEnd s
  | .bandEvaluation temps => Sys2Proof.Machine.execBandEvaluation temps s
  | .thermalShutdown => Sys2Proof.Machine.execThermalShutdown s
  | .coolantLoss => Sys2Proof.Machine.execCoolantLoss s
  | .dieStopCluster c => Sys2Proof.Machine.execDieStopCluster c s
  | .coolantClear flowHigh => Sys2Proof.Machine.execCoolantClear flowHigh s
  | .shutdnClear => Sys2Proof.Machine.execShutdnClear s
  | .vbkillClear => Sys2Proof.Machine.execVbkillClear s
  | .ovlatchClear d => Sys2Proof.Machine.execOvlatchClear d s
  | .protClrcnt => Sys2Proof.Machine.execProtClrcnt s
  | .siloProgram ok => Sys2Proof.Machine.execSiloProgram ok s
  | .faultStatClear b bits => Sys2Proof.Machine.execFaultStatClear b bits s
  | .handlingClear b => Sys2Proof.Machine.execHandlingClear b s
  | .hset b => Sys2Proof.Machine.execHset b s
  | .hclr b => Sys2Proof.Machine.execHclr b s
  | .errPinPulseEnd => Sys2Proof.Machine.execErrPinPulseEnd s
  | .siloClrcnt => Sys2Proof.Machine.execSiloClrcnt s
  | .freezeEnter low => Sys2Proof.Machine.execFreezeEnter low s
  | .freezeImageDone nodes => Sys2Proof.Machine.execFreezeImageDone nodes s
  | .freezeExit => Sys2Proof.Machine.execFreezeExit s
  | .msrAcc op inst adr v => Sys2Proof.Machine.execMsrAcc op inst adr v s
  | .injectGo => Sys2Proof.Machine.execInjectGo s
  | .injectStop => Sys2Proof.Machine.execInjectStop s
  | .injectHoldEnd blk src => Sys2Proof.Machine.execInjectHoldEnd blk src s
  | .meterFrame bytes ok => Sys2Proof.Machine.execMeterFrame bytes ok s
  | .meterLinkLoss => Sys2Proof.Machine.execMeterLinkLoss s
  | .mtrmReqGo ch urgent => Sys2Proof.Machine.execMtrmReqGo ch urgent s
  | .mtrmCtlWrite v => Sys2Proof.Machine.execMtrmCtlWrite v s
  | .mtrmClrcnt => Sys2Proof.Machine.execMtrmClrcnt s
  | .meterWindowEnd mv mi cv refOk nvOk => Sys2Proof.Machine.execMeterWindowEnd mv mi cv refOk nvOk s
  | .mainsSyncEdge period since => Sys2Proof.Machine.execMainsSyncEdge period since s
  | .mainsSyncLoss => Sys2Proof.Machine.execMainsSyncLoss s
  | .refSettled => Sys2Proof.Machine.execRefSettled s
  | .nvCommit ok fall => Sys2Proof.Machine.execNvCommit ok fall s
  | .calAverageDone => Sys2Proof.Machine.execCalAverageDone s
  | .mtrId => Sys2Proof.Machine.execMtrId s
  | .mtrStatus => Sys2Proof.Machine.execMtrStatus s
  | .mtrEimp => Sys2Proof.Machine.execMtrEimp s
  | .mtrErev => Sys2Proof.Machine.execMtrErev s
  | .mtrSbrk => Sys2Proof.Machine.execMtrSbrk s
  | .mtrPlauscnt => Sys2Proof.Machine.execMtrPlauscnt s
  | .mtrUnreg => Sys2Proof.Machine.execMtrUnreg s
  | .mtrWseq => Sys2Proof.Machine.execMtrWseq s
  | .mtrLast => Sys2Proof.Machine.execMtrLast s
  | .mtrCfg w => Sys2Proof.Machine.execMtrCfg w s
  | .mtrReq v => Sys2Proof.Machine.execMtrReq v s
  | .mtrCtl w => Sys2Proof.Machine.execMtrCtl w s
  | .calz ch x => Sys2Proof.Machine.execCalz ch x s
  | .calf ch x => Sys2Proof.Machine.execCalf ch x s
  | .calstat => Sys2Proof.Machine.execCalstat s
  | .coef => Sys2Proof.Machine.execCoef s
  | .sealMeter => Sys2Proof.Machine.execSealMeter s
  | .unsealMeter => Sys2Proof.Machine.execUnsealMeter s
  | .train => Sys2Proof.Machine.execTrain s
  | .trainDone links sns => Sys2Proof.Machine.execTrainDone links sns s
  | .ber => Sys2Proof.Machine.execBer s
  | .berDone errs => Sys2Proof.Machine.execBerDone errs s
  | .topo => Sys2Proof.Machine.execTopo s
  | .topoDone claims => Sys2Proof.Machine.execTopoDone claims s
  | .cal => Sys2Proof.Machine.execCal s
  | .calDone badPh badSns z => Sys2Proof.Machine.execCalDone badPh badSns z s
  | .coordWrite role => Sys2Proof.Machine.execCoordWrite role s
  | .resetCore c mode => Sys2Proof.Machine.execResetCore c mode s
  | .resetCluster c mode => Sys2Proof.Machine.execResetCluster c mode s
  | .resetPartition k mode => Sys2Proof.Machine.execResetPartition k mode s
  | .resetWholeChip => Sys2Proof.Machine.execResetWholeChip s
  | .resetSheafController u => Sys2Proof.Machine.execResetSheafController u s
  | .resetSequencer => Sys2Proof.Machine.execResetSequencer s
  | .resetLoopEngine => Sys2Proof.Machine.execResetLoopEngine s
  | .resetInstance => Sys2Proof.Machine.execResetInstance s
  | .hostResetRequest level target mode => Sys2Proof.Machine.execHostResetRequest level target mode s
  | .coreDrained c => Sys2Proof.Machine.execCoreDrained c s
  | .drainTimeout => Sys2Proof.Machine.execDrainTimeout s
  | .resetClusterGate => Sys2Proof.Machine.execResetClusterGate s
  | .partialResetEnd => Sys2Proof.Machine.execPartialResetEnd s
  | .rstClrcnt => Sys2Proof.Machine.execRstClrcnt s
  | .lcProgramDone => Sys2Proof.Machine.execLcProgramDone s
  | .clearFaults pecOk => Sys2Proof.Machine.execClearFaults pecOk s
  | .capability => Sys2Proof.Machine.execCapability s
  | .otFaultLimit => Sys2Proof.Machine.execOtFaultLimit s
  | .otWarnLimit => Sys2Proof.Machine.execOtWarnLimit s
  | .vinOvFaultLimit => Sys2Proof.Machine.execVinOvFaultLimit s
  | .vinOvWarnLimit w pecOk => Sys2Proof.Machine.execVinOvWarnLimit w pecOk s
  | .vinUvWarnLimit w pecOk => Sys2Proof.Machine.execVinUvWarnLimit w pecOk s
  | .vinUvFaultLimit w pecOk => Sys2Proof.Machine.execVinUvFaultLimit w pecOk s
  | .iinOcFaultLimit => Sys2Proof.Machine.execIinOcFaultLimit s
  | .pinOpWarnLimit => Sys2Proof.Machine.execPinOpWarnLimit s
  | .statusByte => Sys2Proof.Machine.execStatusByte s
  | .statusWord => Sys2Proof.Machine.execStatusWord s
  | .statusInput => Sys2Proof.Machine.execStatusInput s
  | .statusTemperature => Sys2Proof.Machine.execStatusTemperature s
  | .statusCml => Sys2Proof.Machine.execStatusCml s
  | .statusMfrSpecific => Sys2Proof.Machine.execStatusMfrSpecific s
  | .readVin => Sys2Proof.Machine.execReadVin s
  | .readIin => Sys2Proof.Machine.execReadIin s
  | .readTemperature1 => Sys2Proof.Machine.execReadTemperature1 s
  | .readPin => Sys2Proof.Machine.execReadPin s
  | .pmbusRevision => Sys2Proof.Machine.execPmbusRevision s
  | .mfrId => Sys2Proof.Machine.execMfrId s
  | .mfrModel => Sys2Proof.Machine.execMfrModel s
  | .alertResponse => Sys2Proof.Machine.execAlertResponse s
  | .pmbusUnsupported code rd pecOk => Sys2Proof.Machine.execPmbusUnsupported code rd pecOk s
  | .refclkEdge => Sys2Proof.Machine.execRefclkEdge s
  | .alignmentLineRise => Sys2Proof.Machine.execAlignmentLineRise s
  | .meterSupplyValid => Sys2Proof.Machine.execMeterSupplyValid s
  | .aonStartTimeout => Sys2Proof.Machine.execAonStartTimeout s

end Sys2Proof.Machine
end

