-- ==== Sys2Proof/Machine/Only.lean ====
section
/-! DEFINITION. The groups of State by name, and what it says that an operation touches only some of them. -/

namespace Sys2Proof.Machine

/-- The groups of State: one name for each of its fields, in their order. -/
inductive Grp where
  | inp | bm | epp | la | dom | sns | bond | shf | shw | shr | ph | phw | swref | gln | sp | gw | bank | clk | time
  | seg | ntc | nd | sg | est | estd | plan | pd | prot | flt | fpin | silo | defer | blkReset | mtrmRaw | dbg | g
  | peer | mem | bu | rst | meter | mtrm | pmb | pins | io | seqr | lane | acts | sends | cmdw | tally | mt | mts
  | loop | tel | exa | setrec | side | freeCtr | classHold | pending
deriving DecidableEq, Repr

/-- The number of a group. -/
def Grp.bit : Grp → Nat
  | .inp => 0 | .bm => 1 | .epp => 2 | .la => 3 | .dom => 4 | .sns => 5 | .bond => 6 | .shf => 7 | .shw => 8
  | .shr => 9 | .ph => 10 | .phw => 11 | .swref => 12 | .gln => 13 | .sp => 14 | .gw => 15 | .bank => 16 | .clk => 17
  | .time => 18 | .seg => 19 | .ntc => 20 | .nd => 21 | .sg => 22 | .est => 23 | .estd => 24 | .plan => 25
  | .pd => 26 | .prot => 27 | .flt => 28 | .fpin => 29 | .silo => 30 | .defer => 31 | .blkReset => 32
  | .mtrmRaw => 33 | .dbg => 34 | .g => 35 | .peer => 36 | .mem => 37 | .bu => 38 | .rst => 39 | .meter => 40
  | .mtrm => 41 | .pmb => 42 | .pins => 43 | .io => 44 | .seqr => 45 | .lane => 46 | .acts => 47 | .sends => 48
  | .cmdw => 49 | .tally => 50 | .mt => 51 | .mts => 52 | .loop => 53 | .tel => 54 | .exa => 55 | .setrec => 56
  | .side => 57 | .freeCtr => 58 | .classHold => 59 | .pending => 60

/-- The set of groups in a list: one bit for each. -/
def Grp.mask (l : List Grp) : Nat := l.foldl (fun m x => m ||| 2 ^ x.bit) 0

/-- Every group of State whose bit `m` does not hold is in `t` as it is in `s`. -/
structure Frame (m : Nat) (s t : State) : Prop where
  inp : m.testBit 0 = false → t.inp = s.inp
  bm : m.testBit 1 = false → t.bm = s.bm
  epp : m.testBit 2 = false → t.epp = s.epp
  la : m.testBit 3 = false → t.la = s.la
  dom : m.testBit 4 = false → t.dom = s.dom
  sns : m.testBit 5 = false → t.sns = s.sns
  bond : m.testBit 6 = false → t.bond = s.bond
  shf : m.testBit 7 = false → t.shf = s.shf
  shw : m.testBit 8 = false → t.shw = s.shw
  shr : m.testBit 9 = false → t.shr = s.shr
  ph : m.testBit 10 = false → t.ph = s.ph
  phw : m.testBit 11 = false → t.phw = s.phw
  swref : m.testBit 12 = false → t.swref = s.swref
  gln : m.testBit 13 = false → t.gln = s.gln
  sp : m.testBit 14 = false → t.sp = s.sp
  gw : m.testBit 15 = false → t.gw = s.gw
  bank : m.testBit 16 = false → t.bank = s.bank
  clk : m.testBit 17 = false → t.clk = s.clk
  time : m.testBit 18 = false → t.time = s.time
  seg : m.testBit 19 = false → t.seg = s.seg
  ntc : m.testBit 20 = false → t.ntc = s.ntc
  nd : m.testBit 21 = false → t.nd = s.nd
  sg : m.testBit 22 = false → t.sg = s.sg
  est : m.testBit 23 = false → t.est = s.est
  estd : m.testBit 24 = false → t.estd = s.estd
  plan : m.testBit 25 = false → t.plan = s.plan
  pd : m.testBit 26 = false → t.pd = s.pd
  prot : m.testBit 27 = false → t.prot = s.prot
  flt : m.testBit 28 = false → t.flt = s.flt
  fpin : m.testBit 29 = false → t.fpin = s.fpin
  silo : m.testBit 30 = false → t.silo = s.silo
  defer : m.testBit 31 = false → t.defer = s.defer
  blkReset : m.testBit 32 = false → t.blkReset = s.blkReset
  mtrmRaw : m.testBit 33 = false → t.mtrmRaw = s.mtrmRaw
  dbg : m.testBit 34 = false → t.dbg = s.dbg
  g : m.testBit 35 = false → t.g = s.g
  peer : m.testBit 36 = false → t.peer = s.peer
  mem : m.testBit 37 = false → t.mem = s.mem
  bu : m.testBit 38 = false → t.bu = s.bu
  rst : m.testBit 39 = false → t.rst = s.rst
  meter : m.testBit 40 = false → t.meter = s.meter
  mtrm : m.testBit 41 = false → t.mtrm = s.mtrm
  pmb : m.testBit 42 = false → t.pmb = s.pmb
  pins : m.testBit 43 = false → t.pins = s.pins
  io : m.testBit 44 = false → t.io = s.io
  seqr : m.testBit 45 = false → t.seqr = s.seqr
  lane : m.testBit 46 = false → t.lane = s.lane
  acts : m.testBit 47 = false → t.acts = s.acts
  sends : m.testBit 48 = false → t.sends = s.sends
  cmdw : m.testBit 49 = false → t.cmdw = s.cmdw
  tally : m.testBit 50 = false → t.tally = s.tally
  mt : m.testBit 51 = false → t.mt = s.mt
  mts : m.testBit 52 = false → t.mts = s.mts
  loop : m.testBit 53 = false → t.loop = s.loop
  tel : m.testBit 54 = false → t.tel = s.tel
  exa : m.testBit 55 = false → t.exa = s.exa
  setrec : m.testBit 56 = false → t.setrec = s.setrec
  side : m.testBit 57 = false → t.side = s.side
  freeCtr : m.testBit 58 = false → t.freeCtr = s.freeCtr
  classHold : m.testBit 59 = false → t.classHold = s.classHold
  pending : m.testBit 60 = false → t.pending = s.pending

/-- Every group of State that `l` does not name is in `t` as it is in `s`. -/
def Only (l : List Grp) (s t : State) : Prop := Frame (Grp.mask l) s t

end Sys2Proof.Machine
end

