-- ==== Sys2Proof/Certificates/Slice0/Obligations.lean ====
section
/-! DEFINITION. The statements for the provers. -/

namespace Sys2Proof.Machine

/-- From every state of which `pre` holds the command answers a next state, and `post` holds of the two. -/
def Completes (c : Instr) (pre : State → Prop) (post : State → State → Prop) : Prop :=
  ∀ s, pre s → ∃ t, exec c s = .next t ∧ post s t

/-- Register writes act: power, and no freeze (R22, R392). -/
abbrev State.writable (s : State) : Prop := s.powered = true ∧ s.dbg.active = false

/-- Nothing but what access path `p` answers and holds changed (R11). -/
def PathOnly (p : Path) (s t : State) : Prop := t = { s with io := t.io } ∧ ∀ q, q ≠ p → pathOf t q = pathOf s q

/-- A scan of MSR_ACC: the word captured shows the operation before it; the registers, the management path, the meter's port and, but
for what EXTEST held, the pins stay (R393, R464). -/
def Scanned (s t : State) : Prop :=
  t.io.captured = BitVec.ofNat 64 (fld 24 32 s.io.jtag.data.toNat + fld 56 1 (b2n s.io.jtag.done) + fld 57 1 (b2n s.io.jtag.err)) ∧
  t.io.mgmt = s.io.mgmt ∧ t.io.i2cAck = s.io.i2cAck ∧ t.io.i2c = s.io.i2c ∧
  t = { s with io := t.io, pins := { s.pins with scan := none } }

/-- The clocked units act: power and REFCLK (R148). -/
abbrev State.ticking (s : State) : Prop := s.powered = true ∧ s.time.refclk = true

/-- The loop engine takes a step: MCLK runs and no reset holds the engine (R265, R438, R445). -/
abbrev State.looping (s : State) : Prop := s.live = true ∧ loopInReset s = false

/-- A REFCLK edge with nothing else to do: no freeze, no reset asked for or under way, no action in the pipeline (R145). -/
abbrev EdgeAlone (s : State) : Prop :=
  s.ticking ∧ s.dbg.active = false ∧ s.g.chipReq = false ∧ s.blkReset = [] ∧ s.rst.run = none ∧ s.acts = []

/-- A step of the loop engine is due: a measurement window that nothing cut ends (R151, R265). -/
abbrev StepDue (s : State) : Prop :=
  s.looping ∧ s.time.beat % 100 = 0 ∧ 100 ≤ s.time.beat ∧ wholeWin s (s.time.beat - 100) 100 = true

/-- A measurement window ends that nothing cut (R57, R151). -/
abbrev WindowWhole (s : State) : Prop :=
  s.live = true ∧ s.time.beat % 100 = 0 ∧ 100 ≤ s.time.beat ∧ wholeWin s (s.time.beat - 100) 100 = true

/-- Every byte memory is in its canonical form. -/
def State.canonical (s : State) : Prop :=
  Memory.wf s.mem.tmem = true ∧ Memory.wf s.mem.mtimg = true ∧ Memory.wf s.mem.estmem = true
    ∧ Memory.wf s.mem.planmem = true ∧ Memory.wf s.mem.hmem = true

/-- No other sheaf changes: neither its controller's registers nor its phases. -/
def OtherSheaves (d : Nat) (s t : State) : Prop :=
  (∀ k : Fin 93, k.val ≠ d → t.shf.get k = s.shf.get k ∧ t.shw.get k = s.shw.get k ∧ t.shr.get k = s.shr.get k) ∧
  ∀ p : Fin 720, phDom p.val ≠ d → t.ph.get p = s.ph.get p ∧ t.phw.get p = s.phw.get p

/-- No other domain changes: neither its set point nor its state, gating, notices and protection. -/
def OtherDomains (d : Nat) (s t : State) : Prop :=
  ∀ k : Fin 128, k.val ≠ d → t.dom.get k = s.dom.get k ∧ t.sp.get k = s.sp.get k ∧ t.gw.get k = s.gw.get k
    ∧ t.clk.get k = s.clk.get k ∧ t.nd.get k = s.nd.get k ∧ t.pd.get k = s.pd.get k

/-- The sheaf of `d` has failed: where it switched, its phases are off and its domain is dark, but for AON's (R428). -/
def HeldOff (d : Fin 93) (s t : State) : Prop :=
  (s.shf.get d).run = true → (t.shf.get d).run = false ∧ (d.val ≠ 92 → domSt t d.val = .dark)
    ∧ ∀ p : Fin 720, phDom p.val = d.val → (t.phw.get p).cond = false ∧ (t.ph.get p).st ≠ .active

/-- Frames come to this instance: the meter pushes them, and no instance reset runs (R400, R418, R420). -/
abbrev FramesCome (s : State) : Prop :=
  s.live = true ∧ pushes s = true ∧ (s.rst.run.any fun r => decide (r.level = 7)) = false

/-- A WAKE of domain `d` has no effect but WREFUSE: the die is out of service or not calibrated, the sheaf failed, a die stop's cause
or the domain's own overvoltage stands (R110, R360, R369, R428, R430). -/
abbrev WakeBarred (s : State) (d : Nat) : Prop :=
  s.g.mss = false ∨ s.bu.caldone = false ∨ sheafFailed s d = true ∨ s.prot.coolant = true ∨ s.prot.shutdn = true
    ∨ (s.pd.nth d).ovlatch = true

/-- The groups that a raise alone may touch: the fault blocks, the error pin, the silo's queue, requests of block resets,
the counters of requests at the die, PMBus status. -/
def raises : List Grp := [.flt, .fpin, .silo, .blkReset, .g, .pmb]

/-- The groups that the failing of sheaves may touch beside. -/
def failGroups : List Grp :=
  [.dom, .shf, .shw, .shr, .ph, .phw, .sp, .gw, .clk, .nd, .estd, .pd, .la, .lane, .exa, .loop, .classHold, .defer, .prot] ++ raises

/-- The STAT of a fault block. -/
def statOf (s : State) (b : Fin 10) : Word32 := (s.flt.get b).stat

/-- Source `src` of block `b` was raised: its STAT bit is set, the block's others stay. -/
def raisedIn (b : Fin 10) (src : Nat) (s t : State) : Prop := statOf t b = statOf s b ||| (1 <<< src)

/-- Phase `p` was excluded with `cause` (R61, R120): it reads EXCLUDED, is counted, takes part in no interval; PH_EXCL is set
unless its sheaf is in hold; unless it is AON's, no other sheaf's phase changes, and none of its own sheaf outside a fire while the
domain keeps its rating (R126, R140). -/
def Excluded (p : Fin 720) (cause : Nat) (s t : State) : Prop :=
  t.ph.get p = { s.ph.get p with
    st := .excluded
    xcause := cause
    suspect := (s.ph.get p).suspect || decide (cause = 4)
    exclcnt := (s.ph.get p).exclcnt.inc 255 } ∧
  (t.phw.get p).cond = false ∧
  ((s.shf.nth (phDom p.val)).hold = false → (statOf t bSHF).getLsbD 0 = true) ∧
  (t.shr.nth (phDom p.val)).lastph = p.val ∧ (t.shr.nth (phDom p.val)).lastcause = cause ∧
  (phDom p.val ≠ 92 → (∀ q : Fin 720, phDom q.val ≠ phDom p.val → t.ph.get q = s.ph.get q) ∧
    (nAct (phDom p.val) < healthy s (phDom p.val) → (s.shw.nth (phDom p.val)).fire = none →
      ∀ q : Fin 720, q ≠ p → t.ph.get q = s.ph.get q))

/-- What the phase-health sweep finds between a phase's current as sensed and its inductor estimate (R123). -/
def senseDiff (s : State) (m : HealthMeas) (p : Nat) : Int :=
  sensedI s p (m.ph.getD (phPos p) ⟨0, 0, false, false⟩).isns - (m.ph.getD (phPos p) ⟨0, 0, false, false⟩).idcr

/-- Check (a) of R123: it is at least 0.50 A and 0.20 of the estimate. -/
abbrev SenseOff (s : State) (m : HealthMeas) (p : Nat) : Prop :=
  32 ≤ (senseDiff s m p).natAbs ∧ (m.ph.getD (phPos p) ⟨0, 0, false, false⟩).idcr.natAbs ≤ 5 * (senseDiff s m p).natAbs

/-- The sheaf's other ACTIVE phases (R123). -/
def otherActive (s : State) (p : Nat) : List Nat := (phasesOf (phDom p)).filter fun q => decide (q ≠ p) && slotted s q

/-- Check (b) of R123: their median lies within 0.20 A. -/
abbrev OthersAgree (s : State) (m : HealthMeas) (p : Nat) : Prop :=
  (5 * median ((otherActive s p).map (senseDiff s m))).natAbs ≤ 64

/-- Check (c) of R123: a witness bears the difference out. -/
abbrev Witnessed (s : State) (m : HealthMeas) (p : Nat) : Prop :=
  ∃ w ∈ witnesses s (phDom p) m, 0 < senseDiff s m p * (m.isw - w) ∧ (senseDiff s m p).natAbs ≤ 2 * (m.isw - w).natAbs

/-- Context `c` issues word `w` now, and its check passes: a lane may issue, stands at the word and has an actuation left for
it in this beat; the command window has accepted the word, and the life cycle lets it through (R188, R189, R206, R440). -/
abbrev Issues (c : Ctx) (w : Nat) (s : State) : Prop :=
  s.live = true ∧ takesEffect s c w = true ∧ checkIssue s c w = true ∧
  match c with
  | .lane l => laneReady s (s.lane.get l) = true ∧ inCode s (s.lane.get l).pc = true ∧ tWord s (s.lane.get l).pc = w
      ∧ (isActuation (opc w) = true → actsNow s (s.lane.get l) < 8)
  | .cmd => s.cmdw.busy = true ∧ s.cmdw.issued = false ∧ s.cmdw.res = none ∧ s.cmdw.word = w ∧ ovlySlot s .cmd w = true
      ∧ (s.g.lc = 4 → opc w = 0x3C) ∧ (s.g.lc = 0 → opc w ≠ 0x3A)

/-- Context `c` has issued its word: a lane's PC moves on and no other lane changes, the window's word counts as issued. -/
def Issued (c : Ctx) (s t : State) : Prop :=
  match c with
  | .lane l => (t.lane.get l).pc = (s.lane.get l).pc + 1 ∧ (t.lane.get l).st = .run ∧ (t.lane.get l).lag = (s.lane.get l).lag
      ∧ (∀ k, k ≠ l → t.lane.get k = s.lane.get k) ∧ t.cmdw = s.cmdw
  | .cmd => t.cmdw.issued = true ∧ t.lane = s.lane

/-- Domain `d` went dark (R105, R128, R360): it reads DARK at 0 V with nothing to move, ready has fallen, its clock stopped, its
headers open; its sheaf does not switch, none of its phases conducts or counts as active, and its neighbours' set points stay. -/
def WentDark (d : Fin 128) (s t : State) : Prop :=
  domSt t d.val = .dark ∧ (t.gw.get d).ready = false ∧ (t.gw.get d).clock = false ∧ (t.gw.get d).stage = 0
    ∧ (t.sp.get d).vcmd = 0 ∧ (t.sp.get d).vtgt = 0 ∧ (d.val < 93 → (t.shf.nth d.val).run = false)
    ∧ (∀ p : Fin 720, phDom p.val = d.val → (t.phw.get p).cond = false ∧ (t.ph.get p).st ≠ .active ∧ (t.ph.get p).st ≠ .shed)
    ∧ OtherSheaves d.val s t ∧ OtherDomains d.val s t

/-- Every module of the die is at MODE OFF: those that were not in FAULT are OFF (R360, R371). -/
def ModulesStopped (s t : State) : Prop :=
  ∀ m : Fin 4, (t.bm.get m).mode = 0 ∧ (t.bm.get m).st = if (s.bm.get m).st = .fault then .fault else .off

/-- Module `m` entered FAULT with `cause` and counted a trip (R29, R32). -/
def ModuleFaulted (m : Fin 4) (cause : Nat) (s t : State) : Prop :=
  (t.bm.get m).st = .fault ∧ (t.bm.get m).cause = cause ∧ (t.bm.get m).trips = (s.bm.get m).trips.inc 65535

/-- Module `m` left RUN: a class P reaction; with fewer than two left in RUN the die is out of the minimum service set, and no CO or
CL domain stays ON (R30, R31). -/
def LeftRun (m : Fin 4) (s t : State) : Prop :=
  (∀ k, k ≠ m → t.bm.get k = s.bm.get k) ∧ t.classHold.isSome = true ∧
  (nRun t < 2 → t.g.mss = false
    ∧ ∀ d : Fin 128, d.val < 72 → present s d.val = true → domSt t d.val ≠ .on) ∧
  Only [.bm, .dom, .shf, .shw, .shr, .ph, .phw, .sp, .gw, .clk, .nd, .estd, .pd, .flt, .fpin, .silo, .blkReset, .g, .pmb,
    .lane, .classHold] s t

/-- The reset unit acts: power and REFCLK, no freeze, and no reset under way (R435, R445). -/
abbrev ResetReady (s : State) : Prop :=
  s.powered = true ∧ s.time.refclk = true ∧ s.dbg.active = false ∧ s.rst.run = none

/-- Every lane that owns a domain of region `m` aborted with cause 6, and no other lane changed; one new tally entry names them,
with the source of the hardware and DETAIL 8 (R436, R438). -/
def RegionAborted (m : BitVec 128) (s t : State) : Prop :=
  (∀ l : Fin 8, t.lane.get l = if laneOn (s.lane.get l) && decide ((s.lane.get l).mask &&& m ≠ 0)
      then { s.lane.get l with st := .aborted, cause := 6, wait := .no } else s.lane.get l) ∧
  t.tally.count = s.tally.count + 1 ∧
  (t.tally.ents.head?.map fun e => (e.beat, e.source, e.detail)) = some (s.time.beat, 4, 8)

/-- The meter's energy in one direction in units of 1e-17 J: the count of mWh and the remainder (R407, R408). -/
def energyOf (count remainder : Nat) : Nat := count * mWh + remainder

/-- A read over the meter's I2C port answered `data` and its PEC over address, code, address and data; nothing else changed
(R417). -/
def PortAnswers (code : Nat) (data : List Byte) (s t : State) : Prop :=
  t = { s with io := { s.io with i2cAck := true, i2c := data ++ [crc8 ([0x98, BitVec.ofNat 8 code, 0x99] ++ data)] } }

/-- Every core's selector is computed from the loops as they stand (R281). -/
def Selected (t : State) : Prop := ∀ c : Fin 64, t.loop.core.get c = selectCore t c.val

/-- The candidates of core `c`'s selector with their reasons, in the order that resolves a tie (R281): its cluster's thermal loop,
the domain loops of the core, its fabric and its two array regions, the die's, the cap, the budget; each as the Q0.16 that reaches
the selector. -/
def candidates (s : State) (c : Nat) : List (Int × Nat) :=
  let q := fun (f : Int) => fracOf (fracBits f)
  let dom := fun d =>
    let l := s.loop.dl.nth d
    (q l.f, if min l.ilim l.icont = l.icont ∧ (s.dom.nth d).derate ≠ 0 then 8 else 2)
  [(q (s.loop.tl.nth (c / 8)).f, 3), dom c, dom (64 + c / 8), dom (72 + 2 * (c / 8)), dom (72 + 2 * (c / 8) + 1),
    (q s.loop.fdie, 1), (q s.loop.fcap, 0), (q s.loop.fbud, 4)]

/-- The bytes of the telemetry record from `o` on. -/
def recordBytes (s : State) (o n : Nat) : List Byte := ((telRecord s).drop o).take n

/-- The mean over the record's period of what the windows summed (R288). -/
def periodMean (s : State) (x : Int) : Int := rdiv x (max 1 s.tel.n)

/-- A write over the meter's I2C port was acknowledged or not, and the meter became `m` (R417). -/
def PortTakes (ack : Bool) (m : Meter) (s t : State) : Prop :=
  t = { s with meter := m, io := { s.io with i2cAck := ack, i2c := [] } }

/-- A PMBus read answered `data` and its PEC; nothing else changed (R458). -/
def PmbusAnswers (code : Nat) (data : List Byte) (s t : State) : Prop :=
  let a := 2 * (0x40 + s.pmb.addr)
  t = { s with pmb := { s.pmb with
    ack := true
    resp := data ++ [crc8 ([BitVec.ofNat 8 a, BitVec.ofNat 8 code, BitVec.ofNat 8 (a + 1)] ++ data)] } }

/-- A message of kind `kind` arrives whole on a port that is on, in a job, with the check and the length right (R319, R322). -/
abbrev Arrives (kind : Nat) (port : Fin 19) (h : Word64) (pay : List Word64) (s : State) : Prop :=
  s.live = true ∧ s.side.en = true ∧ (s.side.port.get port).en = true ∧ bits h.toNat 0 16 = msgChk (msgOf h pay)
    ∧ (msgOf h pay).job = s.side.jobtag ∧ (msgOf h pay).kind = kind ∧ bits h.toNat 24 6 = pay.length ∧ lenOk kind pay.length = true

/-- The messages `ms` joined, in order, the queue of every port that is on and that `f` picks, where a queue that is full for
them drops them (R325); no other port changes. -/
def Sends (f : Nat → Port → Bool) (ms : List Msg) (s t : State) : Prop :=
  ∀ k : Fin 19, t.side.port.get k =
    let p := s.side.port.get k
    if p.en && f k.val p then ms.foldl (fun (p : Port) m =>
      if msgPrio m.kind < 2 ∧ 64 ≤ (p.q.filter fun x => decide (msgPrio x.1.kind < 2)).length then p
      else { p with q := p.q ++ [(m, m.payload.length + 1)] }) p
    else p

/-- But for its queues and the count of drops, the sideband's state of `t` is that of `s` changed by `f`. -/
def SideIs (f : Side → Side) (s t : State) : Prop :=
  { t.side with port := s.side.port, qfull := s.side.qfull } = f s.side

/-- A flooded message on its way: its repeat entry, and the message with one hop more on every other port (R324). -/
def Floods (port : Fin 19) (m : Msg) (s t : State) : Prop :=
  if bits (slot m 0) 48 4 + 1 < s.side.diam
  then Sends (fun k _ => decide (k ≠ port.val)) [{ m with payload := [BitVec.ofNat 64 (slot m 0 + 2 ^ 48)] }] s t
  else t.side.port = s.side.port

/-- The repeat table with a flooded message put first; it holds 1,024 (R324). -/
def seenWith (m : Msg) (x : Side) : List (Nat × Nat) := ((m.orig, m.seq) :: x.seen).take 1024

/-- Ordinal `o` has a report that the root marks: armed and aligned, its digest the root's, and its base (R341). -/
abbrev Marked (s : State) (o : Nat) : Prop :=
  ∃ r ∈ s.side.rpts, r.1 = o ∧ bits r.2.toNat 31 1 = 1 ∧ bits r.2.toNat 30 1 = 1 ∧ bits r.2.toNat 32 32 = le32 s.seqr.tdig 0
    ∧ bits r.2.toNat 0 30 = s.side.barB % 2 ^ 30

/-- Every lane that was on reads HALTED; the others stay (R197, R342). -/
def LanesHalted (s t : State) : Prop :=
  ∀ l : Fin 8, t.lane.get l =
    if laneOn (s.lane.get l) then { s.lane.get l with st := .halted, wait := .no } else s.lane.get l

/-- The rows of messages: kind and command (R323). -/
def messageRows : List (Nat × (Fin 19 → Word64 → List Word64 → Instr)) :=
  [(1, .stall), (2, .verdict), (3, .armrpt), (4, .granrpt), (5, .grant), (6, .trknack), (7, .trkpkt), (8, .trkres), (9, .trkend)]

/-- The command window's result is known: OK, to be written at the action beat (R206). -/
def AnswersOk (c : Ctx) (s t : State) : Prop :=
  c = .cmd → t.cmdw.res = some (0, 0) ∧ t.cmdw.due = s.time.beat + 4

/-- The registers of context `c` become `f` of what they were, and nothing else but the issue happens. -/
def RegistersBecome (f : RegFile → RegFile) (c : Ctx) (s t : State) : Prop :=
  rfOf t c = f (rfOf s c) ∧ Issued c s t ∧ AnswersOk c s t ∧ Only [.lane, .cmdw] s t

/-- Only lane `l` changes. -/
def OnlyLane (l : Fin 8) (s t : State) : Prop := (∀ k, k ≠ l → t.lane.get k = s.lane.get k) ∧ Only [.lane] s t

/-- Lane `l` aborted with `cause` (R199, R218): it reads ABORTED, LANE_ABORT is set, the tally says so; no other lane changes. -/
def Aborted (l : Fin 8) (cause : Nat) (s t : State) : Prop :=
  (t.lane.get l).st = .aborted ∧ (t.lane.get l).cause = cause ∧ (statOf t bSEQ).getLsbD 5 = true ∧
  (t.tally.ents.head?.map fun e => (e.source, e.detail, e.lanes)) = some (4, cause, 2 ^ l.val) ∧
  (∀ k, k ≠ l → t.lane.get k = s.lane.get k) ∧
  Only [.seg, .flt, .fpin, .silo, .blkReset, .g, .pmb, .lane, .tally, .exa, .side] s t

/-- The rows whose instruction is an action, with the words that each issues. -/
def actionRows : List ((Ctx → Instr) × (Nat → Bool)) :=
  [(.seg, isOp 0x04), (.vset, isOp 0x08), (.lline, isOp 0x09), (.note, isOp 0x0A), (.opsel, isOp 0x0B), (.gate, isOp 0x0C),
   (.wake, isOp 0x0D), (.bank, isOp 0x0E), (.startg, isOp 0x0F), (.capDomainIlim, isKind 0x10 0 4),
   (.capDieLimit, isKind 0x10 1 4), (.capPackagePower, isKind 0x10 2 4), (.capAveragingPeriod, isKind 0x10 3 4),
   (.ovly, isOp 0x11), (.prio, isOp 0x12), (.telNormal, isKind 0x14 0 3), (.telFine, isKind 0x14 1 3),
   (.telTag, isKind 0x14 2 3), (.gran, isOp 0x2A), (.save, isOp 0x30)]

/-- The rows that the command window alone takes, ARM apart. -/
def commandRows : List (Instr × (Nat → Bool)) :=
  [(.clrfFaultBlock, isKind 0x38 0 2), (.clrfSat, isKind 0x38 1 2), (.loadplanTrack, isKind 0x39 0 6),
   (.loadplanMicrotable, isKind 0x39 1 6), (.loadplanWeights, isKind 0x39 2 6), (.loadplanPlan, isKind 0x39 3 6),
   (.loadplanOverlay, isKind 0x39 4 6), (.loadplanMode, isKind 0x39 5 6), (.disarm, isOp 0x3B), (.lcreq, isOp 0x3C)]

/-- The other rows that a lane issues, NOP apart. -/
def laneRows : List ((Ctx → Instr) × (Nat → Bool)) :=
  [(.halt, isOp 0x01), (.atB, isOp 0x02), (.wait, isOp 0x03), (.mark, isOp 0x05), (.li, isOp 0x18), (.add, isOp 0x19),
   (.sub, isOp 0x1A), (.min, isOp 0x1B), (.max, isOp 0x1C), (.mulq, isOp 0x1D), (.cmp, isOp 0x1E), (.br, isOp 0x20),
   (.call, isOp 0x21), (.ret, isOp 0x22), (.loop, isOp 0x23), (.send, isOp 0x28), (.bar, isOp 0x29), (.fence, isOp 0x31)]

/-- The window's word entered the pipeline as an action due four beats after its acceptance (R152, R206). -/
def CommandQueued (s t : State) : Prop :=
  t = { s with
    cmdw := { s.cmdw with issued := true }
    acts := s.acts ++ [⟨.cmd, s.cmdw.word, s.cmdw.accbeat, s.cmdw.accbeat, 0, s.cmdw.accbeat + 4, none, s.cmdw.cext, false⟩] }

/-- One action of the pipeline is due: resolved to value `v` and the domains `m`, with no stall due before it, no SAVE, reset or
Exact mode to meet. -/
abbrev DueAlone (a : Act) (v : Nat) (m : BitVec 128) (s : State) : Prop :=
  s.live = true ∧ s.acts = [a] ∧ a.res = some (v, m) ∧ a.due ≤ s.time.beat ∧ s.exa.svreq = none ∧ s.rst.run = none
    ∧ exactOn s = false ∧ ∀ p, s.exa.pend.head? = some p → s.time.beat < stallBeat s p.t

/-- The image that an ARM with resume reads (R311). -/
def resumeImage (s : State) : List Byte := Memory.readBytes s.mem.hmem s.exa.svaddr 11088

/-- The code of the resume's checks, zero where they pass (R311). -/
def resumeCode (a : Act) (s : State) : Nat :=
  resumeCheck s (restoreAll (armLanes s (armBase a)) (resumeImage s) (armBase a)) (resumeImage s) (armBase a)

/-- It names one present domain. -/
abbrev DueOn (a : Act) (v : Nat) (d : Fin 128) (s : State) : Prop :=
  DueAlone a v (domBit d.val) s ∧ fDom a.word = d.val ∧ typ d.val ≠ .none ∧ present s d.val = true

/-- The pipeline is empty again, and a command's result `r` is known (R206); an action of a lane or one that
a resume restored (R312) has none. -/
def Answered (a : Act) (r : Nat) (s t : State) : Prop :=
  t.acts = [] ∧ t.cmdw = if a.ctx = .cmd ∧ a.orphan = false then { s.cmdw with res := some (r, 0), due := a.due } else s.cmdw

end Sys2Proof.Machine

open Sys2Proof Sys2Proof.Machine

/-- A step with a command at the front runs that command on the state with the queue's rest, and whatever the command does,
the rest of the queue is what waits afterwards. The model's choice (log 1): a block with no command waiting idles. -/
def Obligations.StepRunsTheFrontCommand : Prop :=
  (∀ (s : State) (c : Instr) (l : List Instr), s.pending = c :: l →
    step s = exec c { s with pending := l } ∧ ∀ t, step s = .next t → t.pending = l) ∧
  (∀ s : State, s.pending = [] → step s = .next s)

/-- The model's choice (log 16): every command of the table answers a next state from every state, since a row whose condition
does not hold changes nothing there, where the spec says nothing of such a row. No command adds to the queue or takes from it. -/
def Obligations.EveryCommandAnswersANextState : Prop :=
  ∀ (c : Instr) (s : State), ∃ t, exec c s = .next t ∧ t.pending = s.pending

/-- Every step keeps the five byte memories (track memory, microtable image, weights, plan image, host memory) in their
canonical form. Where the spec leaves a point open it states the model's choice (log 2). -/
def Obligations.EveryStepKeepsByteMemoriesCanonical : Prop :=
  ∀ s t : State, s.canonical → step s = .next t → t.canonical

/-- At reset every byte memory is in its canonical form, no command waits, and no record of the silo is written. That they
list nothing is the model's choice (log 2). -/
def Obligations.ResetHoldsByteMemoriesCanonical : Prop :=
  State.reset.canonical ∧ State.reset.pending = [] ∧ State.reset.mem.siloRecs = []

/-- R384, R389: nothing that a command does takes a record out of the silo or changes one; R52: nothing blows a fuse. -/
def Obligations.SiloRecordsAndFusesEndure : Prop :=
  ∀ s t : State, step s = .next t → (∃ new, t.mem.siloRecs = s.mem.siloRecs ++ new) ∧ t.mem.fuse = s.mem.fuse

/-- R10, R11, R58: accesses of the window. A misaligned or narrower access answers an error and changes no register. A read of
_LO answers the value and puts its upper half into the path's shadow, which the next read of _HI answers and consumes; without
a shadow _HI answers the live half. A write of _LO is held and changes no register; the write of _HI applies the pair, with
the held _LO or the present low half, and consumes it. A read of DOM_VSNS copies DOM_I, DOM_P and DOM_E of the domain, which
that path's reads of the three answer until its next read of any DOM_VSNS; for another domain they answer live. Each path has
its own shadows and held values, and JTAG may access what R393 allows (`pathMay`). A pair in effect is shown at TEL_BASE
(R295). Which offsets are such pairs (`isLo`), and that an access outside the window answers an error, are the model's
readings (log 114). -/
def Obligations.RegisterAccessPaths : Prop :=
  (∀ p off size wr, Completes (.misalignedAccess p off size wr)
    (fun s => s.powered = true ∧ (size ≠ 4 ∨ off % 4 ≠ 0 ∨ 0x100000 ≤ off))
    (fun s t => PathOnly p s t ∧ (pathOf t p).err = true ∧ pathOf t p = { pathOf s p with err := true })) ∧
  (∀ p o, isLo o = true → Completes (.readLo p o)
    (fun s => s.powered = true ∧ pathMay s p o false = true)
    (fun s t => PathOnly p s t ∧ (pathOf t p).err = false ∧ (pathOf t p).data = word s o
      ∧ held (pathOf t p).shadow o = some (word s (o + 4)))) ∧
  (∀ p o x, isLo o = true → Completes (.readHi p (o + 4))
    (fun s => s.powered = true ∧ held (pathOf s p).shadow o = some x ∧ pathMay s p (o + 4) false = true)
    (fun s t => PathOnly p s t ∧ (pathOf t p).err = false ∧ (pathOf t p).data = x
      ∧ held (pathOf t p).shadow o = none)) ∧
  (∀ p o, isLo o = true → Completes (.readHi p (o + 4))
    (fun s => s.powered = true ∧ held (pathOf s p).shadow o = none ∧ pathMay s p (o + 4) false = true)
    (fun s t => PathOnly p s t ∧ (pathOf t p).err = false ∧ (pathOf t p).data = word s (o + 4))) ∧
  (∀ p o v, isLo o = true → Completes (.writeLo p o v)
    (fun s => s.powered = true ∧ pathMay s p o true = true)
    (fun s t => PathOnly p s t ∧ (pathOf t p).err = false ∧ held (pathOf t p).held o = some v)) ∧
  (∀ p o v lo, isLo o = true → Completes (.writeHi p (o + 4) v)
    (fun s => s.writable ∧ held (pathOf s p).held o = some lo ∧ pathMay s p (o + 4) true = true)
    (fun s t => t = { writeWide s o (lo.toNat + 2 ^ 32 * v.toNat) with io := t.io } ∧ held (pathOf t p).held o = none
      ∧ ∀ q, q ≠ p → pathOf t q = pathOf s q)) ∧
  (∀ p o v, isLo o = true → Completes (.writeHi p (o + 4) v)
    (fun s => s.writable ∧ held (pathOf s p).held o = none ∧ pathMay s p (o + 4) true = true)
    (fun s t => t = { writeWide s o ((word s o).toNat + 2 ^ 32 * v.toNat) with io := t.io }
      ∧ ∀ q, q ≠ p → pathOf t q = pathOf s q)) ∧
  (∀ p v lo, Completes (.writeHi p 0x7000C v)
    (fun s => s.writable ∧ held (pathOf s p).held 0x70008 = some lo ∧ pathMay s p 0x7000C true = true)
    (fun s t => t.tel.base = (lo.toNat + 2 ^ 32 * v.toNat) / 1024 * 1024
      ∧ t = { s with io := t.io, tel := { s.tel with base := t.tel.base } })) ∧
  (∀ p d, Completes (.domVsnsRead p d)
    (fun s => s.powered = true ∧ pathMay s p (0x10008 + 64 * d.val) false = true)
    (fun s t => PathOnly p s t ∧ (pathOf t p).err = false
      ∧ (pathOf t p).data = word s (0x10008 + 64 * d.val)
      ∧ (pathOf t p).vsns = some (d.val, word s (0x1000C + 64 * d.val), word s (0x10010 + 64 * d.val),
          word s (0x10014 + 64 * d.val)))) ∧
  (∀ p (d : Fin 128) (k : Fin 3) a b c, Completes (.readLo p (0x1000C + 64 * d.val + 4 * k.val))
    (fun s => s.powered = true ∧ (pathOf s p).vsns = some (d.val, a, b, c) ∧ pathMay s p (0x1000C + 64 * d.val + 4 * k.val) false = true)
    (fun s t => PathOnly p s t ∧ (pathOf t p).err = false ∧ (pathOf t p).data = ([a, b, c] : List Word32).getD k.val 0
      ∧ (pathOf t p).vsns = (pathOf s p).vsns)) ∧
  (∀ p (d : Fin 128) (k : Fin 3), Completes (.readLo p (0x1000C + 64 * d.val + 4 * k.val))
    (fun s => s.powered = true ∧ ((pathOf s p).vsns.all fun x => decide (x.1 ≠ d.val)) = true ∧ pathMay s p (0x1000C + 64 * d.val + 4 * k.val) false = true)
    (fun s t => PathOnly p s t ∧ (pathOf t p).err = false
      ∧ (pathOf t p).data = word s (0x1000C + 64 * d.val + 4 * k.val) ∧ (pathOf t p).vsns = (pathOf s p).vsns))

/-- R12, R14: a register write stores its word little-endian in the microtable image, whose other bytes and every register
stay as they were. R393, R464: a scan of MSR_ACC captures the operation before it, data in [55:24], DONE in [56], ERR in [57].
A read of ID, which every life-cycle state allows, is then done with ID as its data; a write that the life-cycle state does
not allow answers an error and changes no register, under MSR_ACC as under a register row; OP 0 leaves the result to be
captured again; an operation for another instance leaves none of this one's. Where the spec leaves a point open it states the
model's choice (log 113, 152). -/
def Obligations.RegisterWritesAndJtagAccesses : Prop :=
  (∀ p k v, k < 0x1000 → Completes (.registerWrite p (0x48000 + 4 * k) v)
    (fun s => s.writable ∧ Memory.wf s.mem.mtimg = true ∧ pathMay s p (0x48000 + 4 * k) true = true)
    (fun s t => t = { s with io := t.io, mem := { s.mem with mtimg := t.mem.mtimg } } ∧ (pathOf t p).err = false
      ∧ Memory.word t.mem.mtimg (4 * k) = v
      ∧ ∀ a, a < 4 * k ∨ 4 * k + 4 ≤ a → Memory.read t.mem.mtimg a = Memory.read s.mem.mtimg a)) ∧
  (∀ o v, Completes (.registerWrite .jtag o v)
    (fun s => s.powered = true ∧ (s.g.lc = 4 ∨ s.g.lc = 2 ∧ o ≠ 0xF0000))
    (fun s t => PathOnly .jtag s t ∧ t.io.jtag.err = true)) ∧
  (∀ v, Completes (.msrAcc 1 0 0 v)
    (fun s => s.powered = true ∧ s.g.die = 0 ∧ s.g.lc ≤ 4)
    (fun s t => Scanned s t ∧ t.io.jtag.done = true ∧ t.io.jtag.err = false ∧ t.io.jtag.data = word s 0)) ∧
  (∀ adr v, Completes (.msrAcc 2 0 adr v)
    (fun s => s.powered = true ∧ s.g.die = 0 ∧ (s.g.lc = 4 ∨ s.g.lc = 2 ∧ adr % 2 ^ 18 ≠ 0x3C000))
    (fun s t => Scanned s t ∧ t.io.jtag.done = true ∧ t.io.jtag.err = true)) ∧
  (∀ inst adr v, Completes (.msrAcc 0 inst adr v)
    (fun s => s.powered = true)
    (fun s t => Scanned s t ∧ t.io.jtag = s.io.jtag)) ∧
  (∀ op inst adr v, Completes (.msrAcc op inst adr v)
    (fun s => s.powered = true ∧ op ≠ 0 ∧ inst ≠ s.g.die)
    (fun s t => Scanned s t ∧ t.io.jtag.done = false ∧ t.io.jtag.err = false))

/-- R22, R23: while the input switch is open, VIN in 40 to 60 V begins a soft start, and any other VIN changes nothing; while
it is not open, VIN below 38 V or above 62 V opens it and leaves the block without power, and any other VIN changes nothing.
R423: at the end of a soft start the switch is closed, BM.0 is STARTING toward PILOT and the other modules are OFF, AON is OFF
with V_cmd 0, the life-cycle state programmed last is in force, the PMB_ADDR straps are taken; fuse map, silo records, meter,
REFCLK, the alignment line, what EXTEST holds and the waiting commands are as they were, and every group of the state that the
clause does not list is at its power-up value. Outside a soft start its end changes nothing. R424: the report that AON came
too late, while AON rises, leaves the die without power, with AON OFF at 0 V; at any other time of a powered block it changes
nothing. Where the spec leaves a point open it states the model's choice (log 19, 33, 85). -/
def Obligations.InputSwitchAndAutonomousStart : Prop :=
  (∀ vin, Completes (.vinStart vin)
    (fun s => s.inp.sw = .opened ∧ 20000 ≤ vin ∧ vin ≤ 30000)
    (fun s t => t = { s with inp := { s.inp with sw := .softStart } } ∧ t.powered = false)) ∧
  (∀ vin, Completes (.vinStart vin)
    (fun s => ¬ (s.inp.sw = .opened ∧ 20000 ≤ vin ∧ vin ≤ 30000))
    (fun s t => t = s)) ∧
  Completes .softStartEnd
    (fun s => s.inp.sw = .softStart)
    (fun s t => t.inp.sw = .closed ∧ t.g.boot = .module 0 ∧ (t.bm.get 0).st = .starting ∧ (t.bm.get 0).mode = 1
      ∧ (∀ m : Fin 4, m ≠ 0 → (t.bm.get m).st = .off ∧ (t.bm.get m).mode = 0) ∧ domSt t 92 = .off ∧ (t.sp.nth 92).vcmd = 0
      ∧ t.g.lc = s.g.lcNext ∧ t.mem.fuse = s.mem.fuse ∧ t.mem.siloRecs = s.mem.siloRecs ∧ t.meter = s.meter
      ∧ t.time.refclk = s.time.refclk ∧ t.time.aligned = s.time.aligned ∧ t.pending = s.pending
      ∧ t.pins = { s.pins with addr := (Config.addressStraps s.freeCtr).toNat }
      ∧ Only [.bm, .dom, .sp, .shf, .shw, .ph, .phw, .g, .time, .meter, .pins, .freeCtr, .pending]
          (State.start (partOf s)) t) ∧
  Completes .softStartEnd
    (fun s => s.inp.sw ≠ .softStart)
    (fun s t => t = s) ∧
  (∀ vin, Completes (.undervoltageStop vin)
    (fun s => s.inp.sw ≠ .opened ∧ vin < 19000)
    (fun s t => t = { s with inp := { s.inp with sw := .opened } } ∧ t.powered = false)) ∧
  (∀ vin, Completes (.undervoltageStop vin)
    (fun s => ¬ (s.inp.sw ≠ .opened ∧ vin < 19000))
    (fun s t => t = s)) ∧
  (∀ vin, Completes (.overvoltageStop vin)
    (fun s => s.inp.sw ≠ .opened ∧ 31000 < vin)
    (fun s t => t = { s with inp := { s.inp with sw := .opened } } ∧ t.powered = false)) ∧
  (∀ vin, Completes (.overvoltageStop vin)
    (fun s => ¬ (s.inp.sw ≠ .opened ∧ 31000 < vin))
    (fun s t => t = s)) ∧
  Completes .aonStartTimeout
    (fun s => s.powered = true ∧ s.g.boot = .aon)
    (fun s t => t.g = { s.g with boot := .dead } ∧ t.powered = false ∧ domSt t 92 = .off ∧ (t.sp.nth 92).vcmd = 0
      ∧ Only [.g, .dom, .sp, .shf, .shw, .ph, .phw] s t) ∧
  Completes .aonStartTimeout
    (fun s => s.powered = true ∧ s.g.boot ≠ .aon)
    (fun s t => t = s)

/-- R28, R29, R31, R32, R440: while VB_OV has not shut the modules off, and not in END, a write of MODE = RUN starts a module
that is OFF, in PILOT, or in FAULT after an OFF, and a write of PILOT one that is OFF; one to a module in STARTING changes
MODE alone, and STARTING ends in the state the latest write asked for; a write of PILOT moves a module in RUN to PILOT at
once; a write of OFF ends every state but FAULT, which reads FAULT on until a RUN follows (log 9). A module faults by its
current at the limit in force (8 A in PILOT and on the way to it, else ILIM), by heat or ratio, and in STARTING by its
timeout: it reads FAULT with the cause, counts a trip and sets its bit of FLT_BM. One that leaves RUN begins a class P
reaction; with fewer than two left in RUN the die leaves the minimum service set and no CO or CL domain stays ON. No other
module changes. R40 to R42: the 50 ns update of a rail with a driven channel reads e = V_cmd - VSNS, moves the duty by J0 e +
J1 e1 + J2 e2 within 0 and J3, and remembers the errors. A channel in service of a rail that is OFF leaves service with TFLT,
is counted, sets EPP_OUT and drives no more; a write of EN to a channel in service of a rail that is OFF sets EN and nothing
else, and one to a channel of an absent rail changes nothing. -/
def Obligations.BusModulesAndExternalPhases : Prop :=
  (∀ m : Fin 4,
  Completes (.bmModeRun m)
    (fun s => s.writable ∧ s.prot.vbkill = false ∧ s.g.lc ≠ 4 ∧ ((s.bm.get m).st = .off ∨ (s.bm.get m).st = .pilot
      ∨ (s.bm.get m).st = .fault ∧ (s.bm.get m).offSeen = true))
    (fun s t => t = { s with bm := s.bm.set m { s.bm.get m with mode := 2, startMode := 2, st := .starting, offSeen := false } }) ∧
  Completes (.bmModeRun m)
    (fun s => s.writable ∧ s.prot.vbkill = false ∧ s.g.lc ≠ 4 ∧ (s.bm.get m).st = .starting)
    (fun s t => t = { s with bm := s.bm.set m { s.bm.get m with mode := 2 } }) ∧
  Completes (.bmModePilot m)
    (fun s => s.writable ∧ s.prot.vbkill = false ∧ s.g.lc ≠ 4 ∧ (s.bm.get m).st = .off)
    (fun s t => t = { s with bm := s.bm.set m { s.bm.get m with mode := 1, startMode := 1, st := .starting, offSeen := false } }) ∧
  Completes (.bmModePilot m)
    (fun s => s.writable ∧ s.prot.vbkill = false ∧ s.g.lc ≠ 4 ∧ (s.bm.get m).st = .starting)
    (fun s t => t = { s with bm := s.bm.set m { s.bm.get m with mode := 1 } }) ∧
  Completes (.bmModePilot m)
    (fun s => s.writable ∧ s.prot.vbkill = false ∧ s.g.lc ≠ 4 ∧ (s.bm.get m).st = .run)
    (fun s t => (t.bm.get m).mode = 1 ∧ (t.bm.get m).st = .pilot ∧ LeftRun m s t) ∧
  Completes (.bmModeOff m)
    (fun s => s.writable ∧ (s.bm.get m).st ≠ .run)
    (fun s t => Only [.bm] s t ∧ (t.bm.get m).mode = 0 ∧ (∀ k, k ≠ m → t.bm.get k = s.bm.get k)
      ∧ ((s.bm.get m).st = .fault → (t.bm.get m).st = .fault ∧ (t.bm.get m).offSeen = true)
      ∧ ((s.bm.get m).st ≠ .fault → (t.bm.get m).st = .off)) ∧
  Completes (.bmModeOff m)
    (fun s => s.writable ∧ (s.bm.get m).st = .run)
    (fun s t => (t.bm.get m).mode = 0 ∧ (t.bm.get m).st = .off ∧ LeftRun m s t) ∧
  Completes (.bmStartingEnd m)
    (fun s => s.writable ∧ (s.bm.get m).st = .starting ∧ s.g.boot ≠ .module m.val)
    (fun s t => t = { s with bm := s.bm.set m { s.bm.get m with
      st := if (s.bm.get m).mode = 2 then .run else .pilot } }) ∧
  (∀ cause iout, 1 ≤ cause → cause ≤ 3 → (cause = 1 → 512 ≤ iout) → Completes (.bmFault m ⟨cause, iout⟩)
    (fun s => s.writable ∧ ((s.bm.get m).st = .pilot ∨ (s.bm.get m).st = .starting ∧ (s.bm.get m).startMode = 1)
      ∧ s.g.boot ≠ .module m.val)
    (fun s t => ModuleFaulted m cause s t ∧ (t.flt.get bBM).stat = (s.flt.get bBM).stat ||| (1 <<< m.val)
      ∧ (∀ k, k ≠ m → t.bm.get k = s.bm.get k) ∧ Only [.bm, .flt, .fpin, .silo, .blkReset, .g, .pmb] s t)) ∧
  (∀ iout, Completes (.bmFault m ⟨4, iout⟩)
    (fun s => s.writable ∧ (s.bm.get m).st = .starting ∧ s.g.boot ≠ .module m.val)
    (fun s t => ModuleFaulted m 4 s t ∧ (t.flt.get bBM).stat = (s.flt.get bBM).stat ||| (1 <<< m.val)
      ∧ (∀ k, k ≠ m → t.bm.get k = s.bm.get k) ∧ Only [.bm, .flt, .fpin, .silo, .blkReset, .g, .pmb] s t)) ∧
  (∀ cause iout, 1 ≤ cause → cause ≤ 3 → Completes (.bmFault m ⟨cause, iout⟩)
    (fun s => s.writable ∧ (s.bm.get m).st = .run ∧ s.g.boot ≠ .module m.val ∧ (cause = 1 → (s.bm.get m).ilim ≤ iout))
    (fun s t => ModuleFaulted m cause s t ∧ (t.flt.get bBM).stat.getLsbD m.val = true ∧ LeftRun m s t))) ∧
  ((∀ (l : Fin 4) vsns isns, Completes (.eppDutyUpdate l vsns isns)
    (fun s => s.live = true ∧ (laChannels l.val).any (driven s) = true)
    (fun s t =>
      let e := rdiv ((s.sp.nth (96 + l.val)).vcmd - vsns * v16u) 64000
      let lim := max 0 (cfgS s 0x38 (4 * l.val + 3)) * 65536
      let sum := ((s.la.get l).duty + cfgS s 0x38 (4 * l.val) * e + cfgS s 0x38 (4 * l.val + 1) * (s.la.get l).e1
        + cfgS s 0x38 (4 * l.val + 2) * (s.la.get l).e2)
      (t.la.get l).e1 = e ∧ (t.la.get l).e2 = (s.la.get l).e1 ∧ (t.la.get l).duty = (max 0 (min lim sum)).toNat
      ∧ (∀ k, k ≠ l → t.la.get k = s.la.get k) ∧ Only [.la, .epp] s t)) ∧
  (∀ c : Fin 16, Completes (.eppOutOfService c true)
    (fun s => s.writable ∧ inService (s.epp.get c) = true ∧ domSt s (96 + c.val / 4) = .off)
    (fun s t => (t.epp.get c).out = true ∧ (t.epp.get c).tflt = true ∧ (t.epp.get c).duty = 0
      ∧ (t.epp.get c).flt = (s.epp.get c).flt.inc 65535 ∧ (∀ k, k ≠ c → t.epp.get k = s.epp.get k)
      ∧ (t.flt.get bBM).stat = (s.flt.get bBM).stat ||| (1 <<< 4)
      ∧ Only [.epp, .flt, .fpin, .silo, .blkReset, .g, .pmb] s t)) ∧
  (∀ (c : Fin 16) en, Completes (.eppEnWrite c en)
    (fun s => s.writable ∧ domSt s (96 + c.val / 4) = .off ∧ (s.epp.get c).absent = false ∧ (s.epp.get c).out = false)
    (fun s t => t = { s with epp := s.epp.set c { s.epp.get c with en := en, out := false, enLow := false } })) ∧
  (∀ (c : Fin 16) en, Completes (.eppEnWrite c en)
    (fun s => s.writable ∧ (s.epp.get c).absent = true)
    (fun s t => t = s)))

/-- R67: at a beat that is a multiple of ten, or in hold, a VB sample between 1 and 4,095 (2 mV units) that leaves V_ref below
VB / 2 before and after rescales the hysteresis B of a running sheaf that does not skip by g(VB_new) / g(VB_old), g(VB) = (VB
- 2 V_ref) / VB, and clamps it; a sheaf that does not run keeps its B. The ripple emulators of its phases run to the sample's
time at the old VB, and nothing else changes. R63, R77, R79, R91, R103: at an SWREF edge of a running sheaf I_sw is the sum of
its phases' currents as sensed, which their registers take; the load line moves toward its target by at most 10 µΩ (not in
hold), the slot edge by at most 4; dead time, pulse limit, clamps and gain are those of the last trim cycle's end (R79, R353);
B is seeded where a hold has just ended, else kept; trim and lock are kept. No set point moves while REFCLK runs, and no other
sheaf or domain changes. Where the spec leaves a point open it states the model's choice (log 22, 35, 117, 134, 136). -/
def Obligations.VbSamplesAndSwrefPeriods : Prop :=
  (∀ (i : Fin 93) (vb ps : Nat), vb ≤ 4095 →
  Completes (.vbSample i ⟨vb, ps⟩)
    (fun s => s.powered = true ∧ ((s.shf.get i).hold = true ∨ s.time.beat % 10 = 0) ∧ (s.shf.get i).run = true
      ∧ (s.shf.get i).skip = false ∧ 0 < vb ∧ 0 < (s.shw.get i).vb
      ∧ 2 * vRef s i.val < 128000 * vb ∧ 2 * vRef s i.val < 128000 * (s.shw.get i).vb)
    (fun s t =>
      let v := vRef s i.val
      let vo : Int := 128000 * (s.shw.get i).vb
      let vn : Int := 128000 * vb
      let b := clampB s i.val (rdiv ((s.shf.get i).b * (vn - 2 * v) * vo) (vn * (vo - 2 * v)).toNat)
      t = { s with
        phw := s.phw.modEach (phasesOf i.val) fun _ x => ripTo s i.val ps x
        shw := s.shw.set i { s.shw.get i with vb := vb }
        shf := s.shf.set i { s.shf.get i with b := b, lockLim := (s.shf.get i).lockLim && atClamp s i.val b } }) ∧
  Completes (.vbSample i ⟨vb, ps⟩)
    (fun s => s.powered = true ∧ ((s.shf.get i).hold = true ∨ s.time.beat % 10 = 0) ∧ (s.shf.get i).run = false)
    (fun s t => t = { s with
      phw := s.phw.modEach (phasesOf i.val) fun _ x => ripTo s i.val ps x
      shw := s.shw.set i { s.shw.get i with vb := vb } })) ∧
  (∀ (i : Fin 93) cur vfly tind ps, Completes (.swrefPeriod i ⟨cur, ps⟩ vfly tind)
    (fun s => s.powered = true ∧ (s.shf.get i).run = true)
    (fun s t =>
      (t.shw.get i).isw = sumList ((phasesOf i.val).map fun p => (sensedCur s i.val cur).getD (phPos p) 0)
      ∧ (∀ p : Fin 720, phDom p.val = i.val → (t.phw.get p).iLast = (sensedCur s i.val cur).getD (phPos p.val) 0
          ∧ (t.phw.get p).vfly = vfly.getD (phPos p.val) 0 ∧ (t.phw.get p).tind = tind.getD (phPos p.val) 0
          ∧ (t.phw.get p).hardOff = false ∧ (t.phw.get p).cond = (s.phw.get p).cond)
      ∧ (t.shw.get i).zll = (if (s.shf.get i).hold then (s.shw.get i).zll
          else stepToward (s.shw.get i).zll (s.sp.nth i.val).zllT 10)
      ∧ (t.shf.get i).base = stepToward (s.shf.get i).base (cfg s 0x46 i.val) 4
      ∧ (t.shf.get i).dt = (s.shw.get i).parT.dt ∧ (t.shf.get i).flim = (s.shw.get i).parT.flim
      ∧ (t.shw.get i).parF = (s.shw.get i).parT ∧ (t.shw.get i).tbandF = (s.shf.get i).tband
      ∧ (t.shf.get i).b = (if (s.shw.get i).reseed then seedB t i.val else (s.shf.get i).b)
      ∧ (t.shf.get i).trim = (s.shf.get i).trim ∧ (t.shf.get i).lock = (s.shf.get i).lock
      ∧ (s.time.refclk = true → t.sp = s.sp) ∧ OtherSheaves i.val s t ∧ OtherDomains i.val s t
      ∧ Only [.shf, .shw, .shr, .phw, .sp, .estd] s t))

/-- R65, R66, R74, R75: a phase of a running sheaf outside a fire that owns the token's half-slot, occupied, starts its
interval when e + r reaches -B - o: it conducts through the path of that half-slot, the interval is counted, and the token
passes to the next occupied half-slot. R65, R87, R120, R121: a phase in its interval ends it when e + r reaches B - o, or when
its current as sensed reaches the cycle-by-cycle limit, which is noted. Its ripple emulator runs to that time; no other phase
and no other sheaf changes. Where the spec leaves a point open it states the model's choice (log 135). -/
def Obligations.ConductionIntervals : Prop :=
  ∀ (i : Fin 93) (k : Fin 9),
  (∀ node ps, Completes (.conductionIntervalStart i k ⟨node, ps⟩)
    (fun s => s.powered = true ∧ k.val < nph i.val ∧ (s.shf.get i).run = true ∧ occupied s i.val (s.shw.get i).token = true
      ∧ slotOwner i.val (s.shw.get i).token = k.val ∧ (s.phw.nth (firstPh i.val + k.val)).cond = false
      ∧ (s.phw.nth (firstPh i.val + k.val)).hardOff = false ∧ (s.shw.get i).fire = none ∧ (s.pd.nth i.val).ovact = false
      ∧ nodeErr s i.val node + ripAt s i.val ps (s.phw.nth (firstPh i.val + k.val))
          ≤ -(s.shf.get i).b - 4000 * (s.phw.nth (firstPh i.val + k.val)).offs)
    (fun s t => t = { s with
      phw := s.phw.modN (firstPh i.val + k.val) fun x => { (ripTo s i.val ps x) with
        cond := true, path := secondPath i.val (s.shw.get i).token, lowOff := false }
      shw := s.shw.set i { s.shw.get i with
        token := nextSlot s i.val (s.shw.get i).token, nCount := (s.shw.get i).nCount + 1 } })) ∧
  (∀ node peak ps, Completes (.conductionIntervalEnd i k ⟨node, ps⟩ peak)
    (fun s => s.powered = true ∧ k.val < nph i.val ∧ (s.phw.nth (firstPh i.val + k.val)).cond = true
      ∧ sensedI s (firstPh i.val + k.val) peak < ilimOf s i.val
      ∧ (s.shf.get i).b - 4000 * (s.phw.nth (firstPh i.val + k.val)).offs
          ≤ nodeErr s i.val node + ripAt s i.val ps (s.phw.nth (firstPh i.val + k.val)))
    (fun s t => t = { s with phw := s.phw.modN (firstPh i.val + k.val) fun x => { (ripTo s i.val ps x) with
      cond := false, zeroAt := (t.phw.nth (firstPh i.val + k.val)).zeroAt
      lowRun := (t.phw.nth (firstPh i.val + k.val)).lowRun } })) ∧
  (∀ node peak ps, Completes (.conductionIntervalEnd i k ⟨node, ps⟩ peak)
    (fun s => s.powered = true ∧ k.val < nph i.val ∧ (s.phw.nth (firstPh i.val + k.val)).cond = true
      ∧ ilimOf s i.val ≤ sensedI s (firstPh i.val + k.val) peak)
    (fun s t => t = { s with phw := s.phw.modN (firstPh i.val + k.val) fun x => { (ripTo s i.val ps x) with
      cond := false, limPer := true, limWin := true, zeroAt := (t.phw.nth (firstPh i.val + k.val)).zeroAt, lowRun := 0 } }))

/-- R72, R73, R76: at the end of a lock window that nothing disturbed, of a running sheaf that does not skip, with N interval
starts and N_exp = 16 N_act expected, B takes B (N - N_exp) / (N_exp 2^KB) more and is clamped; the 16th window in a row
within 2 % locks the sheaf, one outside unlocks it and counts a loss of lock; each phase in the interleave moves its offset by
one step against its slot's error within ±32. R78, R80, R82, R84, R85, R92, R118: at the end of a trim cycle of a running
sheaf that is regulated and does not skip, with no fire in this cycle or the one before, settings that waited take force and
I_dom is the cycle's mean; the trim moves by (V_sset - V_min) K_t over the sense points in use, rounded with the sum, and
stays within ±40 mV, V_min the lower of the cycle's two samples; NOSNS reads whether no point is in use, which leaves the
trim; region and band follow, and with them the fields that the next SWREF edge takes up (R79, R353); the share integrators of
the phases in the interleave move by an eighth of their deviation within ±0.5 A; shed phases come back when the phase current
lies above the return threshold or more than 50 mV are to be slewed, and only then. -/
def Obligations.LockWindowsAndTrimCycles : Prop :=
  (∀ (i : Fin 93) err, Completes (.lockWindowEnd i err)
    (fun s => s.powered = true ∧ (s.shf.get i).run = true ∧ (s.shw.get i).badWin = false ∧ (s.shf.get i).skip = false
      ∧ 0 < nactOf s i.val)
    (fun s t =>
      let n : Int := (s.shw.get i).nCount
      let ne : Int := 16 * nactOf s i.val
      let h := s.shf.get i
      (t.shf.get i).b = clampB s i.val (h.b + rdiv (h.b * (n - ne)) (max 1 (ne.toNat * 2 ^ (s.shw.get i).parF.kf)))
      ∧ (50 * (n - ne).natAbs ≤ ne.toNat → (t.shf.get i).lockLoss = h.lockLoss
          ∧ (t.shf.get i).lockRun = min 16 (h.lockRun + 1) ∧ (t.shf.get i).lock = (h.lock || decide (16 ≤ h.lockRun + 1)))
      ∧ (ne.toNat < 50 * (n - ne).natAbs → (t.shf.get i).lock = false ∧ (t.shf.get i).lockRun = 0
          ∧ (t.shf.get i).lockLoss = if h.lock then h.lockLoss.inc 65535 else h.lockLoss)
      ∧ (∀ p : Fin 720, phDom p.val = i.val → slotted s p.val = true →
          (t.phw.get p).offs = clampInt (-32) 32 ((s.phw.get p).offs - sgn (err.getD (phPos p.val) 0)))
      ∧ (t.shw.get i).nCount = 0 ∧ OtherSheaves i.val s t ∧ Only [.shf, .shw, .phw] s t)) ∧
  (∀ (i : Fin 93) samp idom, i.val ≠ 92 →
  Completes (.trimCycleEnd i samp idom)
    (fun s => s.powered = true ∧ (s.shf.get i).run = true ∧ (s.shf.get i).skip = false
      ∧ (s.shw.get i).fire = none ∧ (s.shw.get i).fireCyc = 0 ∧ onOrHold s i.val = true ∧ 0 < nactOf s i.val)
    (fun s t =>
      let low := samp.map fun x => min x.1 x.2
      let kt := ((s.shf.get i).cfgWr.map (·.kt)).getD (s.shf.get i).kt
      let back := (iphCmp s i.val idom (10 * cfg s 0x47 i.val) == .gt
        || decide (3200000 < ((s.sp.nth i.val).vtgt - (s.sp.nth i.val).vcmd).natAbs))
      (∀ c, (s.shf.get i).cfgWr = some c → (t.shf.get i).skipEn = c.skipEn ∧ (t.shf.get i).shedEn = c.shedEn
          ∧ (t.shf.get i).kt = c.kt ∧ (t.shf.get i).rampEn = c.rampEn) ∧ (t.shf.get i).cfgWr = none
      ∧ (t.shw.get i).idom = idom
      ∧ (t.shf.get i).region = regionNext s i.val idom (s.shf.get i).region
      ∧ (t.shw.get i).parT = (let r := (t.shf.get i).region
          let b := bandOf s i.val
          { bLo := min (cfg s 0x29 r) (cfg s 0x28 r + cfg s 0x23 b), bHi := cfg s 0x29 r, kf := cfg s 0x2A r
            dt := min 50 (cfg s 0x25 b + cfg s 0x2B r), flim := cfg s 0x26 b, shedTh := cfg s 0x47 i.val, nmin := cfg s 0x45 i.val })
      ∧ (t.shw.get i).parF = (s.shw.get i).parF
      ∧ (t.shf.get i).tband = bandOf s i.val ∧ (t.shf.get i).nosns = (lowPoint s i.val (sensedLow s i.val low)).isNone
      ∧ (∀ v, lowPoint s i.val (sensedLow s i.val (samp.map (·.2))) = some v → (t.shw.get i).vnow = v)
      ∧ (∀ v, lowPoint s i.val (sensedLow s i.val low) = some v → (t.shw.get i).vlow = v
          ∧ (t.shf.get i).trim = clampInt (-160) 160 (rdiv ((s.shf.get i).trim * (ktDen kt * 16000 : Nat)
              + ((s.sp.nth i.val).vcmd - ((s.shw.get i).zll : Int) * idom - v * 16000)) (ktDen kt * 16000)))
      ∧ (lowPoint s i.val (sensedLow s i.val low) = none → (t.shf.get i).trim = (s.shf.get i).trim)
      ∧ (∀ p : Fin 720, phDom p.val = i.val → slotted s p.val = true → (t.phw.get p).share
          = clampInt (-256) 256 ((s.phw.get p).share
              + rdiv ((s.phw.get p).iLast * nactOf s i.val - (s.shw.get i).isw) (nactOf s i.val)))
      ∧ (∀ p : Fin 720, phDom p.val = i.val → (t.ph.get p).st =
          if back = true ∧ (s.ph.get p).st = .shed then (if (s.shf.get i).hold then .hold else .active) else (s.ph.get p).st)
      ∧ OtherSheaves i.val s t ∧ Only [.shf, .shw, .shr, .ph, .phw] s t))

/-- R83 to R87: light load and fires. Where it is enabled and no fire runs, pulse skipping of a running sheaf starts once
eight cycles in a row were below 0.40 A, and LOCK clears. Where shedding is enabled outside hold and fires, once the phase
current has stayed below the threshold for 1 µs and 1 µs has passed since the last shed or fire, with more active phases than
the floor, the highest active phase reads SHED and conducts no more, and no other phase changes. In a regulated sheaf with no
overvoltage trip, 24 ns after the last fire, rearmed, e at or below -UF starts a fire of every phase that is active, shed,
standby or held: it is counted and marked, skipping and shedding end. A phase that reaches its pulse limit leaves the fire,
the last one ends it without rearming; e at or above -UF/2, by the UF the fire began with, ends it and rearms. The token is
back at its half-slot of before the fire where that is occupied. Shedding waits 1 µs from a fire's end. No other sheaf
changes. Where the spec leaves a point open it states the model's choice (log 137). -/
def Obligations.LightLoadAndFires : Prop :=
  ∀ i : Fin 93,
  Completes (.pulseSkipStart i)
    (fun s => s.powered = true ∧ (s.shf.get i).run = true ∧ (s.shf.get i).skipEn = true ∧ (s.shf.get i).skip = false
      ∧ 8 ≤ (s.shf.get i).skipRun ∧ (s.shw.get i).fire = none)
    (fun s t => t = { s with
      shf := s.shf.set i { s.shf.get i with skip := true, lock := false, lockRun := 0 }
      shw := s.shw.set i { s.shw.get i with badWin := true } }) ∧
  (∀ p : Fin 720, Completes (.phaseShed i)
    (fun s => s.powered = true ∧ i.val ≠ 92 ∧ (s.shf.get i).run = true ∧ (s.shf.get i).shedEn = true
      ∧ (s.shf.get i).hold = false ∧ (s.shw.get i).fire = none
      ∧ ((s.shw.get i).shedLow.any fun b => decide (b + 100 ≤ s.time.beat)) = true
      ∧ (s.shw.get i).parT.nmin < nactOf s i.val ∧ (s.shw.get i).shedFrom ≤ s.time.beat
      ∧ iphCmp s i.val (s.shw.get i).idom (5 * (s.shw.get i).parT.shedTh) = .lt ∧ topActive s i.val = some p.val)
    (fun s t => (t.ph.get p).st = .shed ∧ (t.phw.get p).cond = false ∧ (t.shw.get i).shedFrom = s.time.beat + 100
      ∧ (∀ q : Fin 720, q ≠ p → t.ph.get q = s.ph.get q ∧ t.phw.get q = s.phw.get q)
      ∧ OtherSheaves i.val s t ∧ Only [.shw, .shr, .ph, .phw] s t)) ∧
  (∀ node gap, Completes (.fireStart i node gap)
    (fun s => s.powered = true ∧ (s.shf.get i).run = true ∧ onOrHold s i.val = true ∧ (s.shw.get i).fire = none
      ∧ (s.shw.get i).rearmed = true ∧ 24 ≤ gap ∧ (s.pd.get (Fin.castLE (by decide) i)).ovact = false
      ∧ nodeErr s i.val node ≤ -((s.shf.get i).uf * 64000))
    (fun s t => (t.shw.get i).fire = some ⟨(s.shw.get i).token, firePart s i.val, (s.shf.get i).uf⟩ ∧ (t.shw.get i).rearmed = false
      ∧ (t.shf.get i).fireCnt = (s.shf.get i).fireCnt.inc 65535 ∧ (t.shf.get i).firedW = true ∧ (t.shf.get i).skip = false
      ∧ (t.shw.get i).fireCyc = 2
      ∧ (∀ p : Fin 720, phDom p.val = i.val → (t.phw.get p).cond = false ∧ (t.ph.get p).st ≠ .shed)
      ∧ OtherSheaves i.val s t ∧ Only [.shf, .shw, .shr, .ph, .phw] s t)) ∧
  (∀ (k : Fin 9) tok a b l u, Completes (.firePulseLimit i k)
    (fun s => s.powered = true ∧ (s.shw.get i).fire = some ⟨tok, a :: b :: l, u⟩ ∧ k.val ∈ a :: b :: l
      ∧ (a :: b :: l).filter (· ≠ k.val) ≠ [])
    (fun s t => t = { s with shw := s.shw.set i { s.shw.get i with
      fire := some ⟨tok, (a :: b :: l).filter (· ≠ k.val), u⟩ } })) ∧
  (∀ (k : Fin 9) tok u, Completes (.firePulseLimit i k)
    (fun s => s.powered = true ∧ (s.shw.get i).fire = some ⟨tok, [k.val], u⟩)
    (fun s t => (t.shw.get i).fire = none ∧ (occupied t i.val tok = true → (t.shw.get i).token = tok) ∧ (t.shw.get i).shedFrom = s.time.beat + 100
      ∧ (t.shw.get i).rearmed = (s.shw.get i).rearmed ∧ t.shr.get i = { s.shr.get i with setChg := (t.shr.get i).setChg }
      ∧ OtherSheaves i.val s t ∧ Only [.shw, .shr, .ph, .phw] s t)) ∧
  (∀ node f, Completes (.fireEnd i node)
    (fun s => s.powered = true ∧ (s.shw.get i).fire = some f ∧ -((f.uf : Int) * 64000) ≤ 2 * nodeErr s i.val node)
    (fun s t => (t.shw.get i).fire = none ∧ (occupied t i.val f.token = true → (t.shw.get i).token = f.token)
      ∧ (t.shw.get i).rearmed = true
      ∧ (t.shw.get i).shedFrom = s.time.beat + 100 ∧ t.shr.get i = { s.shr.get i with setChg := (t.shr.get i).setChg }
      ∧ OtherSheaves i.val s t ∧ Only [.shw, .shr, .ph, .phw] s t))

/-- R92: a write of SHF_CFG without CLRCNT to a running sheaf takes UF at once, within 15 to 60 mV, and keeps the rest for the
end of the trim cycle; to a present sheaf that does not run it takes all of it; nothing else changes. CLRCNT clears the
sheaf's FIRES, LOCKLOSS and DHICCNT and nothing else. R69, R71, R73: SYNC_IN lost with SRC = 1 and no fallback sets FALLBK,
clears SYNC_OK and sets SWREF_FALLBK; lost with SRC = 0 it clears SYNC_OK alone. A 1 written to FALLBK clears it while SYNC_OK
reads 1, and changes nothing while it reads 0. With FALLBK set, at a zero edge of the REFCLK source, a beat that is a multiple
of 4, SRC_ACT turns from SYNC_IN to REFCLK: every sheaf unlocks, and no loss of lock is counted. Where the spec leaves a point
open it states the model's choice (log 107). -/
def Obligations.SheafConfigurationAndSwrefSource : Prop :=
  (∀ i : Fin 93,
  (∀ v : Word32, v.getLsbD 31 = false → Completes (.shfCfgWrite i v)
    (fun s => s.writable ∧ present s i.val = true ∧ (s.shf.get i).run = true)
    (fun s t => t = { s with shf := s.shf.set i { s.shf.get i with
      uf := max 15 (min 60 (v.toNat % 64))
      cfgWr := some ⟨v.getLsbD 6, v.getLsbD 7, v.toNat / 256 % 4, v.getLsbD 10⟩ } })) ∧
  (∀ v : Word32, v.getLsbD 31 = false → Completes (.shfCfgWrite i v)
    (fun s => s.writable ∧ present s i.val = true ∧ (s.shf.get i).run = false)
    (fun s t => t = { s with shf := s.shf.set i { s.shf.get i with
      uf := max 15 (min 60 (v.toNat % 64)), skipEn := v.getLsbD 6, shedEn := v.getLsbD 7, kt := v.toNat / 256 % 4
      rampEn := v.getLsbD 10, cfgWr := none } })) ∧
  Completes (.shfClrcnt i)
    (fun s => s.writable)
    (fun s t => t = { s with
      shf := s.shf.set i { s.shf.get i with fireCnt := .zero, lockLoss := .zero }
      shr := s.shr.set i { s.shr.get i with dhiccnt := .zero } })) ∧
  (Completes .syncInLoss
    (fun s => s.live = true ∧ s.swref.src = 1 ∧ s.swref.fallbk = false)
    (fun s t => t.swref = { s.swref with fallbk := true, syncOk := false } ∧ raisedIn bBM 7 s t
      ∧ Only [.swref, .flt, .fpin, .silo, .blkReset, .g, .pmb] s t) ∧
  Completes .syncInLoss
    (fun s => s.live = true ∧ s.swref.src ≠ 1)
    (fun s t => t = { s with swref := { s.swref with syncOk := false } }) ∧
  Completes .fallbkClear
    (fun s => s.writable ∧ s.swref.syncOk = true)
    (fun s t => t = { s with swref := { s.swref with fallbk := false } }) ∧
  Completes .fallbkClear
    (fun s => s.writable ∧ s.swref.syncOk = false)
    (fun s t => t = s) ∧
  Completes .swrefSourceChange
    (fun s => s.live = true ∧ s.swref.src = 1 ∧ s.swref.fallbk = true ∧ s.swref.srcAct = 1 ∧ s.time.beat % 4 = 0)
    (fun s t => t.swref = { s.swref with srcAct := 0 }
      ∧ (∀ k : Fin 93, t.shf.get k = { s.shf.get k with lock := false, lockRun := 0 })
      ∧ (∀ k : Fin 93, t.shw.get k = { s.shw.get k with badWin := true }) ∧ Only [.shf, .shw, .swref] s t))

/-- R85, R90, R91: when a present sheaf whose domain is ON enters hold with no coolant loss, its active and shed phases and
its domain read HOLD, it keeps switching, LOCK clears and its estimator term is dropped; with COOLANT set, a CO or CL sheaf
turns its phases off and opens its headers besides (R370). R91, R140: when a hold that neither freeze nor a reset causes ends,
with no actuation, deferred raise or coolant loss waiting, its held phases read ACTIVE and its domain ON, B is to be seeded at
the next SWREF period, HOLD is set in FLT_DBG, OPEFF is the point wanted, and the target is composed again, the domain being
ON (R94, R95, R100). No other sheaf and no other domain changes. Where the spec leaves a point open it states the model's
choice (log 84, 127, 129). -/
def Obligations.HoldEnterAndExit : Prop :=
  ∀ i : Fin 93,
  Completes (.holdEnter i)
    (fun s => s.powered = true ∧ present s i.val = true ∧ (s.shf.get i).hold = false ∧ domSt s i.val = .on
      ∧ s.prot.coolant = false)
    (fun s t => (t.shf.get i).hold = true ∧ (t.shf.get i).lock = false ∧ domSt t i.val = .hold
      ∧ (t.shf.get i).run = (s.shf.get i).run ∧ (t.estd.get i).term = none
      ∧ (∀ p : Fin 720, phDom p.val = i.val → ((s.ph.get p).st = .active ∨ (s.ph.get p).st = .shed → (t.ph.get p).st = .hold)
          ∧ ((s.ph.get p).st ≠ .active → (s.ph.get p).st ≠ .shed → t.ph.get p = s.ph.get p))
      ∧ t.sp.nth i.val = { s.sp.nth i.val with vopWas := (s.sp.nth i.val).vop, freqWas := none }
      ∧ OtherSheaves i.val s t ∧ OtherDomains i.val s t ∧ Only [.dom, .shf, .shw, .shr, .ph, .phw, .sp, .nd, .estd] s t) ∧
  Completes (.holdEnter i)
    (fun s => s.powered = true ∧ present s i.val = true ∧ (s.shf.get i).hold = false ∧ domSt s i.val = .on
      ∧ s.prot.coolant = true ∧ i.val < 72)
    (fun s t => (t.shf.get i).hold = true ∧ domSt t i.val = .hold ∧ (t.gw.nth i.val).stage = 0 ∧ nactSet t i.val = 0
      ∧ (∀ p : Fin 720, phDom p.val = i.val → (t.phw.get p).cond = false)
      ∧ OtherSheaves i.val s t ∧ OtherDomains i.val s t ∧ Only [.dom, .shf, .shw, .shr, .ph, .phw, .sp, .gw, .nd, .estd] s t) ∧
  Completes (.holdExit i)
    (fun s => s.live = true ∧ (s.shf.get i).hold = true ∧ (s.shw.get i).holdFrz = false ∧ (s.shr.get i).darkPend = false
      ∧ domSt s i.val = .hold ∧ (s.gw.nth i.val).held = [] ∧ s.defer = [] ∧ s.prot.coolant = false ∧ s.rst.run = none)
    (fun s t => (t.shf.get i).hold = false ∧ (t.shw.get i).reseed = true ∧ domSt t i.val = .on ∧ raisedIn bDBG 3 s t
      ∧ (∀ p : Fin 720, phDom p.val = i.val → (s.ph.get p).st = .hold → (t.ph.get p).st = .active)
      ∧ (t.sp.nth i.val).opeff = opWanted s i.val ∧ (t.sp.nth i.val).vtgt = composed t i.val
      ∧ OtherSheaves i.val s t ∧ OtherDomains i.val s t
      ∧ Only [.dom, .shf, .shw, .shr, .ph, .phw, .sp, .gw, .clk, .flt, .fpin, .silo, .blkReset, .g, .pmb] s t)

/-- R88, R89, R96, R159: what a domain's only pending effect beat does at the sheaf and at the set point. Outside hold, from
the restore point of a rise on, its shed phases are active again. With RAMP_EN, in a domain that is ON, outside hold and
fires, the part dI that no ramp has moved yet steps each active phase's ripple down by 27.5 mΩ dI / N_act and counts as moved.
At its start beat or later the term of a domain that is ON and not in hold enters V_tgt, within ±60 mV and the domain's
limits, in place of an estimator's term, with the H_pl of then (R353). At E + H_pl or later the effect beat is no longer
pending. R98, R102, R104: the end of a reversal hold lets V_cmd move; from two beats after a lower frequency was asked for,
V_op takes the voltage kept for it, or that of its point, which after a VSET is not below V_op; in Free mode, for a domain
that is ON, waits for a rise and is settled, the frequency of OPEFF is asked for, two beats ahead, and no following error
stands; past its deadline, with FE_EN, a domain that is ON, unsettled and not suspended sets FE_ACT and raises SETPT_FE, and a
settled one that is not suspended clears FE_ACT and its deadline. Only the domain named changes. Where the spec leaves a point
open it states the model's choice (log 36). -/
def Obligations.NoticesFrequencyOrderAndFollowing : Prop :=
  (∀ (d : Fin 128) (e : Nat) (p : Pend),
  (∀ i : Fin 93, i.val = d.val → Completes (.noticeRestore i e)
    (fun s => s.live = true ∧ (s.nd.get d).pend = [p] ∧ p.eff = e ∧ p.restored = false ∧ 0 < pendStep p
      ∧ restorePoint p ≤ s.time.beat ∧ (s.shf.get i).hold = false)
    (fun s t => (t.nd.get d).pend = [{ p with restored := true }]
      ∧ (∀ q : Fin 720, phDom q.val = i.val → (t.ph.get q).st = if (s.ph.get q).st = .shed then .active else (s.ph.get q).st)
      ∧ OtherSheaves i.val s t ∧ OtherDomains i.val s t ∧ Only [.shf, .shw, .shr, .ph, .phw, .nd] s t)) ∧
  (∀ (i : Fin 93) ps, i.val = d.val → Completes (.noticeRampStart i ⟨e, ps⟩)
    (fun s => s.live = true ∧ (s.nd.get d).pend = [p] ∧ p.eff = e ∧ rampLeft p ≠ 0 ∧ (s.shf.get i).rampEn = true
      ∧ (s.shf.get i).hold = false ∧ (s.shw.get i).fire = none ∧ domSt s i.val = .on ∧ 0 < nactSet s i.val
      ∧ e ≤ s.time.beat + 1)
    (fun s t => (t.nd.get d).pend = [{ p with cs := p.cs.map fun c => { c with ramped := c.ramped || c.act } }]
      ∧ (∀ q : Fin 720, t.phw.get q = if phDom q.val = i.val then (if (s.ph.get q).st = .active
          then { (ripTo s i.val ps (s.phw.get q)) with
            ripStep := (ripTo s i.val ps (s.phw.get q)).ripStep - rdiv (27500 * rampLeft p) (nactSet s i.val) }
          else ripTo s i.val ps (s.phw.get q)) else s.phw.get q)
      ∧ OtherDomains i.val s t ∧ Only [.phw, .nd] s t)) ∧
  Completes (.preliftEnter d e)
    (fun s => s.live = true ∧ (s.nd.get d).pend = [p] ∧ p.eff = e ∧ p.entered = false ∧ termSum p ≠ 0
      ∧ p.start ≤ s.time.beat ∧ domSt s d.val = .on ∧ (d.val < 93 → (s.shf.nth d.val).hold = false) ∧ s.exa.svpl.get d = none)
    (fun s t => (t.nd.get d).pend = [{ p with entered := true, leave := e + (s.sp.get d).plhold }]
      ∧ (d.val < 93 → (t.estd.nth d.val).term = none)
      ∧ (d.val ≠ 92 → (t.sp.get d).vtgt = clampInt (vLo d.val * 16000) (vHi d.val * 16000)
          ((s.sp.get d).vop * 16000 + (guardband s d.val).2 * 64000 + clampInt (-3840000) 3840000 (termSum p)))
      ∧ OtherDomains d.val s t ∧ Only [.sp, .gw, .nd, .estd, .shf, .shw, .shr, .ph, .phw] s t) ∧
  Completes (.preliftLeave d e)
    (fun s => s.live = true ∧ (s.nd.get d).pend = [p] ∧ p.eff = e
      ∧ (if p.entered = true then p.leave else e + (s.sp.get d).plhold) ≤ s.time.beat)
    (fun s t => (t.nd.get d).pend = [] ∧ OtherDomains d.val s t
      ∧ Only [.sp, .gw, .nd, .shf, .shw, .shr, .ph, .phw] s t)) ∧
  (∀ d : Fin 128,
  Completes (.reversalHoldEnd d)
    (fun s => s.live = true)
    (fun s t => t = { s with sp := s.sp.set d { s.sp.get d with revHold := false } }) ∧
  (∀ m due cmd, Completes (.frequencyLowerApplied d)
    (fun s => s.live = true ∧ (s.sp.get d).lower = some (m, due, cmd) ∧ due ≤ s.time.beat)
    (fun s t => (t.sp.get d).lower = none ∧ OtherDomains d.val s t
      ∧ Only [.sp, .gw, .shf, .shw, .shr, .ph, .phw] s t
      ∧ (t.sp.get d).vop = (s.sp.get d).vopNext.getD
          (if (s.sp.get d).direct then max (s.sp.get d).vop (tabV s d.val m) else tabV s d.val m))) ∧
  (∀ vlow, Completes (.frequencyRaiseRequest d vlow)
    (fun s => s.live = true ∧ (s.sp.get d).fpend = true ∧ (s.sp.get d).lower = none ∧ domSt s d.val = .on
      ∧ (s.sp.get d).vcmd = (s.sp.get d).vtgt
      ∧ vSset s d.val - (s.sp.get d).feband * 64000 ≤ vlow * 16000 ∧ exactOn s = false)
    (fun s t => t = { s with
      sp := s.sp.set d { s.sp.get d with
        fpend := false, freqOp := (s.sp.get d).opeff, raiseBy := none, feAct := false, feDue := none }
      clk := t.clk } ∧ (t.clk.get d).asked = (s.sp.get d).opeff ∧ (t.clk.get d).since = s.time.beat + 2
      ∧ OtherDomains d.val s t)) ∧
  (∀ vlow due, Completes (.feDeadline d vlow)
    (fun s => s.live = true ∧ domSt s d.val = .on ∧ feSuspended s d.val = false ∧ settled s d.val vlow = false
      ∧ (s.sp.get d).feEn = true ∧ (s.sp.get d).feAct = false ∧ (s.sp.get d).feDue = some due ∧ due ≤ s.time.beat)
    (fun s t => (t.sp.get d) = { s.sp.get d with feAct := true } ∧ raisedIn bDOM 0 s t ∧ OtherDomains d.val s t
      ∧ Only [.sp, .flt, .fpin, .silo, .blkReset, .g, .pmb] s t)) ∧
  (∀ vlow, Completes (.feDeadline d vlow)
    (fun s => s.live = true ∧ feSuspended s d.val = false ∧ settled s d.val vlow = true)
    (fun s t => t = { s with sp := s.sp.set d { s.sp.get d with feAct := false, feDue := none } })))

/-- R105 to R112: gating and waking, with no whole-region reset under way. In a domain that gates by stages and is GATING, one
open stage less at a time; while it rises with V_cmd at its target, one stage more at a time below the number it closes, when
near its voltage or after 200 ns, which is then counted. A gating to OFF with no stage left and no wake waiting leaves such a
domain OFF with its sheaf stopped and V_cmd 0; a gating to RETENTION whose V_cmd is at its target, its sheaf switching, reads
RETENTION; a wake turned back whose V_cmd is at 0 leaves a domain that was ON before DARK (R56, log 42). While GCTL is not
Exact, a rising domain whose V_cmd is at its target (an MA, or a staged one with all its stages) reads ON, asks for the clock
of OPEFF at once and has its ready due two beats later. At that beat, with no undervoltage standing, ready rises: without a
raise by the deadline; later, not Exact, with the delay counted and WAKE_LATE raised. A rising LK or LA with a wake reads ON
when V_cmd is at its target and the sense is within FEBAND; an LK then has its clock. A CO, CL or MA wake that still waits for
admission 5,000 beats after its action is forced: slow, with 16 stages, WAKE_FORCED raised. R113, R115: array banks. The
gatings of a region that are due are complete; a host's request for a gated bank, with no other waking, starts its wake, ready
200 beats later, counts it and takes the bank out of a gating under way; at that beat the bank, and no other, is not gated. -/
def Obligations.GatingWakingAndArrayBanks : Prop :=
  (∀ d : Fin 128,
  Completes (.headerStageOpen d)
    (fun s => s.live = true ∧ domSt s d.val = .gating ∧ staged d.val = true ∧ 0 < (s.gw.get d).stage)
    (fun s t => t = { s with gw := s.gw.set d { s.gw.get d with stage := (s.gw.get d).stage - 1 } }) ∧
  (∀ near ns, Completes (.headerStageClose d near ns)
    (fun s => s.live = true ∧ staged d.val = true ∧ rising s d.val = true ∧ (s.sp.get d).vcmd = (s.sp.get d).vtgt
      ∧ (s.gw.get d).stage < (s.gw.get d).nstg ∧ (near = true ∨ 200 ≤ ns))
    (fun s t => t = { s with gw := s.gw.set d { s.gw.get d with
      stage := (s.gw.get d).stage + 1
      stgto := if near then (s.gw.get d).stgto else (s.gw.get d).stgto.inc 65535 } })) ∧
  Completes (.gatingComplete d)
    (fun s => s.live = true ∧ domSt s d.val = .gating ∧ (s.gw.get d).gateTo = .off ∧ staged d.val = true
      ∧ (s.gw.get d).stage = 0 ∧ (s.gw.get d).wake = none ∧ s.rst.run = none)
    (fun s t => domSt t d.val = .off ∧ (t.sp.get d).vcmd = 0 ∧ (t.shf.nth d.val).run = false ∧ (t.gw.get d).gateTo = .no
      ∧ OtherSheaves d.val s t ∧ OtherDomains d.val s t ∧ Only [.dom, .shf, .shw, .ph, .phw, .sp, .gw] s t) ∧
  Completes (.gatingComplete d)
    (fun s => s.live = true ∧ domSt s d.val = .gating ∧ (s.gw.get d).gateTo = .retention
      ∧ (s.sp.get d).vcmd = (s.sp.get d).vtgt ∧ (s.shf.nth d.val).run = true ∧ s.rst.run = none)
    (fun s t => domSt t d.val = .retention ∧ (t.sp.get d) = s.sp.get d ∧ (t.gw.get d).gateTo = .no
      ∧ OtherDomains d.val s t ∧ Only [.dom, .gw, .pd] s t) ∧
  Completes (.gatingComplete d)
    (fun s => s.live = true ∧ domSt s d.val = .waking ∧ (s.gw.get d).gateTo = .off ∧ (s.sp.get d).vcmd = 0
      ∧ (s.gw.get d).woken = true ∧ s.rst.run = none)
    (fun s t => WentDark d s t) ∧
  Completes (.wakeComplete d)
    (fun s => s.live = true ∧ rising s d.val = true ∧ (s.sp.get d).vcmd = (s.sp.get d).vtgt ∧ s.rst.run = none
      ∧ exactOn s = false ∧ (typ d.val = .ma ∨ staged d.val = true ∧ (s.gw.get d).stage = (s.gw.get d).nstg))
    (fun s t => domSt t d.val = .on ∧ (t.gw.get d).clock = true ∧ (t.gw.get d).readyAt = s.time.beat + 2
      ∧ (t.gw.get d).ready = (s.gw.get d).ready ∧ (t.clk.get d).asked = (s.sp.get d).opeff
      ∧ (t.clk.get d).since = s.time.beat ∧ (t.sp.get d).vop = (s.sp.get d).vop ∧ (t.sp.get d).vcmd = (s.sp.get d).vcmd
      ∧ OtherSheaves d.val s t ∧ OtherDomains d.val s t
      ∧ Only [.dom, .shf, .shw, .shr, .ph, .phw, .sp, .gw, .clk, .pd] s t) ∧
  (∀ w, Completes (.readyRise d)
    (fun s => s.live = true ∧ domSt s d.val = .on ∧ (s.gw.get d).ready = false ∧ (s.pd.get d).uvact = false
      ∧ (s.gw.get d).readyAt ≤ s.time.beat ∧ (s.gw.get d).wake = some w ∧ s.time.beat ≤ w.dline)
    (fun s t => t = { s with gw := s.gw.set d { s.gw.get d with ready := true, wake := none } })) ∧
  (∀ w, Completes (.readyRise d)
    (fun s => s.live = true ∧ domSt s d.val = .on ∧ (s.gw.get d).ready = false ∧ (s.pd.get d).uvact = false
      ∧ (s.gw.get d).readyAt ≤ s.time.beat ∧ (s.gw.get d).wake = some w ∧ w.dline < s.time.beat ∧ exactOn s = false)
    (fun s t => t.gw = s.gw.set d { s.gw.get d with
        ready := true, wake := none, late := (s.gw.get d).late.inc 65535, lastLate := min 65535 (s.time.beat - w.dline) }
      ∧ raisedIn bDOM 2 s t ∧ Only [.gw, .flt, .fpin, .silo, .blkReset, .g, .pmb] s t)) ∧
  (∀ vlow w, Completes (.firstWakeOn d vlow)
    (fun s => s.live = true ∧ (typ d.val = .lk ∨ typ d.val = .la) ∧ rising s d.val = true ∧ (s.gw.get d).wake = some w
      ∧ (s.sp.get d).vcmd = (s.sp.get d).vtgt ∧ vSset s d.val - (s.sp.get d).feband * 64000 ≤ vlow * 16000)
    (fun s t => domSt t d.val = .on ∧ (t.gw.get d).clock = decide (typ d.val = .lk) ∧ (t.sp.get d).vop = (s.sp.get d).vop
      ∧ OtherSheaves d.val s t ∧ OtherDomains d.val s t
      ∧ Only [.dom, .shf, .shw, .shr, .ph, .phw, .sp, .gw, .clk, .pd] s t)) ∧
  (∀ w, Completes (.wakeForced d)
    (fun s => s.live = true ∧ (typ d.val = .ma ∨ staged d.val = true) ∧ (s.shr.nth d.val).darkPend = false
      ∧ (s.gw.get d).waitAdm = true ∧ (s.gw.get d).wake = some w ∧ w.act + 5000 ≤ s.time.beat)
    (fun s t => (t.gw.get d).forced = true ∧ (t.gw.get d).waitAdm = false
      ∧ (t.gw.get d).wake = some { w with slow := true, admitted := true } ∧ (t.gw.get d).nstg = 16
      ∧ raisedIn bDOM 1 s t ∧ OtherSheaves d.val s t ∧ OtherDomains d.val s t
      ∧ Only [.shf, .shw, .shr, .ph, .phw, .sp, .gw, .flt, .fpin, .silo, .blkReset, .g, .pmb] s t))) ∧
  (∀ m : Fin 16,
  Completes (.bankGateComplete m)
    (fun s => s.live = true)
    (fun s t => t = { s with bank := s.bank.set m { s.bank.get m with
      gating := (s.bank.get m).gating.filter fun x => s.time.beat < x.1 } }) ∧
  (∀ b : Fin 64, Completes (.bankWakeRequest m b)
    (fun s => s.live = true ∧ present s (72 + m.val) = true ∧ (s.bank.get m).gated.getLsbD b.val = true
      ∧ (s.bank.get m).waking = [])
    (fun s t => (t.bank.get m).waking = [(b.val, s.time.beat + 200)] ∧ (t.bank.get m).gated = (s.bank.get m).gated
      ∧ (t.bank.get m).wakes = ((s.bank.get m).wakes + 1) % 2 ^ 32
      ∧ ((t.bank.get m).gating.all fun x => !x.2.getLsbD b.val) = true
      ∧ (∀ k, k ≠ m → t.bank.get k = s.bank.get k) ∧ Only [.bank] s t)) ∧
  (∀ (b : Fin 64) due, Completes (.bankWakeReady m b)
    (fun s => s.live = true ∧ (s.bank.get m).waking = [(b.val, due)] ∧ due ≤ s.time.beat)
    (fun s t => (∀ k : Fin 64, (t.bank.get m).gated.getLsbD k.val = ((s.bank.get m).gated.getLsbD k.val && decide (k ≠ b)))
      ∧ (t.bank.get m).waking = [] ∧ (∀ k, k ≠ m → t.bank.get k = s.bank.get k) ∧ Only [.bank] s t)))

/-- R120 to R122, R124, R130: exclusion and readmission of a phase. An ACTIVE or held phase with a run of 32 low intervals is
excluded as open; a phase neither ABSENT nor EXCLUDED is excluded by the short test, as a high-side or low-side short, and by
EXCLUDE, which does nothing to the others; a spare in STANDBY that is needed, of a running sheaf outside fires, is ACTIVE (in
hold HOLD) with a share of 0; READMIT brings an excluded phase of an OFF or DARK domain back to OFF, one excluded for a short
only in TEST, and does nothing to that outside TEST. R132 to R134: hiccups. An ACTIVE or held phase (of AON: with two others)
that was at its limit NHIC periods in a row, while not all its domain's are, enters HICCUP, is counted and conducts no more; a
retry that fails within 100 µs is counted, and after seven failures before the phase is excluded with cause 5. After TH it
takes part again with a share of 0 and its retry begins, which succeeds 100 µs later. A domain that is ON, not AON, outside
hold, gating and any retry, with a running sheaf all of whose phases are at their limit, stops, its V_cmd 0, reads WAKING and
has DHIC set; after TH it rises, its sheaf running, at a quarter of its rate with 16 header stages; a retry succeeds 100 µs
after ON; the eighth failure in a row, within those 100 µs, sets LATCH and darkens it. Software clears LATCH, and nothing else
with it. Where the spec leaves a point open it states the model's choice (log 37, 138). -/
def Obligations.PhaseExclusionAndHiccups : Prop :=
  ((∀ p : Fin 720, Completes (.phaseOpenDetect p)
    (fun s => s.powered = true ∧ 32 ≤ (s.phw.get p).lowRun ∧ ((s.ph.get p).st = .active ∨ (s.ph.get p).st = .hold))
    (fun s t => Excluded p 1 s t)) ∧
  (∀ (p : Fin 720) high, Completes (.phaseShortDetect p high)
    (fun s => s.powered = true ∧ (s.ph.get p).st ≠ .absent ∧ (s.ph.get p).st ≠ .excluded)
    (fun s t => Excluded p (if high then 2 else 3) s t)) ∧
  (∀ p : Fin 720, Completes (.phExclude p)
    (fun s => s.writable ∧ (s.ph.get p).st ≠ .absent ∧ (s.ph.get p).st ≠ .excluded)
    (fun s t => Excluded p 7 s t)) ∧
  (∀ p : Fin 720, Completes (.phExclude p)
    (fun s => s.writable ∧ ((s.ph.get p).st = .absent ∨ (s.ph.get p).st = .excluded))
    (fun s t => t = s)) ∧
  (∀ i : Fin 93, Completes (.spareActive i)
    (fun s => s.powered = true ∧ (s.ph.nth (sparePh i.val)).st = .standby ∧ spareNeeded s i.val = true
      ∧ (s.shf.get i).run = true ∧ (s.shw.get i).fire = none)
    (fun s t => (t.ph.nth (sparePh i.val)).st = (if (s.shf.get i).hold then .hold else .active)
      ∧ (t.phw.nth (sparePh i.val)).share = 0
      ∧ (t.shr.get i).nospare = true ∧ (∀ q : Fin 720, q.val ≠ sparePh i.val → t.ph.get q = s.ph.get q ∧ t.phw.get q = s.phw.get q)
      ∧ OtherSheaves i.val s t ∧ Only [.shw, .shr, .ph, .phw] s t)) ∧
  (∀ p : Fin 720, Completes (.readmit p)
    (fun s => s.writable ∧ (s.ph.get p).st = .excluded ∧ (domSt s (phDom p.val) = .off ∨ domSt s (phDom p.val) = .dark)
      ∧ ((s.ph.get p).xcause ≠ 2 ∧ (s.ph.get p).xcause ≠ 3 ∨ s.g.lc = 1)
      ∧ phDom p.val ≠ 92 ∧ (s.shr.nth (phDom p.val)).ladder = ladderStep s (phDom p.val))
    (fun s t => t.ph.get p = { s.ph.get p with st := .off, xcause := 0, suspect := false }
      ∧ (t.phw.get p).fails = 0 ∧ (t.shr.nth (phDom p.val)).ladder = ladderStep t (phDom p.val)
      ∧ (∀ q : Fin 720, q ≠ p → t.ph.get q = s.ph.get q ∧ t.phw.get q = s.phw.get q) ∧ OtherSheaves (phDom p.val) s t
      ∧ Only [.shr, .ph, .phw, .flt, .fpin, .silo, .defer, .blkReset, .g, .pmb, .lane, .classHold] s t)) ∧
  (∀ p : Fin 720, Completes (.readmit p)
    (fun s => s.writable ∧ ((s.ph.get p).xcause = 2 ∨ (s.ph.get p).xcause = 3) ∧ s.g.lc ≠ 1)
    (fun s t => t = s))) ∧
  ((∀ p : Fin 720,
  (∀ n, Completes (.phaseHiccupEnter p)
    (fun s => s.powered = true ∧ slotted s p.val = true ∧ (s.shr.nth (phDom p.val)).nhic ≤ (s.phw.get p).limRun
      ∧ (phDom p.val = 92 → 2 ≤ ((phasesOf 92).filter fun q => decide (q ≠ p.val) && slotted s q).length)
      ∧ allAtLimit s (phDom p.val) = false ∧ n < 8
      ∧ n = (if ((s.phw.get p).rejoin.any fun b => decide (s.time.beat < b + 10000)) = true then (s.phw.get p).fails + 1 else 0))
    (fun s t => t.ph.get p = { s.ph.get p with st := .hiccup, hiccnt := (s.ph.get p).hiccnt.inc 255 }
      ∧ (t.phw.get p).cond = false ∧ (t.phw.get p).hicAt = s.time.beat ∧ (t.phw.get p).fails = n
      ∧ ((s.shw.nth (phDom p.val)).fire = none → ∀ q : Fin 720, q ≠ p → t.ph.get q = s.ph.get q ∧ t.phw.get q = s.phw.get q)
      ∧ OtherSheaves (phDom p.val) s t ∧ Only [.shw, .shr, .ph, .phw] s t)) ∧
  (∀ b, Completes (.phaseHiccupEnter p)
    (fun s => s.powered = true ∧ slotted s p.val = true ∧ (s.shr.nth (phDom p.val)).nhic ≤ (s.phw.get p).limRun
      ∧ (phDom p.val = 92 → 2 ≤ ((phasesOf 92).filter fun q => decide (q ≠ p.val) && slotted s q).length)
      ∧ allAtLimit s (phDom p.val) = false ∧ (s.phw.get p).rejoin = some b ∧ s.time.beat < b + 10000
      ∧ 7 ≤ (s.phw.get p).fails)
    (fun s t => Excluded p 5 s t)) ∧
  Completes (.phaseHiccupRetry p)
    (fun s => s.powered = true ∧ (s.ph.get p).st = .hiccup
      ∧ (s.phw.get p).hicAt + 100 * (s.shr.nth (phDom p.val)).th ≤ s.time.beat)
    (fun s t => (t.ph.get p).st = (if (s.shf.nth (phDom p.val)).hold then .hold else .active) ∧ (t.phw.get p).share = 0
      ∧ (t.phw.get p).rejoin = some s.time.beat ∧ (t.phw.get p).fails = (s.phw.get p).fails
      ∧ (∀ q : Fin 720, q ≠ p → t.ph.get q = s.ph.get q ∧ t.phw.get q = s.phw.get q)
      ∧ OtherSheaves (phDom p.val) s t ∧ Only [.shw, .shr, .ph, .phw] s t) ∧
  (∀ b, Completes (.phaseRetrySuccess p)
    (fun s => s.powered = true ∧ slotted s p.val = true ∧ (s.phw.get p).rejoin = some b ∧ b + 10000 ≤ s.time.beat)
    (fun s t => t = { s with phw := s.phw.set p { s.phw.get p with rejoin := none, fails := 0 } }))) ∧
  (∀ i : Fin 93,
  Completes (.domainHiccup i)
    (fun s => s.powered = true ∧ i.val ≠ 92 ∧ domSt s i.val = .on ∧ allAtLimit s i.val = true ∧ (s.shr.get i).rising = false
      ∧ (s.shr.get i).onAt = none ∧ (s.shf.get i).hold = false ∧ (s.shf.get i).run = true ∧ (s.gw.nth i.val).gateTo = .no)
    (fun s t => domSt t i.val = .waking ∧ (t.sp.nth i.val).vcmd = 0 ∧ (t.shf.get i).run = false ∧ (t.shr.get i).dhic = true
      ∧ (t.shr.get i).hicAt = s.time.beat ∧ (t.shr.get i).retry = 0 ∧ (t.gw.nth i.val).ready = false
      ∧ (t.shr.get i).dhiccnt = (s.shr.get i).dhiccnt.inc 65535 ∧ (statOf t bSHF).getLsbD 3 = true
      ∧ OtherSheaves i.val s t ∧ OtherDomains i.val s t) ∧
  (∀ b, Completes (.domainHiccup i)
    (fun s => s.powered = true ∧ i.val ≠ 92 ∧ domSt s i.val = .on ∧ allAtLimit s i.val = true
      ∧ (s.shr.get i).onAt = some b ∧ s.time.beat < b + 10000 ∧ 7 ≤ (s.shr.get i).retry ∧ (s.shf.get i).hold = false
      ∧ (s.shf.get i).run = true)
    (fun s t => domSt t i.val = .dark ∧ (t.shr.get i).latch = true ∧ (t.shf.get i).run = false
      ∧ (statOf t bSHF).getLsbD 4 = true ∧ (statOf t bSHF).getLsbD 2 = true ∧ OtherSheaves i.val s t
      ∧ OtherDomains i.val s t)) ∧
  Completes (.domainHiccupRestart i)
    (fun s => s.powered = true ∧ (s.shr.get i).dhic = true ∧ (s.shr.get i).rising = false ∧ (s.shr.get i).darkPend = false
      ∧ domSt s i.val = .waking
      ∧ (s.shr.get i).hicAt + 100 * (s.shr.get i).th ≤ s.time.beat)
    (fun s t => (t.shr.get i).rising = true ∧ (t.shf.get i).run = true ∧ (t.sp.nth i.val).quarter = true
      ∧ (t.gw.nth i.val).stage = 0 ∧ (t.gw.nth i.val).nstg = 16 ∧ domSt t i.val = .waking
      ∧ OtherSheaves i.val s t ∧ OtherDomains i.val s t ∧ Only [.shf, .shw, .shr, .ph, .phw, .sp, .gw] s t) ∧
  (∀ b, Completes (.domainRetrySuccess i)
    (fun s => s.powered = true ∧ domSt s i.val = .on ∧ (s.shr.get i).onAt = some b ∧ b + 10000 ≤ s.time.beat)
    (fun s t => t = { s with shr := s.shr.set i { s.shr.get i with onAt := none, retry := 0 } })) ∧
  Completes (.latchClear i)
    (fun s => s.writable)
    (fun s t => t = { s with shr := s.shr.set i { s.shr.get i with latch := false } })))

/-- R123, R125, R135 to R139: the gleaner. At a multiple of its band's period the enabled sweeps of an ON domain start, the
bond sweep at every hundredth. A phase-health sweep is counted, excludes every powered phase whose flying capacitor is bad,
and changes no phase where it measures zeros and nothing is injected. An ACTIVE phase with other ACTIVE phases counts the
sweeps in a row in which (a) and (b) of R123 hold; at the third, with (c) in one of them, and at the eighth it is SUSPECT and
excluded with cause 4; so is one with no other ACTIVE phase at the third in a row in which (a) and (c) hold. A plausibility
sweep, on the values as sensed, counts each trained point's failures and passes in a row, excludes it at the third failure,
raising SNS_EXCL, and takes it back at the sixteenth pass. A bond measurement at enough current, through a sense point not
excluded, records Z, from the drop as sensed, calls an anomaly at the third reading in a row above the threshold, raises
BOND_ANOM and BOND_SEVERE where they become set, and recomputes F_bond. Where the spec leaves a point open it states the
model's choice (log 14, 70, 139, 157). -/
def Obligations.GleanerSweeps : Prop :=
  (∀ i : Fin 93, Completes (.gleanerSweepStart i)
    (fun s => s.live = true ∧ present s i.val = true ∧ domSt s i.val = .on
      ∧ s.time.beat % sweepPeriod (bandOf s i.val) = 0)
    (fun s t => t = { s with shr := s.shr.set i { s.shr.get i with
      sweepPh := (s.shr.get i).sweepPh || s.gln.phEn
      sweepSns := (s.shr.get i).sweepSns || s.gln.snsEn
      sweepBond := (s.shr.get i).sweepBond
        || (s.gln.bondEn && decide (s.time.beat % (100 * sweepPeriod (bandOf s i.val)) = 0)) } })) ∧
  (∀ (i : Fin 93) m, Completes (.phaseHealthSweep i m)
    (fun s => s.live = true ∧ (s.shr.get i).sweepPh = true)
    (fun s t => (t.shr.get i).sweepPh = false ∧ t.gln = { s.gln with sweeps := (s.gln.sweeps + 1) % 2 ^ 32 }
      ∧ (∀ p : Fin 720, phDom p.val = i.val → tested s p.val = true → (m.ph.getD (phPos p.val) ⟨0, 0, false, false⟩).flyBad = true →
          (t.ph.get p).st = .excluded ∧ ((t.ph.get p).xcause = 6 ∨ (t.ph.get p).xcause = 4))
      ∧ (∀ p : Fin 720, phDom p.val = i.val → slotted s p.val = true → otherActive s p.val ≠ [] →
          (t.phw.get p).runAC = 0
            ∧ (t.phw.get p).runAB = if SenseOff s m p.val ∧ OthersAgree s m p.val then (s.phw.get p).runAB + 1 else 0))) ∧
  (∀ (i : Fin 93) m (p : Fin 720), phDom p.val = i.val → Completes (.phaseHealthSweep i m)
    (fun s => s.live = true ∧ (s.shr.get i).sweepPh = true ∧ slotted s p.val = true ∧ SenseOff s m p.val
      ∧ (otherActive s p.val ≠ [] ∧ OthersAgree s m p.val
          ∧ (2 ≤ (s.phw.get p).runAB ∧ ((s.phw.get p).seenC = true ∨ Witnessed s m p.val) ∨ 7 ≤ (s.phw.get p).runAB)
        ∨ otherActive s p.val = [] ∧ Witnessed s m p.val ∧ 2 ≤ (s.phw.get p).runAC))
    (fun s t => (t.ph.get p).st = .excluded ∧ (t.ph.get p).xcause = 4 ∧ (t.ph.get p).suspect = true
      ∧ (t.ph.get p).exclcnt = (s.ph.get p).exclcnt.inc 255)) ∧
  (∀ i : Fin 93, Completes (.phaseHealthSweep i ⟨[], 0, 0⟩)
    (fun s => s.live = true ∧ (s.shr.get i).sweepPh = true ∧ s.dbg.injs = [])
    (fun s t => t.ph = s.ph ∧ t.flt = s.flt ∧ t.dom = s.dom ∧ Only [.gln, .shr, .phw] s t)) ∧
  (∀ (i : Fin 93) low node, Completes (.plausibilitySweep i low node)
    (fun s => s.live = true ∧ (s.shr.get i).sweepSns = true)
    (fun s t => (t.shr.get i).sweepSns = false
      ∧ (∀ n : Fin 946, snsDom n.val = i.val → (s.sns.get n).untrained = false →
          t.sns.get n = (if snsFails s i.val (n.val - firstSns i.val) (sensedLow s i.val low) node then
              { s.sns.get n with
                impl := true
                fails := (s.sns.get n).fails + 1
                passes := 0
                excl := (s.sns.get n).excl || decide (3 ≤ (s.sns.get n).fails + 1) }
            else { s.sns.get n with
              impl := false
              fails := 0
              passes := (s.sns.get n).passes + 1
              excl := (s.sns.get n).excl && decide ((s.sns.get n).passes + 1 < 16) })
          ∧ ((t.sns.get n).excl = true → (s.sns.get n).excl = false → (statOf t bSHF).getLsbD 5 = true))
      ∧ (∀ n : Fin 946, snsDom n.val ≠ i.val ∨ (s.sns.get n).untrained = true → t.sns.get n = s.sns.get n)
      ∧ Only [.sns, .shr, .flt, .fpin, .silo, .blkReset, .g, .pmb] s t)) ∧
  (∀ (g : Fin 1232) dv i, Completes (.bondMeasurement g dv i)
    (fun s => s.live = true ∧ (s.shr.nth (bondDom g.val)).sweepBond = true ∧ domSt s (bondDom g.val) = .on
      ∧ (rating (bondDom g.val) 0).1 ≤ 4 * i ∧ (s.sns.nth (bondSns g.val)).excl = false ∧ (s.bond.get g).zbase ≠ 0)
    (fun s t =>
      let b := s.bond.get g
      let z := satU16 (rdiv ((dv - sensedV s (bondSns g.val) 0 * 64000) * nbond (bondDom g.val)) i.toNat)
      (t.bond.get g).znow = min 65535 z
      ∧ (t.bond.get g).run = (if b.zbase * (100 + s.gln.anom) ≤ 100 * z then b.run + 1 else 0)
      ∧ (3 ≤ (t.bond.get g).run → (t.bond.get g).anom = true)
      ∧ (b.anom = false → (t.bond.get g).anom = true → (statOf t bSHF).getLsbD 6 = true)
      ∧ (b.severe = false → (t.bond.get g).severe = true → (statOf t bSHF).getLsbD 7 = true)
      ∧ (t.shr.nth (bondDom g.val)).fbond = fBond t (bondDom g.val)
      ∧ (∀ k, k ≠ g → t.bond.get k = s.bond.get k) ∧ OtherSheaves (bondDom g.val) s t
      ∧ Only [.bond, .shr, .flt, .fpin, .silo, .blkReset, .g, .pmb] s t))

/-- R168, R171 to R177: the estimator's three beats, for windows that nothing interrupted. The latch at beat 64 (k + 1), with
no new image due, evaluates window k of every sheaf's domain by the image in force, on its features if it was ON in the
window, else on zeros. Two windows after it began, once compared and with no Exact mode about to be set, its estimates and
their validity are shown; a term Z_ll ΔI, with ΔI at most I_peak, until the next application beat, feeds forward where the
domain is ON, trusted, not covered, without an effect beat in the next 64 beats, not AON, not Exact, feed-forward is enabled
and ΔI reaches the class's threshold; the window is counted. The comparison of a window with the measured mean two windows
later, of a present domain ON in both, counts a bad window, distrusts the domain at the configured count and raises
EST_DISTRUST, or counts a good one and trusts it at the other count; no other domain's monitor moves. Where the spec leaves a
point open it states the model's choice (log 38, 120, 141, 142). -/
def Obligations.EstimatorWindows : Prop :=
  (∀ raw lines img, Completes (.estimatorLatch raw lines)
    (fun s => s.live = true ∧ s.time.beat % 64 = 0 ∧ 64 ≤ s.time.beat ∧ s.est.next = [] ∧ s.est.img = some img
      ∧ estWhole s (s.time.beat - 64) = true ∧ (s.est.wins.all fun w => decide (w.k ≠ s.time.beat / 64 - 1)) = true)
    (fun s t => (∀ d : Fin 93, (t.est.wins.head?.map fun w => (w.k, w.res.getD d.val default)) =
        some (s.time.beat / 64 - 1,
          ⟨(estEval (estSection img (estClass d.val)) (s.estd.get d).gain (s.estd.get d).offset
            (if (s.estd.get d).wasAny then features s d.val (raw.getD d.val []) (lines.getD d.val (0, 0)) else [])).1, true, (s.estd.get d).wasAll⟩))
      ∧ Only [.est, .flt, .fpin, .silo, .blkReset, .g, .pmb] s t)) ∧
  (∀ w, Completes .estimatorApply
    (fun s => s.live = true ∧ s.time.beat % 64 = 0 ∧ 128 ≤ s.time.beat ∧ winAt s (s.time.beat / 64 - 2) = some w
      ∧ s.est.cmpAt = s.time.beat ∧ exactComes s = false ∧ estWhole s (s.time.beat - 64) = true)
    (fun s t => t.est.evals = s.est.evals + 1
      ∧ (∀ d : Fin 93,
          let r := w.res.getD d.val default
          let dI := min (r.est - iwOf (s.estd.get d) (s.time.beat / 64 - 1)) (s.dom.nth d.val).ipeak
          (t.estd.get d).iest = r.est ∧ (t.estd.get d).valid = (r.loaded && r.whole)
          ∧ ((t.estd.get d).term = if domSt s d.val = .on ∧ s.est.img.isSome ∧ exactOn s = false ∧ (s.estd.get d).distrust = false
              ∧ (s.nd.nth d.val).cov = false ∧ s.est.ffEn ∧ d.val ≠ 92 ∧ pendIn s d.val s.time.beat 64 = false
              ∧ (16 * cfg s 0x32 (estClass d.val) : Int) ≤ dI
            then some (((s.shw.get d).zll : Int) * dI, s.time.beat + 64) else none))
      ∧ Only [.shf, .shw, .shr, .ph, .phw, .sp, .gw, .est, .estd] s t)) ∧
  (∀ w, Completes .estimatorCompare
    (fun s => s.live = true ∧ s.time.beat % 64 = 0 ∧ 192 ≤ s.time.beat ∧ winAt s (s.time.beat / 64 - 3) = some w
      ∧ s.est.next = [] ∧ s.est.cmpAt ≠ s.time.beat ∧ estWhole s (s.time.beat - 64) = true)
    (fun s t => (∀ d : Fin 93,
          let r := w.res.getD d.val default
          let e := s.estd.get d
          if present s d.val ∧ r.whole ∧ e.wasAll ∧ r.loaded then
            if estBad s d.val r.est (iwOf e (s.time.beat / 64 - 1)) then
              (t.estd.get d).bad = min 255 (e.bad + 1) ∧ (t.estd.get d).good = 0
              ∧ ((t.estd.get d).distrust = (e.distrust || decide (cfg s 0x0B 0 ≤ min 255 (e.bad + 1))))
              ∧ ((t.estd.get d).distrust = true → e.distrust = false → (statOf t bEST).getLsbD 0 = true)
            else
              (t.estd.get d).bad = 0 ∧ (t.estd.get d).good = min 4095 (e.good + 1)
              ∧ ((t.estd.get d).distrust = (e.distrust && decide (min 4095 (e.good + 1) < cfg s 0x0C 0)))
          else t.estd.get d = s.estd.get d)
      ∧ Only [.shf, .shw, .shr, .ph, .phw, .sp, .gw, .est, .estd, .flt, .fpin, .silo, .blkReset, .g, .pmb] s t))

/-- R101, R102, R145, R391: a REFCLK rising edge starts a beat. The beat counter adds one, modulo 2^64; with no block reset to
carry out or under way, no calibration, no action in the pipeline and no record at the notice port, the V_cmd of every sheaf's
domain moves toward its V_tgt, and not past it, by ten MCLKs (less those that a reversal hold took of them) of its rate: 0.05
mV per ns for each unit of its move's own slew code, or of RISE on the way up and FALL on the way down (a quarter of it on the
rise of a hiccup's restart, R133, and of a slow wake of an MA region, R109); a domain in a reversal hold keeps V_cmd. In
freeze nothing else happens, and the domains without a sheaf keep their V_cmd too. How the figures sit in the beats is the
model's (log 84). Where the spec leaves a point open it states the model's choice (log 25, 84, 116, 144). -/
def Obligations.RefclkEdgeStartsABeat : Prop :=
  Completes .refclkEdge
    (fun s => s.ticking ∧ s.g.chipReq = false ∧ s.blkReset = [] ∧ s.rst.run = none ∧ s.bu.cal = .no ∧ s.acts = []
      ∧ s.ntc.inBuf = [])
    (fun s t => t.time = { s.time with beat := (s.time.beat + 1) % 2 ^ 64 }
      ∧ (∀ d : Fin 93, (t.sp.nth d.val).vcmd =
          let p := s.sp.nth d.val
          let code := if p.code ≠ 0 then p.code else if p.vcmd < p.vtgt then p.riseF else p.fallF
          let move := (if p.quarter then 8000 else 32000) * (code : Int) * (10 - p.credit) / 10
          if p.revHold = true ∨ p.vcmd = p.vtgt then p.vcmd
          else if p.vcmd < p.vtgt then min p.vtgt (p.vcmd + move) else max p.vtgt (p.vcmd - move))) ∧
  Completes .refclkEdge
    (fun s => s.ticking ∧ s.dbg.active = true)
    (fun s t => t = { s with sp := t.sp, time := { s.time with beat := (s.time.beat + 1) % 2 ^ 64 } }
      ∧ ∀ d : Fin 128, t.sp.get d = if d.val < 93 then slewBeat (s.sp.get d) else s.sp.get d)

/-- R146 to R149: markers, loss and alignment. The first marker after the counter was invalid, with no disarm's entry waiting
for it, loads it, and windows are whole from there; one that agrees changes nothing; one that disagrees loads it too, marks
and counts a slip, raises BEAT_SLIP and voids an armed Exact run; backward it touches no lane and no action in the pipeline,
forward and with nothing in the pipeline every running lane is behind by the beats skipped. Losing REFCLK makes the counter
invalid, raises REFCLK_LOSS, aborts every armed lane with cause 7 and discards all notice; its return is no valid beat yet,
and journals the lanes that it stopped. With no arm to take back, ALIGNED falls and rises with the alignment line; a loss
while armed raises ALIGN_LOSS, one while not armed does nothing more. Where the spec leaves a point open it states the model's
choice (log 77, 78, 92). -/
def Obligations.MarkersReferenceLossAndAlignment : Prop :=
  (∀ m, Completes (.beatMarker m)
    (fun s => s.live = true ∧ s.time.valid = false ∧ s.seqr.restamp = none)
    (fun s t => t = { s with
      time := { s.time with beat := m % 2 ^ 64, valid := true, everLoaded := true, wholeFrom := m % 2 ^ 64 }
      tel := t.tel, estd := t.estd })) ∧
  (∀ m, Completes (.beatMarker m)
    (fun s => s.live = true ∧ s.time.valid = true ∧ s.time.beat = m % 2 ^ 64)
    (fun s t => t = s)) ∧
  (∀ m, Completes (.beatMarker m)
    (fun s => s.live = true ∧ s.time.valid = true ∧ m % 2 ^ 64 < s.time.beat)
    (fun s t => t.time = { s.time with beat := m % 2 ^ 64, slip := true, slips := s.time.slips.inc 65535, wholeFrom := m % 2 ^ 64 }
      ∧ (statOf t bSEQ).getLsbD 0 = true ∧ (exactOn s = true → armed s = true → t.exa.void = true)
      ∧ t.lane = s.lane ∧ t.acts = s.acts)) ∧
  (∀ m, Completes (.beatMarker m)
    (fun s => s.live = true ∧ s.time.valid = true ∧ s.time.beat < m % 2 ^ 64 ∧ s.acts = [] ∧ s.exa.pend = [] ∧ s.exa.svreq = none)
    (fun s t => t.time = { s.time with beat := m % 2 ^ 64, slip := true, slips := s.time.slips.inc 65535, wholeFrom := m % 2 ^ 64 }
      ∧ (statOf t bSEQ).getLsbD 0 = true ∧ (exactOn s = true → armed s = true → t.exa.void = true)
      ∧ (∀ l : Fin 8, t.lane.get l = if (s.lane.get l).st = .run
          then { s.lane.get l with lag := (s.lane.get l).lag + (m % 2 ^ 64 - s.time.beat) } else s.lane.get l) ∧ t.acts = [])) ∧
  Completes .refclkLoss
    (fun s => s.ticking)
    (fun s t => t.time = { s.time with valid := false, refloss := true, refclk := false }
      ∧ (statOf t bSEQ).getLsbD 1 = true
      ∧ (∀ l : Fin 8, if laneOn (s.lane.get l) then (t.lane.get l).st = .aborted ∧ (t.lane.get l).cause = 7
          else t.lane.get l = s.lane.get l)
      ∧ t.ntc.inBuf = [] ∧ t.ntc.queue = [] ∧ t.ntc.flight = [] ∧ (∀ d : Fin 128, (t.nd.get d).pend = []) ∧ t.exa.hold = none
      ∧ Only [.shf, .shw, .shr, .ph, .phw, .sp, .gw, .time, .seg, .tel, .ntc, .nd, .flt, .fpin, .silo, .blkReset, .g, .pmb, .seqr, .lane, .exa, .side] s t) ∧
  Completes .refclkReturn
    (fun s => s.powered = true ∧ s.time.refclk = false ∧ s.seqr.journal = none ∧ s.exa.voidLater = false)
    (fun s t => t = { s with time := { s.time with refclk := true, wholeFrom := s.time.beat } }) ∧
  (∀ bits, Completes .refclkReturn
    (fun s => s.powered = true ∧ s.time.refclk = false ∧ s.seqr.journal = some bits)
    (fun s t => t.time = { s.time with refclk := true, wholeFrom := s.time.beat } ∧ t.seqr.journal = none ∧ t.seqr.restamp = some s.tally.count
      ∧ t.tally.count = s.tally.count + 1
      ∧ (t.tally.ents.head?.map fun e => (e.tseq, e.source, e.detail, e.lanes)) = some (s.tally.count, 4, 7, bits)
      ∧ Only [.time, .seqr, .tally, .exa] s t)) ∧
  Completes .alignLoss
    (fun s => s.powered = true ∧ s.time.aligned = true ∧ armed s = true ∧ s.side.told = false)
    (fun s t => t.time = { s.time with aligned := false, aloss := true, alignCause := true } ∧ raisedIn bSEQ 2 s t
      ∧ Only [.time, .flt, .fpin, .silo, .blkReset, .g, .pmb, .exa] s t) ∧
  Completes .alignLoss
    (fun s => s.powered = true ∧ armed s = false ∧ s.side.told = false)
    (fun s t => t = { s with time := { s.time with aligned := false } }) ∧
  Completes .alignmentLineRise
    (fun s => s.powered = true)
    (fun s t => t = { s with time := { s.time with aligned := true, alignCause := false } })

/-- R155 to R160: the notice port. A record reaches the port in its beat; the beat's end takes it in: one that passes the
checks of R156 joins a queue with room at that beat, one that fails them is counted as bad, one that finds the queue full or
is the ninth of its beat is dropped and counted, with NOTE_DROP set (shown where NOTE_DROP asks for no reset). The queue
releases its oldest STEP in a later beat, and it arrives four beats after that. A STEP within its horizon, its domain without
a pending effect beat, adds its contribution Z_ll dI there, with no part of a term where the domain is not ON, AON, in hold,
or past E + H_pl; a CANCEL that takes out an effect beat's only contributions ends it. R163, R164: the start gate. A barrier
release starts its slots at its beat, or after those of the releases still granting, for the cores that are ON; a request
waits with its beat and start index; a grant outside Exact takes the oldest request, ties in ascending index, while fewer than
the RATE in force were granted in this beat and none to its core in this beat or the one before; a core granted to in this
beat is granted nothing more. Where the spec leaves a point open it states the model's choice (log 39, 40, 125, 140, 158). -/
def Obligations.NoticePortAndStartGate : Prop :=
  ((∀ w, Completes (.step w)
    (fun s => s.live = true)
    (fun s t => t = { s with ntc := { s.ntc with inBuf := s.ntc.inBuf ++ [(1, w)] } })) ∧
  (∀ w, Completes (.cancel w)
    (fun s => s.live = true)
    (fun s t => t = { s with ntc := { s.ntc with inBuf := s.ntc.inBuf ++ [(2, w)] } })) ∧
  (∀ w, Completes (.arrive w)
    (fun s => s.live = true)
    (fun s t => t = { s with ntc := { s.ntc with inBuf := s.ntc.inBuf ++ [(3, w)] } })) ∧
  (∀ k w r, Completes .refclkEdge
    (fun s => EdgeAlone s ∧ s.ntc.inBuf = [(k, w)] ∧ portCheck s k w = some r ∧ s.ntc.queue.length < 64)
    (fun s t => t.ntc = { s.ntc with inBuf := [], queue := s.ntc.queue ++ [(s.time.beat, r)] })) ∧
  (∀ k w, Completes .refclkEdge
    (fun s => EdgeAlone s ∧ s.ntc.inBuf = [(k, w)] ∧ portCheck s k w = none)
    (fun s t => t.ntc = { s.ntc with inBuf := [], bad := s.ntc.bad.inc 65535 })) ∧
  (∀ k w r, Completes .refclkEdge
    (fun s => EdgeAlone s ∧ s.ntc.inBuf = [(k, w)] ∧ portCheck s k w = some r ∧ 64 ≤ s.ntc.queue.length
      ∧ (s.flt.get bSEQ).react.nth 4 % 8 < 3)
    (fun s t => t.ntc = { s.ntc with inBuf := [], full := s.ntc.full.inc 65535 } ∧ (statOf t bSEQ).getLsbD 4 = true)) ∧
  Completes .refclkEdge
    (fun s => EdgeAlone s ∧ s.ntc.inBuf.length = 9 ∧ s.ntc.queue = [] ∧ (s.flt.get bSEQ).react.nth 4 % 8 < 3)
    (fun s t => t.ntc.full = s.ntc.full.inc 65535 ∧ t.ntc.queue.length ≤ 8 ∧ (statOf t bSEQ).getLsbD 4 = true) ∧
  (∀ b src d dI eb l, Completes .noticeQueueRelease
    (fun s => s.live = true ∧ s.ntc.queue = (b, .step src d dI eb) :: l ∧ b < s.time.beat ∧ s.ntc.outBeat ≠ s.time.beat)
    (fun s t => t = { s with ntc := { s.ntc with
      queue := l, outBeat := s.time.beat, outN := 1
      flight := s.ntc.flight ++ [⟨s.time.beat + 4, s.time.beat, .step src d dI eb⟩] } })) ∧
  (∀ f l src (d : Fin 128) dI eb, Completes .noticeArrival
    (fun s => s.live = true ∧ s.ntc.flight = f :: l ∧ f.arr ≤ s.time.beat ∧ f.r = .step src d.val dI eb
      ∧ extendEbeat f.acc eb ≤ f.arr + s.ntc.horizon ∧ f.arr ≤ extendEbeat f.acc eb + s.ntc.latewin
      ∧ (s.nd.get d).pend = [])
    (fun s t => t.ntc = { s.ntc with
        flight := l, acc := s.ntc.acc + 1
        late := if extendEbeat f.acc eb < f.arr then s.ntc.late.inc 65535 else s.ntc.late }
      ∧ ((t.nd.get d).pend.map fun p => (p.eff, p.arr, p.cs)) =
          [(extendEbeat f.acc eb, f.arr,
            [⟨some src, dI,
              if (d.val < 93 ∧ (s.shf.nth d.val).hold = true) ∨ domSt s d.val ≠ .on ∨ d.val = 92
                ∨ extendEbeat f.acc eb + (s.sp.get d).plhold ≤ f.arr then 0 else zllOf s d.val * dI,
              !(decide (d.val < 93) && (s.shf.nth d.val).hold), false⟩])]
      ∧ OtherDomains d.val s t ∧ Only [.sp, .gw, .ntc, .nd] s t)) ∧
  (∀ f l src (d : Fin 128) eb p, Completes .noticeArrival
    (fun s => s.live = true ∧ s.ntc.flight = f :: l ∧ f.arr ≤ s.time.beat ∧ f.r = .cancel src d.val eb
      ∧ (s.nd.get d).pend = [p] ∧ p.eff = extendEbeat f.acc eb ∧ p.cs ≠ [] ∧ p.cs.all (fun c => c.src = some src) = true)
    (fun s t => t.ntc = { s.ntc with flight := l } ∧ (t.nd.get d).pend = []
      ∧ OtherSheaves d.val s t ∧ OtherDomains d.val s t ∧ Only [.shf, .shw, .shr, .ph, .phw, .sp, .gw, .ntc, .nd] s t))) ∧
  (Completes .barrierRelease
    (fun s => s.live = true)
    (fun s t => t = { s with sg := { s.sg with
      rels := s.sg.rels ++ [⟨(s.sg.rels.map relEnd).foldl max s.time.beat, s.sg.rate, coresOn s, []⟩] } }) ∧
  (∀ (c : Fin 64) (e : Fin 4), Completes (.engineStartRequest c e)
    (fun s => s.live = true)
    (fun s t => t = { s with sg := { s.sg with
      waiting := s.sg.waiting ++ [⟨s.time.beat, 64 * e.val + 16 * (c.val % 4) + c.val / 4⟩] } })) ∧
  (∀ (c : Fin 64) (e : Fin 4) req l, Completes (.engineStartGrant c e)
    (fun s => s.live = true ∧ exactOn s = false ∧ s.sg.waiting = ⟨req, startIndex c.val e.val⟩ :: l
      ∧ (∀ x ∈ l, waitsBefore x ⟨req, startIndex c.val e.val⟩ = false)
      ∧ (s.sg.grants.filter fun g => g.1 = s.time.beat).length < rateNow s
      ∧ (∀ g ∈ s.sg.grants, ¬ (g.2 = c.val ∧ s.time.beat < g.1 + 2)))
    (fun s t => t = { s with sg := { s.sg with
      waiting := l, grants := (s.time.beat, c.val) :: s.sg.grants.filter fun g => s.time.beat < g.1 + 2 } })) ∧
  (∀ (c : Fin 64) (e : Fin 4) l, Completes (.engineStartGrant c e)
    (fun s => s.live = true ∧ s.sg.grants = (s.time.beat, c.val) :: l)
    (fun s t => t = s)))

/-- Clears by software of the power path (R32, R33, R42, R117, R143, R166, R185, R215, R360, R369, R371, R373) and of the
central blocks (R166, R204, R217, R295, R314, R344, R398, R421, R447): each clears exactly what its register names and leaves
the rest of the state alone. Where the spec leaves a point open it states the model's choice (log 111). -/
def Obligations.RegisterClears : Prop :=
  ((∀ m : Fin 4, Completes (.bmClrcnt m) (fun s => s.writable)
    (fun s t => t = { s with bm := s.bm.set m { s.bm.get m with trips := .zero } })) ∧
  Completes .clrmm (fun s => s.writable ∧ s.g.coord = true)
    (fun s t => t = { s with inp := { s.inp with vinMin := 0xFFFF, vinMax := 0 } }) ∧
  Completes .clrmm (fun s => s.writable ∧ s.g.coord = false)
    (fun s t => t = s) ∧
  (∀ c : Fin 16, Completes (.eppClrcnt c) (fun s => s.writable)
    (fun s t => t = { s with epp := s.epp.set c { s.epp.get c with lim := .zero, flt := .zero } })) ∧
  (∀ d : Fin 128, Completes (.domSpstatClrcnt d) (fun s => s.writable)
    (fun s t => t = { s with gw := s.gw.set d { s.gw.get d with
      sup := .zero, rev := .zero, defr := .zero, stgto := .zero, late := .zero, lastLate := 0 } })) ∧
  (∀ p : Fin 720, Completes (.phClrcnt p) (fun s => s.writable)
    (fun s t => t = { s with ph := s.ph.set p { s.ph.get p with limwin := .zero, hiccnt := .zero, exclcnt := .zero } })) ∧
  Completes .estClrcnt (fun s => s.writable)
    (fun s t => t = { s with est := { s.est with distr := .zero, sats := .zero } }) ∧
  (∀ d : Fin 128, Completes (.seqNdomClrcnt d) (fun s => s.writable)
    (fun s t => t = { s with nd := s.nd.set d { s.nd.get d with unann := .zero, contra := .zero } })) ∧
  (∀ i : Fin 93, Completes (.shfMtstatClrcnt i) (fun s => s.writable)
    (fun s t => t = { s with mt := s.mt.set i { s.mt.get i with crcerr := .zero, nacks := .zero } })) ∧
  (∀ high, Completes (.coolantClear high) (fun s => s.writable)
    (fun s t => t = { s with prot := { s.prot with flow := !high, coolant := s.prot.coolant && !high } })) ∧
  Completes .shutdnClear
    (fun s => s.writable ∧ (s.prot.temps.all fun l => l.all fun x => decide (x < shutT s - 384)) = true)
    (fun s t => t = { s with prot := { s.prot with shutdn := false } }) ∧
  Completes .shutdnClear
    (fun s => s.writable ∧ (s.prot.temps.all fun l => l.all fun x => decide (x < shutT s - 384)) = false)
    (fun s t => t = s) ∧
  Completes .vbkillClear (fun s => s.writable)
    (fun s t => t = { s with prot := { s.prot with vbkill := false } }) ∧
  (∀ d : Fin 128, Completes (.ovlatchClear d) (fun s => s.writable)
    (fun s t => t = { s with pd := s.pd.set d { s.pd.get d with ovlatch := false } })) ∧
  Completes .protClrcnt (fun s => s.writable)
    (fun s t => (∀ d : Fin 128, t.pd.get d = { s.pd.get d with ovcnt := .zero, uvcnt := .zero }) ∧ Only [.pd] s t)) ∧
  (Completes .seqTstatClrcnt (fun s => s.writable)
    (fun s t => t = { s with time := { s.time with slips := .zero } }) ∧
  Completes .seqNstatClrcnt (fun s => s.writable)
    (fun s t => t = { s with ntc := { s.ntc with late := .zero, stale := .zero, bad := .zero, full := .zero } }) ∧
  Completes .cmdwClrcnt (fun s => s.writable)
    (fun s t => t = { s with cmdw := { s.cmdw with refcnt := .zero } }) ∧
  Completes .seqTrkClrcnt (fun s => s.writable)
    (fun s t => t = { s with seqr := { s.seqr with spcviol := .zero, late2 := .zero, tmwig := .zero } }) ∧
  (∀ l : Fin 8, Completes (.seqLaneOvrClear l) (fun s => s.writable)
    (fun s t => t = { s with lane := s.lane.set l { s.lane.get l with ovr := .zero } })) ∧
  Completes .seqXstatClrcnt (fun s => s.writable)
    (fun s t => t = { s with exa := { s.exa with stalls := .zero, req := .zero, pevt := .zero, ovr := .zero } }) ∧
  Completes .telClrcnt (fun s => s.writable)
    (fun s t => t = { s with tel := { s.tel with lost := .zero } }) ∧
  Completes .sideClrcnt (fun s => s.writable)
    (fun s t => t = { s with side := { s.side with bad := .zero, qfull := .zero } }) ∧
  Completes .granDivClear (fun s => s.writable)
    (fun s t => t = { s with side := { s.side with gran := { s.side.gran with div := .zero } } }) ∧
  Completes .siloClrcnt (fun s => s.writable)
    (fun s t => t = { s with silo := { s.silo with drop := .zero, supp := .zero } }) ∧
  Completes .rstClrcnt (fun s => s.writable)
    (fun s t => t = { s with rst := { s.rst with resets := .zero, dto := .zero } }) ∧
  Completes .mtrmClrcnt (fun s => s.live = true ∧ s.g.coord = true)
    (fun s t => t = { s with mtrm := { s.mtrm with lost := .zero, bad := .zero } }))

/-- R379, R381 to R383: the control of a fault block. A 1 written to a STAT bit clears it unless its persisting cause is
there; HANDLING ends the episode, HSET starts one, HCLR empties the history; the error pin's pulse ends when its width is
over, and not before while REFCLK counts it (log 155). Mask, reactions and history (but for HCLR) stay, and so does every
other block. Where the spec leaves a point open it states the model's choice (log 111, 155). -/
def Obligations.FaultBlockControl : Prop :=
  ∀ b : Fin 10,
  (∀ bits, Completes (.faultStatClear b bits) (fun s => s.writable)
    (fun s t => t = { s with flt := s.flt.set b { s.flt.get b with stat := statOf t b } }
      ∧ ∀ k : Fin 32, (statOf t b).getLsbD k.val
          = ((statOf s b).getLsbD k.val && (!bits.getLsbD k.val || (rawWord s b.val).getLsbD k.val)))) ∧
  Completes (.handlingClear b) (fun s => s.writable)
    (fun s t => t = { s with flt := s.flt.set b { s.flt.get b with handling := false, epi := none } }) ∧
  Completes (.hset b) (fun s => s.writable)
    (fun s t => t = { s with flt := s.flt.set b { s.flt.get b with
      handling := true, epi := if (s.flt.get b).handling then (s.flt.get b).epi else none } }) ∧
  Completes (.hclr b) (fun s => s.writable)
    (fun s t => t = { s with flt := s.flt.set b { s.flt.get b with
        hist := (t.flt.get b).hist, next := 0, wrapped := false, empty := true, epi := none } }
      ∧ ∀ k : Fin 16, (t.flt.get b).hist.get k = default) ∧
  Completes .errPinPulseEnd (fun s => s.powered = true ∧ s.fpin.endAt ≤ s.time.beat)
    (fun s t => t = { s with fpin := { s.fpin with run := false } }) ∧
  Completes .errPinPulseEnd (fun s => s.powered = true ∧ s.time.refclk = true ∧ s.time.beat < s.fpin.endAt)
    (fun s t => t = s)

/-- R204 to R207, R209, R210: the command window. GO takes the window's registers when nothing is busy and the number is the
next, and else refuses with the cause and a count. Acceptance writes a tally entry with result pending and marks the window
busy; a word that the window refuses answers OPCODE four beats later. Completion writes the result at its beat, in the window
and in the entry. Where the spec leaves a point open it states the model's choice (log 23, 160). -/
def Obligations.CommandWindow : Prop :=
  Completes .commandGo
    (fun s => s.writable ∧ s.cmdw.busy = false ∧ s.cmdw.seq.toNat = (s.cmdw.accseq + 1) % 2 ^ 32)
    (fun s t => t = { s with cmdw := { s.cmdw with
      refuse := 0, go := true, num := s.cmdw.seq.toNat, word := s.cmdw.lo.toNat + 2 ^ 32 * s.cmdw.hi.toNat
      cext := s.cmdw.ext } }) ∧
  Completes .commandGo
    (fun s => s.writable ∧ s.cmdw.busy = false ∧ s.cmdw.seq.toNat ≠ (s.cmdw.accseq + 1) % 2 ^ 32)
    (fun s t => t = { s with cmdw := { s.cmdw with refuse := 1, refcnt := s.cmdw.refcnt.inc 65535 } }) ∧
  Completes .commandGo
    (fun s => s.writable ∧ s.cmdw.busy = true)
    (fun s t => t = { s with cmdw := { s.cmdw with refuse := 2, refcnt := s.cmdw.refcnt.inc 65535 } }) ∧
  Completes .commandAccept
    (fun s => s.live = true ∧ s.cmdw.go = true ∧ s.cmdw.busy = false ∧ s.rst.run = none
      ∧ (isActuation (opc s.cmdw.word) = false ∨ laneActs s < 64))
    (fun s t => t.cmdw = { s.cmdw with
        go := false, busy := true, accseq := s.cmdw.num, accbeat := s.time.beat, result := 0xFF, detail := 0, issued := false
        res := if windowRefuses (opc s.cmdw.word) then some (5, 0) else none
        due := if windowRefuses (opc s.cmdw.word) then s.time.beat + 4 else s.cmdw.due
        tseq := s.tally.count }
      ∧ t.tally.count = s.tally.count + 1
      ∧ t.tally.ents = (⟨s.tally.count, s.cmdw.num, s.time.beat, s.cmdw.word, 0xFF, 0, 0, 0, (s.cmdw.cext.nth 0).toNat⟩
          :: s.tally.ents).take 1024
      ∧ Only [.cmdw, .tally] s t) ∧
  (∀ r d, Completes .commandComplete
    (fun s => s.live = true ∧ s.cmdw.res = some (r, d) ∧ s.cmdw.busy = true ∧ s.cmdw.due ≤ s.time.beat)
    (fun s t => t.cmdw = { s.cmdw with busy := false, result := r, detail := d, res := none }
      ∧ t.tally.count = s.tally.count
      ∧ t.tally.ents = (s.tally.ents.map fun e => if e.tseq = s.cmdw.tseq then { e with result := r, detail := d } else e)
      ∧ Only [.cmdw, .tally] s t))

/-- R190, R196, R202, R255, R298, R342: at the base beat every armed lane starts at its ENTRY with fresh registers, the base
beat in b0 and the beats it is late as its lag, no other lane changes, and the arm is journaled. A lane that waits for a beat
goes on when it has come, late by the difference; one that waits behind a fence adds the difference to its lag. When every
member of a barrier has arrived, those that wait go on in the next beat. -/
def Obligations.LaneStartResumeAndBarrier : Prop :=
  Completes .laneStart
    (fun s => s.live = true ∧ (s.lane.data.any fun l => decide (l.st = .armed)) = true ∧ s.seqr.base ≤ s.time.beat
      ∧ barrierOpen s = true ∧ s.seqr.resume = none ∧ beatHeld s = false)
    (fun s t => (∀ l : Fin 8, if (s.lane.get l).st = .armed then
          (t.lane.get l).st = .run ∧ (t.lane.get l).pc = trkEntry s l.val ∧ (t.lane.get l).rf = RegFile.start s.seqr.base
          ∧ (t.lane.get l).lag = s.time.beat - s.seqr.base ∧ (t.lane.get l).mask = (s.lane.get l).mask
        else t.lane.get l = s.lane.get l)
      ∧ t.seqr.started = true ∧ t.tally.count = s.tally.count + 1
      ∧ (t.tally.ents.head?.map fun e => (e.beat, e.source)) = some (s.seqr.base, 1)
      ∧ Only [.seqr, .lane, .tally, .exa, .side] s t) ∧
  (∀ (l : Fin 8) b k, Completes (.laneResume l)
    (fun s => s.live = true ∧ (s.lane.get l).st = .waiting ∧ (s.lane.get l).wait = .beat b k ∧ b ≤ s.time.beat
      ∧ beatHeld s = false ∧ stallNow s = false)
    (fun s t => (t.lane.get l).st = .run ∧ (t.lane.get l).wait = .no ∧ (t.lane.get l).lag = s.time.beat - b
      ∧ (t.lane.get l).pc = (s.lane.get l).pc ∧ (∀ j : Fin 4, k = some j.val → (t.lane.get l).rf.b.get j = b)
      ∧ OnlyLane l s t)) ∧
  (∀ (l : Fin 8) b, Completes (.laneResume l)
    (fun s => s.live = true ∧ (s.lane.get l).st = .waiting ∧ (s.lane.get l).wait = .fence b ∧ b ≤ s.time.beat
      ∧ beatHeld s = false ∧ stallNow s = false)
    (fun s t => t.lane.get l = { s.lane.get l with st := .run, wait := .no, lag := (s.lane.get l).lag + (s.time.beat - b) }
      ∧ OnlyLane l s t)) ∧
  (∀ (l : Fin 8) id mask, Completes (.barComplete l)
    (fun s => s.live = true ∧ (s.lane.get l).st = .waiting ∧ (s.lane.get l).wait = .bar id mask ∧ s.exa.hold = none
      ∧ ∀ m : Fin 8, mask.getLsbD m.val = true → barArrived id (s.lane.get m) = true)
    (fun s t => (∀ m : Fin 8, t.lane.get m =
        match (s.lane.get m).st, (s.lane.get m).wait with
        | .waiting, .bar i _ => if i = id ∧ mask.getLsbD m.val = true
            then { s.lane.get m with wait := .beat (s.time.beat + 1) none } else s.lane.get m
        | _, _ => s.lane.get m)
      ∧ Only [.lane] s t)) ∧
  (∀ (l : Fin 8) id mask (m : Fin 8), Completes (.barComplete l)
    (fun s => s.live = true ∧ (s.lane.get l).st = .waiting ∧ (s.lane.get l).wait = .bar id mask
      ∧ mask.getLsbD m.val = true ∧ (s.lane.get m).st = .run)
    (fun s t => t = s))

/-- R233, R249, R250 (with R187, R188, R248, R254): the instructions that only move registers. Each writes the one register or
predicate it names and no other state: NOP nothing, MARK a beat register, LI a value register or a quarter of a set register,
ADD and SUB modulo 2^32, MIN and MAX signed, MULQ the rounded and saturated Q16.16 product, CMP a predicate. SEND puts its
value on the way to a lane's register and changes none at issue. A lane's PC moves on; the window answers OK. -/
def Obligations.RegisterInstructions : Prop :=
  ∀ (c : Ctx) (w : Nat),
  (opc w = 0x00 → Completes (.nop c) (fun s => Issues c w s) (fun s t => RegistersBecome (fun r => r) c s t)) ∧
  (opc w = 0x05 → Completes (.mark c) (fun s => Issues c w s)
    (fun s t => RegistersBecome (fun r => { r with b := r.b.modN (fBsel w) fun _ =>
      ((if fRel w then statedBeat s c else r.b.nth (fBsel w)) + fOff w) % 2 ^ 64 }) c s t)) ∧
  (opc w = 0x18 → Completes (.li c) (fun s => Issues c w s) (fun s t => RegistersBecome (liFile w) c s t)) ∧
  (opc w = 0x19 → Completes (.add c) (fun s => Issues c w s)
    (fun s t => RegistersBecome (fun r => { r with v := r.v.modN (fVd w) fun _ => r.v.nth (fVa w) + operandY r w }) c s t)) ∧
  (opc w = 0x1A → Completes (.sub c) (fun s => Issues c w s)
    (fun s t => RegistersBecome (fun r => { r with v := r.v.modN (fVd w) fun _ => r.v.nth (fVa w) - operandY r w }) c s t)) ∧
  (opc w = 0x1B → Completes (.min c) (fun s => Issues c w s)
    (fun s t => RegistersBecome (fun r => { r with v := r.v.modN (fVd w) fun _ =>
      if (r.v.nth (fVa w)).toInt ≤ (operandY r w).toInt then r.v.nth (fVa w) else operandY r w }) c s t)) ∧
  (opc w = 0x1C → Completes (.max c) (fun s => Issues c w s)
    (fun s t => RegistersBecome (fun r => { r with v := r.v.modN (fVd w) fun _ =>
      if (operandY r w).toInt ≤ (r.v.nth (fVa w)).toInt then r.v.nth (fVa w) else operandY r w }) c s t)) ∧
  (opc w = 0x1D → Completes (.mulq c) (fun s => Issues c w s)
    (fun s t => RegistersBecome (fun r =>
      let x := satI32 (rdiv ((r.v.nth (fVa w)).toInt * (operandY r w).toInt) 65536)
      { r with v := r.v.modN (fVd w) fun _ => BitVec.ofInt 32 x }) c s t)) ∧
  (opc w = 0x1E → Completes (.cmp c) (fun s => Issues c w s)
    (fun s t => RegistersBecome (fun r =>
      r.setPred (fVd w % 8) (cmpCond (fAux4 w) (r.v.nth (fVa w)) (operandY r w))) c s t)) ∧
  (0x19 ≤ opc w → opc w ≤ 0x1D → ∀ s, checkIssue s c w = true → fAux4 w = 0) ∧
  (opc w = 0x1E → ∀ s, checkIssue s c w = true → fAux4 w < 8 ∧ fVd w < 8) ∧
  (∀ (r : RegFile) x, r.setPred 0 x = r ∧ ∀ i j : Fin 8, i ≠ 0 →
    (r.setPred i.val x).pred j.val = if j = i then x else r.pred j.val) ∧
  (opc w = 0x28 → Completes (.send c) (fun s => Issues c w s)
    (fun s t => rfOf t c = rfOf s c ∧ Issued c s t ∧ AnswersOk c s t ∧ Only [.lane, .cmdw, .sends] s t
      ∧ (t.sends.map fun x => (x.issue, x.lane, x.reg, x.val)) = (s.sends.map fun x => (x.issue, x.lane, x.reg, x.val))
          ++ [(s.time.beat, fVd w, fVb w, (rfOf s c).v.nth (fVa w))]))

/-- R252 (with R197, R225, R226, R230 to R232, R251, R253, R255, R258): a lane's flow. HALT stops its own lane. AT and WAIT go
on at once when their beat has come, with the lateness as the lag, else the lane waits for it; WAIT writes it into its beat
register. BR jumps, CALL pushes and jumps, RET pops, LOOP counts down and jumps until zero; a fifth CALL aborts with cause 2,
a RET without CALL with cause 3. BAR waits for its members. FENCE waits for the lane's last actuation, where that is still to
come; in the window it answers OK. -/
def Obligations.LaneFlow : Prop :=
  ∀ (l : Fin 8) (w : Nat),
  (opc w = 0x01 → Completes (.halt (.lane l)) (fun s => Issues (.lane l) w s)
    (fun s t => (t.lane.get l).st = .halted ∧ (t.lane.get l).pc = (s.lane.get l).pc + 1
      ∧ (∀ k, k ≠ l → t.lane.get k = s.lane.get k)
      ∧ Only [.seg, .flt, .fpin, .silo, .blkReset, .g, .pmb, .lane, .tally, .exa, .side] s t)) ∧
  (opc w = 0x02 → Completes (.atB (.lane l)) (fun s => Issues (.lane l) w s ∧ beatOperand s (.lane l) w ≤ s.time.beat)
    (fun s t => (t.lane.get l).st = .run ∧ (t.lane.get l).pc = (s.lane.get l).pc + 1
      ∧ (t.lane.get l).lag = s.time.beat - beatOperand s (.lane l) w ∧ (t.lane.get l).rf = (s.lane.get l).rf
      ∧ OnlyLane l s t)) ∧
  (opc w = 0x02 → Completes (.atB (.lane l)) (fun s => Issues (.lane l) w s ∧ s.time.beat < beatOperand s (.lane l) w)
    (fun s t => (t.lane.get l).st = .waiting ∧ (t.lane.get l).wait = .beat (beatOperand s (.lane l) w) none ∧ (t.lane.get l).lag = 0
      ∧ (t.lane.get l).pc = (s.lane.get l).pc + 1 ∧ (t.lane.get l).rf = (s.lane.get l).rf ∧ OnlyLane l s t)) ∧
  (opc w = 0x03 → Completes (.wait (.lane l)) (fun s => Issues (.lane l) w s ∧ beatOperand s (.lane l) w ≤ s.time.beat)
    (fun s t => (t.lane.get l).st = .run ∧ (t.lane.get l).pc = (s.lane.get l).pc + 1
      ∧ (t.lane.get l).lag = s.time.beat - beatOperand s (.lane l) w
      ∧ (t.lane.get l).rf.b = (s.lane.get l).rf.b.modN (fBsel w) (fun _ => beatOperand s (.lane l) w) ∧ OnlyLane l s t)) ∧
  (opc w = 0x03 → Completes (.wait (.lane l)) (fun s => Issues (.lane l) w s ∧ s.time.beat < beatOperand s (.lane l) w)
    (fun s t => (t.lane.get l).st = .waiting ∧ (t.lane.get l).wait = .beat (beatOperand s (.lane l) w) (some (fBsel w)) ∧ (t.lane.get l).lag = 0
      ∧ (t.lane.get l).pc = (s.lane.get l).pc + 1 ∧ (t.lane.get l).rf = (s.lane.get l).rf ∧ OnlyLane l s t)) ∧
  (opc w = 0x20 → Completes (.br (.lane l)) (fun s => Issues (.lane l) w s)
    (fun s t => (t.lane.get l).pc = fImm w ∧ (t.lane.get l).rf = (s.lane.get l).rf ∧ (t.lane.get l).st = .run
      ∧ OnlyLane l s t)) ∧
  (opc w = 0x21 → Completes (.call (.lane l)) (fun s => Issues (.lane l) w s ∧ (s.lane.get l).rf.stack.length < 4)
    (fun s t => (t.lane.get l).pc = fImm w ∧ (t.lane.get l).st = .run
      ∧ (t.lane.get l).rf = { (s.lane.get l).rf with stack := ((s.lane.get l).pc + 1) :: (s.lane.get l).rf.stack }
      ∧ OnlyLane l s t)) ∧
  (opc w = 0x21 → Completes (.call (.lane l)) (fun s => Issues (.lane l) w s ∧ 4 ≤ (s.lane.get l).rf.stack.length)
    (fun s t => Aborted l 2 s t)) ∧
  (opc w = 0x22 → ∀ r rest, Completes (.ret (.lane l))
    (fun s => Issues (.lane l) w s ∧ (s.lane.get l).rf.stack = r :: rest)
    (fun s t => (t.lane.get l).pc = r ∧ (t.lane.get l).st = .run
      ∧ (t.lane.get l).rf = { (s.lane.get l).rf with stack := rest } ∧ OnlyLane l s t)) ∧
  (opc w = 0x22 → Completes (.ret (.lane l)) (fun s => Issues (.lane l) w s ∧ (s.lane.get l).rf.stack = [])
    (fun s t => Aborted l 3 s t)) ∧
  (opc w = 0x22 → ∀ s, checkIssue s (.lane l) w = true → w % 2 ^ 54 = 0) ∧
  (opc w = 0x23 → Completes (.loop (.lane l)) (fun s => Issues (.lane l) w s)
    (fun s t =>
      let n := (s.lane.get l).rf.v.nth (fVd w) - 1
      (t.lane.get l).rf = { (s.lane.get l).rf with v := (s.lane.get l).rf.v.modN (fVd w) fun _ => n }
      ∧ (t.lane.get l).pc = (if n = 0 then (s.lane.get l).pc + 1 else fImm w) ∧ (t.lane.get l).st = .run
      ∧ OnlyLane l s t)) ∧
  (opc w = 0x29 → Completes (.bar (.lane l)) (fun s => Issues (.lane l) w s)
    (fun s t => (t.lane.get l).st = .waiting ∧ (t.lane.get l).wait = .bar (w / 256 % 256) (BitVec.ofNat 8 w) ∧ (t.lane.get l).lag = 0
      ∧ (t.lane.get l).pc = (s.lane.get l).pc + 1 ∧ (t.lane.get l).rf = (s.lane.get l).rf ∧ OnlyLane l s t)) ∧
  (opc w = 0x31 → Completes (.fence (.lane l)) (fun s => Issues (.lane l) w s ∧ (s.lane.get l).lastAct ≤ s.time.beat)
    (fun s t => Issued (.lane l) s t ∧ (t.lane.get l).rf = (s.lane.get l).rf ∧ OnlyLane l s t)) ∧
  (opc w = 0x31 → Completes (.fence (.lane l)) (fun s => Issues (.lane l) w s ∧ s.time.beat < (s.lane.get l).lastAct)
    (fun s t => (t.lane.get l).st = .waiting ∧ (t.lane.get l).wait = .fence (s.lane.get l).lastAct
      ∧ (t.lane.get l).pc = (s.lane.get l).pc + 1 ∧ (t.lane.get l).rf = (s.lane.get l).rf ∧ OnlyLane l s t)) ∧
  (opc w = 0x31 → Completes (.fence .cmd) (fun s => Issues .cmd w s)
    (fun s t => t = { s with cmdw := { s.cmdw with issued := true, res := some (0, 0), due := s.cmdw.accbeat + 4 } }))

/-- R152, R202, R205, R206, R226, R311: an action enters the pipeline at its issue, due four beats later (for a command, after
its acceptance), with its word, its stated issue beat and its lag, and nothing else but the issue happens. A lane that issues
it one beat late is counted, one that is later raises TRK_LATE and is counted apart. ARM with CMDW_EXT[2] bit 31 is the row
that resumes, without it the plain one. R189, R199, R206, R207, R220, R227: what keeps a word from its effect. With a false
predicate a lane only moves on and the window answers 8. With operands that fail the check a lane aborts with cause 5 and the
window answers 4. A ninth actuation in a beat waits: it is counted, raises ACT_OVERRUN, makes the lane a beat late and leaves
its PC. Where the spec leaves a point open it states the model's choice (log 24, 26, 41). -/
def Obligations.ActionsPredicatesAndChecks : Prop :=
  ((∀ x ∈ actionRows, ∀ (c : Ctx) (w : Nat), x.2 w = true → Completes (x.1 c)
    (fun s => Issues c w s)
    (fun s t =>
      let b := match c with | .lane _ => s.time.beat | .cmd => s.cmdw.accbeat
      t.acts = s.acts ++ [⟨c, w, b, statedBeat s c, lagOf s c, b + 4, none, s.cmdw.cext, false⟩]
      ∧ Issued c s t ∧ rfOf t c = rfOf s c
      ∧ (lagOf s c = 0 → Only [.lane, .cmdw, .acts] s t)
      ∧ (lagOf s c = 1 → t.seqr = { s.seqr with late := s.seqr.late + 1 } ∧ Only [.lane, .seqr, .acts] s t)
      ∧ (2 ≤ lagOf s c → t.seqr = { s.seqr with late2 := s.seqr.late2.inc 65535 } ∧ raisedIn bSEQ 6 s t
          ∧ Only [.lane, .seqr, .acts, .flt, .fpin, .silo, .blkReset, .g, .pmb] s t))) ∧
  (∀ x ∈ commandRows, ∀ w : Nat, x.2 w = true → Completes x.1 (fun s => Issues .cmd w s) (fun s t => CommandQueued s t)) ∧
  (∀ w : Nat, opc w = 0x3A → Completes .arm (fun s => Issues .cmd w s ∧ resumeBit s = false)
    (fun s t => CommandQueued s t)) ∧
  (∀ w : Nat, opc w = 0x3A → Completes .armResume (fun s => Issues .cmd w s ∧ resumeBit s = true)
    (fun s t => CommandQueued s t))) ∧
  ((∀ x ∈ laneRows ++ actionRows, ∀ (l : Fin 8) (w : Nat), x.2 w = true → Completes (x.1 (.lane l))
    (fun s => s.live = true ∧ laneReady s (s.lane.get l) = true ∧ inCode s (s.lane.get l).pc = true
      ∧ tWord s (s.lane.get l).pc = w ∧ takesEffect s (.lane l) w = false)
    (fun s t => Issued (.lane l) s t ∧ (t.lane.get l).rf = (s.lane.get l).rf ∧ OnlyLane l s t)) ∧
  (∀ x ∈ laneRows ++ actionRows, ∀ (l : Fin 8) (w : Nat), x.2 w = true → Completes (x.1 (.lane l))
    (fun s => s.live = true ∧ laneReady s (s.lane.get l) = true ∧ inCode s (s.lane.get l).pc = true
      ∧ tWord s (s.lane.get l).pc = w ∧ takesEffect s (.lane l) w = true ∧ checkIssue s (.lane l) w = false
      ∧ actsNow s (s.lane.get l) < 8)
    (fun s t => Aborted l 5 s t)) ∧
  (∀ x ∈ actionRows, ∀ (l : Fin 8) (w : Nat), x.2 w = true → Completes (x.1 (.lane l))
    (fun s => s.live = true ∧ laneReady s (s.lane.get l) = true ∧ inCode s (s.lane.get l).pc = true
      ∧ tWord s (s.lane.get l).pc = w ∧ takesEffect s (.lane l) w = true ∧ isActuation (opc w) = true
      ∧ 8 ≤ actsNow s (s.lane.get l) ∧ (s.lane.get l).ovrBeat ≠ some s.time.beat)
    (fun s t => t.lane = s.lane.set l { s.lane.get l with
        ovr := (s.lane.get l).ovr.inc 65535, lag := (s.lane.get l).lag + 1, ovrBeat := some s.time.beat }
      ∧ raisedIn bSEQ 7 s t ∧ Only [.lane, .flt, .fpin, .silo, .blkReset, .g, .pmb] s t)) ∧
  (∀ x ∈ commandRows ++ actionRows.map (fun x => (x.1 .cmd, x.2)), ∀ w : Nat, x.2 w = true → Completes x.1
    (fun s => s.live = true ∧ s.cmdw.busy = true ∧ s.cmdw.issued = false ∧ s.cmdw.res = none ∧ s.cmdw.word = w
      ∧ takesEffect s .cmd w = false ∧ s.g.lc ≠ 4)
    (fun s t => t = { s with cmdw := { s.cmdw with issued := true, res := some (8, 0), due := s.cmdw.accbeat + 4 } })) ∧
  (∀ x ∈ commandRows ++ actionRows.map (fun x => (x.1 .cmd, x.2)), ∀ w : Nat, x.2 w = true → Completes x.1
    (fun s => s.live = true ∧ s.cmdw.busy = true ∧ s.cmdw.issued = false ∧ s.cmdw.res = none ∧ s.cmdw.word = w
      ∧ takesEffect s .cmd w = true ∧ checkIssue s .cmd w = false ∧ s.g.lc ≠ 4)
    (fun s t => t = { s with cmdw := { s.cmdw with issued := true, res := some (4, 0), due := s.cmdw.accbeat + 4 } })))

/-- R94, R97, R101, R103, R105, R109, R113, R198, R222, R235 to R244: what an action does at its action beat to one present
domain, which is named alone, not in Exact mode. VSET takes its voltage or the table's, if higher; LLINE and CAP write their
register, and Z_ll moves at once where the domain is ON or WAKING; NOTE, where no effect beat is pending, adds its step at its
effect beat; OPSEL takes its point, and OPEFF is no higher than the ceiling; GATE starts the gating of an ON core or fabric in
8 or 16 stages and of an ON array toward retention; WAKE, where nothing refuses it, starts a wake of an OFF core or array from
the present V_cmd, which runs or waits for admission and is counted as deferred; while MSS is down it is refused with
WAKE_REFUSED and answers 1; BANK gates the banks named of an ON or RETENTION array. No other domain changes. A command for an
absent domain answers 2. Where the spec leaves a point open it states the model's choice (log 36, 42, 128). -/
def Obligations.ActionsOnADomain : Prop :=
  ∀ (a : Act) (v : Nat) (d : Fin 128),
  (opc a.word = 0x08 → Completes .actionTakesEffect (fun s => DueOn a v d s)
    (fun s t => (t.sp.get d).direct = true ∧ (t.sp.get d).vop = max v (tabV s d.val (s.sp.get d).opeff)
      ∧ (t.sp.get d).vcmd = (s.sp.get d).vcmd ∧ Answered a 0 s t ∧ OtherSheaves d.val s t ∧ OtherDomains d.val s t
      ∧ Only [.shf, .shw, .shr, .ph, .phw, .sp, .gw, .seqr, .acts, .cmdw] s t)) ∧
  (opc a.word = 0x09 → typ d.val ≠ .aon → typ d.val ≠ .la → Completes .actionTakesEffect (fun s => DueOn a v d s)
    (fun s t => t.sp = s.sp.set d { s.sp.get d with zll := v, zllT := if domSt s d.val = .on ∨ domSt s d.val = .waking then v else (s.sp.get d).zllT }
      ∧ Answered a 0 s t ∧ Only [.sp, .seqr, .acts, .cmdw] s t)) ∧
  (opc a.word = 0x0A → Completes .actionTakesEffect (fun s => DueOn a v d s ∧ (s.nd.get d).pend = [])
    (fun s t => ((t.nd.get d).pend.map fun p => (p.eff, p.arr, p.cs)) =
        [(a.stated + fAux16 a.word, s.time.beat,
          [⟨none, signExt 16 v,
            if (d.val < 93 ∧ (s.shf.nth d.val).hold = true) ∨ domSt s d.val ≠ .on ∨ d.val = 92
              ∨ a.stated + fAux16 a.word + (s.sp.get d).plhold ≤ s.time.beat then 0 else zllOf s d.val * signExt 16 v,
            !(decide (d.val < 93) && (s.shf.nth d.val).hold), false⟩])]
      ∧ Answered a 0 s t ∧ OtherDomains d.val s t ∧ Only [.sp, .gw, .nd, .ntc, .seqr, .acts, .cmdw] s t)) ∧
  (opc a.word = 0x0B → Completes .actionTakesEffect
    (fun s => DueOn a v d s ∧ (s.sp.get d).idle = false ∧ s.prot.coolant = false ∧ s.prot.shutdn = false)
    (fun s t => (t.sp.get d).oppref = v ∧ (t.sp.get d).opeff = min v (ceilOf s d.val) ∧ (t.sp.get d).direct = false
      ∧ (t.sp.get d).vcmd = (s.sp.get d).vcmd ∧ Answered a 0 s t ∧ OtherSheaves d.val s t ∧ OtherDomains d.val s t
      ∧ Only [.shf, .shw, .shr, .ph, .phw, .sp, .gw, .clk, .seqr, .acts, .cmdw] s t)) ∧
  (opc a.word = 0x0C → Completes .actionTakesEffect
    (fun s => DueOn a v d s ∧ domSt s d.val = .on ∧ staged d.val = true)
    (fun s t => domSt t d.val = .gating ∧ (t.gw.get d).stage = (if (fAux8 a.word).testBit 1 then 16 else 8)
      ∧ (t.gw.get d).gateTo = .off ∧ (t.gw.get d).ready = false ∧ (t.gw.get d).clock = false
      ∧ Answered a 0 s t ∧ OtherDomains d.val s t ∧ Only [.dom, .pd, .sp, .gw, .nd, .estd, .seqr, .acts, .cmdw] s t)) ∧
  (opc a.word = 0x0C → Completes .actionTakesEffect
    (fun s => DueOn a v d s ∧ domSt s d.val = .on ∧ typ d.val = .ma ∧ (s.shf.nth d.val).hold = false
      ∧ (s.shf.nth d.val).run = true)
    (fun s t => domSt t d.val = .gating ∧ (t.gw.get d).gateTo = .retention ∧ (t.sp.get d).vtgt = vRet s d.val
      ∧ Answered a 0 s t ∧ OtherSheaves d.val s t ∧ OtherDomains d.val s t
      ∧ Only [.dom, .shf, .shw, .shr, .ph, .phw, .pd, .sp, .gw, .nd, .estd, .seqr, .acts, .cmdw] s t)) ∧
  (opc a.word = 0x0D → Completes .actionTakesEffect
    (fun s => DueOn a v d s ∧ domSt s d.val = .off ∧ (staged d.val = true ∨ typ d.val = .ma) ∧ s.g.mss = true
      ∧ s.bu.caldone = true ∧ sheafFailed s d.val = false ∧ s.prot.coolant = false ∧ s.prot.shutdn = false
      ∧ (s.pd.get d).ovlatch = false)
    (fun s t => domSt t d.val = .waking ∧ (t.sp.get d).vcmd = (s.sp.get d).vcmd ∧ (t.gw.get d).ready = false
      ∧ ((t.gw.get d).wake.map fun w => (w.act, decide (fAux16 a.word = 0) || decide (w.dline = a.due + fAux16 a.word)))
          = some (a.due, true)
      ∧ t.pd = s.pd.set d { s.pd.get d with uvact := false }
      ∧ ((t.gw.get d).waitAdm = false → (t.shf.nth d.val).run = true)
      ∧ ((t.gw.get d).waitAdm = true → (t.gw.get d).defr = (s.gw.get d).defr.inc 65535)
      ∧ Answered a 0 s t ∧ OtherSheaves d.val s t ∧ OtherDomains d.val s t
      ∧ Only [.dom, .shf, .shw, .shr, .ph, .phw, .pd, .sp, .gw, .seqr, .acts, .cmdw] s t)) ∧
  (opc a.word = 0x0D → Completes .actionTakesEffect
    (fun s => DueOn a v d s ∧ domSt s d.val = .off ∧ typ d.val ≠ .aon ∧ s.g.mss = false)
    (fun s t => domSt t d.val = .off ∧ (t.gw.get d).wrefuse = true ∧ raisedIn bDOM 3 s t ∧ Answered a 1 s t
      ∧ OtherDomains d.val s t ∧ Only [.gw, .flt, .fpin, .silo, .blkReset, .g, .pmb, .seqr, .acts, .cmdw] s t)) ∧
  (opc a.word = 0x0E → typ d.val = .ma → Completes .actionTakesEffect
    (fun s => DueOn a v d s ∧ (domSt s d.val = .on ∨ domSt s d.val = .retention))
    (fun s t => (t.bank.nth (d.val - 72)).gated
        = (s.bank.nth (d.val - 72)).gated ||| BitVec.ofNat 64 (v * 2 ^ (16 * (fAux8 a.word % 4)))
      ∧ (∀ k : Fin 16, k.val ≠ d.val - 72 → t.bank.get k = s.bank.get k)
      ∧ Answered a 0 s t ∧ Only [.bank, .seqr, .acts, .cmdw] s t)) ∧
  (opc a.word = 0x10 → fAux8 a.word = 0 → Completes .actionTakesEffect (fun s => DueOn a v d s)
    (fun s t => t.loop.dl = s.loop.dl.set d { s.loop.dl.get d with ilim := v }
      ∧ t.loop = { s.loop with dl := t.loop.dl } ∧ Answered a 0 s t ∧ Only [.loop, .seqr, .acts, .cmdw] s t)) ∧
  (domTargeted a.word = true → Completes .actionTakesEffect
    (fun s => DueAlone a v (domBit d.val) s ∧ fDom a.word = d.val ∧ present s d.val = false ∧ a.ctx = .cmd
      ∧ a.orphan = false)
    (fun s t => t = { s with acts := [], cmdw := { s.cmdw with res := some (2, 0), due := a.due } }))

/-- R153, R163, R234, R244 to R247, R256, R257, R330: what the die-wide actions do at their action beat, not in Exact mode.
SEG of an armed track with no segment open opens its segment, and with no track armed does nothing; STARTG, CAP and PRIO write
their setting (a new averaging period waits for the next bin end), but CAP for the package and the averaging period only in
the coordinator, where the others answer 1; OVLY puts its overlay in force; TEL switches the sampling of telemetry or tags it;
in the coordinator GRAN sets the granary's policy; SAVE of an armed track asks for the next boundary, or meets it where the
segment began in this very beat, and with none armed answers 6. Where the spec leaves a point open it states the model's
choice (log 42, 126, 148). -/
def Obligations.ActionsOnTheDie : Prop :=
  ∀ (a : Act) (v : Nat),
  (opc a.word = 0x04 → Completes .actionTakesEffect (fun s => DueAlone a v 0 s ∧ armed s = true ∧ s.seg.opened = false)
    (fun s t => t = { s with
      seg := { s.seg with
        opened := true, segid := a.word / 2 ^ 32 % 65536, slack := a.word % 2 ^ 32, gran := a.word.testBit 48
        beat := s.time.beat, arrOpen := 0, openArr := [] }
      exa := { s.exa with covDone := a.word % 2 ^ 32 }
      acts := [] })) ∧
  (opc a.word = 0x04 → Completes .actionTakesEffect (fun s => DueAlone a v 0 s ∧ armed s = false ∧ s.seg.opened = false)
    (fun s t => t = { s with acts := [] })) ∧
  (opc a.word = 0x0F → Completes .actionTakesEffect (fun s => DueAlone a v 0 s)
    (fun s t => t.sg = { s.sg with rate := v } ∧ Answered a 0 s t ∧ Only [.sg, .acts, .cmdw] s t)) ∧
  (opc a.word = 0x10 → fAux8 a.word = 1 → Completes .actionTakesEffect (fun s => DueAlone a v 0 s)
    (fun s t => t.loop = { s.loop with dieLim := v } ∧ Answered a 0 s t ∧ Only [.loop, .acts, .cmdw] s t)) ∧
  (opc a.word = 0x10 → fAux8 a.word = 2 → Completes .actionTakesEffect (fun s => DueAlone a v 0 s ∧ s.g.coord = true)
    (fun s t => t.loop = { s.loop with cap := v } ∧ Answered a 0 s t ∧ Only [.loop, .acts, .cmdw] s t)) ∧
  (opc a.word = 0x10 → fAux8 a.word = 2 ∨ fAux8 a.word = 3 →
    Completes .actionTakesEffect (fun s => DueAlone a v 0 s ∧ s.g.coord = false)
    (fun s t => Answered a 1 s t ∧ Only [.acts, .cmdw] s t)) ∧
  (opc a.word = 0x10 → fAux8 a.word = 3 → Completes .actionTakesEffect (fun s => DueAlone a v 0 s ∧ s.g.coord = true)
    (fun s t => t.loop = { s.loop with tavgNext := some v }
      ∧ Answered a 0 s t ∧ Only [.loop, .acts, .cmdw] s t)) ∧
  (opc a.word = 0x11 → Completes .actionTakesEffect (fun s => DueAlone a v 0 s)
    (fun s t => t.plan = { s.plan with inforce := ovlyPick v, sw := (s.plan.sw + 1) % 2 ^ 32 } ∧ Answered a 0 s t
      ∧ Only [.shf, .shw, .shr, .ph, .phw, .sp, .gw, .clk, .plan, .loop, .acts, .cmdw] s t)) ∧
  (opc a.word = 0x12 → Completes .actionTakesEffect (fun s => DueAlone a v 0 s)
    (fun s t => t.loop = { s.loop with prio := v } ∧ Answered a 0 s t ∧ Only [.loop, .acts, .cmdw] s t)) ∧
  (opc a.word = 0x14 → fAux8 a.word ≤ 1 → Completes .actionTakesEffect (fun s => DueAlone a v 0 s)
    (fun s t => t.tel = { s.tel with want := decide (fAux8 a.word = 1) } ∧ Answered a 0 s t
      ∧ Only [.tel, .acts, .cmdw] s t)) ∧
  (opc a.word = 0x14 → fAux8 a.word = 2 → Completes .actionTakesEffect (fun s => DueAlone a v 0 s)
    (fun s t => t.tel = { s.tel with tags :=
        (s.tel.tags.filter fun x => telEnded s && decide (x.2 < s.time.beat)) ++ [(fVal a.word, s.time.beat)] } ∧ Answered a 0 s t
      ∧ Only [.tel, .acts, .cmdw] s t)) ∧
  (opc a.word = 0x2A → Completes .actionTakesEffect (fun s => DueAlone a v 0 s ∧ s.g.coord = true)
    (fun s t => t.side.gran.policy = v ∧ t.side = { s.side with gran := t.side.gran } ∧ Answered a 0 s t
      ∧ Only [.side, .acts, .cmdw] s t)) ∧
  (opc a.word = 0x30 → Completes .actionTakesEffect
    (fun s => DueAlone a v 0 s ∧ armed s = true ∧ (s.seg.opened = false ∨ s.seg.beat ≠ s.time.beat))
    (fun s t => t.exa.svreq = some (a.due, (fAux8 a.word).testBit 0) ∧ (s.exa.svst ≠ 2 → t.exa.svst = 1) ∧ Answered a 0 s t
      ∧ Only [.exa, .acts, .cmdw] s t)) ∧
  (opc a.word = 0x30 → (fAux8 a.word).testBit 0 = false → Completes .actionTakesEffect
    (fun s => DueAlone a v 0 s ∧ armed s = true ∧ s.seg.opened = true ∧ s.seg.beat = s.time.beat)
    (fun s t => t.exa.svreq = none ∧ t.exa.svcap = some s.time.beat ∧ t.exa.svbeat = s.time.beat ∧ t.exa.svst = 1
      ∧ Answered a 0 s t ∧ Only [.exa, .acts, .cmdw] s t)) ∧
  (opc a.word = 0x30 → Completes .actionTakesEffect (fun s => DueAlone a v 0 s ∧ armed s = false)
    (fun s t => Answered a 6 s t ∧ Only [.acts, .cmdw] s t))

/-- R194, R195, R197, R213, R259 to R263, R348, R352, R442: what the window's own commands do at their action beat. CLRF
clears STAT bits or sticky SAT flags; with no lane armed a track image starts its checks; a microtable that fails a check is
rejected with its code, one that passes goes out to the sheaves; with no lane armed a weight image, a plan or an overlay (with
none in force) that passes its checks waits for its beat, one that fails is rejected with its code; LOADPLAN of the mode sets
Exact, while no wake waits. ARM that passes its checks arms every lane with an ENTRY at its base beat; with resume and a good
image it arms every lane that the image has armed, running or waiting, where the image left it, and reopens its segment; one
that fails is rejected with its code. DISARM that names no lane halts them all. LCREQ starts the programming of a step that
needs no token; a wrong token counts and draws a new challenge, a step that the life cycle lacks is refused. Where the spec
leaves a point open it states the model's choice (log 5, 6, 20, 28, 29, 30). -/
def Obligations.WindowCommands : Prop :=
  ∀ (a : Act) (v : Nat), a.ctx = .cmd → a.orphan = false →
  (∀ b : Fin 10, opc a.word = 0x38 → fAux8 a.word = 0 → fVal a.word = b.val →
    Completes .actionTakesEffect (fun s => DueAlone a v 0 s)
      (fun s t => t.flt = s.flt.set b { s.flt.get b with stat :=
          (statOf s b &&& ~~~ a.ext.get 0) ||| (statOf s b &&& a.ext.get 0 &&& rawWord s b.val) }
        ∧ Answered a 0 s t ∧ Only [.flt, .acts, .cmdw] s t)) ∧
  (opc a.word = 0x38 → fAux8 a.word = 1 → Completes .actionTakesEffect (fun s => DueAlone a v 0 s)
    (fun s t => t.loop.satCap = (s.loop.satCap && !(a.ext.get 0).getLsbD 0)
      ∧ (∀ d : Fin 128, (t.loop.dl.get d).sat = ((s.loop.dl.get d).sat && !(a.ext.get 0).getLsbD 3))
      ∧ t.loop.fcap = s.loop.fcap ∧ Answered a 0 s t ∧ Only [.loop, .acts, .cmdw] s t)) ∧
  (opc a.word = 0x39 → fAux8 a.word = 0 → Completes .actionTakesEffect (fun s => DueAlone a v 0 s ∧ armed s = false)
    (fun s t => t = { s with acts := [], seqr := { s.seqr with admitted := false, adm := some ⟨false, trackCheck s⟩ } })) ∧
  (opc a.word = 0x39 → fAux8 a.word = 1 → Completes .actionTakesEffect (fun s => DueAlone a v 0 s ∧ mtCheck s ≠ 0)
    (fun s t => t.seqr = { s.seqr with admerr := mtCheck s } ∧ raisedIn bSEQ 8 s t
      ∧ t.cmdw = { s.cmdw with res := some (3, mtCheck s), due := s.time.beat } ∧ t.mt = s.mt ∧ t.mts = s.mts
      ∧ Only [.seqr, .acts, .cmdw, .flt, .fpin, .silo, .blkReset, .g, .pmb] s t)) ∧
  (opc a.word = 0x39 → fAux8 a.word = 1 → Completes .actionTakesEffect (fun s => DueAlone a v 0 s ∧ mtCheck s = 0)
    (fun s t => (t.mts.load.map fun l => (l.npkt, l.commit)) = some ((Memory.read s.mem.mtimg 12).toNat, none)
      ∧ (∀ i : Fin 93, present s i.val = true → (s.shf.get i).hold = false → (t.mt.get i).st = 2 ∧ (t.mt.get i).shadow = []
          ∧ (t.mt.get i).dig = (s.mt.get i).dig)
      ∧ t.cmdw = s.cmdw ∧ Only [.mt, .mts, .acts] s t)) ∧
  (opc a.word = 0x39 → fAux8 a.word = 2 →
    Completes .actionTakesEffect (fun s => DueAlone a v 0 s ∧ estCheck s (staged' s.mem.estmem 2112) = 0)
      (fun s t => t.est = { s.est with busy := true, next := s.est.next ++ [(staged' s.mem.estmem 2112, s.time.beat + 64)] }
        ∧ t.cmdw = s.cmdw ∧ Only [.est, .acts] s t)) ∧
  (opc a.word = 0x39 → fAux8 a.word = 2 →
    Completes .actionTakesEffect (fun s => DueAlone a v 0 s ∧ estCheck s (staged' s.mem.estmem 2112) ≠ 0)
      (fun s t => t.est = { s.est with lasterr := estCheck s (staged' s.mem.estmem 2112) } ∧ raisedIn bEST 1 s t
        ∧ (t.cmdw.res.map (·.1)) = some 3 ∧ Only [.est, .acts, .cmdw, .flt, .fpin, .silo, .blkReset, .g, .pmb] s t)) ∧
  (opc a.word = 0x39 → fAux8 a.word = 3 → Completes .actionTakesEffect
    (fun s => DueAlone a v 0 s ∧ armed s = false ∧ planCheck s (staged' s.mem.planmem 10752) ≠ 0)
    (fun s t => t.plan = { s.plan with lasterr := planCheck s (staged' s.mem.planmem 10752) } ∧ raisedIn bSEQ 17 s t
      ∧ (t.cmdw.res.map (·.1)) = some 3 ∧ Only [.plan, .acts, .cmdw, .flt, .fpin, .silo, .blkReset, .g, .pmb] s t)) ∧
  (opc a.word = 0x39 → fAux8 a.word = 3 → Completes .actionTakesEffect
    (fun s => DueAlone a v 0 s ∧ armed s = false ∧ planCheck s (staged' s.mem.planmem 10752) = 0)
    (fun s t => t = { s with
      acts := []
      plan := { s.plan with next := some (staged' s.mem.planmem 10752, (s.time.beat + 100) / 100 * 100) } })) ∧
  (opc a.word = 0x39 → fAux8 a.word = 4 → Completes .actionTakesEffect
    (fun s => DueAlone a v 0 s ∧ armed s = false ∧ s.plan.inforce = none ∧ ovlCheck s (staged' s.mem.planmem 576) = 0)
    (fun s t =>
      let img := staged' s.mem.planmem 576
      t = { s with
        acts := []
        plan := { s.plan with nextOvl := some (fVal a.word,
          ⟨true, byteN img 7, ovlImgPairs img (byteN img 7), (img.drop 32).take 32⟩, s.time.beat + 200) } })) ∧
  (opc a.word = 0x39 → fAux8 a.word = 4 → Completes .actionTakesEffect
    (fun s => DueAlone a v 0 s ∧ armed s = false ∧ s.plan.inforce = none ∧ ovlCheck s (staged' s.mem.planmem 576) ≠ 0)
    (fun s t => t.plan = { s.plan with lasterr := ovlCheck s (staged' s.mem.planmem 576) } ∧ raisedIn bSEQ 17 s t
      ∧ (t.cmdw.res.map (·.1)) = some 3 ∧ Only [.plan, .acts, .cmdw, .flt, .fpin, .silo, .blkReset, .g, .pmb] s t)) ∧
  (opc a.word = 0x39 → fAux8 a.word = 5 → (fVal a.word).testBit 0 = true →
    Completes .actionTakesEffect (fun s => DueAlone a v 0 s ∧ armed s = false ∧ ∀ d : Fin 128, (s.gw.get d).waitAdm = false)
      (fun s t => t.g.exact = true ∧ t.setrec = { s.setrec with busy := true, pkgvalid := false }
        ∧ t.tally.count = s.tally.count + 1 ∧ (t.cmdw.res.map (·.1)) = some 0
        ∧ Only [.g, .exa, .estd, .shf, .shw, .shr, .ph, .phw, .sp, .gw, .time, .tel, .loop, .tally, .setrec, .acts, .cmdw] s t)) ∧
  (opc a.word = 0x3A → Completes .actionTakesEffect
    (fun s => DueAlone a v 0 s ∧ (a.ext.get 2).getLsbD 31 = false ∧ armCheck s (armBase a) = 0)
    (fun s t => (∀ l : Fin 8, (t.lane.get l).st = (if trkEntry s l.val ≠ 0xFFFF then .armed else .idle)
          ∧ (t.lane.get l).mask = trkMask s l.val ∧ (t.lane.get l).lag = 0 ∧ (t.lane.get l).cause = 0)
      ∧ t.seqr.base = armBase a ∧ (t.cmdw.res.map (·.1)) = some 0
      ∧ Only [.lane, .seqr, .exa, .side, .acts, .cmdw, .flt, .fpin, .silo, .blkReset, .g, .pmb] s t)) ∧
  (opc a.word = 0x3A → Completes .actionTakesEffect
    (fun s => DueAlone a v 0 s ∧ (a.ext.get 2).getLsbD 31 = false ∧ armCheck s (armBase a) ≠ 0)
    (fun s t => t.lane = s.lane ∧ t.seqr = { s.seqr with admerr := armCheck s (armBase a) } ∧ (statOf t bSEQ).getLsbD 8 = true
      ∧ t.cmdw = { s.cmdw with res := some (3, armCheck s (armBase a)), due := s.time.beat }
      ∧ Only [.seqr, .side, .acts, .cmdw, .flt, .fpin, .silo, .blkReset, .g, .pmb] s t)) ∧
  (opc a.word = 0x3A → Completes .actionTakesEffect
    (fun s => DueAlone a v 0 s ∧ (a.ext.get 2).getLsbD 31 = true ∧ s.exa.svst ≠ 2 ∧ armCheck s (armBase a) = 0
      ∧ resumeCode a s = 0)
    (fun s t =>
      let img := resumeImage s
      (∀ l : Fin 8,
        let st := laneOfCode (numAt img (128 + 192 * l.val) 1)
        (t.lane.get l).st = (if st = .run ∨ st = .waiting ∨ st = .armed then .armed else st)
          ∧ (t.lane.get l).pc = numAt img (130 + 192 * l.val) 2 ∧ (t.lane.get l).lag = numAt img (313 + 192 * l.val) 4
          ∧ (t.lane.get l).rf = ctxFile img l.val (armBase a))
      ∧ t.seqr.base = armBase a ∧ (t.seqr.resume.map (·.cbeat)) = some (numAt img 16 8)
      ∧ t.seg.opened = true ∧ t.seg.segid = numAt img 1856 2 ∧ t.seg.beat = armBase a
      ∧ t.cmdw.res = some (0, 0))) ∧
  (opc a.word = 0x3A → Completes .actionTakesEffect
    (fun s => DueAlone a v 0 s ∧ (a.ext.get 2).getLsbD 31 = true ∧ s.exa.svst ≠ 2 ∧ armCheck s (armBase a) = 0
      ∧ resumeCode a s ≠ 0)
    (fun s t => t.lane = s.lane ∧ t.seqr = { s.seqr with admerr := resumeCode a s } ∧ (statOf t bSEQ).getLsbD 8 = true
      ∧ t.cmdw = { s.cmdw with res := some (3, resumeCode a s), due := s.time.beat }
      ∧ Only [.seqr, .side, .acts, .cmdw, .flt, .fpin, .silo, .blkReset, .g, .pmb] s t)) ∧
  (opc a.word = 0x3B → (a.ext.get 2).toNat % 256 = 0 → Completes .actionTakesEffect (fun s => DueAlone a v 0 s)
    (fun s t => (∀ l : Fin 8, t.lane.get l =
          if laneOn (s.lane.get l) then { s.lane.get l with st := .halted, wait := .no } else s.lane.get l)
      ∧ (t.cmdw.res.map (·.1)) = some 0
      ∧ Only [.lane, .seg, .exa, .side, .tally, .acts, .cmdw, .flt, .fpin, .silo, .blkReset, .g, .pmb] s t)) ∧
  (opc a.word = 0x3C → Completes .actionTakesEffect
    (fun s => DueAlone a v 0 s ∧ armed s = false ∧ lcStep s.g.lc (fVal a.word % 8) = some false
      ∧ a.ext.data.all (· = 0) = true)
    (fun s t => t = { s with acts := [], g := { s.g with lcProg := some (fVal a.word % 8) } })) ∧
  (opc a.word = 0x3C → Completes .actionTakesEffect
    (fun s => DueAlone a v 0 s ∧ armed s = false ∧ lcStep s.g.lc (fVal a.word % 8) = none)
    (fun s t => t = { s with acts := [], cmdw := { s.cmdw with res := some (7, 0), due := s.time.beat } })) ∧
  (opc a.word = 0x3C → Completes .actionTakesEffect
    (fun s => DueAlone a v 0 s ∧ armed s = false ∧ lcStep s.g.lc (fVal a.word % 8) = some true ∧ s.g.lcLocked = false
      ∧ (a.ext.data.map fun x => leBytes 4 x.toNat).flatten ≠ lcToken s (fVal a.word % 8))
    (fun s t => t = { s with
      acts := []
      g := { s.g with
        lcFails := s.g.lcFails + 1, lcLocked := decide (8 ≤ s.g.lcFails + 1), lcChal := Config.challenge s.freeCtr }
      freeCtr := s.freeCtr + 1
      cmdw := { s.cmdw with res := some (7, 0), due := s.time.beat } }))

/-- R191, R194, R195, R212, R213, R215: track memory and microtables. A write of track memory stores its word little-endian at
its page's place and takes the admission away; with a lane armed it changes no byte and is counted. Admission done, an image
that no write touched meanwhile and that passes is admitted and gives the lanes their masks, one that fails is rejected with
its code, one that was touched with the code it failed with before, or 14. A packet of the load, of a sheaf's number of
packets, with a right CRC joins the sheaf's shadow, a wrong one is counted; END answers ACK or a NACK, which is counted; an
ACK of the image's digest is recorded, a NACK in its first three rounds is answered; at the commit beat of a load that every
present sheaf has ACKed, none in hold, every present sheaf switches and the load is over. Where the spec leaves a point open
it states the model's choice (log 156). -/
def Obligations.TrackMemoryAndMicrotables : Prop :=
  (∀ off (v : Word32), Completes (.trackMemoryWrite off v)
    (fun s => s.writable ∧ armed s = false ∧ Memory.wf s.mem.tmem = true)
    (fun s t =>
      let a := 32768 * s.seqr.page + off % 32768 / 4 * 4
      Memory.word t.mem.tmem a = v ∧ (∀ x, x < a ∨ a + 4 ≤ x → Memory.read t.mem.tmem x = Memory.read s.mem.tmem x)
      ∧ t.seqr = { s.seqr with admitted := false, adm := s.seqr.adm.map fun x => { x with touched := true } }
      ∧ t = { s with mem := { s.mem with tmem := t.mem.tmem }, seqr := t.seqr })) ∧
  (∀ off (v : Word32), Completes (.trackMemoryWrite off v)
    (fun s => s.writable ∧ armed s = true)
    (fun s t => t = { s with seqr := { s.seqr with tmwig := s.seqr.tmwig.inc 65535 } })) ∧
  (∀ a, Completes .trackAdmissionDone
    (fun s => s.live = true ∧ s.seqr.adm = some a ∧ a.touched = false ∧ trackCheck s ≠ 0)
    (fun s t => t.seqr = { s.seqr with adm := none, admerr := trackCheck s } ∧ raisedIn bSEQ 8 s t ∧ t.lane = s.lane
      ∧ t.cmdw = { s.cmdw with res := some (3, trackCheck s), due := s.time.beat }
      ∧ Only [.seqr, .cmdw, .flt, .fpin, .silo, .blkReset, .g, .pmb] s t)) ∧
  (∀ a, Completes .trackAdmissionDone
    (fun s => s.live = true ∧ s.seqr.adm = some a ∧ a.touched = true)
    (fun s t => t.seqr = { s.seqr with adm := none, admerr := if a.first = 0 then 14 else a.first } ∧ raisedIn bSEQ 8 s t
      ∧ t.lane = s.lane ∧ t.cmdw = { s.cmdw with res := some (3, if a.first = 0 then 14 else a.first), due := s.time.beat }
      ∧ Only [.seqr, .cmdw, .flt, .fpin, .silo, .blkReset, .g, .pmb] s t)) ∧
  (∀ a, Completes .trackAdmissionDone
    (fun s => s.live = true ∧ s.seqr.adm = some a ∧ a.touched = false ∧ trackCheck s = 0)
    (fun s t => t.seqr.admitted = true ∧ t.seqr.tdig = Memory.readBytes s.mem.tmem 32 32
      ∧ (∀ l : Fin 8, t.lane.get l = { s.lane.get l with mask := trkMask s l.val, actmax := trkActmax s l.val })
      ∧ t.cmdw = { s.cmdw with res := some (0, 0), due := s.time.beat } ∧ Only [.seqr, .lane, .cmdw] s t)) ∧
  (∀ (i : Fin 93) m npkt data crc ld, Completes (.microtablePacket i m npkt data crc)
    (fun s => s.live = true ∧ (s.mt.get i).st = 2 ∧ (s.shf.get i).hold = false ∧ m < npkt ∧ npkt = (s.mt.get i).npkt
      ∧ s.mts.load = some ld ∧ data = (ld.body.drop (256 * m)).take 256
      ∧ crc.toNat = crc32 (leBytes 1 m ++ leBytes 1 npkt ++ data))
    (fun s t => t = { s with mt := s.mt.set i { s.mt.get i with
      shadow := (m, data) :: (s.mt.get i).shadow.filter fun p => p.1 ≠ m, lastpkt := m } })) ∧
  (∀ (i : Fin 93) m npkt data crc, Completes (.microtablePacket i m npkt data crc)
    (fun s => s.live = true ∧ (s.mt.get i).st = 2 ∧ (s.shf.get i).hold = false
      ∧ crc.toNat ≠ crc32 (leBytes 1 m ++ leBytes 1 npkt ++ data))
    (fun s t => t = { s with mt := s.mt.set i { s.mt.get i with crcerr := (s.mt.get i).crcerr.inc 65535 } })) ∧
  (∀ (i : Fin 93) dig, Completes (.microtableEnd i dig)
    (fun s => s.live = true ∧ (s.mt.get i).st = 2 ∧ (s.shf.get i).hold = false)
    (fun s t => t = { s with mt := s.mt.set i { s.mt.get i with
      nackOut := some (mtMissing (s.mt.get i)), shdig := dig
      nacks := if mtMissing (s.mt.get i) = 0 then (s.mt.get i).nacks else (s.mt.get i).nacks.inc 65535 } })) ∧
  (∀ (i : Fin 93) ld, Completes (.microtableAck i)
    (fun s => s.live = true ∧ s.mts.load = some ld ∧ (s.mt.get i).nackOut = some 0 ∧ (s.mt.get i).shdig = ld.dig)
    (fun s t => t.mt = s.mt.set i { s.mt.get i with acked := true, nackOut := none } ∧ Only [.mt, .mts] s t)) ∧
  (∀ (i : Fin 93) ld k, Completes (.microtableNack i)
    (fun s => s.live = true ∧ s.mts.load = some ld ∧ (s.mt.get i).nackOut = some k ∧ k ≠ 0 ∧ (s.mt.get i).rounds < 3)
    (fun s t => t = { s with mt := s.mt.set i { s.mt.get i with
      rounds := (s.mt.get i).rounds + 1, nackOut := none } })) ∧
  (∀ ld b, Completes .microtableCommit
    (fun s => s.live = true ∧ s.mts.load = some ld ∧ ld.commit = some b ∧ b ≤ s.time.beat
      ∧ ∀ i : Fin 93, present s i.val = true → (s.mt.get i).acked = true ∧ (s.shf.get i).hold = false)
    (fun s t => t.mts = ⟨some ld.dig, none⟩
      ∧ (∀ i : Fin 93, t.mt.get i = if present s i.val = true then
          { s.mt.get i with dig := some ld.dig, st := 1, shadow := [] } else s.mt.get i)
      ∧ t.cmdw = { s.cmdw with res := some (0, 0), due := s.time.beat } ∧ Only [.mt, .mts, .cmdw] s t))

/-- R181, R309, R349, R352, R442, R443: images take effect. A weight image's copy done ends its command; a plan takes effect
at a multiple of 100 beats, empties the overlay slots and makes the settings record due, and the cap, the die limit and the
priorities are its; an overlay is VALID in its slot; the settings record is computed with a new generation, its digest that of
the record, raising SETREC_CHG, the package's valid in the coordinator; a life-cycle state that was programmed is the one of
the next power-up, and an LCREQ under way completes. Where the spec leaves a point open it states the model's choice (log 7,
20). -/
def Obligations.ImagesTakeEffect : Prop :=
  Completes .estImageCopyDone
    (fun s => s.live = true ∧ s.est.busy = true ∧ s.cmdw.busy = true ∧ opc s.cmdw.word = 0x39 ∧ fAux8 s.cmdw.word = 2
      ∧ s.cmdw.res = none)
    (fun s t => t.est = { s.est with busy := false } ∧ t.cmdw = { s.cmdw with res := some (0, 0), due := s.time.beat }
      ∧ Only [.est, .cmdw] s t) ∧
  (∀ img b, Completes .planTakeEffect
    (fun s => s.live = true ∧ s.plan.next = some (img, b) ∧ b ≤ s.time.beat ∧ s.time.beat % 100 = 0)
    (fun s t => t.plan.loaded = true ∧ t.plan.act = some img ∧ t.plan.digest = (img.drop 32).take 32
      ∧ t.plan.inforce = none ∧ (∀ k : Fin 16, (t.plan.slots.get k).valid = false)
      ∧ t.loop.cap = cfg t 1 0 ∧ t.loop.dieLim = cfg t 3 0 ∧ t.loop.prio = cfg t 6 0
      ∧ (∀ d : Fin 128, typ d.val ≠ .none → present s d.val = true → (t.sp.get d).zll = cfg t 0x40 d.val
          ∧ (t.loop.dl.get d).ilim = cfg t 0x41 d.val)
      ∧ t.setrec = { s.setrec with busy := true, pkgvalid := false }
      ∧ t.cmdw = { s.cmdw with res := some (0, 0), due := s.time.beat }
      ∧ Only [.shf, .shw, .shr, .ph, .phw, .sp, .gw, .clk, .plan, .cmdw, .loop, .setrec] s t)) ∧
  (∀ (k : Fin 16) o b, Completes .overlayValid
    (fun s => s.live = true ∧ s.plan.nextOvl = some (k.val, o, b))
    (fun s t => t.plan = { s.plan with slots := s.plan.slots.set k o, nextOvl := none }
      ∧ t.setrec = { s.setrec with busy := true, pkgvalid := false }
      ∧ t.cmdw = { s.cmdw with res := some (0, 0), due := s.time.beat } ∧ Only [.plan, .cmdw, .setrec] s t)) ∧
  (∀ others, Completes (.setrecRecompute others)
    (fun s => s.live = true ∧ s.setrec.busy = true)
    (fun s t => t.setrec.dig = sha256 (settingsRecord s) ∧ t.setrec.busy = false
      ∧ t.setrec.gen = (s.setrec.gen + 1) % 2 ^ 32 ∧ t.setrec.pkgvalid = s.g.coord ∧ raisedIn bSEQ 16 s t
      ∧ (s.g.coord = true → t.setrec.pkgdig = (let rest := upTo 3 fun i => padTo 32 (others.getD i [])
          let own := if s.g.mss then padTo 32 (sha256 (settingsRecord s)) else zeros 32
          sha256 (rest.take s.g.die ++ [own] ++ rest.drop s.g.die).flatten))
      ∧ Only [.setrec, .flt, .fpin, .silo, .blkReset, .g, .pmb] s t)) ∧
  (∀ others, Completes (.setrecRecompute others)
    (fun s => s.live = true ∧ s.setrec.busy = false ∧ s.g.coord = true)
    (fun s t =>
      let own := if s.g.mss then padTo 32 s.setrec.dig else zeros 32
      let rest := upTo 3 fun i => padTo 32 (others.getD i [])
      t = { s with setrec := { s.setrec with
        pkgdig := sha256 (rest.take s.g.die ++ [own] ++ rest.drop s.g.die).flatten, pkgvalid := true } })) ∧
  (∀ x, Completes .lcProgramDone
    (fun s => s.powered = true ∧ s.g.lcProg = some x)
    (fun s t => t = { s with
      g := { s.g with lcNext := x, lcProg := none }
      cmdw := if s.cmdw.busy = true ∧ opc s.cmdw.word = 0x3C then { s.cmdw with res := some (0, 0), due := s.time.beat }
        else s.cmdw }))

/-- R305, R306, R310: stalls and SAVE. A pending stall at its beat holds the lanes for its N beats, is counted with its beats
and adds to the covered slack; the hold ends at its beat. SAVE at its boundary has the image captured; the write done, after
the window that holds the boundary, the image's bytes stand in host memory at the address given; a write that failed raises
SAVE_FAIL and changes no byte. Where the spec leaves a point open it states the model's choice (log 21, 32, 147, 150). -/
def Obligations.StallsAndSave : Prop :=
  (∀ p ps, Completes .stallApply
    (fun s => s.live = true ∧ s.exa.pend = p :: ps ∧ s.exa.hold = none ∧ p.t ≤ s.time.beat ∧ armed s = true)
    (fun s t => t.exa.pend = ps ∧ t.exa.hold = some (s.time.beat + p.n) ∧ t.exa.stalls = s.exa.stalls.inc 65535
      ∧ t.exa.stbeats = s.exa.stbeats + p.n
      ∧ t.exa.covDone = (if s.seg.opened then s.exa.covDone + p.n else s.exa.covDone)
      ∧ (∀ l : Fin 8, (t.lane.get l).st = (s.lane.get l).st ∧ (t.lane.get l).pc = (s.lane.get l).pc)
      ∧ (t.acts.map fun a => a.word) = s.acts.map (fun a => a.word)
      ∧ Only [.nd, .lane, .acts, .cmdw, .exa] s t)) ∧
  (∀ b, Completes .stallHoldEnd
    (fun s => s.live = true ∧ s.exa.hold = some b ∧ b ≤ s.time.beat)
    (fun s t => t = { s with exa := { s.exa with hold := none } })) ∧
  (∀ c, Completes .saveCapture
    (fun s => s.live = true ∧ s.exa.svcap = some c)
    (fun s t => t.exa.svst = 2 ∧ t.exa.svcap = none ∧ t.exa.svimg.take 8 = [0x4D, 0x53, 0x41, 0x56, 1,
        BitVec.ofNat 8 (b2n s.g.exact + 2 * b2n s.exa.svstop), 0, 0]
      ∧ Only [.exa] s t)) ∧
  Completes (.saveWriteDone true)
    (fun s => s.live = true ∧ s.exa.svst = 2 ∧ s.time.beat / 100 ≠ s.exa.svbeat / 100 ∧ Memory.wf s.mem.hmem = true)
    (fun s t => t.exa = { s.exa with svst := 3, svimg := [] }
      ∧ (∀ k (h : k < s.exa.svimg.length), Memory.read t.mem.hmem (s.exa.svaddr + k) = s.exa.svimg[k])
      ∧ (∀ a, a < s.exa.svaddr ∨ s.exa.svaddr + s.exa.svimg.length ≤ a → Memory.read t.mem.hmem a = Memory.read s.mem.hmem a)
      ∧ t = { s with mem := { s.mem with hmem := t.mem.hmem }, exa := t.exa }) ∧
  Completes (.saveWriteDone false)
    (fun s => s.live = true ∧ s.exa.svst = 2)
    (fun s t => t.exa = { s.exa with svst := 4, svimg := [] } ∧ raisedIn bSEQ 15 s t
      ∧ Only [.exa, .flt, .fpin, .silo, .blkReset, .g, .pmb] s t)

/-- R267, R268: the loop law in exact terms. `e` and `h` are the error and the band over the normaliser, in 1/65536. Above the
band the output falls by gain times excess, below it rises by that, inside it holds; then it is clamped to the floor and 1.0.
The gain is K_S below an excess of 1/32, K_M below 1/4, K_L from there. What leaves the number format saturates and says so.
An output that starts in its bounds stays in them, never rises above the band and never falls below it. Where the spec leaves
a point open it states the model's choice (log 43). -/
def Obligations.LoopLaw : Prop :=
  (∀ (diff h fmin f : Int) (n ks km kl : Nat), 0 < n → fmin ≤ 65536 →
    let x := rdiv (diff * 65536) n
    let e := if x < -(2 ^ 31) then -(2 ^ 31) else if 2 ^ 31 ≤ x then 2 ^ 31 - 1 else x
    let gain := fun (x : Int) => if x < 65536 / 32 then (ks : Int) else if x < 65536 / 4 then km else kl
    let lim := fun (x : Int) => if x < fmin then fmin else if 65536 < x then 65536 else x
    let r := loopLaw diff n h ks km kl fmin f
    (h < e → r.f = lim (f - rdiv (gain (e - h) * (e - h)) 32768)
      ∧ r.sat = decide (e ≠ x ∨ 2 ^ 31 ≤ rdiv (gain (e - h) * (e - h)) 32768)) ∧
    (0 ≤ h → e < -h → r.f = lim (f + rdiv (gain (-e - h) * (-e - h)) 32768)
      ∧ r.sat = decide (e ≠ x ∨ 2 ^ 31 ≤ -e - h ∨ 2 ^ 31 ≤ f + rdiv (gain (-e - h) * (-e - h)) 32768)) ∧
    (-h ≤ e → e ≤ h → r.f = lim f ∧ r.sat = decide (e ≠ x))) ∧
  (∀ (diff h fmin f : Int) (n ks km kl : Nat), fmin ≤ f → f ≤ 65536 →
    let r := loopLaw diff n h ks km kl fmin f
    fmin ≤ r.f ∧ r.f ≤ 65536 ∧ (0 ≤ h → 0 ≤ diff → r.f ≤ f) ∧ (0 ≤ h → diff ≤ 0 → f ≤ r.f))

/-- R265, R273, R277 to R281: the step at a multiple of 100 beats that ends a whole window. The die loop takes the mean of the
last 100 windows and moves F_die by the law when it is enabled; with the domain loops enabled that of a present ON domain
moves its output, one that is absent or not ON keeps it; at multiples of 1,000 the loop of a present cluster takes its hottest
good sensor, or holds without one; the selectors are due 1 to 60 beats later (log 144) and still stand. No command voltage
changes, and at other beats nothing does. A selector's fraction is the least of its eight candidates, with the reason of the
first that has it (of tied domain loops, log 154), or 1.0; its slots and clock follow from it. R270 to R276, R291: the
coordinator's package loops, and a loop's disable. At the end of a whole bin each die's cap loop runs on the mean of its last
100 bins against its share of the cap, and the bins restart; a new averaging period enters at a bin's end and empties the
bins; outside the coordinator nothing happens. A valid budget reading, once the budget is valid or two before it were, decodes
to 400 W plus its part of 3,200 W; the third invalid one in a row loses BUDGET and falls back; the third valid one brings it
back. The following timer beyond FET raises BUDGET_FE. Disabling a loop puts its output to 1.0 at once, but for one that a
protection holds (the cap's at a VIN dip, the die's and a domain's at overcurrent, a cluster's at or above the throttle point)
and, outside the coordinator, those that the coordinator sends (log 52); and the selectors are computed again. Where the spec
leaves a point open it states the model's choice (log 44 to 50, 144, 154). -/
def Obligations.LoopEngineAndPackageLoops : Prop :=
  ((∀ (s : State) (c : Fin 64),
      let x := selectCore s c.val
      (∀ y ∈ candidates s c.val, x.fsel ≤ y.1)
      ∧ (x.fsel < 65536 ∧ (candidates s c.val).find? (fun y => y.1 = x.fsel) = some (x.fsel, x.reason)
        ∨ x.fsel = 65536 ∧ x.reason = 15)
      ∧ x.cf = clockFactor (s.loop.tl.nth (c.val / 8)).f ∧ x.b = min 65536 (rdiv (64 * x.fsel) (max 1 x.cf))
      ∧ x.kept = (256 * x.b / 65536).toNat) ∧
  (∀ fcap fbud, Completes (.loopEngineStep fcap fbud) (fun s => s.looping ∧ s.time.beat % 100 ≠ 0) (fun s t => t = s)) ∧
  (∀ fcap fbud, Completes (.loopEngineStep fcap fbud) (fun s => StepDue s)
    (fun s t => t.loop.dieWin = (dieCurrent s :: s.loop.dieWin).take 100 ∧ t.loop.dieAvg = meanInt t.loop.dieWin
      ∧ (s.loop.dieiEn = true →
          t.loop.fdie = (lawOf s 2 (t.loop.dieAvg - dieLimEff s) (dieLimEff s).toNat s.loop.fdie).f)
      ∧ (s.loop.dieiEn = false → s.loop.dieOc = false → t.loop.fdie = s.loop.fdie)
      ∧ (s.g.coord = false → t.loop.fcap = fracOf fcap ∧ t.loop.fbud = fracOf fbud)
      ∧ (s.g.coord = true → s.loop.capEn = true →
          t.loop.fcap = if s.loop.fcapAt < s.time.beat then fracOf (fracBits s.loop.fcapNext) else s.loop.fcap)
      ∧ (s.g.coord = true → s.loop.budEn = true →
          t.loop.fbud = if s.loop.fbudAt < s.time.beat then fracOf (fracBits s.loop.fbudNext) else s.loop.fbud)
      ∧ (∀ c : Fin 64, t.loop.core.get c = s.loop.core.get c
          ∧ s.time.beat < t.loop.selAt.get c ∧ t.loop.selAt.get c ≤ s.time.beat + 60)
      ∧ (∀ d : Fin 128, (t.sp.get d).vcmd = (s.sp.get d).vcmd)
      ∧ Only [.sp, .gw, .clk, .nd, .pd, .flt, .fpin, .silo, .blkReset, .g, .pmb, .lane, .acts, .cmdw, .loop, .tel, .exa, .side,
          .shf, .shw, .shr, .ph, .phw, .freeCtr] s t)) ∧
  (∀ fcap fbud (d : Fin 128), Completes (.loopEngineStep fcap fbud)
    (fun s => StepDue s ∧ typ d.val ≠ .none ∧ present s d.val = true ∧ domSt s d.val = .on
      ∧ s.loop.domiEn = true)
    (fun s t => (t.loop.dl.get d).f =
        (lawOf s 3 ((s.dom.get d).i - min (s.loop.dl.get d).ilim (s.loop.dl.get d).icont)
          (min (s.loop.dl.get d).ilim (s.loop.dl.get d).icont).toNat (s.loop.dl.get d).f).f)) ∧
  (∀ fcap fbud (d : Fin 128), Completes (.loopEngineStep fcap fbud)
    (fun s => StepDue s ∧ ¬(present s d.val = true ∧ domSt s d.val = .on))
    (fun s t => t.loop.dl.get d = s.loop.dl.get d)) ∧
  (∀ fcap fbud (c : Fin 8) m, Completes (.loopEngineStep fcap fbud)
    (fun s => StepDue s ∧ s.time.beat % 1000 = 0 ∧ (s.loop.thermEn = true ∨ throttleT s ≤ m)
      ∧ present s (64 + c.val) = true ∧ hottest s.prot.temps (clusterSensors c.val) = some m)
    (fun s t => (t.loop.tl.get c).t = m
      ∧ (t.loop.tl.get c).f = (lawOf s 4 (m - throttleT s) 2048 (s.loop.tl.get c).f).f)) ∧
  (∀ fcap fbud (c : Fin 8), Completes (.loopEngineStep fcap fbud)
    (fun s => StepDue s
      ∧ (s.time.beat % 1000 ≠ 0 ∨ present s (64 + c.val) = false ∨ hottest s.prot.temps (clusterSensors c.val) = none))
    (fun s t => t.loop.tl.get c = s.loop.tl.get c))) ∧
  (Completes .capBinEnd
    (fun s => s.looping ∧ s.g.coord = true ∧ 0 < s.time.beat ∧ s.time.beat % (1000000 * max 1 s.loop.tavg) = 0
      ∧ 10000 * s.loop.tavg ≤ s.loop.binN ∧ s.loop.tavgNext = none)
    (fun s t => (∀ k : Fin 4,
          t.loop.bins.get k = (rdivNat (s.loop.binSum.get k) s.loop.binN :: s.loop.bins.get k).take 100
          ∧ t.loop.binSum.get k = 0
          ∧ let l := rdivNat (500 * capEff s * t.loop.share.get k) 65536
            t.loop.capF.get k = min (if s.prot.dip then parFmin s 0 else 65536)
              (if s.loop.capEn = true ∧ t.loop.share.get k ≠ 0
                then (lawOf s 0 ((meanNat (t.loop.bins.get k) : Int) - l) l (s.loop.capF.get k)).f else 65536))
      ∧ t.loop.share = newShares s ∧ t.loop.binN = 0 ∧ t.loop.fcapNext = t.loop.capF.nth s.g.die ∧ t.loop.fcapAt = s.time.beat
      ∧ t.side = { s.side with gran := { s.side.gran with ceff := capEff s } }
      ∧ t.loop.fcap = s.loop.fcap ∧ t.loop.core = s.loop.core ∧ Only (.loop :: .side :: raises) s t) ∧
  (∀ v, Completes .capBinEnd
    (fun s => s.looping ∧ s.g.coord = true ∧ 0 < s.time.beat ∧ s.time.beat % (1000000 * max 1 s.loop.tavg) = 0
      ∧ s.loop.tavgNext = some v)
    (fun s t => t.loop.tavg = v ∧ t.loop.tavgNext = none ∧ t.loop.binN = 0
      ∧ (∀ k : Fin 4, t.loop.bins.get k = [] ∧ t.loop.binSum.get k = 0)
      ∧ t.side = { s.side with gran := { s.side.gran with ceff := capEff s } } ∧ Only (.loop :: .side :: raises) s t)) ∧
  Completes .capBinEnd (fun s => s.looping ∧ s.g.coord = false) (fun s t => t = s) ∧
  (∀ x e, Completes (.budgetDecode x e)
    (fun s => s.looping ∧ s.g.coord = true ∧ 0 < s.time.beat ∧ s.time.beat % 100000 = 0 ∧ s.loop.bud.lostNow = false
      ∧ (s.loop.bud.valid = true ∨ 2 ≤ s.loop.bud.good)
      ∧ ((s.loop.bud.mode = 1 ∧ e = true ∧ 20 ≤ x ∧ x ≤ 980) ∨ (s.loop.bud.mode = 2 ∧ 500 ≤ x ∧ x ≤ 24500)))
    (fun s t => t.loop.bud.valid = true ∧ t.loop.bud.lostNow = false ∧ t.loop.bud.bad = 0
      ∧ t.loop.bud.pbud = (if s.loop.bud.mode = 1 then 400 + rdivNat ((min 950 (max 50 x) - 50) * 3200) 900
          else 400 + rdivNat ((min 23750 (max 1250 x) - 1250) * 3200) 22500)
      ∧ t.loop.fbudNext = t.loop.budF.nth s.g.die ∧ t.loop.core = s.loop.core ∧ Only (.loop :: raises) s t)) ∧
  (∀ x e, Completes (.budgetDecode x e)
    (fun s => s.looping ∧ s.g.coord = true ∧ 0 < s.time.beat ∧ s.time.beat % 100000 = 0 ∧ s.loop.bud.lostNow = false
      ∧ 2 ≤ s.loop.bud.bad
      ∧ ((s.loop.bud.mode = 1 ∧ (e = false ∨ x < 20 ∨ 980 < x)) ∨ (s.loop.bud.mode = 2 ∧ (x < 500 ∨ 24500 < x))))
    (fun s t => t.loop.bud.valid = false ∧ t.loop.bud.lost = true ∧ t.loop.bud.lostNow = true ∧ t.loop.bud.pbud = cfg s 5 0
      ∧ t.loop.bud.timer = 0 ∧ (statOf t bLOOP).getLsbD 1 = true ∧ Only (.loop :: raises) s t)) ∧
  (∀ x e, Completes (.budgetDecode x e)
    (fun s => s.looping ∧ s.g.coord = true ∧ 0 < s.time.beat ∧ s.time.beat % 100000 = 0 ∧ s.loop.bud.lostNow = true
      ∧ 2 ≤ s.loop.bud.good
      ∧ ((s.loop.bud.mode = 1 ∧ e = true ∧ 20 ≤ x ∧ x ≤ 980) ∨ (s.loop.bud.mode = 2 ∧ 500 ≤ x ∧ x ≤ 24500)))
    (fun s t => t.loop.bud.valid = true ∧ t.loop.bud.lostNow = false ∧ t.loop.bud.lost = s.loop.bud.lost)) ∧
  Completes .budgetFeTimer
    (fun s => s.looping ∧ s.g.coord = true ∧ s.loop.bud.feAct = false ∧ s.loop.bud.lostNow = false
      ∧ 10 * s.loop.bud.fet < s.loop.bud.timer)
    (fun s t => t.loop = { s.loop with bud := { s.loop.bud with feAct := true } } ∧ raisedIn bLOOP 0 s t
      ∧ Only (.loop :: raises) s t) ∧
  Completes .budgetFeTimer (fun s => s.looping ∧ s.loop.bud.timer ≤ 10 * s.loop.bud.fet) (fun s t => t = s) ∧
  Completes (.loopDisable 0) (fun s => s.writable)
    (fun s t => t.loop.capEn = false
      ∧ t.loop.fcap = (if s.g.coord = true ∧ s.prot.dip = false then 65536 else s.loop.fcap)
      ∧ t.loop.satCap = s.loop.satCap ∧ Selected t ∧ Only [.loop] s t) ∧
  Completes (.loopDisable 1) (fun s => s.writable)
    (fun s t => t.loop.budEn = false ∧ t.loop.fbud = (if s.g.coord then 65536 else s.loop.fbud)
      ∧ t.loop.satBud = s.loop.satBud ∧ Selected t ∧ Only [.loop] s t) ∧
  Completes (.loopDisable 2) (fun s => s.writable ∧ s.loop.dieOc = false)
    (fun s t => t.loop.dieiEn = false ∧ t.loop.fdie = 65536 ∧ t.loop.satDiei = s.loop.satDiei ∧ Selected t ∧ Only [.loop] s t) ∧
  Completes (.loopDisable 3) (fun s => s.writable)
    (fun s t => t.loop.domiEn = false
      ∧ (∀ d : Fin 128, (t.loop.dl.get d).sat = (s.loop.dl.get d).sat
          ∧ (t.loop.dl.get d).f = if (s.pd.get d).ocact then (s.loop.dl.get d).f else 65536)
      ∧ Selected t ∧ Only [.loop] s t) ∧
  Completes (.loopDisable 4) (fun s => s.writable)
    (fun s t => t.loop.thermEn = false
      ∧ (∀ c : Fin 8, (t.loop.tl.get c).sat = (s.loop.tl.get c).sat
          ∧ (t.loop.tl.get c).f = if throttleT s ≤ (s.loop.tl.get c).t ∧ (s.loop.tl.get c).f < 65536 then (s.loop.tl.get c).f else 65536)
      ∧ Selected t ∧ Only [.loop] s t))

/-- R288 to R291, R295: telemetry. At the end of the period that began last, where nothing cut it, the record goes to its
place in the ring, the write index and the sequence number advance, a tag set before is spent, and the period starts again;
every byte of host memory outside the record's 1,024 stays. The record's fields stand as R289's table has them, each mean over
the period's windows (FSEL's over its beats), with the CRC over the rest. With the ring full the record is lost: counted,
TEL_LOST raised, no byte written. A bus error stops telemetry and raises TEL_BUSERR. A discarded period is counted as lost.
Where the spec leaves a point open it states the model's choice (log 51, 109). -/
def Obligations.TelemetryRecords : Prop :=
  Completes (.telemetryRecord true)
    (fun s => s.live = true ∧ s.time.beat % telPeriod s.tel.fine = 0 ∧ s.tel.start < s.time.beat
      ∧ s.time.beat ≤ s.tel.start + telPeriod s.tel.fine ∧ s.tel.en = true
      ∧ s.tel.buserr = false ∧ s.tel.broken = false ∧ (s.tel.wr + 1) % 2 ^ s.tel.log ≠ s.tel.rd
      ∧ Memory.wf s.mem.hmem = true)
    (fun s t => Memory.readBytes t.mem.hmem (s.tel.base + 1024 * s.tel.wr) 1024 = telRecord s
      ∧ (∀ a, a < s.tel.base + 1024 * s.tel.wr ∨ s.tel.base + 1024 * s.tel.wr + 1024 ≤ a →
          Memory.read t.mem.hmem a = Memory.read s.mem.hmem a)
      ∧ t.tel.wr = (s.tel.wr + 1) % 2 ^ s.tel.log ∧ t.tel.rseq = (s.tel.rseq + 1) % 2 ^ 32 ∧ t.tel.gap = false
      ∧ t.tel.tags = s.tel.tags.filter (fun x => decide (s.time.beat ≤ x.2)) ∧ t.tel.start = s.time.beat ∧ t.tel.n = 0 ∧ t.tel.beats = 0 ∧ t.tel.lost = s.tel.lost
      ∧ t.mem.tmem = s.mem.tmem ∧ t.mem.mtimg = s.mem.mtimg ∧ t.mem.estmem = s.mem.estmem ∧ t.mem.planmem = s.mem.planmem
      ∧ Only [.mem, .tel] s t) ∧
  (∀ s : State, (telRecord s).length = 1024) ∧
  (∀ s : State,
    recordBytes s 0 6 = [0x4D, 0x54, 0x45, 0x4C, 1,
        BitVec.ofNat 8 (b2n s.tel.fine + 2 * b2n s.g.exact + 4 * b2n s.tel.gap + 8 * b2n s.g.coord)]
      ∧ recordBytes s 6 2 = leBytes 2 ((((s.tel.tags.filter fun x => decide (x.2 < s.time.beat)).getLast?).map (·.1)).getD 0)
      ∧ recordBytes s 8 4 = leBytes 4 s.tel.rseq ∧ recordBytes s 12 4 = zeros 4
      ∧ recordBytes s 16 16 = leBytes 8 s.tel.start ++ leBytes 8 s.time.beat
      ∧ recordBytes s 32 4 = leBytes 4 (if s.g.coord then satU32 (periodMean s s.tel.pinSum) else 0)
      ∧ recordBytes s 36 4 = leBytes 4 (satU32 (periodMean s s.tel.pdieSum))
      ∧ recordBytes s 40 4 = leBytes 4 (signedBits 32 (satI32 (periodMean s s.tel.idieSum)))
      ∧ recordBytes s 44 2 = leBytes 2 (satU16 (rdiv s.tel.vbSum (max 1 s.tel.vbN)))
      ∧ recordBytes s 46 2 = leBytes 2 (fracBits (min s.loop.fcap s.loop.fbud))
      ∧ (∀ r : Fin 9, (BitVec.ofNat 16 (le16 (telRecord s) 48)).getLsbD r.val = s.tel.rsn.data.any fun x => decide (0 < x.get r))
      ∧ recordBytes s 50 2 = leBytes 2 (loopSat s)
      ∧ recordBytes s 52 2 = leBytes 2 (s.loop.ceilC + 16 * s.loop.ceilA + 256 * s.loop.ceilL) ∧ recordBytes s 54 6 = zeros 6
      ∧ recordBytes s 60 4 = leBytes 4 (crc32 ((telRecord s).take 60 ++ (telRecord s).drop 64))
      ∧ (∀ k : Fin 97, recordBytes s (64 + 8 * k.val) 8 =
          let d := if k.val < 93 then k.val else k.val + 3
          if present s d then leBytes 2 (satU16 (periodMean s (s.tel.vSum.nth d)))
            ++ leBytes 2 (signedBits 16 (satI16 (periodMean s (s.tel.iSum.nth d)))) ++ leBytes 4 (energyReg (s.dom.nth d).e)
          else zeros 8)
      ∧ (∀ c : Fin 64, recordBytes s (840 + 2 * c.val) 2 =
          leBytes 2 (if present s c.val then fracBits (rdiv (s.tel.fselSum.nth c.val) (max 1 s.tel.beats)) else 0))
      ∧ (∀ c : Fin 64, present s c.val = true →
          ((recordBytes s (968 + c.val / 2) 1).getD 0 0).toNat / (if c.val % 2 = 0 then 1 else 16) % 16 = mostReason (s.tel.rsn.get c))
      ∧ recordBytes s 1000 24 = zeros 24) ∧
  (∀ ok, Completes (.telemetryRecord ok)
    (fun s => s.live = true ∧ s.time.beat % telPeriod s.tel.fine = 0 ∧ s.tel.start < s.time.beat
      ∧ s.time.beat ≤ s.tel.start + telPeriod s.tel.fine ∧ s.tel.en = true
      ∧ s.tel.buserr = false ∧ s.tel.broken = false ∧ (s.tel.wr + 1) % 2 ^ s.tel.log = s.tel.rd)
    (fun s t => t.mem = s.mem ∧ t.tel.wr = s.tel.wr ∧ t.tel.rseq = (s.tel.rseq + 1) % 2 ^ 32 ∧ t.tel.lost = s.tel.lost.inc 65535
      ∧ t.tel.gap = true ∧ t.tel.start = s.time.beat ∧ raisedIn bLOOP 5 s t ∧ Only (.tel :: raises) s t)) ∧
  Completes (.telemetryRecord false)
    (fun s => s.live = true ∧ s.time.beat % telPeriod s.tel.fine = 0 ∧ s.tel.start < s.time.beat
      ∧ s.time.beat ≤ s.tel.start + telPeriod s.tel.fine ∧ s.tel.en = true
      ∧ s.tel.buserr = false ∧ s.tel.broken = false ∧ (s.tel.wr + 1) % 2 ^ s.tel.log ≠ s.tel.rd)
    (fun s t => t.mem = s.mem ∧ t.tel.wr = s.tel.wr ∧ t.tel.buserr = true ∧ t.tel.lost = s.tel.lost.inc 65535
      ∧ raisedIn bLOOP 6 s t ∧ Only (.tel :: raises) s t) ∧
  (∀ ok, Completes (.telemetryRecord ok)
    (fun s => s.live = true ∧ s.time.beat % telPeriod s.tel.fine = 0 ∧ s.tel.start < s.time.beat
      ∧ s.time.beat ≤ s.tel.start + telPeriod s.tel.fine ∧ s.tel.en = true
      ∧ s.tel.buserr = false ∧ s.tel.broken = true)
    (fun s t => t.tel.wr = s.tel.wr ∧ t.tel.lost = s.tel.lost.inc 65535 ∧ t.tel.rseq = (s.tel.rseq + 1) % 2 ^ 32
      ∧ t.tel.broken = loopInReset s ∧ t.tel.start = s.time.beat ∧ Only [.tel] s t))

/-- R318, R319, R321, R322: what an arriving message meets. On a port that is off, or outside a job, nothing happens. A
message whose check fails, whose job or kind is another, or whose length does not fit its kind is dropped: it is counted, BAD
is raised, no queue takes it, and nothing else of the sideband changes. R306, R324, R328, R329, R342: the two flooded kinds. A
new one goes on, one hop older, on every other port that is on while the hops stay below DIAM, and its repeat, known by ORIG
and SEQ, does nothing. A STALL's beat T is the one near the present whose low 48 bits it carries; with a lane armed and none
of its T applied before, it waits, pending, in the order of T, while its beat and the holds of the stalls applied before it
are not past; else it sets STALL_LATE. With no lane armed it is passed on alone. A passing VERDICT of the matching base lets
the barrier pass; a failing one halts every armed lane and raises BAR_FAIL; with no barrier pending it is passed on alone.
Where the spec leaves a point open it states the model's choice (log 58, 59). -/
def Obligations.MessageDropsStallsAndVerdicts : Prop :=
  ((∀ (x : Nat × (Fin 19 → Word64 → List Word64 → Instr)), x ∈ messageRows → ∀ port h pay, Completes (x.2 port h pay)
    (fun s => s.live = true ∧ s.side.en = true ∧ (s.side.port.get port).en = true
      ∧ (bits h.toNat 0 16 ≠ msgChk (msgOf h pay) ∨ (msgOf h pay).job ≠ s.side.jobtag ∨ (msgOf h pay).kind ≠ x.1
        ∨ bits h.toNat 24 6 ≠ pay.length ∨ lenOk x.1 pay.length = false))
    (fun s t => t.side = { s.side with bad := s.side.bad.inc 65535 } ∧ raisedIn bSIDE 0 s t ∧ Only (.side :: raises) s t)) ∧
  (∀ (x : Nat × (Fin 19 → Word64 → List Word64 → Instr)), x ∈ messageRows → ∀ port h pay, Completes (x.2 port h pay)
    (fun s => s.live = true ∧ (s.side.en = false ∨ (s.side.port.get port).en = false))
    (fun s t => t = s)) ∧
  (∀ kind n, lenOk kind n = true ↔
    ((kind = 1 ∨ kind = 2 ∨ kind = 3 ∨ kind = 5) ∧ n = 1) ∨ ((kind = 4 ∨ kind = 9) ∧ n = 2)
      ∨ (kind = 6 ∧ 1 ≤ n ∧ n ≤ 8) ∨ ((kind = 7 ∨ kind = 8) ∧ n = 34))) ∧
  ((∀ port h pay, Completes (.stall port h pay)
    (fun s => Arrives 1 port h pay s ∧ handled s (msgOf h pay) = true) (fun s t => t = s)) ∧
  (∀ port h pay, Completes (.verdict port h pay)
    (fun s => Arrives 2 port h pay s ∧ handled s (msgOf h pay) = true) (fun s t => t = s)) ∧
  (∀ port h pay T, Completes (.stall port h pay)
    (fun s => Arrives 1 port h pay s ∧ handled s (msgOf h pay) = false ∧ armed s = true
      ∧ T % 2 ^ 48 = bits (slot (msgOf h pay) 0) 0 48 ∧ s.time.beat ≤ T + 2 ^ 47 ∧ T < s.time.beat + 2 ^ 47
      ∧ (s.exa.applied.find? fun p => p.t = T) = none ∧ (s.time.beat ≤ T ∨ ∃ p ∈ s.exa.applied, p.t < T ∧ s.time.beat ≤ p.fin))
    (fun s t => t.exa = { s.exa with pend := stallInsert ⟨T, 64 * bits (slot (msgOf h pay) 0) 54 10, 0⟩ s.exa.pend }
      ∧ Floods port (msgOf h pay) s t ∧ SideIs (fun x => { x with seen := seenWith (msgOf h pay) x }) s t
      ∧ Only (.exa :: .side :: raises) s t)) ∧
  (∀ port h pay T, Completes (.stall port h pay)
    (fun s => Arrives 1 port h pay s ∧ handled s (msgOf h pay) = false ∧ armed s = true
      ∧ T % 2 ^ 48 = bits (slot (msgOf h pay) 0) 0 48 ∧ T < s.time.beat ∧ s.time.beat ≤ T + 2 ^ 47
      ∧ (s.exa.applied.find? fun p => p.t = T) = none ∧ ∀ p ∈ s.exa.applied, p.t < T → p.fin < s.time.beat)
    (fun s t => t.exa.stlate = true ∧ (statOf t bSEQ).getLsbD 11 = true ∧ Floods port (msgOf h pay) s t
      ∧ Only ([.nd, .lane, .acts, .cmdw, .exa, .side] ++ raises) s t)) ∧
  (∀ port h pay, Completes (.stall port h pay)
    (fun s => Arrives 1 port h pay s ∧ handled s (msgOf h pay) = false ∧ armed s = false)
    (fun s t => Floods port (msgOf h pay) s t ∧ SideIs (fun x => { x with seen := seenWith (msgOf h pay) x }) s t
      ∧ Only (.side :: raises) s t)) ∧
  (∀ port h pay, Completes (.verdict port h pay)
    (fun s => Arrives 2 port h pay s ∧ handled s (msgOf h pay) = false ∧ s.side.barPend = true
      ∧ bitOf (slot (msgOf h pay) 0) 63 = true ∧ bits (slot (msgOf h pay) 0) 0 40 = s.seqr.base % 2 ^ 40)
    (fun s t => Floods port (msgOf h pay) s t
      ∧ SideIs (fun x => { x with seen := seenWith (msgOf h pay) x, barPass := true }) s t ∧ Only (.side :: raises) s t)) ∧
  (∀ port h pay, Completes (.verdict port h pay)
    (fun s => Arrives 2 port h pay s ∧ handled s (msgOf h pay) = false ∧ s.side.barPend = true
      ∧ bitOf (slot (msgOf h pay) 0) 63 = false)
    (fun s t => LanesHalted s t ∧ t.side.barFail = true ∧ t.side.barPend = false ∧ (statOf t bSIDE).getLsbD 2 = true
      ∧ t.side.seen = seenWith (msgOf h pay) s.side
      ∧ (armed s = true → t.tally.count = s.tally.count + 1 ∧ (t.tally.ents.head?.map (·.source)) = some 2)
      ∧ Only ([.seg, .lane, .tally, .exa, .side] ++ raises) s t)) ∧
  (∀ port h pay, Completes (.verdict port h pay)
    (fun s => Arrives 2 port h pay s ∧ handled s (msgOf h pay) = false ∧ s.side.barPend = false)
    (fun s t => Floods port (msgOf h pay) s t ∧ SideIs (fun x => { x with seen := seenWith (msgOf h pay) x }) s t
      ∧ Only (.side :: raises) s t)))

/-- R324, R340 to R343: the arm barrier. An ARMRPT goes up on the parent port until the root, which keeps the last of each
ordinal, and none between its decision and the base. At B - BDEC of its last ARM the root marks the ordinals whose report is
armed and aligned and has its own digest bytes and low bits of B, floods a VERDICT that passes only with every ordinal below
NINST marked, and counts those that are not; a failing decision halts its lanes where its barrier is still pending. An
instance that has no passing verdict at B halts its own and raises BAR_FAIL; one that has stays as it is. Where the spec
leaves a point open it states the model's choice (log 61, 66). -/
def Obligations.ArmBarrier : Prop :=
  (∀ port h pay, Completes (.armrpt port h pay)
    (fun s => Arrives 3 port h pay s ∧ s.side.root = false)
    (fun s t => Sends (fun k p => decide (k ≠ port.val) && upPort p) [msgOf h pay] s t ∧ SideIs (fun x => x) s t
      ∧ Only (.side :: raises) s t)) ∧
  (∀ port h pay, Completes (.armrpt port h pay)
    (fun s => Arrives 3 port h pay s ∧ s.side.root = true ∧ (s.side.decided = false ∨ s.side.barB ≤ s.time.beat))
    (fun s t => t = { s with side := { s.side with
      rpts := ((msgOf h pay).orig, pay.getD 0 0) :: s.side.rpts.filter fun r => r.1 ≠ (msgOf h pay).orig } })) ∧
  (∀ port h pay, Completes (.armrpt port h pay)
    (fun s => Arrives 3 port h pay s ∧ s.side.root = true ∧ s.side.decided = true ∧ s.time.beat < s.side.barB)
    (fun s t => t = s)) ∧
  Completes .armBarrierDecision
    (fun s => s.live = true ∧ s.side.root = true ∧ s.side.en = true ∧ s.side.decided = false ∧ 1 < s.side.ninst
      ∧ s.side.ninst ≤ 4096 ∧ s.side.barB ≤ s.time.beat + s.side.bdec)
    (fun s t =>
      let marked := (List.range s.side.ninst).filter fun o => decide (Marked s o)
      let pass := decide (marked.length = s.side.ninst)
      t.side.decided = true ∧ t.side.nmiss = s.side.ninst - marked.length
      ∧ (∀ o : Fin 4096, t.side.abmap.getLsbD o.val = decide (o.val < s.side.ninst ∧ Marked s o.val))
      ∧ Sends (fun _ _ => true) [ownMsg s 2 0 [BitVec.ofNat 64 ((if pass then 2 ^ 63 else 0) + s.side.barB % 2 ^ 40)]] s t
      ∧ (pass = true → t.side.barPass = s.side.barPend ∧ t.side.barPend = s.side.barPend ∧ Only (.side :: raises) s t)
      ∧ (pass = false → t.side.barPass = false)
      ∧ (pass = false → s.side.barPend = true → LanesHalted s t ∧ t.side.barFail = true ∧ (statOf t bSIDE).getLsbD 2 = true
          ∧ t.side.barPend = false)
      ∧ (s.side.barPend = false → Only (.side :: raises) s t)
      ∧ Only ([.seg, .lane, .tally, .exa, .side] ++ raises) s t) ∧
  Completes .armBarrierDecision
    (fun s => s.live = true ∧ (s.side.root = false ∨ s.side.decided = true ∨ s.time.beat + s.side.bdec < s.side.barB))
    (fun s t => t = s) ∧
  Completes .armBarrierTimeout
    (fun s => s.live = true ∧ s.side.barPend = true ∧ s.side.barPass = false ∧ s.seqr.base ≤ s.time.beat)
    (fun s t => LanesHalted s t ∧ t.side.barFail = true ∧ t.side.barPend = false ∧ (statOf t bSIDE).getLsbD 2 = true
      ∧ Only ([.seg, .lane, .tally, .exa, .side] ++ raises) s t) ∧
  Completes .armBarrierTimeout
    (fun s => s.live = true ∧ (s.side.barPend = false ∨ s.side.barPass = true ∨ s.time.beat < s.seqr.base)) (fun s t => t = s)

/-- R330 to R333, R336: the exchange. At the report beat of a flagged segment the slack of each die in service, its own where
it is this die's, is taken, and the least of them is the package's, in the exchange that the segment started. From two beats
later on a member's own report joins the exchange and goes out on the tree; one that is no member then sends none. A received
one of the same exchange joins and goes on; the decision runs the procedure over the reports and the root sends the GRANT; a
received GRANT is kept and goes on. At the apply beat the new holding counts if the GRANT agrees, else the lesser of the two
does and GRAN_DIVERGE is raised. Outside Exact mode the coordinator balances its dies' shares once for each flagged segment,
100 beats after its report beat. Where the spec leaves a point open it states the model's choice (log 63, 67). -/
def Obligations.GranaryExchange : Prop :=
  (∀ sig x y ys, Completes (.granReport sig)
    (fun s => s.live = true ∧ s.side.gran.cur = some x ∧ s.side.gran.segs = y :: ys ∧ x.x = y.x ∧ x.sent = false
      ∧ y.dies = none ∧ (∀ z ∈ ys, z.x ≠ y.x) ∧ y.x + s.side.gran.rdly ≤ s.time.beat
      ∧ s.time.beat < y.x + s.side.gran.rdly + 2)
    (fun s t =>
      let inSet : Nat → Bool := fun k => if k = s.g.die then s.g.mss else (s.peer.nth k).mss
      let sg : Nat → Int := fun k => if k = s.g.die then ownSlack s y (y.x + s.side.gran.rdly) else sig.getD k 0
      let ins := ((List.range 4).filter inSet).map sg
      t = { s with side := { s.side with gran := { s.side.gran with
        segs := { y with dies := some (upTo 4 fun k => if inSet k then some (sg k) else none) } :: ys
        cur := some { x with
          sigma := some (satI32 (ins.foldl min (ins.headD (ownSlack s y (y.x + s.side.gran.rdly))))) } } } })) ∧
  (∀ sig x sigma, Completes (.granReport sig)
    (fun s => s.live = true ∧ s.side.gran.segs = [] ∧ s.side.gran.cur = some x ∧ x.sigma = some sigma ∧ x.sent = false
      ∧ x.x + s.side.gran.rdly + 2 ≤ s.time.beat ∧ granMember s x = true)
    (fun s t =>
      let r : GRep := ⟨s.side.ord, x.exid, x.policy, sigma, s.side.gran.hold, 2 * s.loop.cap,
        min s.side.gran.nom (2 * s.loop.cap)⟩
      t.side.gran = { s.side.gran with cur := some { x with sent := true, reps := repInsert r x.reps } }
      ∧ Sends (fun _ p => treePort p) [ownMsg s 4 0
            [BitVec.ofNat 64 (fld 48 16 r.exid + fld 46 2 r.policy + signedBits 32 r.sigma),
             BitVec.ofNat 64 (fld 48 16 r.h + fld 32 16 r.cap + fld 16 16 r.nom)]] s t
      ∧ Only (.side :: raises) s t)) ∧
  (∀ sig x sigma, Completes (.granReport sig)
    (fun s => s.live = true ∧ s.side.gran.segs = [] ∧ s.side.gran.cur = some x ∧ x.sigma = some sigma ∧ x.sent = false
      ∧ x.x + s.side.gran.rdly + 2 ≤ s.time.beat ∧ granMember s x = false)
    (fun s t => t = { s with side := { s.side with gran := { s.side.gran with cur := some { x with sent := true } } } })) ∧
  (∀ x sigma, Completes .refclkEdge
    (fun s => EdgeAlone s ∧ s.time.beat + 1 < 2 ^ 64 ∧ s.side.gran.cur = some x ∧ x.sigma = some sigma ∧ x.sent = false
      ∧ x.x + s.side.gran.rdly + 2 ≤ s.time.beat + 1 ∧ granMember s x = true)
    (fun s t => t.side.gran = { s.side.gran with cur := some { x with
      sent := true
      reps := repInsert ⟨s.side.ord, x.exid, x.policy, sigma, s.side.gran.hold, 2 * s.loop.cap,
        min s.side.gran.nom (2 * s.loop.cap)⟩ x.reps } })) ∧
  (∀ sig, Completes (.granReport sig)
    (fun s => s.live = true ∧ s.side.gran.segs = [] ∧ s.side.gran.cur = none) (fun s t => t = s)) ∧
  (∀ port h pay x, Completes (.granrpt port h pay)
    (fun s => Arrives 4 port h pay s ∧ s.side.gran.cur = some x ∧ x.decided = false ∧ bits (slot (msgOf h pay) 0) 48 16 = x.exid
      ∧ (bits (slot (msgOf h pay) 0) 46 2 = 1 ∨ bits (slot (msgOf h pay) 0) 46 2 = 2))
    (fun s t =>
      let r : GRep := (⟨(msgOf h pay).orig, x.exid, bits (slot (msgOf h pay) 0) 46 2,
        signExt 32 (bits (slot (msgOf h pay) 0) 0 32), bits (slot (msgOf h pay) 1) 48 16, bits (slot (msgOf h pay) 1) 32 16,
        bits (slot (msgOf h pay) 1) 16 16⟩ : GRep)
      Sends (fun k p => decide (k ≠ port.val) && treePort p) [msgOf h pay] s t
      ∧ SideIs (fun y => { y with gran := { y.gran with cur := some { x with reps := repInsert r x.reps } } }) s t
      ∧ Only (.side :: raises) s t)) ∧
  (∀ port h pay x, Completes (.granrpt port h pay)
    (fun s => Arrives 4 port h pay s ∧ s.side.gran.cur = some x ∧ bits (slot (msgOf h pay) 0) 48 16 ≠ x.exid)
    (fun s t => Sends (fun k p => decide (k ≠ port.val) && treePort p) [msgOf h pay] s t ∧ SideIs (fun y => y) s t
      ∧ Only (.side :: raises) s t)) ∧
  (∀ x, Completes .granDecision
    (fun s => s.live = true ∧ s.side.gran.cur = some x ∧ x.x + s.side.gran.rdly + s.side.gran.gwin ≤ s.time.beat
      ∧ x.sent = true ∧ x.decided = false ∧ granMember s x = true)
    (fun s t =>
      let flats := ((x.reps.filter fun m => decide (m.policy = 2)).map (·.ord)).take (s.side.npkg / 16)
      let sh := reallocate s.side.gran.db (x.reps.filter fun m => !flats.contains m.ord)
      let dig : Word32 := BitVec.ofNat 32 (allocDig sh)
      SideIs (fun y => { y with
        seqs := if y.root then y.seqs.modN 5 fun k => (k + 1) % 256 else y.seqs
        gran := { y.gran with cur := some { x with
          decided := true
          newH := ((sh.find? fun m => decide (m.ord = y.ord)).map (·.h)).getD y.gran.hold
          nrep := x.reps.length
          dig := dig
          flat := flats.contains y.ord
          grant := if y.root then some (x.reps.length, dig) else x.grant } } }) s t
      ∧ Sends (fun _ p => s.side.root && treePort p)
          [ownMsg s 5 0 [BitVec.ofNat 64 (fld 48 16 x.exid + fld 36 12 x.reps.length + dig.toNat)]] s t
      ∧ Only (.side :: raises) s t)) ∧
  Completes .granDecision
    (fun s => s.live = true ∧ (s.side.gran.cur.all fun x => decide (s.time.beat < x.x + s.side.gran.rdly + s.side.gran.gwin)) = true)
    (fun s t => t = s) ∧
  (∀ port h pay x, Completes (.grant port h pay)
    (fun s => Arrives 5 port h pay s ∧ s.side.gran.cur = some x ∧ bits (slot (msgOf h pay) 0) 48 16 = x.exid)
    (fun s t => Sends (fun k p => decide (k ≠ port.val) && treePort p) [msgOf h pay] s t
      ∧ SideIs (fun y => { y with gran := { y.gran with cur := some { x with
          grant := some (bits (slot (msgOf h pay) 0) 36 12, BitVec.ofNat 32 (slot (msgOf h pay) 0)) } } }) s t
      ∧ Only (.side :: raises) s t)) ∧
  (∀ x, Completes .granApply
    (fun s => s.live = true ∧ s.side.gran.cur = some x ∧ x.x + s.side.gran.rdly + s.side.gran.gwin + 1000 ≤ s.time.beat
      ∧ x.decided = true ∧ granMember s x = true ∧ x.grant = some (x.nrep % 4096, x.dig))
    (fun s t => t = { s with side := { s.side with gran := { s.side.gran with
      cur := none, hold := x.newH, exid := x.exid, nrep := x.nrep, flat := x.flat && decide (s.side.gran.policy = 2)
      exch := (s.side.gran.exch + 1) % 2 ^ 32 } } })) ∧
  (∀ x, Completes .granApply
    (fun s => s.live = true ∧ s.side.gran.cur = some x ∧ x.x + s.side.gran.rdly + s.side.gran.gwin + 1000 ≤ s.time.beat
      ∧ x.decided = true ∧ granMember s x = true ∧ x.grant ≠ some (x.nrep % 4096, x.dig))
    (fun s t => t.side = { s.side with gran := { s.side.gran with
        cur := none, hold := min s.side.gran.hold x.newH, exid := x.exid, nrep := x.nrep
        flat := x.flat && decide (s.side.gran.policy = 2), exch := (s.side.gran.exch + 1) % 2 ^ 32
        diverge := true, div := s.side.gran.div.inc 65535 } }
      ∧ raisedIn bSIDE 4 s t ∧ Only (.side :: raises) s t)) ∧
  (∀ y ys dies, Completes .pkgBalance
    (fun s => s.live = true ∧ s.g.coord = true ∧ s.side.gran.pkgEn = true ∧ exactOn s = false
      ∧ s.side.gran.segs = y :: ys ∧ y.dies = some dies ∧ y.x + s.side.gran.rdly + 100 ≤ s.time.beat)
    (fun s t =>
      let ins := (List.range 4).filter fun k => (dies.getD k none).isSome && (s.peer.nth k).mss
      let out := reallocate s.side.gran.db (ins.map fun k => ⟨k, 0, 1, (dies.getD k none).getD 0, s.loop.share.nth k,
        32768, 65536 / max 1 ins.length⟩)
      t.side = { s.side with gran := { s.side.gran with segs := ys } }
      ∧ (∀ k : Fin 4, t.loop.share.get k = ((out.find? fun m => decide (m.ord = k.val)).map (·.h)).getD (s.loop.share.get k))
      ∧ { t.loop with share := s.loop.share } = s.loop ∧ Only [.loop, .side] s t)) ∧
  (∀ y ys, Completes .pkgBalance
    (fun s => s.live = true ∧ exactOn s = true ∧ s.side.gran.segs = y :: ys ∧ y.x + s.side.gran.rdly + 100 ≤ s.time.beat)
    (fun s t => t = { s with side := { s.side with gran := { s.side.gran with segs := ys } } })) ∧
  Completes .pkgBalance
    (fun s => s.live = true ∧ ∀ y ∈ s.side.gran.segs, s.time.beat < y.x + s.side.gran.rdly + 100) (fun s t => t = s)

/-- R332: what the granary's procedure guarantees, for any reports whose holdings are within their caps: the members stay, the
holdings' sum stays, no member moves by more than 4 % of its cap, none rises above its cap, and none falls below the lesser of
what it held and half its nominal budget. With fewer than two members nothing moves. The flat-out members admitted are at most
one in sixteen. -/
def Obligations.ReallocationGuarantees : Prop :=
  ∀ (db : Int) (sh : List GRep), (∀ m ∈ sh, m.h ≤ m.cap) →
    (reallocate db sh).map (fun m => { m with h := 0 }) = sh.map (fun m => { m with h := 0 }) ∧
    ((reallocate db sh).map (·.h)).foldl (· + ·) 0 = (sh.map (·.h)).foldl (· + ·) 0 ∧
    (∀ p ∈ (reallocate db sh).zip sh, p.1.h ≤ p.2.cap ∧ p.1.h ≤ p.2.h + p.2.cap * 4 / 100 ∧ p.2.h ≤ p.1.h + p.2.cap * 4 / 100
      ∧ min p.2.h (p.2.nom / 2) ≤ p.1.h) ∧
    (sh.length < 2 → reallocate db sh = sh) ∧
    (∀ npkg, 16 * (admittedFlat npkg sh).length ≤ npkg)

/-- R337 to R339: distribution. START in the root, with an admitted track and no lane armed, numbers a new distribution and
queues every packet and then TRKEND on each tree port; elsewhere it sets ERR. A good packet is written to its 256 bytes of
track memory, no other byte changes, and its number is held; while a lane is armed no byte changes and the write is counted; a
bad one is dropped and counted. Each goes on along the tree, a resent one only toward its destination. A TRKEND renews the end
of a distribution that is being received, and does nothing to one of which no packet has come. The root resends the packets
that a TRKNACK names; the 5,000-beat timer sends a TRKNACK up, and fails the distribution after eight rounds. Where the spec
leaves a point open it states the model's choice (log 31, 60, 62, 64, 65). -/
def Obligations.TrackDistribution : Prop :=
  Completes .distStart
    (fun s => s.live = true ∧ s.side.root = true ∧ s.seqr.admitted = true ∧ armed s = false)
    (fun s t =>
      let id := (s.side.dist.id + 1) % 65536
      let np := trkNpkt s
      let dig := BitVec.ofNat 64 ((upTo 8 fun i => byteN s.seqr.tdig i * 256 ^ i).foldl (· + ·) 0)
      t.side.dist = ⟨1, s.side.dist.err, 0, id, BitVec.ofNat 1024 (2 ^ np - 1), np, s.time.beat⟩
      ∧ (∀ k : Fin 19, (t.side.port.get k).q.map (fun x => (x.1.kind, x.1.dest, x.1.payload)) =
        (s.side.port.get k).q.map (fun x => (x.1.kind, x.1.dest, x.1.payload)) ++
        if (s.side.port.get k).en && treePort (s.side.port.get k)
        then (List.range np).map (fun i => (7, 0, trkPacket s id np i)) ++ [(9, 0, [BitVec.ofNat 64 (fld 48 16 id + fld 27 11 np), dig])]
        else [])
      ∧ t.mem = s.mem ∧ Only (.side :: raises) s t) ∧
  Completes .distStart
    (fun s => s.live = true ∧ (s.side.root = false ∨ s.seqr.admitted = false ∨ armed s = true))
    (fun s t => t = { s with side := { s.side with dist := { s.side.dist with err := true } } }) ∧
  (∀ port h pay, Completes (.trkpkt port h pay)
    (fun s => Arrives 7 port h pay s ∧ roomFor s port treePort = true ∧ armed s = false ∧ Memory.wf s.mem.tmem = true
      ∧ crc32 ((pay.take 33).map fun w => leBytes 8 w.toNat).flatten = slot (msgOf h pay) 33 % 2 ^ 32)
    (fun s t => Memory.readBytes t.mem.tmem (256 * bits (slot (msgOf h pay) 0) 38 10) 256
          = (((pay.drop 1).take 32).map fun w => leBytes 8 w.toNat).flatten
      ∧ (∀ a, a < 256 * bits (slot (msgOf h pay) 0) 38 10 ∨ 256 * bits (slot (msgOf h pay) 0) 38 10 + 256 ≤ a →
          Memory.read t.mem.tmem a = Memory.read s.mem.tmem a)
      ∧ { t.mem with tmem := s.mem.tmem } = s.mem ∧ t.seqr.admitted = false
      ∧ t.side.dist.id = bits (slot (msgOf h pay) 0) 48 16 ∧ t.side.dist.last = s.time.beat
      ∧ t.side.dist.held.getLsbD (bits (slot (msgOf h pay) 0) 38 10) = true
      ∧ Sends (fun k p => decide (k ≠ port.val) && treePort p) [msgOf h pay] s t
      ∧ Only ([.mem, .seqr, .side] ++ raises) s t)) ∧
  (∀ port h pay, Completes (.trkpkt port h pay)
    (fun s => Arrives 7 port h pay s ∧ roomFor s port treePort = true ∧ armed s = true
      ∧ crc32 ((pay.take 33).map fun w => leBytes 8 w.toNat).flatten = slot (msgOf h pay) 33 % 2 ^ 32)
    (fun s t => t.mem = s.mem ∧ t.seqr = { s.seqr with tmwig := s.seqr.tmwig.inc 65535 }
      ∧ Sends (fun k p => decide (k ≠ port.val) && treePort p) [msgOf h pay] s t
      ∧ Only ([.seqr, .side] ++ raises) s t)) ∧
  (∀ port h pay, Completes (.trkpkt port h pay)
    (fun s => Arrives 7 port h pay s ∧ roomFor s port treePort = true
      ∧ crc32 ((pay.take 33).map fun w => leBytes 8 w.toNat).flatten ≠ slot (msgOf h pay) 33 % 2 ^ 32)
    (fun s t => t.side.dist = s.side.dist ∧ t.side.bad = s.side.bad.inc 65535 ∧ (statOf t bSIDE).getLsbD 0 = true
      ∧ Sends (fun k p => decide (k ≠ port.val) && treePort p) [msgOf h pay] s t ∧ Only (.side :: raises) s t)) ∧
  (∀ port h pay, Completes (.trkres port h pay)
    (fun s => Arrives 8 port h pay s ∧ (msgOf h pay).dest = s.side.ord ∧ armed s = false ∧ Memory.wf s.mem.tmem = true
      ∧ crc32 ((pay.take 33).map fun w => leBytes 8 w.toNat).flatten = slot (msgOf h pay) 33 % 2 ^ 32)
    (fun s t => Memory.readBytes t.mem.tmem (256 * bits (slot (msgOf h pay) 0) 38 10) 256
          = (((pay.drop 1).take 32).map fun w => leBytes 8 w.toNat).flatten
      ∧ (∀ a, a < 256 * bits (slot (msgOf h pay) 0) 38 10 ∨ 256 * bits (slot (msgOf h pay) 0) 38 10 + 256 ≤ a →
          Memory.read t.mem.tmem a = Memory.read s.mem.tmem a)
      ∧ { t.mem with tmem := s.mem.tmem } = s.mem ∧ t.side.port = s.side.port
      ∧ t.side.dist.held.getLsbD (bits (slot (msgOf h pay) 0) 38 10) = true ∧ Only [.mem, .seqr, .side] s t)) ∧
  (∀ port h pay, Completes (.trkres port h pay)
    (fun s => Arrives 8 port h pay s ∧ (msgOf h pay).dest ≠ s.side.ord
      ∧ roomFor s port (downPort (msgOf h pay).dest) = true)
    (fun s t => Sends (fun k p => decide (k ≠ port.val) && downPort (msgOf h pay).dest p) [msgOf h pay] s t
      ∧ SideIs (fun y => y) s t ∧ Only (.side :: raises) s t)) ∧
  (∀ port h pay, Completes (.trkend port h pay)
    (fun s => Arrives 9 port h pay s ∧ roomFor s port treePort = true)
    (fun s t => Sends (fun k p => decide (k ≠ port.val) && treePort p) [msgOf h pay] s t
      ∧ SideIs (fun y => if y.dist.st = 2 ∧ y.dist.id = bits (slot (msgOf h pay) 0) 48 16
          then { y with dist := { y.dist with npkt := bits (slot (msgOf h pay) 0) 27 11, last := s.time.beat } } else y) s t
      ∧ Only (.side :: raises) s t)) ∧
  (∀ port h pay, Completes (.trknack port h pay)
    (fun s => Arrives 6 port h pay s ∧ s.side.root = false)
    (fun s t => Sends (fun k p => decide (k ≠ port.val) && upPort p) [msgOf h pay] s t ∧ SideIs (fun y => y) s t
      ∧ Only (.side :: raises) s t)) ∧
  (∀ port h w, Completes (.trknack port h [w])
    (fun s => Arrives 6 port h [w] s ∧ s.side.root = true ∧ bits w.toNat 48 16 = s.side.dist.id
      ∧ bits w.toNat 38 10 + bits w.toNat 28 10 < s.side.dist.npkt)
    (fun s t => (∀ k : Fin 19, (t.side.port.get k).q.map (fun x => (x.1.kind, x.1.dest, x.1.payload)) =
        (s.side.port.get k).q.map (fun x => (x.1.kind, x.1.dest, x.1.payload)) ++
        if (s.side.port.get k).en && downPort (msgOf h [w]).orig (s.side.port.get k)
        then (List.range (bits w.toNat 28 10 + 1)).map fun i => (8, (msgOf h [w]).orig,
          trkPacket s s.side.dist.id s.side.dist.npkt (bits w.toNat 38 10 + i))
        else [])
      ∧ t.side.dist = s.side.dist ∧ Only (.side :: raises) s t)) ∧
  Completes .distNackTimer
    (fun s => s.live = true ∧ s.side.dist.st = 2 ∧ s.side.dist.last + 5000 ≤ s.time.beat ∧ s.side.dist.rounds < 8)
    (fun s t => t.side.dist = { s.side.dist with rounds := s.side.dist.rounds + 1, last := s.time.beat }
      ∧ Sends (fun _ p => upPort p) [ownMsg s 6 0 (((missingRuns s.side.dist).take 8).map fun r =>
          BitVec.ofNat 64 (fld 48 16 s.side.dist.id + fld 38 10 r.1 + fld 28 10 (r.2 - 1)))] s t
      ∧ Only (.side :: raises) s t) ∧
  Completes .distNackTimer
    (fun s => s.live = true ∧ s.side.dist.st = 2 ∧ s.side.dist.last + 5000 ≤ s.time.beat ∧ 8 ≤ s.side.dist.rounds)
    (fun s t => t.side = { s.side with dist := { s.side.dist with st := 4 } } ∧ raisedIn bSIDE 3 s t
      ∧ Only (.side :: raises) s t) ∧
  Completes .distNackTimer
    (fun s => s.live = true ∧ (s.side.dist.st ≠ 2 ∨ s.time.beat < s.side.dist.last + 5000)) (fun s t => t = s)

/-- R359, R360, R370, R371, R481: overvoltage. A node at or above the trip level trips: the trip is counted, a sheaf's phases
stop conducting at once and its fire ends, and OV_TRIP is raised, in hold once the hold is over; below the level nothing
happens. 30 mV below it the trip clears, and a sheaf that switches starts over at half-slot 0, or the next occupied, with B at
its seed. After 1 µs the domain goes dark and latched, but AON only stops switching, and the die leaves the service set. A
node still above the level 10 µs later, or VB above 5.40 V, sets VBKILL, stops every module of the die and raises VB_OV; VB
above 5.40 V first stops every sheaf. Where the spec leaves a point open it states the model's choice (log 115). -/
def Obligations.OvervoltageStopsTheDomainThenTheModules : Prop :=
  (∀ (d : Fin 128) node, Completes (.ovTrip d node)
    (fun s => s.powered = true ∧ d.val < 93 ∧ present s d.val = true ∧ (s.pd.get d).ovact = false
      ∧ (s.shf.nth d.val).hold = false ∧ ovLevel s d.val ≤ node * v16u)
    (fun s t => t.pd.get d = { s.pd.get d with
        ovact := true, ovcnt := (s.pd.get d).ovcnt.inc 65535, ovAt := s.time.beat }
      ∧ (t.shw.nth d.val).fire = none ∧ (∀ p : Fin 720, phDom p.val = d.val → (t.phw.get p).cond = false)
      ∧ raisedIn bPROT 0 s t ∧ t.dom = s.dom ∧ OtherSheaves d.val s t
      ∧ ((s.shw.nth d.val).fire = none → t.shr = s.shr) ∧ Only ([.shw, .ph, .phw, .pd, .shr] ++ raises) s t)) ∧
  (∀ (d : Fin 128) node, Completes (.ovTrip d node)
    (fun s => s.powered = true ∧ d.val < 93 ∧ present s d.val = true ∧ (s.pd.get d).ovact = false
      ∧ (s.shf.nth d.val).hold = true ∧ ovLevel s d.val ≤ node * v16u)
    (fun s t => t.pd.get d = { s.pd.get d with
        ovact := true, ovcnt := (s.pd.get d).ovcnt.inc 65535, ovAt := s.time.beat }
      ∧ (t.shw.nth d.val).fire = none ∧ (∀ p : Fin 720, phDom p.val = d.val → (t.phw.get p).cond = false)
      ∧ t.defer.map (fun x => (x.blk, x.src, x.subj)) = s.defer.map (fun x => (x.blk, x.src, x.subj)) ++ [(bPROT, 0, subjD d.val)]
      ∧ t.flt = s.flt ∧ t.dom = s.dom ∧ OtherSheaves d.val s t
      ∧ ((s.shw.nth d.val).fire = none → t.shr = s.shr) ∧ Only [.shw, .ph, .phw, .pd, .shr, .defer] s t)) ∧
  (∀ (d : Fin 128) node, Completes (.ovTrip d node)
    (fun s => s.powered = true ∧ 96 ≤ d.val ∧ present s d.val = true ∧ (s.pd.get d).ovact = false
      ∧ ovLevel s d.val ≤ node * v16u)
    (fun s t => (t.pd.get d).ovact = true ∧ (t.pd.get d).ovcnt = (s.pd.get d).ovcnt.inc 65535
      ∧ (∀ c : Fin 16, 96 + c.val / 4 = d.val → enHigh t c.val = false) ∧ raisedIn bPROT 0 s t ∧ Only (.pd :: raises) s t)) ∧
  (∀ (d : Fin 128) node, Completes (.ovTrip d node)
    (fun s => s.powered = true ∧ (node * v16u < ovLevel s d.val ∨ (s.pd.get d).ovact = true)) (fun s t => t = s)) ∧
  (∀ s d, ovLevel s d = if (if d < 93 then (s.shf.nth d).run && !(s.pd.nth d).ovlatch else (laChannels (ord d)).any (driven s)) = true
      then min ((s.sp.nth d).vcmd + s.prot.ovm * mV) (vAbs d * v16u) else vAbs d * v16u) ∧
  (∀ (d : Fin 128) node, Completes (.ovTripClear d node)
    (fun s => s.powered = true ∧ (s.pd.get d).ovact = true ∧ node * v16u < ovLevel s d.val - 30 * mV)
    (fun s t => t.pd.get d = { s.pd.get d with ovact := false }
      ∧ (d.val < 93 → (s.shf.nth d.val).run = true → (t.shf.nth d.val).b = seedB s d.val
        ∧ (t.shw.nth d.val).token = if occupied s d.val 0 then 0 else nextSlot s d.val 0)
      ∧ (∀ k : Fin 128, k ≠ d → t.pd.get k = s.pd.get k) ∧ OtherSheaves d.val s t ∧ Only [.shf, .shw, .pd] s t)) ∧
  (∀ d : Fin 128, Completes (.ovOff d)
    (fun s => s.live = true ∧ d.val ≠ 92 ∧ typ d.val ≠ .none ∧ (s.pd.get d).ovact = true ∧ (s.pd.get d).ovlatch = false
      ∧ (s.pd.get d).ovAt + 100 ≤ s.time.beat ∧ domSt s d.val ≠ .hold)
    (fun s t => WentDark d s t ∧ (t.pd.get d).ovlatch = true ∧ (t.pd.get d).offAt = s.time.beat
      ∧ (statOf t bPROT).getLsbD 1 = true ∧ t.bm = s.bm ∧ t.prot = s.prot)) ∧
  Completes (.ovOff 92)
    (fun s => s.live = true ∧ (s.gw.get 92).waitAdm = false ∧ (s.pd.get 92).ovact = true ∧ (s.pd.get 92).ovlatch = false
      ∧ (s.pd.get 92).ovAt + 100 ≤ s.time.beat ∧ domSt s 92 ≠ .hold)
    (fun s t => domSt t 92 = domSt s 92 ∧ (t.shf.nth 92).run = false ∧ (t.pd.get 92).ovlatch = true ∧ t.g.mss = false
      ∧ (∀ p : Fin 720, phDom p.val = 92 → (t.phw.get p).cond = false ∧ (t.ph.get p).st ≠ .active)) ∧
  (∀ (d : Fin 128) node, Completes (.ovAfterOff d node)
    (fun s => s.live = true ∧ (s.pd.get d).ovlatch = true ∧ (s.pd.get d).offAt + 1000 ≤ s.time.beat
      ∧ ovLevel s d.val < node * v16u ∧ s.prot.vbkill = false)
    (fun s t => t.prot = { s.prot with vbkill := true } ∧ ModulesStopped s t ∧ (statOf t bPROT).getLsbD 2 = true)) ∧
  (∀ (d : Fin 128) node, Completes (.ovAfterOff d node)
    (fun s => s.live = true ∧ ((s.pd.get d).ovlatch = false ∨ node * v16u ≤ ovLevel s d.val)) (fun s t => t = s)) ∧
  Completes .vbOvervoltage (fun s => s.live = true ∧ s.prot.vbkill = false)
    (fun s t => t.prot = { s.prot with vbkill := true } ∧ ModulesStopped s t ∧ (statOf t bPROT).getLsbD 2 = true
      ∧ (∀ d : Fin 93, present s d.val = true → (t.shf.get d).run = false)
      ∧ (∀ p : Fin 720, present s (phDom p.val) = true → phDom p.val < 93 → (t.phw.get p).cond = false))

/-- R361 to R363: undervoltage, droop and a phase's hard limit. A domain that has been ON or in RETENTION for 2 µs, outside
hold and hiccup, with the lowest of the samples of its sense points in use below its set value less UVM trips: ready falls, a
core's or cluster's clock stops, it is counted and UV_TRIP raised, and no voltage moves. Back above half the margin within 10
µs, the clock restarts; after 10 µs the domain goes dark, unless hold or hiccup has suspended the check. An ON core whose grid
falls below V_sset - DRT has its clock stretched; the report of an episode counts it, adds half of it to the debt in an open
segment of an armed Exact run, where the debt saturates with DEBT_SAT, and ends the stretch. A phase at its hard limit stops
for the rest of its period. Where the spec leaves a point open it states the model's choice (log 57). -/
def Obligations.UndervoltageDroopAndHardLimit : Prop :=
  (∀ (d : Fin 128) samp vmin, Completes (.uvTrip d samp)
    (fun s => s.live = true ∧ checkLow s d.val samp = some vmin ∧ (domSt s d.val = .on ∨ domSt s d.val = .retention) ∧ (s.pd.get d).since + 200 ≤ s.time.beat
      ∧ (d.val < 93 → (s.shr.nth d.val).dhic = false ∧ (s.shf.nth d.val).hold = false) ∧ (s.pd.get d).uvact = false
      ∧ vmin * v16u < vSset s d.val - s.prot.uvm * mV)
    (fun s t => t.pd.get d = { s.pd.get d with
        uvact := true, uvAt := s.time.beat, uvcnt := (s.pd.get d).uvcnt.inc 65535, stretch := false }
      ∧ t.gw.get d = { s.gw.get d with
          ready := false, clock := (s.gw.get d).clock && decide (typ d.val ≠ .co ∧ typ d.val ≠ .cl) }
      ∧ (statOf t bPROT).getLsbD 3 = true ∧ OtherDomains d.val s t
      ∧ Only ([.gw, .pd, .lane, .exa, .classHold] ++ raises) s t)) ∧
  (∀ (d : Fin 128) samp vmin, Completes (.uvTrip d samp)
    (fun s => s.live = true ∧ checkLow s d.val samp = some vmin ∧ vSset s d.val - s.prot.uvm * mV ≤ vmin * v16u)
    (fun s t => t = s)) ∧
  (∀ s (d : Fin 93) samp, checkLow s d.val samp = lowPoint s d.val (sensedLow s d.val samp)) ∧
  (∀ s (d : Fin 128) v rest, 93 ≤ d.val → checkLow s d.val (v :: rest) = some v) ∧
  (∀ (d : Fin 128) samp vmin, Completes (.uvRecover d samp)
    (fun s => s.live = true ∧ (s.pd.get d).uvact = true ∧ uvRuns s d.val = true ∧ checkLow s d.val samp = some vmin
      ∧ s.time.beat ≤ (s.pd.get d).uvAt + 1000 ∧ vSset s d.val - rdiv (s.prot.uvm * mV) 2 ≤ vmin * v16u)
    (fun s t => t.pd.get d = { s.pd.get d with uvact := false } ∧ (t.gw.get d).readyAt = s.time.beat + 2
      ∧ ((typ d.val = .co ∨ typ d.val = .cl) → isOn s d.val = true → (t.gw.get d).clock = true)
      ∧ OtherDomains d.val s t ∧ Only [.gw, .pd] s t)) ∧
  (∀ d : Fin 128, Completes (.uvDark d)
    (fun s => s.live = true ∧ (s.pd.get d).uvact = true ∧ (s.pd.get d).uvAt + 1000 ≤ s.time.beat ∧ typ d.val ≠ .none
      ∧ typ d.val ≠ .aon ∧ uvRuns s d.val = true)
    (fun s t => WentDark d s t ∧ (statOf t (if d.val < 93 then bSHF else bBM)).getLsbD (if d.val < 93 then 2 else 6) = true)) ∧
  (∀ (c : Fin 64) grid, Completes (.droopStretch c grid)
    (fun s => s.live = true ∧ isOn s c.val = true ∧ (s.gw.nth c.val).clock = true
      ∧ grid * v16u < vSset s c.val - s.prot.drt * mV)
    (fun s t => (t.pd.nth c.val) = { s.pd.nth c.val with stretch := true }
      ∧ (∀ k : Fin 128, k.val ≠ c.val → t.pd.get k = s.pd.get k) ∧ Only [.pd] s t)) ∧
  (∀ (c : Fin 64) grid, Completes (.droopStretch c grid)
    (fun s => s.live = true ∧ vSset s c.val - s.prot.drt * mV ≤ grid * v16u) (fun s t => t = s)) ∧
  (∀ (c : Fin 64) m, Completes (.droopReport c m)
    (fun s => s.live = true ∧ present s c.val = true ∧ s.exa.dd.nth c.val < 2 ^ 32)
    (fun s t => t.pd.nth c.val = { s.pd.nth c.val with drp := ((s.pd.nth c.val).drp + 1) % 2 ^ 32, stretch := false }
      ∧ (let x := s.exa.dd.nth c.val + (if exactOn s = true ∧ armed s = true ∧ s.seg.opened = true then m / 2 else 0)
        t.exa.dd.nth c.val = min x (2 ^ 32 - 1) ∧ t.exa.debtSat = (s.exa.debtSat || decide (2 ^ 32 ≤ x)))
      ∧ t.exa.pevt = (if exactOn s = true ∧ armed s = true then s.exa.pevt.inc 65535 else s.exa.pevt)
      ∧ (statOf t bPROT).getLsbD 6 = true ∧ Only ([.pd, .exa] ++ raises) s t)) ∧
  (∀ p : Fin 720, Completes (.phaseHardLimit p)
    (fun s => s.powered = true ∧ slotted s p.val = true ∧ (s.shf.nth (phDom p.val)).run = true)
    (fun s t => t.phw.get p = { s.phw.get p with hardOff := true, cond := false, limPer := true }
      ∧ (∀ q, q ≠ p → t.phw.get q = s.phw.get q) ∧ Only [.phw] s t))

/-- R364, R365: overcurrent and the input bus. A domain above its peak, or a die above 1.25 times its limit, has its loop's
output at most at F_min at once and says so; no domain's state changes. VIN low and high are reported once, by the
coordinator, after ten 1 µs means in a row. A VIN dip after two or an input overcurrent after ten holds every die's F_cap at
or below F_min, is raised once, and ends after 1,000 means with VIN at VINLO and the input current below 95 A, when the cap
loop goes on from there. The window's end counts these means. Where the spec leaves a point open it states the model's choice
(log 52, 53). -/
def Obligations.OvercurrentAndInputBus : Prop :=
  (∀ (d : Fin 128) peak, Completes (.domainOvercurrent d peak)
    (fun s => s.live = true ∧ isOn s d.val = true ∧ (s.dom.get d).ipeak < peak)
    (fun s t => (t.loop.dl.get d).f = min (s.loop.dl.get d).f (parFmin s 3) ∧ (t.pd.get d).ocact = true
      ∧ (∀ k : Fin 128, k ≠ d → t.loop.dl.get k = s.loop.dl.get k ∧ t.pd.get k = s.pd.get k)
      ∧ (∀ c : Fin 64, t.loop.core.get c = selectCore t c.val) ∧ (statOf t bPROT).getLsbD 4 = true
      ∧ Only ([.pd, .lane, .loop, .classHold] ++ raises) s t)) ∧
  (∀ (d : Fin 128) peak, Completes (.domainOvercurrent d peak)
    (fun s => s.live = true ∧ peak ≤ (s.dom.get d).ipeak) (fun s t => t = s)) ∧
  Completes .dieOvercurrent (fun s => s.live = true ∧ 5 * dieLimEff s < 4 * dieCurrent s)
    (fun s t => t.loop.fdie = min s.loop.fdie (parFmin s 2) ∧ t.loop.dieOc = true
      ∧ (∀ c : Fin 64, t.loop.core.get c = selectCore t c.val) ∧ (statOf t bPROT).getLsbD 5 = true
      ∧ Only ([.lane, .loop, .classHold] ++ raises) s t) ∧
  Completes .vinLow
    (fun s => s.live = true ∧ s.g.coord = true ∧ s.prot.low = false ∧ 10 ≤ s.prot.lowRun)
    (fun s t => t.prot = { s.prot with low := true } ∧ raisedIn bPROT 7 s t ∧ Only (.prot :: raises) s t) ∧
  Completes .vinLow (fun s => s.live = true ∧ (s.g.coord = false ∨ s.prot.lowRun < 10 ∨ s.prot.low = true))
    (fun s t => t = s) ∧
  Completes .vinHigh
    (fun s => s.live = true ∧ s.g.coord = true ∧ s.prot.high = false ∧ 10 ≤ s.prot.highRun)
    (fun s t => t.prot = { s.prot with high := true } ∧ raisedIn bPROT 9 s t ∧ Only (.prot :: raises) s t) ∧
  Completes .vinHigh (fun s => s.live = true ∧ (s.g.coord = false ∨ s.prot.highRun < 10 ∨ s.prot.high = true))
    (fun s t => t = s) ∧
  Completes .vinDip
    (fun s => s.live = true ∧ s.g.coord = true ∧ 2 ≤ s.prot.dipRun ∧ s.prot.dip = false)
    (fun s t => t.prot = { s.prot with dip := true }
      ∧ (∀ k : Fin 4, t.loop.capF.get k = min (s.loop.capF.get k) (parFmin s 0)) ∧ t.loop.fcapNext = t.loop.capF.nth s.g.die
      ∧ t.loop.share = s.loop.share ∧ t.loop.fcap = s.loop.fcap ∧ (statOf t bPROT).getLsbD 8 = true
      ∧ Only ([.prot, .lane, .loop, .classHold] ++ raises) s t) ∧
  Completes .vinDip (fun s => s.live = true ∧ (s.g.coord = false ∨ s.prot.dipRun < 2)) (fun s t => t = s) ∧
  Completes .inputOvercurrent
    (fun s => s.live = true ∧ s.g.coord = true ∧ 10 ≤ s.prot.iinRun ∧ s.prot.dip = false ∧ s.prot.iinovr = false)
    (fun s t => t.prot = { s.prot with dip := true, iinovr := true }
      ∧ (∀ k : Fin 4, t.loop.capF.get k = min (s.loop.capF.get k) (parFmin s 0)) ∧ t.loop.fcapNext = t.loop.capF.nth s.g.die
      ∧ (statOf t bPROT).getLsbD 8 = true ∧ (statOf t bPROT).getLsbD 10 = true
      ∧ Only ([.prot, .lane, .loop, .classHold] ++ raises) s t) ∧
  Completes .inputOvercurrent (fun s => s.live = true ∧ (s.g.coord = false ∨ s.prot.iinRun < 10)) (fun s t => t = s) ∧
  Completes .vinHoldEnd
    (fun s => s.live = true ∧ s.g.coord = true ∧ s.prot.dip = true ∧ 1000 ≤ s.prot.calmRun)
    (fun s t => t.prot = { s.prot with dip := false, iinovr := false } ∧ (s.loop.capEn = true → t.loop = s.loop)
      ∧ (s.loop.capEn = false → t.loop.fcapNext = 65536) ∧ Only [.prot, .loop] s t) ∧
  Completes .vinHoldEnd (fun s => s.live = true ∧ (s.g.coord = false ∨ s.prot.calmRun < 1000)) (fun s t => t = s)

/-- R366 to R370: temperature and the die stop. Every 1,000 beats each domain's band follows the hottest good sensor of its
set, up at a bound and down only 3 °C below it, B3 with no good sensor; failed sensors are counted; a new warning is raised.
Two evaluations at SHUTDOWN, with no stop under way, or a coolant loss with no sheaf in hold, start a die stop at the present
beat; at 200 beats a cluster its present ON cores and its CL open their headers in 8 stages and its MA regions fall to
retention, with clocks and ready off at once, and no other cluster moves. A coolant loss that meets no clock acts through the
sheaves in hold, and is to be raised later. Where the spec leaves a point open it states the model's choice (log 54, 55, 149). -/
def Obligations.TemperatureAndDieStop : Prop :=
  (∀ temps, Completes (.bandEvaluation temps)
    (fun s => s.live = true ∧ s.time.beat % 1000 = 0)
    (fun s t =>
      let ts := upTo 256 (fun i => temps.getD i none)
      t.prot.temps = ts ∧ t.prot.nfail = (ts.filter (·.isNone)).length
      ∧ (∀ m, hottest ts (List.range 256) = some m → t.prot.tmax = m
          ∧ (cfgS s 0x0D 0 ≤ m → t.prot.warn = true) ∧ (m ≤ cfgS s 0x0D 0 - 3 * 128 → t.prot.warn = false)
          ∧ (cfgS s 0x0D 0 ≤ m → s.prot.warn = false → (statOf t bPROT).getLsbD 11 = true)
          ∧ t.prot.shutRun = if cfgS s 0x0D 2 ≤ m then s.prot.shutRun + 1 else 0)
      ∧ (∀ d : Fin 128, (t.pd.get d).band =
          ((hottest ts (domSensors d.val)).map (bandNext (s.pd.get d).band)).getD 3)
      ∧ (∀ d : Fin 128, (t.sp.get d).vcmd = (s.sp.get d).vcmd) ∧ t.dom = s.dom
      ∧ Only ([.shf, .shw, .shr, .ph, .phw, .sp, .gw, .pd, .prot] ++ raises) s t)) ∧
  (∀ temps, Completes (.bandEvaluation temps) (fun s => s.live = true ∧ s.time.beat % 1000 ≠ 0) (fun s t => t = s)) ∧
  (∀ (b : Nat) (m : Int), b ≤ 3 →
    let low := fun (k : Nat) => if k = 1 then (40 * 128 : Int) else if k = 2 then 70 * 128 else 95 * 128
    (∀ k, 1 ≤ k → k ≤ 3 → b < k → low k ≤ m → k ≤ bandNext b m) ∧
    ((∀ k, 1 ≤ k → k ≤ 3 → b < k → m < low k) → (1 ≤ b → low b - 3 * 128 < m) → bandNext b m = b) ∧
    (1 ≤ b → m ≤ low b - 3 * 128 → bandNext b m < b)) ∧
  Completes .thermalShutdown
    (fun s => s.live = true ∧ 2 ≤ s.prot.shutRun ∧ s.prot.shutdn = false ∧ s.prot.stop = none)
    (fun s t => t.prot = { s.prot with shutdn := true, stop := some s.time.beat, stopNext := 0 }
      ∧ (statOf t bPROT).getLsbD 13 = true ∧ (∀ d : Fin 128, (s.gw.get d).waitAdm = true → typ d.val ≠ .none →
          (t.gw.get d).waitAdm = false ∧ (t.gw.get d).wake = none)
      ∧ (∀ d : Fin 128, (typ d.val = .lk ∨ typ d.val = .la) → present s d.val = true → isOn s d.val = true → (s.gw.get d).waitAdm = false →
          (t.sp.get d).idle = true)) ∧
  Completes .thermalShutdown (fun s => s.live = true ∧ s.prot.shutRun < 2) (fun s t => t = s) ∧
  Completes .coolantLoss
    (fun s => s.live = true ∧ s.prot.coolant = false ∧ ∀ k : Fin 93, (s.shf.get k).hold = false)
    (fun s t => t.prot = { s.prot with flow := true, coolant := true, stop := some s.time.beat, stopNext := 0 }
      ∧ (statOf t bPROT).getLsbD 14 = true) ∧
  (∀ d : Fin 93, Completes .coolantLoss
    (fun s => s.powered = true ∧ s.live = false ∧ s.prot.coolant = false ∧ (s.shf.get d).hold = true)
    (fun s t => t.prot = { s.prot with flow := true, coolant := true, coolPend := true } ∧ t.flt = s.flt
      ∧ ((typ d.val = .co ∨ typ d.val = .cl) → (t.gw.nth d.val).stage = 0
          ∧ ∀ p : Fin 720, phDom p.val = d.val → (t.phw.get p).cond = false ∧ (t.ph.get p).st ≠ .active)
      ∧ (typ d.val = .ma → (t.sp.nth d.val).vtgt = if (s.shf.get d).run = true then vRet s d.val else (s.sp.nth d.val).vtgt)
      ∧ (typ d.val = .lk → t.sp.nth d.val = s.sp.nth d.val))) ∧
  (∀ (c : Fin 8) t0, Completes (.dieStopCluster c)
    (fun s => s.live = true ∧ s.prot.stop = some t0 ∧ s.prot.stopNext = c.val ∧ t0 + 200 * c.val ≤ s.time.beat)
    (fun s t => t.prot = { s.prot with stopNext := c.val + 1, stop := if c.val = 7 then none else some t0 }
      ∧ (∀ d : Fin 128, d.val ∈ clusterDoms c.val → present s d.val = true → domSt s d.val = .on →
          domSt t d.val = .gating ∧ (t.gw.get d).ready = false ∧ (t.gw.get d).clock = false
          ∧ (typ d.val = .ma → (t.gw.get d).gateTo = .retention) ∧ (typ d.val ≠ .ma → (t.gw.get d).stage = 8))
      ∧ (∀ d : Fin 128, ¬ d.val ∈ clusterDoms c.val → t.dom.get d = s.dom.get d ∧ t.sp.get d = s.sp.get d
          ∧ t.gw.get d = s.gw.get d)
      ∧ Only [.dom, .shf, .shw, .shr, .ph, .phw, .sp, .gw, .clk, .nd, .estd, .pd, .prot, .lane, .exa, .classHold] s t)) ∧
  (∀ c : Fin 8, Completes (.dieStopCluster c) (fun s => s.live = true ∧ s.prot.stop = none) (fun s t => t = s))

/-- R384 to R395: the silo, injection and freeze. The writer programs the oldest capture, with its check, into the next
record, and no record already written changes; a record that fails verification stays, marked, and SILO_WERR is raised; once
4,096 are written, SILO_FULL is raised and captures go to the overflow ring. GO injects in TEST alone. The freeze beat puts
every present sheaf in hold and every ON domain at HOLD, without moving a voltage; the image and the sheaves' snapshots
follow; at the end, with nothing waiting and no rail short of channels, the lanes that run are late by the frozen beats, held
LA domains are ON again, and FREEZE is raised. Where the spec leaves a point open it states the model's choice (log 27, 94,
152, 155). -/
def Obligations.SiloInjectionAndFreeze : Prop :=
  (∀ ok c rest, Completes (.siloProgram ok)
    (fun s => s.powered = true ∧ s.silo.wait = c :: rest ∧ s.mem.siloRecs.length < 4095)
    (fun s t => t.mem = { s.mem with siloRecs := s.mem.siloRecs ++
          [if ok then withChk c.bytes else (withChk c.bytes).modify 18 (· ^^^ 0xFF)] }
      ∧ (ok = true → t.silo = { s.silo with wait := rest } ∧ t.flt = s.flt ∧ t.g.chipReq = (s.g.chipReq || c.reset))
      ∧ (ok = false → (statOf t bDBG).getLsbD 2 = true) ∧ Only (.mem :: raises) s t)) ∧
  (∀ ok c rest, Completes (.siloProgram ok)
    (fun s => s.powered = true ∧ s.silo.wait = c :: rest ∧ s.mem.siloRecs.length = 4095)
    (fun s t => t.mem.siloRecs.length = 4096 ∧ (statOf t bDBG).getLsbD 1 = true
      ∧ (ok = false → (statOf t bDBG).getLsbD 2 = true) ∧ Only (.mem :: raises) s t)) ∧
  (∀ ok c rest, Completes (.siloProgram ok)
    (fun s => s.powered = true ∧ s.silo.wait = c :: rest ∧ 4096 ≤ s.mem.siloRecs.length)
    (fun s t => t.mem = s.mem ∧ t.silo = { s.silo with
        wait := rest, ring := s.silo.ring.modN s.silo.ovnext fun _ => withChk c.bytes
        ovnext := (s.silo.ovnext + 1) % 64, ovwr := (s.silo.ovwr + 1) % 2 ^ 32 }
      ∧ Only [.silo, .g] s t)) ∧
  Completes .injectGo
    (fun s => s.powered = true ∧ s.g.lc = 1 ∧ s.dbg.active = false ∧ s.dbg.mode ≠ 0)
    (fun s t => t.dbg.injs = s.dbg.injs ++ [⟨s.dbg.mode, s.dbg.subj, s.dbg.arg⟩] ∧ t.dbg.held = s.dbg.held
      ∧ (statOf t bDBG).getLsbD 4 = true ∧ Only (.dbg :: raises) s t) ∧
  (∀ b : Fin 10, Completes .injectGo
    (fun s => s.powered = true ∧ s.g.lc = 1 ∧ s.dbg.active = false ∧ s.dbg.mode = 0 ∧ s.dbg.blk = b.val
      ∧ s.dbg.src < (srcTable b.val).length)
    (fun s t => (statOf t b).getLsbD s.dbg.src = true ∧ (statOf t bDBG).getLsbD 4 = true
      ∧ ((srcInfo b.val s.dbg.src).2.2 = true → ⟨b.val, s.dbg.src, s.time.beat + 1000 * s.dbg.holdt⟩ ∈ t.dbg.held
        ∧ (rawWord t b.val).getLsbD s.dbg.src = true)
      ∧ ((srcInfo b.val s.dbg.src).2.2 = false → t.dbg.held = s.dbg.held)
      ∧ Only (.dbg :: raises) s t)) ∧
  Completes .injectGo (fun s => s.powered = true ∧ (s.g.lc ≠ 1 ∨ s.dbg.active = true)) (fun s t => t = s) ∧
  Completes .injectStop (fun s => s.powered = true ∧ s.g.lc = 1)
    (fun s t => t = { s with dbg := { s.dbg with injs := [] } }) ∧
  (∀ b n1, Completes (.injectHoldEnd b n1) (fun s => s.powered = true)
    (fun s t => t = { s with dbg := { s.dbg with held := s.dbg.held.filter fun x =>
      ¬ (x.blk = b ∧ x.src = n1 ∧ (x.due ≤ s.time.beat ∨ s.time.refclk = false)) } })) ∧
  (∀ s low, freezeLow s low = s.pins.scan.elim low (fun x => !x.freezeN)) ∧
  (∀ low, Completes (.freezeEnter low) (fun s => s.powered = true ∧ s.dbg.active = true)
    (fun s t => t = { s with dbg := { s.dbg with pin := freezeLow s low } })) ∧
  (∀ low, Completes (.freezeEnter low)
    (fun s => s.live = true ∧ (freezeLow s low = true ∨ s.dbg.req = true) ∧ s.prot.coolant = false)
    (fun s t => t.dbg = { s.dbg with
        pin := freezeLow s low, active := true, imgrdy := false, beat := s.time.beat, cnt := s.dbg.cnt.inc 65535
        kept := t.dbg.kept }
      ∧ t.dbg.kept.isSome = true ∧ (∀ f, t.dbg.kept = some f → f.shf = t.shf ∧ f.dom = t.dom ∧ f.ph = t.ph ∧ f.sp = t.sp
          ∧ f.flt = s.flt ∧ f.g = s.g ∧ f.lane = s.lane)
      ∧ (∀ k : Fin 93, present s k.val = true → (t.shf.get k).hold = true)
      ∧ (∀ d : Fin 128, typ d.val ≠ .none → present s d.val = true → (d.val < 93 → (s.shf.nth d.val).hold = false) →
          domSt s d.val = .on → domSt t d.val = .hold)
      ∧ (∀ d : Fin 128, domSt s d.val ≠ .on → domSt t d.val = domSt s d.val)
      ∧ (∀ d : Fin 128, (t.sp.get d).vcmd = (s.sp.get d).vcmd ∧ (t.sp.get d).vtgt = (s.sp.get d).vtgt)
      ∧ t.tel.broken = true ∧ Only [.dom, .shf, .shw, .shr, .ph, .phw, .sp, .nd, .est, .estd, .dbg, .tel] s t)) ∧
  (∀ low (d : Fin 93), Completes (.freezeEnter low)
    (fun s => s.live = true ∧ (freezeLow s low = true ∨ s.dbg.req = true) ∧ s.prot.coolant = true ∧ present s d.val = true
      ∧ (s.shf.get d).hold = false)
    (fun s t => t.dbg.active = true ∧ (t.shf.get d).hold = true
      ∧ ((typ d.val = .co ∨ typ d.val = .cl) → (t.gw.nth d.val).stage = 0
          ∧ ∀ p : Fin 720, phDom p.val = d.val → (t.phw.get p).cond = false ∧ (t.ph.get p).st ≠ .hold)
      ∧ (typ d.val = .ma → (s.shf.get d).run = true → (t.sp.nth d.val).vtgt = vRet s d.val)
      ∧ (typ d.val = .lk → (t.sp.nth d.val).vtgt = (s.sp.nth d.val).vtgt))) ∧
  (∀ low, Completes (.freezeEnter low) (fun s => s.live = true ∧ freezeLow s low = false ∧ s.dbg.req = false)
    (fun s t => t = { s with dbg := { s.dbg with pin := false } })) ∧
  (∀ nodes, Completes (.freezeImageDone nodes)
    (fun s => s.powered = true ∧ s.dbg.active = true ∧ s.dbg.imgrdy = false ∧ s.dbg.kept.isSome = true)
    (fun s t => t.dbg.imgrdy = true ∧ t.dbg.img.take 4 = [0x4D, 0x46, 0x52, 0x5A]
      ∧ (∀ f, s.dbg.kept = some f → ∀ k : Fin 93, (t.dbg.snap.get k).length = 64
          ∧ (t.dbg.snap.get k).take 4 = leBytes 2 (nodes.getD k.val 0) ++ leBytes 2 (satU16 (rdiv (f.sp.nth k.val).vcmd 16000))
          ∧ (t.dbg.snap.get k).getD 10 0 = BitVec.ofNat 8 (f.shw.get k).token)
      ∧ t.dbg.active = true ∧ t.dbg.beat = s.dbg.beat ∧ Only [.dbg] s t)) ∧
  Completes .freezeExit
    (fun s => s.powered = true ∧ s.dbg.active = true ∧ freezeLow s false = false ∧ s.dbg.req = false ∧ s.time.refclk = true
      ∧ s.acts = [] ∧ s.exa.pend = [] ∧ s.exa.svreq = none ∧ s.prot.coolPend = false ∧ s.rst.later = none
      ∧ ∀ l : Fin 4, 3 ≤ healthy s (96 + l.val) ∧ (s.gw.nth (96 + l.val)).held = [])
    (fun s t => t.dbg.active = false ∧ t.dbg.imgrdy = false ∧ t.dbg.pin = false ∧ t.dbg.kept = none ∧ (statOf t bDBG).getLsbD 0 = true
      ∧ (∀ l : Fin 8, t.lane.get l = if (s.lane.get l).st = .run
          then { s.lane.get l with lag := (s.lane.get l).lag + (s.time.beat - s.dbg.beat - 1) } else s.lane.get l)
      ∧ (∀ l : Fin 4, domSt s (96 + l.val) = .hold → domSt t (96 + l.val) = .on)
      ∧ (∀ d : Fin 128, d.val < 96 → t.dom.get d = s.dom.get d) ∧ t.shf = s.shf ∧ t.mem = s.mem) ∧
  Completes .freezeExit (fun s => s.powered = true ∧ (s.dbg.active = false ∨ s.dbg.req = true ∨ s.time.refclk = false))
    (fun s t => t = { s with dbg := { s.dbg with pin := freezeLow s false } })

/-- R57 to R61, R33, R127, R151, R431 to R434: the end of a measurement window, at multiples of 100 beats alone, and only when
the window was whole. A domain of a sheaf that was present and out of hold over all of it takes, with no injection and a good
sense point, the lowest and the mean of its good sense points, the sum of its phases' currents, the peak, the product of mean
and current as power and its energy; its phases take theirs. Of any other domain with a sheaf the measured registers stay. The
coordinator takes the input's readings and counts the means in a row beyond each input threshold; a die with fewer than two
modules in RUN leaves the service set; a write of COORD that this window saw puts the role where it says, the record of the
holder being right where this die holds it, and one made here brings it here if the die is in service. A window that was cut
leaves every measured register, and nothing of it is carried into the next. Where the spec leaves a point open it states the
model's choice (log 11, 56, 87 to 91, 95, 151). -/
def Obligations.MeasurementWindow : Prop :=
  (∀ m, Completes (.measurementWindowEnd m) (fun s => s.live = true ∧ s.time.beat % 100 ≠ 0) (fun s t => t = s)) ∧
  (∀ m k, Completes (.measurementWindowEnd m)
    (fun s => s.live = true ∧ s.time.beat % 100 = 0 ∧ (s.time.beat < 100 ∨ wholeWin s (s.time.beat - 100) 100 = false) ∧ m.coordAt = none
      ∧ s.g.coordReq = false ∧ s.g.holder = some k ∧ (s.g.coord = true ↔ k = s.g.die))
    (fun s t => t.dom = s.dom ∧ t.ph = s.ph ∧ t.sns = s.sns ∧ t.g = s.g
      ∧ (∀ d : Fin 93, t.shf.get d = { s.shf.get d with firedW := false, pherrW := 0 }
          ∧ t.shr.get d = { s.shr.get d with devW := 0, devHit := false } ∧ (t.shw.get d) = { s.shw.get d with ipkW := 0 })
      ∧ (∀ p : Fin 720, t.phw.get p = { s.phw.get p with limWin := false }) ∧ Only [.shf, .shr, .shw, .phw] s t)) ∧
  (∀ m (d : Fin 93) x xs, Completes (.measurementWindowEnd m)
    (fun s => WindowWhole s ∧ s.dbg.injs = [] ∧ measured s d.val = true ∧ (((upTo (nsns d.val) fun k => firstSns d.val + k).filter fun p => !(s.sns.nth p).excl).map fun p => m.sns.getD p 0)
          = x :: xs)
    (fun s t =>
      let mean := satU16 (rdiv (sumList (x :: xs)) (xs.length + 1))
      let cur := satI16 (sumList ((phasesOf d.val).map fun p => satI16 (m.phI.getD p 0)))
      let pow := satU32 (rdiv ((mean : Int) * cur) 256)
      (t.dom.nth d.val).vmin = satU16 (xs.foldl min x) ∧ (t.dom.nth d.val).vmean = mean ∧ (t.dom.nth d.val).i = cur
      ∧ (t.dom.nth d.val).p = pow ∧ (t.dom.nth d.val).e = ((s.dom.nth d.val).e + pow) % (2 ^ 32 * 1000000)
      ∧ (t.dom.nth d.val).ipk = satI16 (m.domPk.getD d.val 0) ∧ (t.dom.nth d.val).nphOk = healthy s d.val
      ∧ (t.dom.nth d.val).icont = (ratingNow s d.val).1 ∧ (t.dom.nth d.val).ipeak = (ratingNow s d.val).2
      ∧ (∀ p : Fin 720, phDom p.val = d.val → (s.ph.get p).st ≠ .absent → (t.ph.get p).i = satI16 (m.phI.getD p.val 0)
          ∧ (t.ph.get p).ipk = satI16 (m.phPk.getD p.val 0) ∧ (t.ph.get p).ilimAct = (s.phw.get p).limWin)
      ∧ t.mem = s.mem ∧ (∀ l : Fin 8, t.lane.get l = { s.lane.get l with lag := (t.lane.get l).lag }) ∧ t.tel = s.tel
      ∧ Only [.inp, .bm, .epp, .la, .dom, .sns, .shf, .shw, .shr, .ph, .phw, .swref, .sp, .gw, .clk, .nd, .estd, .pd, .prot,
          .flt, .fpin, .silo, .defer, .blkReset, .g, .peer, .pmb, .pins, .mtrm, .lane, .loop, .exa, .side, .classHold, .freeCtr]
          s t)) ∧
  (∀ m (d : Fin 93), Completes (.measurementWindowEnd m)
    (fun s => WindowWhole s ∧ measured s d.val = false)
    (fun s t => (t.dom.nth d.val).vmin = (s.dom.nth d.val).vmin ∧ (t.dom.nth d.val).vmean = (s.dom.nth d.val).vmean
      ∧ (t.dom.nth d.val).i = (s.dom.nth d.val).i ∧ (t.dom.nth d.val).p = (s.dom.nth d.val).p
      ∧ (t.dom.nth d.val).e = (s.dom.nth d.val).e
      ∧ ∀ p : Fin 720, phDom p.val = d.val → (t.ph.get p).i = (s.ph.get p).i ∧ (t.ph.get p).ipk = (s.ph.get p).ipk)) ∧
  (∀ m, Completes (.measurementWindowEnd m)
    (fun s => WindowWhole s ∧ s.g.coord = true)
    (fun s t => t.inp.vin = satU16 m.vin ∧ t.inp.iin = satI16 m.iin ∧ t.inp.pin = (if m.iin < 0 then 0 else satU32 m.pin)
      ∧ t.inp.vinMin = min s.inp.vinMin (satU16 m.vin) ∧ t.inp.vinMax = max s.inp.vinMax (satU16 m.vin)
      ∧ t.prot.lowRun = (if satU16 m.vin < 50 * s.prot.vinlo then min 10 (s.prot.lowRun + 1) else 0)
      ∧ t.prot.dipRun = (if satU16 m.vin < 50 * s.prot.vindip then min 2 (s.prot.dipRun + 1) else 0)
      ∧ t.prot.highRun = (if 50 * s.prot.vinhi < satU16 m.vin then min 10 (s.prot.highRun + 1) else 0)
      ∧ t.prot.iinRun = (if 100 * 64 < satI16 m.iin then min 10 (s.prot.iinRun + 1) else 0)
      ∧ t.prot.calmRun = (if 50 * s.prot.vinlo ≤ satU16 m.vin ∧ satI16 m.iin < 95 * 64 then min 1000 (s.prot.calmRun + 1) else 0)
      ∧ t.inp.sw = s.inp.sw)) ∧
  (∀ m, Completes (.measurementWindowEnd m)
    (fun s => WindowWhole s ∧ nRun s < 2) (fun _ t => t.g.mss = false)) ∧
  (∀ m (k : Fin 4), Completes (.measurementWindowEnd m)
    (fun s => WindowWhole s ∧ m.coordAt = some k.val
      ∧ (s.g.coord = true → s.g.holder = some s.g.die))
    (fun s t => t.g.coord = decide (k.val = s.g.die) ∧ t.g.holder = some k.val)) ∧
  (∀ m, Completes (.measurementWindowEnd m)
    (fun s => WindowWhole s ∧ m.coordAt = none ∧ s.g.coordReq = true)
    (fun s t => t.g.coordReq = false ∧ (t.g.mss = true → t.g.coord = true ∧ (s.g.coord = false → t.g.holder = some s.g.die))))

/-- R425 to R429, R431, R440: bring-up. Each step starts only when its predecessor has completed, with no other step under way
and the part not in END, and is else refused with BUERR and nothing more. Each sets its done bit at its end. Training fails
the links that did not train, excludes the sense points that did not and raises SNS_EXCL for them; the error test grades each
link. A sheaf whose claims are distinct and fit its fitted positions passes the topology; a fitted phase that does not answer
is excluded with cause 6 and counted; one that claims a position it has not, or one twice, fails. The phases of a failed sheaf
that switched are held off, and its domain goes dark, but for AON. Calibration loads its batches one after the other: rail
sides at 0.70 V while the domains read OFF; when the second is measured it takes the baseline of each bond group of a sheaf
that has not failed and is not dark, or counts the group severe, and the rails fall to 0 V. A batch stands loaded for 33.6 ms,
16 groups of 2.10 ms (the model's choice, log entry 68). A write of COORD moves the role here only if this die is in the
service set; with the role come its timer, its held share, its shares and its bins, or, if none comes, the nominal hold and
empty bins. Where the spec leaves a point open it states the model's choice (log 68, 69, 70, 91, 95, 153). -/
def Obligations.BringUpAndRole : Prop :=
  (∀ x ∈ ([(.train, (fun s => s.g.pilot), .train), (.ber, (fun s => s.bu.trained), .ber), (.topo, (fun s => s.bu.berdone), .topo)] :
      List (Instr × (State → Bool) × BuRun)),
    Completes x.1 (fun s => s.live = true ∧ x.2.1 s = true ∧ s.bu.run = .no ∧ s.g.lc ≠ 4)
      (fun s t => t = { s with bu := { s.bu with run := x.2.2 } })) ∧
  (∀ x ∈ ([(.train, (fun s => s.g.pilot), .train), (.ber, (fun s => s.bu.trained), .ber), (.topo, (fun s => s.bu.berdone), .topo),
      (.cal, calReady, .cal)] : List (Instr × (State → Bool) × BuRun)),
    Completes x.1 (fun s => s.live = true ∧ (x.2.1 s = false ∨ s.bu.run ≠ .no ∨ s.g.lc = 4))
      (fun s t => t = { s with bu := { s.bu with buerr := true } })) ∧
  (∀ s, calReady s = true ↔ s.bu.topodone = true ∧ 0 < nRun s ∧ s.bu.cal = .no ∧
    ∀ d ∈ allDoms, present s d = true → d ≠ 92 → domSt s d = .off) ∧
  (∀ s (b : Fin 2) d, d ∈ calDoms s b.val ↔ d < 92 ∧ present s d = true ∧ sheafFailed s d = false ∧ domSt s d = .off
    ∧ ((b.val = 0) ↔ (d < 32 ∨ (64 ≤ d ∧ d < 68) ∨ (72 ≤ d ∧ d < 80) ∨ d = 88 ∨ d = 89))) ∧
  Completes .cal (fun s => s.live = true ∧ calReady s = true ∧ s.bu.run = .no ∧ s.g.lc ≠ 4)
    (fun s t => t.bu = { s.bu with run := .cal, cal := .loaded 0 s.time.beat }
      ∧ (∀ d : Fin 93, d.val ∈ calDoms s 0 → (t.sp.nth d.val).vcmd = 700000 * 64 ∧ (t.shf.get d).run = true)
      ∧ (∀ d : Fin 93, ¬ d.val ∈ calDoms s 0 → t.sp.nth d.val = s.sp.nth d.val ∧ t.shf.get d = s.shf.get d)
      ∧ t.dom = s.dom ∧ Only [.bu, .shf, .shw, .shr, .ph, .phw, .sp] s t) ∧
  (∀ t0, Completes .refclkEdge
    (fun s => EdgeAlone s ∧ s.time.beat + 1 < 2 ^ 64 ∧ s.bu.cal = .loaded 0 t0 ∧ t0 + 3360000 ≤ s.time.beat)
    (fun s t => t.bu.cal = .winding 0 ∧ ∀ d : Fin 93, d.val ∈ calDoms s 0 → (t.sp.nth d.val).vtgt = 0)) ∧
  (∀ links pts, Completes (.trainDone links pts)
    (fun s => s.live = true ∧ s.bu.run = .train)
    (fun s t => t.bu.run = .no ∧ t.bu.trained = true
      ∧ (∀ d : Fin 93, t.bu.shb.get d = if present s d.val && !links.getD d.val false
          then { s.bu.shb.get d with link := 3 } else s.bu.shb.get d)
      ∧ (∀ p : Fin 946, t.sns.get p = if present s (snsDom p.val) && !pts.getD p.val false
          then { s.sns.get p with excl := true, untrained := true } else s.sns.get p)
      ∧ t.bu.nsnsok = ((List.range 946).filter fun p => present s (snsDom p) && pts.getD p false).length
      ∧ (((List.range 946).any fun p => present s (snsDom p) && !pts.getD p false) = true → (statOf t bSHF).getLsbD 5 = true)
      ∧ (∀ d : Fin 93, present s d.val = true → links.getD d.val false = false → HeldOff d s t)
      ∧ (∀ d : Fin 93, links.getD d.val false = true → t.shf.get d = s.shf.get d ∧ domSt t d.val = domSt s d.val)
      ∧ Only (.sns :: .bu :: failGroups) s t)) ∧
  (∀ errs, Completes (.berDone errs)
    (fun s => s.live = true ∧ s.bu.run = .ber)
    (fun s t => (∀ d : Fin 93, t.bu.shb.get d = if present s d.val && decide ((s.bu.shb.get d).link ≠ 3)
          then { s.bu.shb.get d with
            linkerr := min 255 (errs.getD d.val 0)
            link := if errs.getD d.val 0 = 0 then 1 else if errs.getD d.val 0 ≤ 3 then 2 else 3 }
          else s.bu.shb.get d)
      ∧ { t.bu with shb := s.bu.shb } = { s.bu with run := .no, berdone := true }
      ∧ (∀ d : Fin 93, present s d.val = true → (s.bu.shb.get d).link ≠ 3 → 4 ≤ errs.getD d.val 0 → HeldOff d s t)
      ∧ (∀ d : Fin 93, errs.getD d.val 0 ≤ 3 → t.shf.get d = s.shf.get d ∧ domSt t d.val = domSt s d.val)
      ∧ Only (.bu :: failGroups) s t)) ∧
  (∀ claims (d : Fin 93), Completes (.topoDone claims)
    (fun s => s.live = true ∧ s.bu.run = .topo ∧ present s d.val = true ∧ sheafFailed s d.val = false
      ∧ (claims.getD d.val []).Nodup
      ∧ (∀ p : Fin 720, phDom p.val = d.val → ((s.ph.get p).st ≠ .absent ↔ phPos p.val ∈ claims.getD d.val []))
      ∧ ∀ k ∈ claims.getD d.val [], k < nph d.val)
    (fun s t => t.bu.run = .no ∧ t.bu.topodone = true ∧ t.bu.shb.get d = { s.bu.shb.get d with topo := 1, nmiss := 0 }
      ∧ (∀ p : Fin 720, phDom p.val = d.val → t.ph.get p = s.ph.get p))) ∧
  (∀ claims (d : Fin 93) (p : Fin 720), Completes (.topoDone claims)
    (fun s => s.live = true ∧ s.bu.run = .topo ∧ present s d.val = true ∧ sheafFailed s d.val = false
      ∧ (claims.getD d.val []).Nodup
      ∧ (∀ k ∈ claims.getD d.val [], k < nph d.val ∧ (s.ph.nth (firstPh d.val + k)).st ≠ .absent)
      ∧ phDom p.val = d.val ∧ (s.ph.get p).st ≠ .absent ∧ (s.ph.get p).st ≠ .excluded ∧ ¬ phPos p.val ∈ claims.getD d.val [])
    (fun s t => (t.bu.shb.get d).topo = 2 ∧ (t.ph.get p).st = .excluded ∧ (t.ph.get p).xcause = 6
      ∧ (t.bu.shb.get d).nmiss = ((phasesOf d.val).filter fun q =>
          decide ((s.ph.nth q).st ≠ .absent) && !(claims.getD d.val []).contains (phPos q)).length)) ∧
  (∀ claims (d : Fin 93), Completes (.topoDone claims)
    (fun s => s.live = true ∧ s.bu.run = .topo ∧ present s d.val = true ∧ sheafFailed s d.val = false
      ∧ ((∃ k ∈ claims.getD d.val [], nph d.val ≤ k ∨ (s.ph.nth (firstPh d.val + k)).st = .absent) ∨ ¬ (claims.getD d.val []).Nodup))
    (fun s t => (t.bu.shb.get d).topo = 3 ∧ sheafFailed t d.val = true ∧ HeldOff d s t)) ∧
  (∀ bp bs z, Completes (.calDone bp bs z)
    (fun s => s.live = true ∧ (s.bu.run ≠ .cal ∨ calMeasured s = false)) (fun s t => t = s)) ∧
  (∀ s, calMeasured s = true ↔ ∃ t0, s.bu.cal = .loaded 1 t0 ∧ t0 + 3360000 ≤ s.time.beat) ∧
  (∀ bp bs z, Completes (.calDone bp bs z)
    (fun s => s.live = true ∧ s.bu.run = .cal ∧ calMeasured s = true)
    (fun s t => t.bu.run = .no ∧ t.bu.caldone = true ∧ t.bu.cal = .winding 1
      ∧ (∀ d : Fin 93, d.val ∈ calDoms t 1 → (t.sp.nth d.val).vtgt = 0)
      ∧ (∀ k : Fin 1232, present s (bondDom k.val) = true → sheafFailed s (bondDom k.val) = false →
          domSt t (bondDom k.val) ≠ .dark →
          (t.bond.get k).zbase = (if 60 ≤ z.getD k.val 0 ∧ z.getD k.val 0 ≤ 190 then z.getD k.val 0 else 0)
          ∧ (t.bond.get k).severe = !decide (60 ≤ z.getD k.val 0 ∧ z.getD k.val 0 ≤ 190))
      ∧ (∀ d : Fin 93, present s d.val = false ∨ sheafFailed s d.val = true → t.bu.shb.get d = s.bu.shb.get d)
      ∧ t.mem = s.mem)) ∧
  (∀ r, Completes (.coordWrite r)
    (fun s => s.live = true ∧ s.g.mss = true ∧ s.g.coord = false)
    (fun s t => t.g = { s.g with coord := true, coordReq := false, holder := some s.g.die }
      ∧ (∀ x, r = some x → t.loop.bud.timer = x.timer ∧ t.side.gran.hold = x.hold
          ∧ ∀ k : Fin 4, t.loop.share.get k = x.share.getD k.val 0 ∧ t.loop.bins.get k = x.bins.getD k.val [])
      ∧ (r = none → t.side.gran.hold = granNom s ∧ t.loop.binN = 0 ∧ ∀ k : Fin 4, t.loop.bins.get k = [])
      ∧ t.loop.capF = s.loop.capF ∧ t.mtrm = { s.mtrm with drive := false } ∧ Only [.g, .loop, .side, .pmb, .mtrm] s t)) ∧
  (∀ r, Completes (.coordWrite r) (fun s => s.live = true ∧ (s.g.mss = false ∨ s.g.coord = true)) (fun s t => t = s))

/-- R435, R436, R445, R447: resets of cores, clusters and partitions. A request for a region that exists starts one, at this
beat; a bad target, or a reset under way, refuses it and sets REFUSED; the host's request during freeze waits. Each drained
core is recorded, and the last one, or DRAINT, sets the boundary beat; with no action in the pipeline the owners of the region
abort there. In MODE 0 from there one cluster each 200 beats has its ON cores gated, and no other domain changes. In MODE 1 a
core whose gating completes is woken, once, with the default deadline, unless its wake is refused. The host's request of a
region starts the reset that the register's does. Where the spec leaves a point open it states the model's choice (log 71, 72,
112). -/
def Obligations.RegionResets : Prop :=
  (∀ (lev : Fin 3) c mode, Completes (match lev.val with | 0 => .resetCore c mode | 1 => .resetCluster c mode | _ => .resetPartition c mode)
    (fun s => ResetReady s ∧ rstTarget s lev.val c = true ∧ rstCores s lev.val c ≠ [])
    (fun s t => t = { s with rst := { s.rst with
      level := lev.val
      target := c
      mode := mode
      run := some ⟨lev.val, c, mode, s.time.beat, coreMask (rstCores s lev.val c), rstDoms s lev.val c, 0, none,
        (if lev.val = 0 then [c / 8] else if lev.val = 1 then [c] else partClusters s c), 0, 0, 0⟩ } })) ∧
  (∀ (lev : Fin 3) c mode, Completes (match lev.val with | 0 => .resetCore c mode | 1 => .resetCluster c mode | _ => .resetPartition c mode)
    (fun s => s.powered = true ∧ s.time.refclk = true ∧ s.dbg.active = false
      ∧ (s.rst.run.isSome = true ∨ rstTarget s lev.val c = false))
    (fun s t => t = { s with rst := { s.rst with level := lev.val, target := c, mode := mode, refused := true } })) ∧
  (∀ (lev : Fin 3) c mode, Completes (.hostResetRequest lev.val c mode)
    (fun s => ResetReady s ∧ rstTarget s lev.val c = true ∧ rstCores s lev.val c ≠ [])
    (fun s t => { t.rst with run := none } = s.rst ∧ Only [.rst] s t
      ∧ t.rst.run = some ⟨lev.val, c, mode, s.time.beat, coreMask (rstCores s lev.val c), rstDoms s lev.val c, 0, none,
        (if lev.val = 0 then [c / 8] else if lev.val = 1 then [c] else partClusters s c), 0, 0, 0⟩)) ∧
  (∀ lev c mode, Completes (.hostResetRequest lev c mode)
    (fun s => s.powered = true ∧ s.time.refclk = true ∧ s.dbg.active = true ∧ s.rst.later = none ∧ lev ≤ 3)
    (fun s t => t = { s with rst := { s.rst with later := some (lev, c, mode) } })) ∧
  (∀ (c : Fin 64) r, Completes (.coreDrained c)
    (fun s => s.live = true ∧ s.rst.run = some r ∧ r.level ≤ 2 ∧ r.z = none ∧ r.cores.getLsbD c.val = true
      ∧ r.cores &&& ~~~ (r.drained ||| coreBit c.val) ≠ 0)
    (fun s t => t = { s with rst := { s.rst with run := some { r with drained := r.drained ||| coreBit c.val } } })) ∧
  (∀ (c : Fin 64) r, Completes (.coreDrained c)
    (fun s => s.live = true ∧ s.rst.run = some r ∧ r.level ≤ 2 ∧ r.z = none ∧ r.cores.getLsbD c.val = true
      ∧ r.cores &&& ~~~ (r.drained ||| coreBit c.val) = 0 ∧ s.acts = [])
    (fun s t => t.rst = { s.rst with run := some { r with drained := r.drained ||| coreBit c.val, z := some s.time.beat } }
      ∧ RegionAborted r.region s t ∧ t.dom = s.dom ∧ t.gw = s.gw)) ∧
  (∀ r, Completes .drainTimeout
    (fun s => s.live = true ∧ s.rst.run = some r ∧ r.level ≤ 2 ∧ r.z = none ∧ r.q + 100 * s.rst.draint ≤ s.time.beat
      ∧ s.acts = [])
    (fun s t => t.rst = { s.rst with
        run := some { r with z := some s.time.beat }
        drainto := true
        dto := s.rst.dto.inc 65535 }
      ∧ RegionAborted r.region s t ∧ t.dom = s.dom ∧ t.gw = s.gw)) ∧
  (∀ r z c, Completes .resetClusterGate
    (fun s => s.live = true ∧ s.rst.run = some r ∧ r.level ≤ 2 ∧ r.mode = false ∧ r.z = some z
      ∧ z + 200 * r.rank ≤ s.time.beat ∧ r.clusters[r.rank]? = some c ∧ c < 8)
    (fun s t => (∀ d : Fin 64, r.cores.getLsbD d.val = true → d.val / 8 = c → domSt s d.val = .on →
          domSt t d.val = .gating ∧ (t.gw.nth d.val).ready = false ∧ (t.gw.nth d.val).clock = false
          ∧ (t.gw.nth d.val).stage = 8 ∧ (t.gw.nth d.val).gateTo = .off)
      ∧ (∀ k : Fin 128, ¬ (k.val < 64 ∧ r.cores.getLsbD k.val = true ∧ k.val / 8 = c) →
          t.dom.get k = s.dom.get k ∧ t.gw.get k = s.gw.get k ∧ t.sp.get k = s.sp.get k)
      ∧ (t.rst.run = some { r with rank := r.rank + 1 } ∨ (t.rst.run = none ∧ t.rst.resets = s.rst.resets.inc 65535)))) ∧
  (∀ (d : Fin 64) r z, Completes (.gatingComplete (d.castLE (by decide)))
    (fun s => s.live = true ∧ s.rst.run = some r ∧ r.level ≤ 2 ∧ r.mode = true ∧ r.z = some z ∧ r.cores.getLsbD d.val = true
      ∧ r.woke.getLsbD d.val = false ∧ domSt s d.val = .gating ∧ (s.gw.nth d.val).gateTo = .off ∧ (s.gw.nth d.val).stage = 0
      ∧ (s.gw.nth d.val).wake = none)
    (fun s t => (WakeBarred s d.val → domSt t d.val = .off ∧ (t.gw.nth d.val).wrefuse = true)
      ∧ (¬ WakeBarred s d.val → (t.gw.nth d.val).wrefuse = (s.gw.nth d.val).wrefuse
          ∧ (domSt t d.val = .waking ∨ (t.gw.nth d.val).waitAdm = true))
      ∧ ∀ k : Fin 64, k ≠ d → domSt t k.val = domSt s k.val)) ∧
  Completes .resetClusterGate (fun s => s.live = true ∧ s.rst.run = none) (fun s t => t = s)

/-- R437 to R439, R445: Meser's own resets and the whole chip's. A controller's reset, of any sheaf but AON's and with no
action in the pipeline, stops its sheaf, aborts its owners and clears B, the trim and the set point, and keeps its exclusions;
AON's is refused. A sequencer's leaves every lane IDLE, the pipeline empty and a busy command answered STATE, and keeps track
memory, the numbers, every domain's state and set point, and every phase that is not shed. A loop engine's keeps every output
and bin. An instance's puts every present sheaf in hold, distrusts every estimate and keeps memory, the plan, bring-up and the
settings record. The resets of levels 4 to 7 are counted at their end; at the end of level 7 the LA domains in hold read ON
again, at the end of level 4 the sheaf of an MA region that went to retention starts. A whole-chip reset first aborts every
armed lane, drops the actions under way, and starts a die stop at its beat; when that is over, at the next edge, the instance
returns to its start: the silo's records, the beat, the fuses, the life cycle, the meter and the tally are kept; track memory
is empty after it, BM.0 in PILOT, every lane IDLE, AON on and every other present sheaf's domain off. A sequencer's reset
writes its tally entry even with no lane armed (the model's choice, log entry 159). Where the spec leaves a point open it
states the model's choice (log 73 to 76, 143, 159). -/
def Obligations.MeserAndWholeChipResets : Prop :=
  (∀ d, Completes (.resetSheafController d)
    (fun s => ResetReady s ∧ d < 92 ∧ present s d = true ∧ s.acts = [])
    (fun s t => (t.rst.run.map fun r => (r.level, r.target, r.due)) = some (4, d, s.time.beat + 200)
      ∧ RegionAborted (domBit d) s t ∧ (t.shf.nth d).run = false ∧ (t.shf.nth d).hold = false ∧ (t.shf.nth d).trim = 0
      ∧ (t.shf.nth d).b = 0 ∧ (t.sp.nth d).vcmd = 0
      ∧ domSt t d = (match domSt s d with
          | .on | .hold => .waking
          | .absent => .absent
          | .dark => .dark
          | .off => .off
          | _ => if (s.gw.nth d).woken = true ∧ typ d = .lk then .waking
              else if (s.gw.nth d).woken = true ∧ typ d = .ma then .gating else .off)
      ∧ (∀ p : Fin 720, phDom p.val = d → (t.phw.get p).cond = false ∧ (t.ph.get p).xcause = (s.ph.get p).xcause
          ∧ ((s.ph.get p).st = .excluded → (t.ph.get p).st = .excluded))
      ∧ OtherSheaves d s t ∧ t.mem = s.mem)) ∧
  Completes (.resetSheafController 92) (fun s => ResetReady s ∧ present s 92 = true)
    (fun s t => t = { s with rst := { s.rst with level := 4, target := 92, mode := false, refused := true } }) ∧
  Completes .resetSequencer (fun s => ResetReady s)
    (fun s t => (t.rst.run.map fun r => (r.level, r.due)) = some (5, s.time.beat + 100)
      ∧ (∀ l : Fin 8, (t.lane.get l).st = .idle) ∧ t.acts = [] ∧ t.sends = [] ∧ t.seg.opened = false ∧ t.exa.pend = []
      ∧ (s.cmdw.busy = true → t.cmdw.busy = false ∧ t.cmdw.result = 6) ∧ t.cmdw.seq = s.cmdw.seq ∧ t.cmdw.accseq = s.cmdw.accseq
      ∧ t.tally.count = s.tally.count + 1 ∧ t.mem = s.mem ∧ t.seqr.admitted = s.seqr.admitted ∧ t.seqr.tdig = s.seqr.tdig
      ∧ t.dom = s.dom ∧ (∀ k : Fin 93, (t.shf.get k).run = (s.shf.get k).run ∧ (t.shf.get k).hold = (s.shf.get k).hold)
      ∧ (∀ p : Fin 720, (s.ph.get p).st ≠ .shed → t.ph.get p = s.ph.get p)
      ∧ ∀ d : Fin 128, (t.sp.get d).vcmd = (s.sp.get d).vcmd) ∧
  Completes .resetLoopEngine (fun s => ResetReady s)
    (fun s t => (t.rst.run.map fun r => (r.level, r.due)) = some (6, s.time.beat + 1000)
      ∧ t.loop = { s.loop with selAt := s.loop.selAt.map fun _ => 0 }
      ∧ t.tel = { s.tel with broken := s.tel.broken || !telEnded s } ∧ Only [.rst, .loop, .tel] s t) ∧
  Completes .resetInstance (fun s => ResetReady s)
    (fun s t => (t.rst.run.map fun r => (r.level, r.due)) = some (7, s.time.beat + 10000)
      ∧ (∀ l : Fin 8, (t.lane.get l).st = .idle) ∧ t.acts = [] ∧ t.side.seen = []
      ∧ (∀ k : Fin 19, (t.side.port.get k).q = [])
      ∧ (∀ k : Fin 93, present s k.val = true → (t.shf.get k).hold = true)
      ∧ (∀ k : Fin 93, (t.estd.get k).distrust = true)
      ∧ t.mem = s.mem ∧ t.plan = s.plan ∧ t.bu = s.bu ∧ t.setrec = s.setrec) ∧
  (∀ r, Completes .partialResetEnd
    (fun s => s.live = true ∧ s.rst.run = some r ∧ 4 ≤ r.level ∧ r.level ≤ 6 ∧ r.due ≤ s.time.beat
      ∧ (r.level = 4 → domSt s r.target ≠ .gating))
    (fun s t => t = { s with rst := { s.rst with run := none, resets := s.rst.resets.inc 65535 } })) ∧
  (∀ r (d : Fin 16), Completes .partialResetEnd
    (fun s => s.live = true ∧ s.rst.run = some r ∧ r.level = 4 ∧ r.target = 72 + d.val ∧ r.due ≤ s.time.beat
      ∧ domSt s r.target = .gating ∧ (s.gw.nth r.target).gateTo = .retention ∧ (s.shf.nth r.target).run = false
      ∧ s.prot.vbkill = false)
    (fun s t => t.rst = { s.rst with run := none, resets := s.rst.resets.inc 65535 } ∧ (t.shf.nth r.target).run = true
      ∧ domSt t r.target = .gating ∧ t.mem = s.mem)) ∧
  (∀ r, Completes .partialResetEnd
    (fun s => s.live = true ∧ s.rst.run = some r ∧ r.level = 7 ∧ r.due ≤ s.time.beat
      ∧ ∀ l : Fin 4, 3 ≤ healthy s (96 + l.val) ∧ (s.gw.nth (96 + l.val)).held = [])
    (fun s t => t.rst = { s.rst with run := none, resets := s.rst.resets.inc 65535 }
      ∧ (∀ l : Fin 4, domSt s (96 + l.val) = .hold → domSt t (96 + l.val) = .on)
      ∧ (∀ d : Fin 128, d.val < 96 → t.dom.get d = s.dom.get d ∧ t.sp.get d = s.sp.get d) ∧ t.shf = s.shf ∧ t.mem = s.mem)) ∧
  (∀ r, Completes .partialResetEnd
    (fun s => s.live = true ∧ s.rst.run = some r ∧ s.time.beat < r.due) (fun s t => t = s)) ∧
  Completes .resetWholeChip
    (fun s => s.powered = true ∧ s.time.refclk = true ∧ s.dbg.active = false ∧ s.rst.run = none ∧ s.prot.stop = none)
    (fun s t => (t.rst.run.map fun r => r.level) = some 3 ∧ t.rst.refused = s.rst.refused
      ∧ t.prot = { s.prot with stop := some s.time.beat, stopNext := 0 }
      ∧ (∀ l : Fin 8, laneOn (s.lane.get l) = true → (t.lane.get l).st = .aborted ∧ (t.lane.get l).cause = 6)
      ∧ (∀ l : Fin 8, laneOn (s.lane.get l) = false → (t.lane.get l).st = (s.lane.get l).st)
      ∧ t.acts = [] ∧ (s.cmdw.busy = true → t.cmdw.busy = false ∧ t.cmdw.result = 6)
      ∧ t.tally.count = s.tally.count + (if armed s = true ∨ s.acts ≠ [] then 1 else 0)
      ∧ (∀ d : Fin 88, (s.gw.nth d.val).waitAdm = false → t.dom.nth d.val = s.dom.nth d.val) ∧ t.mem = s.mem ∧ t.meter = s.meter) ∧
  Completes .resetWholeChip
    (fun s => s.powered = true ∧ s.time.refclk = true ∧ s.dbg.active = false ∧ (s.rst.run.any fun r => decide (r.level = 3)) = true)
    (fun s t => t = { s with rst := { s.rst with level := 3, target := 0, mode := false }, g := { s.g with chipReq := false } }) ∧
  (∀ r, Completes .refclkEdge
    (fun s => s.powered = true ∧ s.time.refclk = true ∧ s.dbg.active = false ∧ s.rst.run = some r ∧ r.level = 3
      ∧ s.prot.stop = none ∧ s.prot.stopNext = 8 ∧ (∀ d : Fin 88, domSt s d.val ≠ .gating)
      ∧ s.blkReset = [] ∧ s.acts = [] ∧ s.bu.cal = .no)
    (fun s t => t.time.beat = (s.time.beat + 1) % 2 ^ 64 ∧ t.time.valid = s.time.valid ∧ t.mem.fuse = s.mem.fuse
      ∧ t.mem.siloRecs = s.mem.siloRecs
      ∧ t.tally.count = s.tally.count ∧ t.g.lc = s.g.lc ∧ t.g.die = s.g.die ∧ t.meter = s.meter
      ∧ t.mem.tmem = [] ∧ t.seqr.admitted = false ∧ t.bu.caldone = false ∧ t.g.pilot = true ∧ t.acts = []
      ∧ (t.bm.get 0).st = .pilot ∧ (∀ m : Fin 4, m ≠ 0 → (t.bm.get m).st = .off)
      ∧ (∀ l : Fin 8, (t.lane.get l).st = .idle) ∧ (∀ d : Fin 93, present t d.val = true → d ≠ 92 → domSt t d.val = .off)
      ∧ domSt t 92 = .on ∧ t.silo.ring = State.reset.silo.ring))

/-- R401, R405 to R409: the meter's own supply and windows. While it runs, a window that ends with the reference settled adds
V times I times its length to the energy of its direction, modulo the register, with the remainder kept below 1 mWh; one
without the reference adds none and counts as unregistered. Its frame carries its number and a CRC-32 over 48 bytes. The
eighth mains edge in range makes the timing present; one out of range, or a loss, ends it. A commit that verifies takes the
registers, one that does not sets NVERR, and a power-down ends with its commit. Without supply no window ends; from supply
valid the meter resumes from the committed values. Nothing but the meter moves. Where the spec leaves a point open it states
the model's choice (log 12, 79, 81). -/
def Obligations.MeterWindowsAndEnergy : Prop :=
  (∀ mv mi cv nvOk, Completes (.meterWindowEnd mv mi cv true nvOk)
    (fun s => s.meter.supply = true ∧ s.meter.running = true ∧ (s.meter.endTw.isSome = true ∨ s.meter.sync = false))
    (fun s t =>
      let v := code24 false (calCode (s.meter.coef.get 0) mv)
      let i := code24 true (calCode (s.meter.coef.get 1) mi)
      let x : Int := v * i * (s.meter.endTw.getD (nominalTw s.meter))
      (0 ≤ x → energyOf t.meter.reg.eimp t.meter.reg.remImp % (2 ^ 64 * mWh)
            = (energyOf s.meter.reg.eimp s.meter.reg.remImp + x.toNat) % (2 ^ 64 * mWh)
          ∧ t.meter.reg.remImp < mWh ∧ t.meter.reg.erev = s.meter.reg.erev ∧ t.meter.reg.remRev = s.meter.reg.remRev)
      ∧ (x < 0 → energyOf t.meter.reg.erev t.meter.reg.remRev % (2 ^ 64 * mWh)
            = (energyOf s.meter.reg.erev s.meter.reg.remRev + (-x).toNat) % (2 ^ 64 * mWh)
          ∧ t.meter.reg.remRev < mWh ∧ t.meter.reg.eimp = s.meter.reg.eimp ∧ t.meter.reg.remImp = s.meter.reg.remImp)
      ∧ t.meter.reg.unreg = s.meter.reg.unreg ∧ t.meter.reg.sbrk = s.meter.reg.sbrk
      ∧ t.meter.wseq = (s.meter.wseq + 1) % 2 ^ 32 ∧ t.meter.endTw = none
      ∧ t.meter.frame.length = 52 ∧ t.meter.frame.take 4 = leBytes 4 t.meter.wseq
      ∧ t.meter.frame.drop 48 = leBytes 4 (crc32 (t.meter.frame.take 48)) ∧ Only [.meter] s t)) ∧
  (∀ mv mi cv nvOk, Completes (.meterWindowEnd mv mi cv false nvOk)
    (fun s => s.meter.supply = true ∧ s.meter.running = true ∧ (s.meter.endTw.isSome = true ∨ s.meter.sync = false))
    (fun s t => t.meter.reg.eimp = s.meter.reg.eimp ∧ t.meter.reg.erev = s.meter.reg.erev
      ∧ t.meter.reg.remImp = s.meter.reg.remImp ∧ t.meter.reg.remRev = s.meter.reg.remRev
      ∧ t.meter.reg.unreg = min (2 ^ 32 - 1) (s.meter.reg.unreg + 1) ∧ t.meter.wseq = (s.meter.wseq + 1) % 2 ^ 32
      ∧ Only [.meter] s t)) ∧
  (∀ mv mi cv refOk nvOk, Completes (.meterWindowEnd mv mi cv refOk nvOk)
    (fun s => s.meter.supply = true ∧ s.meter.running = false ∧ s.meter.refSet = true ∧ s.meter.sync = false)
    (fun s t => t = { s with meter := { s.meter with running := true } })) ∧
  (∀ mv mi cv refOk nvOk, Completes (.meterWindowEnd mv mi cv refOk nvOk)
    (fun s => s.meter.supply = false) (fun s t => t = s)) ∧
  (∀ p since, Completes (.mainsSyncEdge p since)
    (fun s => s.meter.supply = true ∧ 50000 ≤ p ∧ (p < 153800 ∨ 222200 < p))
    (fun s t => t = { s with meter := { s.meter with sync := false, edges := 0, endTw := none } })) ∧
  (∀ p since, Completes (.mainsSyncEdge p since)
    (fun s => s.meter.supply = true ∧ 153800 ≤ p ∧ p ≤ 222200 ∧ 7 ≤ s.meter.edges ∧ s.meter.running = true)
    (fun s t => t = { s with meter := { s.meter with
      edges := 8, sync := true, endTw := if nominalTw s.meter ≤ 2 * since then some since else s.meter.endTw } })) ∧
  Completes .mainsSyncLoss (fun s => s.meter.supply = true)
    (fun s t => t = { s with meter := { s.meter with sync := false, edges := 0, endTw := none } }) ∧
  Completes .refSettled (fun s => s.meter.supply = true)
    (fun s t => t = { s with meter := { s.meter with refSet := true } }) ∧
  (∀ ok, Completes (.nvCommit ok false) (fun s => s.meter.supply = true)
    (fun s t => t = { s with meter := { s.meter with nv := if ok then s.meter.reg else s.meter.nv, nverr := !ok } })) ∧
  (∀ ok, Completes (.nvCommit ok true) (fun s => s.meter.supply = true)
    (fun s t => t.meter.supply = false ∧ t.meter.running = false ∧ t.meter.nv = (if ok then s.meter.reg else s.meter.nv)
      ∧ Only [.meter] s t)) ∧
  Completes .meterSupplyValid (fun s => s.meter.supply = false)
    (fun s t => t.meter.supply = true ∧ t.meter.running = false ∧ t.meter.reg = s.meter.nv ∧ t.meter.nv = s.meter.nv
      ∧ t.meter.isSealed = s.meter.isSealed ∧ t.meter.coef = s.meter.coef ∧ t.meter.sync = false ∧ Only [.meter] s t)

/-- R411, R413 to R417: the meter's I2C port. A read answers its value little-endian with its PEC and changes nothing else;
without supply none is answered. CFG and calibration are open to the unsealed meter alone; REQ takes one request at a time,
CTL sets CONT and ALIGN. SEAL needs every channel calibrated; UNSEAL of a sealed meter opens it and counts. After 16 windows
of its high point the coefficients of channel 1 come from the two averages, and change none if either path's fail; no gain or
offset that passes is out of its bound. Where the spec leaves a point open it states the model's choice (log 96, 98). -/
def Obligations.MeterPort : Prop :=
  (∀ x ∈ ([(.mtrId, 0x00, fun _ => padTo 4 Config.meterIdentity),
      (.mtrStatus, 0x01, fun m => leBytes 2 (le16 m.frame 4 % 2048 + 2048 * b2n m.nverr + 4096 * b2n m.cal.isSome)),
      (.mtrEimp, 0x02, fun m => leBytes 8 m.reg.eimp), (.mtrErev, 0x03, fun m => leBytes 8 m.reg.erev),
      (.mtrSbrk, 0x04, fun m => leBytes 2 m.reg.sbrk), (.mtrPlauscnt, 0x05, fun m => leBytes 2 m.reg.plausCnt),
      (.mtrUnreg, 0x06, fun m => leBytes 4 m.reg.unreg), (.mtrWseq, 0x07, fun m => leBytes 4 m.wseq),
      (.mtrLast, 0x08, fun m => m.frame.take 48),
      (.mtrCfg none, 0x10, fun m => leBytes 2 (b2n m.freq60 + 2 * m.refsel + 8 * b2n m.testEn + 16 * m.testCode)),
      (.mtrCtl none, 0x12, fun m => leBytes 1 (b2n m.cont + 2 * b2n m.align)),
      (.calstat, 0x22, fun m => leBytes 2 (b2n m.cal.isSome + 2 * (m.calCh % 8) + 16 * m.calRes)),
      (.coef, 0x23, fun m => (m.coef.data.map fun c => leBytes 4 (signedBits 32 c.gn) ++ leBytes 4 (signedBits 32 c.ofs)).flatten)] :
        List (Instr × Nat × (Meter → List Byte))),
    Completes x.1 (fun s => s.meter.supply = true) (fun s t => PortAnswers x.2.1 (x.2.2 s.meter) s t) ∧
    Completes x.1 (fun s => s.meter.supply = false)
      (fun s t => t = { s with io := { s.io with i2cAck := false, i2c := [] } })) ∧
  (∀ w, Completes (.mtrCfg (some w))
    (fun s => s.meter.supply = true ∧ s.meter.isSealed = false ∧ (bits w 1 2 = 0 ∨ bits w 1 2 = 2))
    (fun s t => PortTakes true { s.meter with
      freq60 := bitOf w 0, refsel := bits w 1 2, testEn := bitOf w 3, testCode := bits w 4 12 } s t)) ∧
  (∀ w, Completes (.mtrCfg (some w))
    (fun s => s.meter.supply = true ∧ (s.meter.isSealed = true ∨ bits w 1 2 = 1)) (fun s t => PortTakes false s.meter s t)) ∧
  (∀ w, Completes (.mtrCtl (some w)) (fun s => s.meter.supply = true)
    (fun s t => PortTakes true { s.meter with cont := bitOf w 0, align := bitOf w 1 } s t)) ∧
  (∀ w, Completes (.mtrReq w)
    (fun s => s.meter.supply = true ∧ w % 8 < 6 ∧ bitOf w 3 = false ∧ s.meter.req = none)
    (fun s t => PortTakes true { s.meter with req := some ⟨w % 8, false, false, (s.meter.wseq + 1) % 2 ^ 32⟩ } s t)) ∧
  (∀ w r, Completes (.mtrReq w)
    (fun s => s.meter.supply = true ∧ s.meter.req = some r ∧ r.win ≠ (s.meter.wseq + 1) % 2 ^ 32)
    (fun s t => PortTakes false s.meter s t)) ∧
  (∀ c x, Completes (.calz c x)
    (fun s => s.meter.supply = true ∧ s.meter.isSealed = false ∧ s.meter.cal = none ∧ c ≤ 2 ∧ (c = 0 → 4000000 ≤ x))
    (fun s t => PortTakes true { s.meter with
      cal := some ⟨c, false, x, (s.meter.wseq + 1) % 2 ^ 32, 0, 0, 0⟩, zero := none, calCh := c } s t)) ∧
  (∀ c x, Completes (.calz c x)
    (fun s => s.meter.supply = true ∧ s.meter.isSealed = true)
    (fun s t => PortTakes false { s.meter with calCh := c % 8, calRes := 5 } s t)) ∧
  (∀ c x z, Completes (.calf c x)
    (fun s => s.meter.supply = true ∧ s.meter.isSealed = false ∧ s.meter.cal = none ∧ s.meter.zero = some z ∧ z.ch = c)
    (fun s t => PortTakes true { s.meter with cal := some ⟨c, true, x, (s.meter.wseq + 1) % 2 ^ 32, 0, 0, 0⟩, calCh := c } s t)) ∧
  (∀ c x, Completes (.calf c x)
    (fun s => s.meter.supply = true ∧ s.meter.isSealed = false ∧ s.meter.cal = none ∧ s.meter.zero = none)
    (fun s t => PortTakes false { s.meter with calCh := c % 8, calRes := 4 } s t)) ∧
  Completes .sealMeter
    (fun s => s.meter.supply = true ∧ s.meter.cal = none ∧ s.meter.accepted = Tab.make 3 fun _ => true)
    (fun s t => PortTakes true { s.meter with isSealed := true } s t) ∧
  (∀ k : Fin 3, Completes .sealMeter
    (fun s => s.meter.supply = true ∧ (s.meter.cal.isSome = true ∨ s.meter.accepted.get k = false))
    (fun s t => PortTakes false s.meter s t)) ∧
  Completes .unsealMeter (fun s => s.meter.supply = true ∧ s.meter.isSealed = true)
    (fun s t => PortTakes true { s.meter with
        isSealed := false
        reg := { s.meter.reg with sbrk := min 65535 (s.meter.reg.sbrk + 1) }
        nv := { s.meter.nv with sbrk := min 65535 (s.meter.reg.sbrk + 1) } } s t) ∧
  (∀ c, Completes .calAverageDone
    (fun s => s.meter.supply = true ∧ s.meter.cal = some c ∧ c.high = false ∧ 16 ≤ c.n)
    (fun s t => t = { s with meter := { s.meter with cal := none, zero := some ⟨c.ch, c.x, rdiv c.m 16, rdiv c.c 16⟩ } })) ∧
  (∀ c z, Completes .calAverageDone
    (fun s => s.meter.supply = true ∧ s.meter.cal = some c ∧ c.high = true ∧ c.ch = 1 ∧ 16 ≤ c.n ∧ s.meter.zero = some z)
    (fun s t =>
      let pm := calPath z.x c.x z.m (rdiv c.m 16)
      let pc := calPath z.x c.x z.c (rdiv c.c 16)
      t.meter.cal = none ∧ t.meter.zero = none ∧ t.meter.calRes = (if pm.2 ≠ 0 then pm.2 else pc.2)
      ∧ (t.meter.coef.get 0, t.meter.coef.get 2, t.meter.coef.get 4) = (s.meter.coef.get 0, s.meter.coef.get 2, s.meter.coef.get 4)
      ∧ (pm.2 = 0 ∧ pc.2 = 0 → t.meter.coef.get 1 = pm.1 ∧ t.meter.coef.get 3 = pc.1 ∧ t.meter.accepted.get 1 = true)
      ∧ (¬(pm.2 = 0 ∧ pc.2 = 0) → t.meter.coef = s.meter.coef ∧ t.meter.accepted = s.meter.accepted) ∧ Only [.meter] s t)) ∧
  (∀ x0 x1 c0 c1 : Int, (calPath x0 x1 c0 c1).2 = 0 → 2 ^ 20 ≤ c1 - c0 ∧
    19 * 2 ^ 30 ≤ 20 * (calPath x0 x1 c0 c1).1.gn ∧ 20 * (calPath x0 x1 c0 c1).1.gn ≤ 21 * 2 ^ 30 ∧
    (calPath x0 x1 c0 c1).1.ofs.natAbs ≤ 2 ^ 18)

/-- R418 to R422: Meser's mirror of the meter. While the meter pushes frames and no instance reset runs, a frame of 52 bytes
with its CRC becomes the mirror's last frame and the link is up (of the meter that this instance drives it is the frame that
the meter formed: the model's choice, log entry 82); any other is dropped, counted and raises MTR_BADFRM. With the buffer on
and room, the coordinator stores the frame and the beat in the 64 bytes of its place, and no other byte of host memory
changes; full, the record is lost and counted; a bus error loses the record, uncounted, and stops the buffer. The link falls
at the loss 61 ms after the last good frame, and not before 51 ms. A request and the control bits pass from the coordinator
alone, to a meter with supply; a request that meets none stays pending, and a new coordinator's goes nowhere before its first
write of the control bits; and the bit that expects sync raises MTR_SYNC where the last frame had none. Where the spec leaves
a point open it states the model's choice (log 82, 97, 100). -/
def Obligations.MeterMirror : Prop :=
  (∀ s, pushes s = true ↔ s.meter.supply = true ∧ (s.meter.stream = true ∨ s.g.coord = false ∨ s.mtrm.drive = false)) ∧
  (∀ bytes ok, Completes (.meterFrame bytes ok)
    (fun s => s.live = true ∧ (pushes s = false ∨ (s.rst.run.any fun r => decide (r.level = 7)) = true)) (fun s t => t = s)) ∧
  (∀ bytes ok, Completes (.meterFrame bytes ok)
    (fun s => FramesCome s ∧ (bytes.length ≠ 52 ∨ crc32 (bytes.take 48) ≠ le32 bytes 48))
    (fun s t => t.mtrm = { s.mtrm with bad := s.mtrm.bad.inc 65535 } ∧ raisedIn bMTRM 1 s t ∧ t.meter = s.meter
      ∧ Only (.mtrm :: raises) s t)) ∧
  (∀ bytes ok, Completes (.meterFrame bytes ok)
    (fun s => FramesCome s ∧ bytes.length = 52 ∧ crc32 (bytes.take 48) = le32 bytes 48
      ∧ (s.g.coord = false ∨ s.mtrm.drive = false ∨ bytes = s.meter.frame ∧ (s.mtrm.bufEn = false ∨ s.mtrm.buserr = true)))
    (fun s t => t.mtrm.last = bytes.take 48 ∧ t.mtrm.link = true ∧ t.mtrm.goodAt = s.time.beat ∧ t.mtrmRaw.getLsbD 0 = false
      ∧ t.mtrmRaw.getLsbD 2 = bitOf (le16 bytes 4) 3 ∧ t.mtrmRaw.getLsbD 4 = !bitOf (le16 bytes 4) 1
      ∧ t.mtrm.wr = s.mtrm.wr ∧ t.mtrm.bad = s.mtrm.bad ∧ t.meter = s.meter
      ∧ (bitOf (bytes.getD 6 0).toNat 4 = true → t.mtrm.res = le32 bytes 16)
      ∧ (bitOf (bytes.getD 6 0).toNat 4 = true → s.mtrm.reqSt = 1 → t.mtrm.reqSt = 2)
      ∧ Only ([.mtrm, .mtrmRaw] ++ raises) s t)) ∧
  (∀ bytes, Completes (.meterFrame bytes true)
    (fun s => FramesCome s ∧ bytes.length = 52 ∧ crc32 (bytes.take 48) = le32 bytes 48 ∧ s.g.coord = true ∧ bytes = s.meter.frame
      ∧ s.mtrm.drive = true ∧ s.mtrm.bufEn = true ∧ s.mtrm.buserr = false ∧ (s.mtrm.wr + 1) % 2 ^ s.mtrm.log ≠ s.mtrm.rd
      ∧ Memory.wf s.mem.hmem = true)
    (fun s t => Memory.readBytes t.mem.hmem (s.mtrm.base + 64 * s.mtrm.wr) 60
          = bytes.take 48 ++ leBytes 8 s.time.beat ++ bytes.drop 48
      ∧ (∀ a, a < s.mtrm.base + 64 * s.mtrm.wr ∨ s.mtrm.base + 64 * s.mtrm.wr + 64 ≤ a →
          Memory.read t.mem.hmem a = Memory.read s.mem.hmem a)
      ∧ { t.mem with hmem := s.mem.hmem } = s.mem ∧ t.mtrm.wr = (s.mtrm.wr + 1) % 2 ^ s.mtrm.log ∧ t.mtrm.gap = false
      ∧ Only ([.mtrm, .mtrmRaw, .mem] ++ raises) s t)) ∧
  (∀ bytes, Completes (.meterFrame bytes false)
    (fun s => FramesCome s ∧ bytes.length = 52 ∧ crc32 (bytes.take 48) = le32 bytes 48 ∧ s.g.coord = true ∧ bytes = s.meter.frame
      ∧ s.mtrm.drive = true ∧ s.mtrm.bufEn = true ∧ s.mtrm.buserr = false ∧ (s.mtrm.wr + 1) % 2 ^ s.mtrm.log ≠ s.mtrm.rd)
    (fun s t => t.mem = s.mem ∧ t.mtrm.wr = s.mtrm.wr ∧ t.mtrm.buserr = true ∧ t.mtrm.lost = s.mtrm.lost ∧ t.mtrm.gap = true
      ∧ (statOf t bMTRM).getLsbD 8 = true)) ∧
  (∀ bytes ok, Completes (.meterFrame bytes ok)
    (fun s => FramesCome s ∧ bytes.length = 52 ∧ crc32 (bytes.take 48) = le32 bytes 48 ∧ s.g.coord = true ∧ bytes = s.meter.frame
      ∧ s.mtrm.drive = true ∧ s.mtrm.bufEn = true ∧ s.mtrm.buserr = false ∧ (s.mtrm.wr + 1) % 2 ^ s.mtrm.log = s.mtrm.rd)
    (fun s t => t.mem = s.mem ∧ t.mtrm.wr = s.mtrm.wr ∧ t.mtrm.lost = s.mtrm.lost.inc 65535 ∧ t.mtrm.gap = true
      ∧ (statOf t bMTRM).getLsbD 7 = true)) ∧
  Completes .meterLinkLoss
    (fun s => s.live = true ∧ s.mtrm.link = true ∧ s.mtrm.goodAt + 6100000 ≤ s.time.beat)
    (fun s t => t.mtrm = { s.mtrm with link := false } ∧ t.mtrmRaw.getLsbD 0 = true ∧ raisedIn bMTRM 0 s t
      ∧ Only ([.mtrm, .mtrmRaw] ++ raises) s t) ∧
  Completes .meterLinkLoss (fun s => s.live = true ∧ (s.mtrm.link = false ∨ s.time.beat < s.mtrm.goodAt + 5100010))
    (fun s t => t = s) ∧
  (∀ c u m, Completes (.mtrmReqGo c u)
    (fun s => s.live = true ∧ s.g.coord = true ∧ s.mtrm.drive = true ∧ s.meter.supply = true ∧ meterRequest s.meter (c % 8) u true = some m)
    (fun s t => t = { s with
      meter := m
      mtrm := { s.mtrm with ch := c % 8, urgent := u, reqSt := 1 } }
      ∧ m.req = some ⟨c % 8, u, true, (s.meter.wseq + 1) % 2 ^ 32⟩)) ∧
  (∀ c u, Completes (.mtrmReqGo c u)
    (fun s => s.live = true ∧ s.g.coord = true ∧ s.mtrm.drive = true ∧ s.meter.supply = true ∧ meterRequest s.meter (c % 8) u true = none)
    (fun s t => t = { s with mtrm := { s.mtrm with ch := c % 8, urgent := u, reqSt := 3 } })) ∧
  (∀ c u, Completes (.mtrmReqGo c u) (fun s => s.live = true ∧ s.g.coord = true ∧ s.mtrm.drive = true ∧ s.meter.supply = false)
    (fun s t => t = { s with mtrm := { s.mtrm with ch := c % 8, urgent := u, reqSt := 1 } })) ∧
  (∀ c u, Completes (.mtrmReqGo c u) (fun s => s.live = true ∧ s.g.coord = true ∧ s.mtrm.drive = false)
    (fun s t => t = { s with mtrm := { s.mtrm with ch := c % 8, urgent := u } })) ∧
  (∀ c u, Completes (.mtrmReqGo c u) (fun s => s.live = true ∧ s.g.coord = false) (fun s t => t = s)) ∧
  (∀ v : Word32, Completes (.mtrmCtlWrite v)
    (fun s => s.live = true ∧ s.g.coord = true ∧ s.meter.supply = true ∧ v.getLsbD 31 = false
      ∧ (v.getLsbD 3 = false ∨ bitOf (frameFlags s.mtrm.last) 0 = true))
    (fun s t => t = { s with
      mtrmRaw := s.mtrmRaw &&& ~~~ 0x20
      mtrm := { s.mtrm with
        stream := v.getLsbD 0, cont := v.getLsbD 1, align := v.getLsbD 2, syncExp := v.getLsbD 3, bufEn := v.getLsbD 4
        drive := true }
      meter := { s.meter with stream := v.getLsbD 0, cont := v.getLsbD 1, align := v.getLsbD 2 } })) ∧
  (∀ v : Word32, Completes (.mtrmCtlWrite v)
    (fun s => s.live = true ∧ s.g.coord = true ∧ v.getLsbD 31 = false ∧ v.getLsbD 3 = true
      ∧ bitOf (frameFlags s.mtrm.last) 0 = false ∧ s.mtrmRaw.getLsbD 5 = false)
    (fun s t => t.mtrmRaw = s.mtrmRaw ||| 0x20 ∧ raisedIn bMTRM 5 s t ∧ t.mtrm.syncExp = true
      ∧ Only ([.mtrm, .mtrmRaw, .meter] ++ raises) s t)) ∧
  (∀ v, Completes (.mtrmCtlWrite v) (fun s => s.live = true ∧ s.g.coord = false) (fun s t => t = s))

/-- R458 to R462: the PMBus target. A read answers its data with the PEC and changes nothing else; an instance without the
role does not answer. A limit written with a good PEC is taken in 0.1 V, clamped to its range; a bad PEC discards the write
and latches STATUS_CML, as an unsupported code does, and a part in END takes no write. CLEAR_FAULTS leaves the bits of present
conditions alone set. The alert response answers the address and lets go of the line. Where the spec leaves a point open it
states the model's choice (log 83, 99). -/
def Obligations.PmbusTarget : Prop :=
  (∀ x ∈ ([(.capability, 0x19, fun _ => [0xD0]), (.otFaultLimit, 0x4F, fun s => leBytes 2 (linear11 (shutT s) 128)),
      (.otWarnLimit, 0x51, fun s => leBytes 2 (linear11 (warnT s) 128)), (.vinOvFaultLimit, 0x55, fun _ => leBytes 2 (linear11 62 1)),
      (.vinOvWarnLimit none true, 0x57, fun s => leBytes 2 (linear11 s.prot.vinhi 10)),
      (.vinUvWarnLimit none true, 0x58, fun s => leBytes 2 (linear11 s.prot.vinlo 10)),
      (.vinUvFaultLimit none true, 0x59, fun s => leBytes 2 (linear11 s.prot.vindip 10)),
      (.iinOcFaultLimit, 0x5B, fun _ => leBytes 2 (linear11 100 1)), (.pinOpWarnLimit, 0x6B, fun s => leBytes 2 (linear11 s.loop.cap 1)),
      (.statusByte, 0x78, fun s => leBytes 1 (pmbStatus s % 256)), (.statusWord, 0x79, fun s => leBytes 2 (pmbStatus s)),
      (.statusInput, 0x7C, fun s => leBytes 1 s.pmb.inp.toNat), (.statusTemperature, 0x7D, fun s => leBytes 1 s.pmb.temp.toNat),
      (.statusCml, 0x7E, fun s => leBytes 1 s.pmb.cml.toNat), (.statusMfrSpecific, 0x80, fun s => leBytes 1 s.pmb.mfr.toNat),
      (.readVin, 0x88, fun s => leBytes 2 (linear11 s.pmb.vin 500000)), (.readIin, 0x89, fun s => leBytes 2 (linear11 s.pmb.iin 64000)),
      (.readTemperature1, 0x8D, fun s => leBytes 2 (linear11 s.pmb.t 128000)),
      (.readPin, 0x97, fun s => leBytes 2 (linear11 s.pmb.pin 1000000)), (.pmbusRevision, 0x98, fun _ => [0x44]),
      (.mfrId, 0x99, fun _ => [4, 0x53, 0x54, 0x56, 0x4C]), (.mfrModel, 0x9A, fun _ => [5, 0x4C, 0x4F, 0x52, 0x34, 0x53])] :
        List (Instr × Nat × (State → List Byte))),
    Completes x.1 (fun s => s.live = true ∧ s.g.coord = true) (fun s t => PmbusAnswers x.2.1 (x.2.2 s) s t) ∧
    Completes x.1 (fun s => s.live = true ∧ s.g.coord = false)
      (fun s t => t = { s with pmb := { s.pmb with ack := false, resp := [] } })) ∧
  (∀ w, Completes (.vinOvWarnLimit (some w) true)
    (fun s => s.live = true ∧ s.g.coord = true ∧ s.g.lc ≠ 4)
    (fun s t => t = { s with
      pmb := { s.pmb with ack := true, resp := [] }
      prot := { s.prot with vinhi := (max 560 (min 615 (linTimes w 10))).toNat } })) ∧
  (∀ w, Completes (.vinUvWarnLimit (some w) true)
    (fun s => s.live = true ∧ s.g.coord = true ∧ s.g.lc ≠ 4)
    (fun s t => t = { s with
      pmb := { s.pmb with ack := true, resp := [] }
      prot := { s.prot with vinlo := (max 400 (min 440 (linTimes w 10))).toNat } })) ∧
  (∀ w, Completes (.vinUvFaultLimit (some w) true)
    (fun s => s.live = true ∧ s.g.coord = true ∧ s.g.lc ≠ 4)
    (fun s t => t = { s with
      pmb := { s.pmb with ack := true, resp := [] }
      prot := { s.prot with vindip := (max 385 (min 400 (linTimes w 10))).toNat } })) ∧
  (∀ w, Completes (.vinUvFaultLimit (some w) false)
    (fun s => s.live = true ∧ s.g.coord = true)
    (fun s t => t.prot = s.prot ∧ t.pmb.cml = s.pmb.cml ||| 0x20 ∧ Only [.pmb] s t)) ∧
  (∀ w, Completes (.vinUvFaultLimit (some w) true)
    (fun s => s.live = true ∧ s.g.coord = true ∧ s.g.lc = 4)
    (fun s t => t.prot = s.prot ∧ t.pmb.cml = s.pmb.cml ||| 0x80 ∧ Only [.pmb] s t)) ∧
  Completes (.clearFaults true)
    (fun s => s.live = true ∧ s.g.coord = true ∧ s.g.lc ≠ 4)
    (fun s t => (t.pmb.inp, t.pmb.temp, t.pmb.mfr) = pmbCond s ∧ t.pmb.cml = 0
      ∧ t.pmb.alert = decide (t.pmb.inp ≠ 0 ∨ t.pmb.temp ≠ 0 ∨ t.pmb.mfr ≠ 0) ∧ Only [.pmb] s t) ∧
  Completes .alertResponse
    (fun s => s.live = true ∧ s.g.coord = true ∧ s.g.pilot = true ∧ s.pmb.alert = true)
    (fun s t => t = { s with pmb := { s.pmb with
      ack := true, alert := false
      resp := [BitVec.ofNat 8 (2 * (0x40 + s.pmb.addr)), crc8 [0x19, BitVec.ofNat 8 (2 * (0x40 + s.pmb.addr))]] } }) ∧
  Completes .alertResponse
    (fun s => s.live = true ∧ (s.g.coord = false ∨ s.g.pilot = false ∨ s.pmb.alert = false))
    (fun s t => t = { s with pmb := { s.pmb with ack := false, resp := [] } }) ∧
  (∀ c n1 ok, Completes (.pmbusUnsupported c (some n1) ok)
    (fun s => s.live = true ∧ s.g.coord = true)
    (fun s t => t.pmb.cml = s.pmb.cml ||| 0x80 ∧ t.pmb.resp.take n1 = List.replicate n1 0xFF ∧ t.pmb.resp.length = n1 + 1 ∧ t.pmb.ack = true
      ∧ Only [.pmb] s t)) ∧
  (∀ c, Completes (.pmbusUnsupported c none true)
    (fun s => s.live = true ∧ s.g.coord = true)
    (fun s t => t.pmb.cml = s.pmb.cml ||| 0x80 ∧ t.pmb.resp = [] ∧ t.prot = s.prot ∧ Only [.pmb] s t))

/-- R22, R23, R401: without power nothing acts. Whatever command comes, but for the end of the soft start, only the input
switch, the meter with its own supply and its port may change. -/
def Obligations.UnpoweredBlockHolds : Prop :=
  ∀ (c : Instr) (s t : State), s.powered = false → c ≠ .softStartEnd → exec c s = .next t →
    Only [.inp, .meter, .io] s t

/-- R391, R392: in freeze the central blocks hold. Whatever command comes, but for freeze's own end and a power-up, the loops,
the plan, the actions on their way, the sends, the microtables, the settings record, the array banks, the start gate,
bring-up, the peers, the meter's mirror, the gleaner, the edge loops, the sense points, the bond groups, SWREF and the
estimator stay as they are; so does telemetry, but at a loss of REFCLK, which cuts its period short. Where the spec leaves a
point open it states the model's choice (log 94, 116). -/
def Obligations.FreezeHoldsTheCentralBlocks : Prop :=
  ∀ (c : Instr) (s t : State), s.powered = true → s.dbg.active = true →
    c ≠ .softStartEnd → c ≠ .freezeExit → exec c s = .next t →
    t.loop = s.loop ∧ t.plan = s.plan ∧ t.acts = s.acts ∧ t.sends = s.sends ∧ t.mt = s.mt
      ∧ t.mts = s.mts ∧ t.setrec = s.setrec ∧ t.bank = s.bank ∧ t.sg = s.sg ∧ t.bu = s.bu ∧ t.peer = s.peer ∧ t.mtrm = s.mtrm
      ∧ t.gln = s.gln ∧ t.la = s.la ∧ t.sns = s.sns ∧ t.bond = s.bond ∧ t.swref = s.swref ∧ t.est = s.est
      ∧ (c ≠ .refclkLoss → t.tel = s.tel)

/-- R33, R166, R185, R292, R295, R314, R344, R355, R373, R398, R399, R421: what the registers that these rules tabulate read
at reset. Where the spec leaves a point open it states the model's choice (log 3, 4, 93). -/
def Obligations.ResetRegisterValues : Prop :=
  ∀ p ∈ ([(0x4F008, 0), (0x4F030, 0x0810FFFF), (0x4F070, 16), (0x4F400, 0x0010019C), (0x50000, 0x7F), (0x50010, 0x000A0C80),
      (0x50018, 0xFFFFFFFF), (0x50030, 0x0C87D028), (0x50040, 0x47E047E0), (0x50180, 0x640AE666), (0x50184, 0x424), (0x50188, 0xFFF),
      (0x5018C, 0x39), (0x60000, 3), (0x60004, 0), (0x60008, 0x01000008), (0x70010, 10), (0x80000, 0x28327878), (0x80004, 0x25D6199A), (0x80008, 0),
      (0x83000, 2), (0x90000, 0x00C00000), (0x90004, 0x00010001), (0x90084, 2000), (0x91004, 6000), (0x91008, 0x01000400),
      (0x9100C, 16384), (0x91010, 0), (0xB010C, 0xFFFF), (0xB0110, 0), (0xC0000, 3), (0xC0088, 12), (0xD0000, 0x001F0000), (0xF0000, 0)] :
        List (Nat × Nat)),
    readWord State.reset p.1 = p.2
end

