-- ==== Sys2Proof/Laws/Answers.lean ====
section
/-! SUPPORT. When a command acts: each wrapper of a meaning, with the condition it needs and without it. -/

namespace Sys2Proof.Machine

theorem powered_on {s : State} (f : State → State) (h : s.powered = true) : powered s f = .next (f s) := by simp [powered, h]
theorem powered_off {s : State} (f : State → State) (h : s.powered = false) : powered s f = .next s := by simp [powered, h]

theorem sheafStep_on {s : State} (f : State → State) (h : s.powered = true) : sheafStep s f = .next (f s) := by
  simp [sheafStep, h]
theorem sheafStep_off {s : State} (f : State → State) (h : s.powered = false) : sheafStep s f = .next s := by
  simp [sheafStep, h]

theorem bus_on {s : State} (f : State → State) (h : s.powered = true) (k : s.dbg.active = false) :
    bus s f = .next (f s) := by simp [bus, h, k]
theorem bus_freeze {s : State} (f : State → State) (k : s.dbg.active = true) : bus s f = .next s := by simp [bus, k]
theorem bus_off {s : State} (f : State → State) (h : s.powered = false) : bus s f = .next s := by simp [bus, h]

theorem live_on {s : State} (f : State → State) (h : s.live = true) : live s f = .next (f s) := by simp [live, h]
theorem live_off {s : State} (f : State → State) (h : s.live = false) : live s f = .next s := by simp [live, h]

theorem rstLive_on {s : State} (f : State → State) (h : s.powered = true) (k : s.time.refclk = true) :
    rstLive s f = .next (f s) := by simp [rstLive, h, k]
theorem clocked_on {s : State} (f : State → State) (h : s.powered = true) (k : s.time.refclk = true) :
    clocked s f = .next (f s) := by simp [clocked, h, k]
theorem loopLive_on {s : State} (f : State → State) (h : s.live = true) (k : loopInReset s = false) :
    loopLive s f = .next (f s) := by simp [loopLive, live, h, k]
theorem metered_on {s : State} (f : Meter → Meter) (h : s.meter.supply = true) : metered s f = .next (modMtr s f) := by
  simp [metered, h]
theorem pmbus_on {s : State} (f : State → State) (h : s.live = true) (k : s.g.coord = true) :
    pmbus f s = .next (f s) := by simp [pmbus, live, h, k]

/-- The central blocks run only where power reaches the block, freeze is off and REFCLK is present. -/
theorem live_iff (s : State) : s.live = true ↔ s.powered = true ∧ s.dbg.active = false ∧ s.time.refclk = true := by
  simp [State.live, and_assoc]

end Sys2Proof.Machine
end

