-- ==== Sys2Proof/Laws/Exec.lean ====
section
/-! SUPPORT. The meaning that each command's arm calls, and what a step does with the command at the front. -/

namespace Sys2Proof.Machine

theorem step_cons {s : State} {c : Instr} {l : List Instr} (h : s.pending = c :: l) :
    step s = exec c { s with pending := l } := by
  unfold step; rw [h]

theorem step_nil {s : State} (h : s.pending = []) : step s = .next s := by
  unfold step; rw [h]

@[simp] theorem exec_registerWrite p off v (s : State) : exec (.registerWrite p off v) s = execRegisterWrite p off v s := rfl
@[simp] theorem exec_misalignedAccess p off size wr (s : State) : exec (.misalignedAccess p off size wr) s = execMisalignedAccess p off size wr s := rfl
@[simp] theorem exec_readLo p off (s : State) : exec (.readLo p off) s = execReadLo p off s := rfl
@[simp] theorem exec_readHi p off (s : State) : exec (.readHi p off) s = execReadHi p off s := rfl
@[simp] theorem exec_writeLo p off v (s : State) : exec (.writeLo p off v) s = execWriteLo p off v s := rfl
@[simp] theorem exec_writeHi p off v (s : State) : exec (.writeHi p off v) s = execWriteHi p off v s := rfl
@[simp] theorem exec_domVsnsRead p d (s : State) : exec (.domVsnsRead p d) s = execDomVsnsRead p d s := rfl
@[simp] theorem exec_vinStart vin (s : State) : exec (.vinStart vin) s = execVinStart vin s := rfl
@[simp] theorem exec_softStartEnd (s : State) : exec (.softStartEnd) s = execSoftStartEnd s := rfl
@[simp] theorem exec_undervoltageStop vin (s : State) : exec (.undervoltageStop vin) s = execUndervoltageStop vin s := rfl
@[simp] theorem exec_overvoltageStop vin (s : State) : exec (.overvoltageStop vin) s = execOvervoltageStop vin s := rfl
@[simp] theorem exec_bmModeRun m (s : State) : exec (.bmModeRun m) s = execBmModeRun m s := rfl
@[simp] theorem exec_bmModePilot m (s : State) : exec (.bmModePilot m) s = execBmModePilot m s := rfl
@[simp] theorem exec_bmModeOff m (s : State) : exec (.bmModeOff m) s = execBmModeOff m s := rfl
@[simp] theorem exec_bmStartingEnd m (s : State) : exec (.bmStartingEnd m) s = execBmStartingEnd m s := rfl
@[simp] theorem exec_bmFault m trip (s : State) : exec (.bmFault m trip) s = execBmFault m trip s := rfl
@[simp] theorem exec_bmClrcnt m (s : State) : exec (.bmClrcnt m) s = execBmClrcnt m s := rfl
@[simp] theorem exec_clrmm (s : State) : exec (.clrmm) s = execClrmm s := rfl
@[simp] theorem exec_eppEnWrite c en (s : State) : exec (.eppEnWrite c en) s = execEppEnWrite c en s := rfl
@[simp] theorem exec_eppClrcnt c (s : State) : exec (.eppClrcnt c) s = execEppClrcnt c s := rfl
@[simp] theorem exec_eppDutyUpdate l vsns isns (s : State) : exec (.eppDutyUpdate l vsns isns) s = execEppDutyUpdate l vsns isns s := rfl
@[simp] theorem exec_eppOutOfService c tflt (s : State) : exec (.eppOutOfService c tflt) s = execEppOutOfService c tflt s := rfl
@[simp] theorem exec_vbSample u vb (s : State) : exec (.vbSample u vb) s = execVbSample u vb s := rfl
@[simp] theorem exec_measurementWindowEnd m (s : State) : exec (.measurementWindowEnd m) s = execMeasurementWindowEnd m s := rfl
@[simp] theorem exec_swrefPeriod u cur vfly tind (s : State) : exec (.swrefPeriod u cur vfly tind) s = execSwrefPeriod u cur vfly tind s := rfl
@[simp] theorem exec_conductionIntervalStart u k node (s : State) : exec (.conductionIntervalStart u k node) s = execConductionIntervalStart u k node s := rfl
@[simp] theorem exec_conductionIntervalEnd u k node peak (s : State) : exec (.conductionIntervalEnd u k node peak) s = execConductionIntervalEnd u k node peak s := rfl
@[simp] theorem exec_lockWindowEnd u err (s : State) : exec (.lockWindowEnd u err) s = execLockWindowEnd u err s := rfl
@[simp] theorem exec_trimCycleEnd u low idom (s : State) : exec (.trimCycleEnd u low idom) s = execTrimCycleEnd u low idom s := rfl
@[simp] theorem exec_pulseSkipStart u (s : State) : exec (.pulseSkipStart u) s = execPulseSkipStart u s := rfl
@[simp] theorem exec_phaseShed u (s : State) : exec (.phaseShed u) s = execPhaseShed u s := rfl
@[simp] theorem exec_fireStart u node gap (s : State) : exec (.fireStart u node gap) s = execFireStart u node gap s := rfl
@[simp] theorem exec_firePulseLimit u k (s : State) : exec (.firePulseLimit u k) s = execFirePulseLimit u k s := rfl
@[simp] theorem exec_fireEnd u node (s : State) : exec (.fireEnd u node) s = execFireEnd u node s := rfl
@[simp] theorem exec_shfCfgWrite u v (s : State) : exec (.shfCfgWrite u v) s = execShfCfgWrite u v s := rfl
@[simp] theorem exec_shfClrcnt u (s : State) : exec (.shfClrcnt u) s = execShfClrcnt u s := rfl
@[simp] theorem exec_syncInLoss (s : State) : exec (.syncInLoss) s = execSyncInLoss s := rfl
@[simp] theorem exec_fallbkClear (s : State) : exec (.fallbkClear) s = execFallbkClear s := rfl
@[simp] theorem exec_swrefSourceChange (s : State) : exec (.swrefSourceChange) s = execSwrefSourceChange s := rfl
@[simp] theorem exec_holdEnter u (s : State) : exec (.holdEnter u) s = execHoldEnter u s := rfl
@[simp] theorem exec_holdExit u (s : State) : exec (.holdExit u) s = execHoldExit u s := rfl
@[simp] theorem exec_noticeRestore u eff (s : State) : exec (.noticeRestore u eff) s = execNoticeRestore u eff s := rfl
@[simp] theorem exec_noticeRampStart u eff (s : State) : exec (.noticeRampStart u eff) s = execNoticeRampStart u eff s := rfl
@[simp] theorem exec_preliftEnter d eff (s : State) : exec (.preliftEnter d eff) s = execPreliftEnter d eff s := rfl
@[simp] theorem exec_preliftLeave d eff (s : State) : exec (.preliftLeave d eff) s = execPreliftLeave d eff s := rfl
@[simp] theorem exec_reversalHoldEnd d (s : State) : exec (.reversalHoldEnd d) s = execReversalHoldEnd d s := rfl
@[simp] theorem exec_frequencyRaiseRequest d vlow (s : State) : exec (.frequencyRaiseRequest d vlow) s = execFrequencyRaiseRequest d vlow s := rfl
@[simp] theorem exec_frequencyLowerApplied d (s : State) : exec (.frequencyLowerApplied d) s = execFrequencyLowerApplied d s := rfl
@[simp] theorem exec_feDeadline d vlow (s : State) : exec (.feDeadline d vlow) s = execFeDeadline d vlow s := rfl
@[simp] theorem exec_headerStageOpen d (s : State) : exec (.headerStageOpen d) s = execHeaderStageOpen d s := rfl
@[simp] theorem exec_headerStageClose d near ns (s : State) : exec (.headerStageClose d near ns) s = execHeaderStageClose d near ns s := rfl
@[simp] theorem exec_gatingComplete d (s : State) : exec (.gatingComplete d) s = execGatingComplete d s := rfl
@[simp] theorem exec_wakeComplete d (s : State) : exec (.wakeComplete d) s = execWakeComplete d s := rfl
@[simp] theorem exec_readyRise d (s : State) : exec (.readyRise d) s = execReadyRise d s := rfl
@[simp] theorem exec_firstWakeOn d vlow (s : State) : exec (.firstWakeOn d vlow) s = execFirstWakeOn d vlow s := rfl
@[simp] theorem exec_wakeForced d (s : State) : exec (.wakeForced d) s = execWakeForced d s := rfl
@[simp] theorem exec_bankGateComplete m (s : State) : exec (.bankGateComplete m) s = execBankGateComplete m s := rfl
@[simp] theorem exec_bankWakeRequest m b (s : State) : exec (.bankWakeRequest m b) s = execBankWakeRequest m b s := rfl
@[simp] theorem exec_bankWakeReady m b (s : State) : exec (.bankWakeReady m b) s = execBankWakeReady m b s := rfl
@[simp] theorem exec_domSpstatClrcnt d (s : State) : exec (.domSpstatClrcnt d) s = execDomSpstatClrcnt d s := rfl
@[simp] theorem exec_phaseOpenDetect p (s : State) : exec (.phaseOpenDetect p) s = execPhaseOpenDetect p s := rfl
@[simp] theorem exec_phaseShortDetect p high (s : State) : exec (.phaseShortDetect p high) s = execPhaseShortDetect p high s := rfl
@[simp] theorem exec_spareActive u (s : State) : exec (.spareActive u) s = execSpareActive u s := rfl
@[simp] theorem exec_phExclude p (s : State) : exec (.phExclude p) s = execPhExclude p s := rfl
@[simp] theorem exec_readmit p (s : State) : exec (.readmit p) s = execReadmit p s := rfl
@[simp] theorem exec_phClrcnt p (s : State) : exec (.phClrcnt p) s = execPhClrcnt p s := rfl
@[simp] theorem exec_phaseHiccupEnter p (s : State) : exec (.phaseHiccupEnter p) s = execPhaseHiccupEnter p s := rfl
@[simp] theorem exec_phaseHiccupRetry p (s : State) : exec (.phaseHiccupRetry p) s = execPhaseHiccupRetry p s := rfl
@[simp] theorem exec_phaseRetrySuccess p (s : State) : exec (.phaseRetrySuccess p) s = execPhaseRetrySuccess p s := rfl
@[simp] theorem exec_domainHiccup u (s : State) : exec (.domainHiccup u) s = execDomainHiccup u s := rfl
@[simp] theorem exec_domainHiccupRestart u (s : State) : exec (.domainHiccupRestart u) s = execDomainHiccupRestart u s := rfl
@[simp] theorem exec_domainRetrySuccess u (s : State) : exec (.domainRetrySuccess u) s = execDomainRetrySuccess u s := rfl
@[simp] theorem exec_latchClear u (s : State) : exec (.latchClear u) s = execLatchClear u s := rfl
@[simp] theorem exec_gleanerSweepStart u (s : State) : exec (.gleanerSweepStart u) s = execGleanerSweepStart u s := rfl
@[simp] theorem exec_phaseHealthSweep u m (s : State) : exec (.phaseHealthSweep u m) s = execPhaseHealthSweep u m s := rfl
@[simp] theorem exec_plausibilitySweep u low node (s : State) : exec (.plausibilitySweep u low node) s = execPlausibilitySweep u low node s := rfl
@[simp] theorem exec_bondMeasurement g dv u (s : State) : exec (.bondMeasurement g dv u) s = execBondMeasurement g dv u s := rfl
@[simp] theorem exec_beatMarker n (s : State) : exec (.beatMarker n) s = execBeatMarker n s := rfl
@[simp] theorem exec_refclkLoss (s : State) : exec (.refclkLoss) s = execRefclkLoss s := rfl
@[simp] theorem exec_refclkReturn (s : State) : exec (.refclkReturn) s = execRefclkReturn s := rfl
@[simp] theorem exec_alignLoss (s : State) : exec (.alignLoss) s = execAlignLoss s := rfl
@[simp] theorem exec_step w (s : State) : exec (.step w) s = execStep w s := rfl
@[simp] theorem exec_cancel w (s : State) : exec (.cancel w) s = execCancel w s := rfl
@[simp] theorem exec_arrive w (s : State) : exec (.arrive w) s = execArrive w s := rfl
@[simp] theorem exec_noticeQueueRelease (s : State) : exec (.noticeQueueRelease) s = execNoticeQueueRelease s := rfl
@[simp] theorem exec_noticeArrival (s : State) : exec (.noticeArrival) s = execNoticeArrival s := rfl
@[simp] theorem exec_barrierRelease (s : State) : exec (.barrierRelease) s = execBarrierRelease s := rfl
@[simp] theorem exec_engineStartRequest core e (s : State) : exec (.engineStartRequest core e) s = execEngineStartRequest core e s := rfl
@[simp] theorem exec_engineStartGrant core e (s : State) : exec (.engineStartGrant core e) s = execEngineStartGrant core e s := rfl
@[simp] theorem exec_seqTstatClrcnt (s : State) : exec (.seqTstatClrcnt) s = execSeqTstatClrcnt s := rfl
@[simp] theorem exec_seqNstatClrcnt (s : State) : exec (.seqNstatClrcnt) s = execSeqNstatClrcnt s := rfl
@[simp] theorem exec_seqNdomClrcnt d (s : State) : exec (.seqNdomClrcnt d) s = execSeqNdomClrcnt d s := rfl
@[simp] theorem exec_estimatorLatch raw lines (s : State) : exec (.estimatorLatch raw lines) s = execEstimatorLatch raw lines s := rfl
@[simp] theorem exec_estimatorApply (s : State) : exec (.estimatorApply) s = execEstimatorApply s := rfl
@[simp] theorem exec_estimatorCompare (s : State) : exec (.estimatorCompare) s = execEstimatorCompare s := rfl
@[simp] theorem exec_estImageCopyDone (s : State) : exec (.estImageCopyDone) s = execEstImageCopyDone s := rfl
@[simp] theorem exec_estClrcnt (s : State) : exec (.estClrcnt) s = execEstClrcnt s := rfl
@[simp] theorem exec_trackMemoryWrite off v (s : State) : exec (.trackMemoryWrite off v) s = execTrackMemoryWrite off v s := rfl
@[simp] theorem exec_trackAdmissionDone (s : State) : exec (.trackAdmissionDone) s = execTrackAdmissionDone s := rfl
@[simp] theorem exec_laneStart (s : State) : exec (.laneStart) s = execLaneStart s := rfl
@[simp] theorem exec_laneResume l (s : State) : exec (.laneResume l) s = execLaneResume l s := rfl
@[simp] theorem exec_barComplete l (s : State) : exec (.barComplete l) s = execBarComplete l s := rfl
@[simp] theorem exec_actionTakesEffect (s : State) : exec (.actionTakesEffect) s = execActionTakesEffect s := rfl
@[simp] theorem exec_commandGo (s : State) : exec (.commandGo) s = execCommandGo s := rfl
@[simp] theorem exec_commandAccept (s : State) : exec (.commandAccept) s = execCommandAccept s := rfl
@[simp] theorem exec_commandComplete (s : State) : exec (.commandComplete) s = execCommandComplete s := rfl
@[simp] theorem exec_cmdwClrcnt (s : State) : exec (.cmdwClrcnt) s = execCmdwClrcnt s := rfl
@[simp] theorem exec_seqTrkClrcnt (s : State) : exec (.seqTrkClrcnt) s = execSeqTrkClrcnt s := rfl
@[simp] theorem exec_seqLaneOvrClear l (s : State) : exec (.seqLaneOvrClear l) s = execSeqLaneOvrClear l s := rfl
@[simp] theorem exec_microtablePacket u n npkt data crc (s : State) : exec (.microtablePacket u n npkt data crc) s = execMicrotablePacket u n npkt data crc s := rfl
@[simp] theorem exec_microtableEnd u dig (s : State) : exec (.microtableEnd u dig) s = execMicrotableEnd u dig s := rfl
@[simp] theorem exec_microtableAck u (s : State) : exec (.microtableAck u) s = execMicrotableAck u s := rfl
@[simp] theorem exec_microtableNack u (s : State) : exec (.microtableNack u) s = execMicrotableNack u s := rfl
@[simp] theorem exec_microtableCommit (s : State) : exec (.microtableCommit) s = execMicrotableCommit s := rfl
@[simp] theorem exec_shfMtstatClrcnt u (s : State) : exec (.shfMtstatClrcnt u) s = execShfMtstatClrcnt u s := rfl
@[simp] theorem exec_nop c (s : State) : exec (.nop c) s = execNop c s := rfl
@[simp] theorem exec_halt c (s : State) : exec (.halt c) s = execHalt c s := rfl
@[simp] theorem exec_atB c (s : State) : exec (.atB c) s = execAt c s := rfl
@[simp] theorem exec_wait c (s : State) : exec (.wait c) s = execWait c s := rfl
@[simp] theorem exec_seg c (s : State) : exec (.seg c) s = execSeg c s := rfl
@[simp] theorem exec_mark c (s : State) : exec (.mark c) s = execMark c s := rfl
@[simp] theorem exec_vset c (s : State) : exec (.vset c) s = execVset c s := rfl
@[simp] theorem exec_lline c (s : State) : exec (.lline c) s = execLline c s := rfl
@[simp] theorem exec_note c (s : State) : exec (.note c) s = execNote c s := rfl
@[simp] theorem exec_opsel c (s : State) : exec (.opsel c) s = execOpsel c s := rfl
@[simp] theorem exec_gate c (s : State) : exec (.gate c) s = execGate c s := rfl
@[simp] theorem exec_wake c (s : State) : exec (.wake c) s = execWake c s := rfl
@[simp] theorem exec_bank c (s : State) : exec (.bank c) s = execBank c s := rfl
@[simp] theorem exec_startg c (s : State) : exec (.startg c) s = execStartg c s := rfl
@[simp] theorem exec_capDomainIlim c (s : State) : exec (.capDomainIlim c) s = execCapDomainIlim c s := rfl
@[simp] theorem exec_capDieLimit c (s : State) : exec (.capDieLimit c) s = execCapDieLimit c s := rfl
@[simp] theorem exec_capPackagePower c (s : State) : exec (.capPackagePower c) s = execCapPackagePower c s := rfl
@[simp] theorem exec_capAveragingPeriod c (s : State) : exec (.capAveragingPeriod c) s = execCapAveragingPeriod c s := rfl
@[simp] theorem exec_ovly c (s : State) : exec (.ovly c) s = execOvly c s := rfl
@[simp] theorem exec_prio c (s : State) : exec (.prio c) s = execPrio c s := rfl
@[simp] theorem exec_telNormal c (s : State) : exec (.telNormal c) s = execTelNormal c s := rfl
@[simp] theorem exec_telFine c (s : State) : exec (.telFine c) s = execTelFine c s := rfl
@[simp] theorem exec_telTag c (s : State) : exec (.telTag c) s = execTelTag c s := rfl
@[simp] theorem exec_li c (s : State) : exec (.li c) s = execLi c s := rfl
@[simp] theorem exec_add c (s : State) : exec (.add c) s = execAdd c s := rfl
@[simp] theorem exec_sub c (s : State) : exec (.sub c) s = execSub c s := rfl
@[simp] theorem exec_min c (s : State) : exec (.min c) s = execMin c s := rfl
@[simp] theorem exec_max c (s : State) : exec (.max c) s = execMax c s := rfl
@[simp] theorem exec_mulq c (s : State) : exec (.mulq c) s = execMulq c s := rfl
@[simp] theorem exec_cmp c (s : State) : exec (.cmp c) s = execCmp c s := rfl
@[simp] theorem exec_br c (s : State) : exec (.br c) s = execBr c s := rfl
@[simp] theorem exec_call c (s : State) : exec (.call c) s = execCall c s := rfl
@[simp] theorem exec_ret c (s : State) : exec (.ret c) s = execRet c s := rfl
@[simp] theorem exec_loop c (s : State) : exec (.loop c) s = execLoop c s := rfl
@[simp] theorem exec_send c (s : State) : exec (.send c) s = execSend c s := rfl
@[simp] theorem exec_bar c (s : State) : exec (.bar c) s = execBar c s := rfl
@[simp] theorem exec_gran c (s : State) : exec (.gran c) s = execGran c s := rfl
@[simp] theorem exec_save c (s : State) : exec (.save c) s = execSave c s := rfl
@[simp] theorem exec_fence c (s : State) : exec (.fence c) s = execFence c s := rfl
@[simp] theorem exec_clrfFaultBlock (s : State) : exec (.clrfFaultBlock) s = execClrfFaultBlock s := rfl
@[simp] theorem exec_clrfSat (s : State) : exec (.clrfSat) s = execClrfSat s := rfl
@[simp] theorem exec_loadplanTrack (s : State) : exec (.loadplanTrack) s = execLoadplanTrack s := rfl
@[simp] theorem exec_loadplanMicrotable (s : State) : exec (.loadplanMicrotable) s = execLoadplanMicrotable s := rfl
@[simp] theorem exec_loadplanWeights (s : State) : exec (.loadplanWeights) s = execLoadplanWeights s := rfl
@[simp] theorem exec_loadplanPlan (s : State) : exec (.loadplanPlan) s = execLoadplanPlan s := rfl
@[simp] theorem exec_loadplanOverlay (s : State) : exec (.loadplanOverlay) s = execLoadplanOverlay s := rfl
@[simp] theorem exec_loadplanMode (s : State) : exec (.loadplanMode) s = execLoadplanMode s := rfl
@[simp] theorem exec_arm (s : State) : exec (.arm) s = execArm s := rfl
@[simp] theorem exec_armResume (s : State) : exec (.armResume) s = execArmResume s := rfl
@[simp] theorem exec_disarm (s : State) : exec (.disarm) s = execDisarm s := rfl
@[simp] theorem exec_lcreq (s : State) : exec (.lcreq) s = execLcreq s := rfl
@[simp] theorem exec_loopEngineStep fcap fbud (s : State) : exec (.loopEngineStep fcap fbud) s = execLoopEngineStep fcap fbud s := rfl
@[simp] theorem exec_capBinEnd (s : State) : exec (.capBinEnd) s = execCapBinEnd s := rfl
@[simp] theorem exec_budgetDecode x edge (s : State) : exec (.budgetDecode x edge) s = execBudgetDecode x edge s := rfl
@[simp] theorem exec_budgetFeTimer (s : State) : exec (.budgetFeTimer) s = execBudgetFeTimer s := rfl
@[simp] theorem exec_loopDisable k (s : State) : exec (.loopDisable k) s = execLoopDisable k s := rfl
@[simp] theorem exec_telemetryRecord ok (s : State) : exec (.telemetryRecord ok) s = execTelemetryRecord ok s := rfl
@[simp] theorem exec_telClrcnt (s : State) : exec (.telClrcnt) s = execTelClrcnt s := rfl
@[simp] theorem exec_stallApply (s : State) : exec (.stallApply) s = execStallApply s := rfl
@[simp] theorem exec_stallHoldEnd (s : State) : exec (.stallHoldEnd) s = execStallHoldEnd s := rfl
@[simp] theorem exec_saveCapture (s : State) : exec (.saveCapture) s = execSaveCapture s := rfl
@[simp] theorem exec_saveWriteDone ok (s : State) : exec (.saveWriteDone ok) s = execSaveWriteDone ok s := rfl
@[simp] theorem exec_seqXstatClrcnt (s : State) : exec (.seqXstatClrcnt) s = execSeqXstatClrcnt s := rfl
@[simp] theorem exec_setrecRecompute others (s : State) : exec (.setrecRecompute others) s = execSetrecRecompute others s := rfl
@[simp] theorem exec_stall port head pay (s : State) : exec (.stall port head pay) s = execStall port head pay s := rfl
@[simp] theorem exec_verdict port head pay (s : State) : exec (.verdict port head pay) s = execVerdict port head pay s := rfl
@[simp] theorem exec_armrpt port head pay (s : State) : exec (.armrpt port head pay) s = execArmrpt port head pay s := rfl
@[simp] theorem exec_granrpt port head pay (s : State) : exec (.granrpt port head pay) s = execGranrpt port head pay s := rfl
@[simp] theorem exec_grant port head pay (s : State) : exec (.grant port head pay) s = execGrant port head pay s := rfl
@[simp] theorem exec_trkpkt port head pay (s : State) : exec (.trkpkt port head pay) s = execTrkpkt port head pay s := rfl
@[simp] theorem exec_trkres port head pay (s : State) : exec (.trkres port head pay) s = execTrkres port head pay s := rfl
@[simp] theorem exec_trkend port head pay (s : State) : exec (.trkend port head pay) s = execTrkend port head pay s := rfl
@[simp] theorem exec_trknack port head pay (s : State) : exec (.trknack port head pay) s = execTrknack port head pay s := rfl
@[simp] theorem exec_distNackTimer (s : State) : exec (.distNackTimer) s = execDistNackTimer s := rfl
@[simp] theorem exec_distStart (s : State) : exec (.distStart) s = execDistStart s := rfl
@[simp] theorem exec_granReport sig (s : State) : exec (.granReport sig) s = execGranReport sig s := rfl
@[simp] theorem exec_granDecision (s : State) : exec (.granDecision) s = execGranDecision s := rfl
@[simp] theorem exec_granApply (s : State) : exec (.granApply) s = execGranApply s := rfl
@[simp] theorem exec_pkgBalance (s : State) : exec (.pkgBalance) s = execPkgBalance s := rfl
@[simp] theorem exec_armBarrierDecision (s : State) : exec (.armBarrierDecision) s = execArmBarrierDecision s := rfl
@[simp] theorem exec_armBarrierTimeout (s : State) : exec (.armBarrierTimeout) s = execArmBarrierTimeout s := rfl
@[simp] theorem exec_sideClrcnt (s : State) : exec (.sideClrcnt) s = execSideClrcnt s := rfl
@[simp] theorem exec_granDivClear (s : State) : exec (.granDivClear) s = execGranDivClear s := rfl
@[simp] theorem exec_planTakeEffect (s : State) : exec (.planTakeEffect) s = execPlanTakeEffect s := rfl
@[simp] theorem exec_overlayValid (s : State) : exec (.overlayValid) s = execOverlayValid s := rfl
@[simp] theorem exec_ovTrip d node (s : State) : exec (.ovTrip d node) s = execOvTrip d node s := rfl
@[simp] theorem exec_ovTripClear d node (s : State) : exec (.ovTripClear d node) s = execOvTripClear d node s := rfl
@[simp] theorem exec_ovOff d (s : State) : exec (.ovOff d) s = execOvOff d s := rfl
@[simp] theorem exec_ovAfterOff d node (s : State) : exec (.ovAfterOff d node) s = execOvAfterOff d node s := rfl
@[simp] theorem exec_vbOvervoltage (s : State) : exec (.vbOvervoltage) s = execVbOvervoltage s := rfl
@[simp] theorem exec_uvTrip d vmin (s : State) : exec (.uvTrip d vmin) s = execUvTrip d vmin s := rfl
@[simp] theorem exec_uvRecover d vmin (s : State) : exec (.uvRecover d vmin) s = execUvRecover d vmin s := rfl
@[simp] theorem exec_uvDark d (s : State) : exec (.uvDark d) s = execUvDark d s := rfl
@[simp] theorem exec_droopStretch c grid (s : State) : exec (.droopStretch c grid) s = execDroopStretch c grid s := rfl
@[simp] theorem exec_droopReport c len (s : State) : exec (.droopReport c len) s = execDroopReport c len s := rfl
@[simp] theorem exec_phaseHardLimit p (s : State) : exec (.phaseHardLimit p) s = execPhaseHardLimit p s := rfl
@[simp] theorem exec_domainOvercurrent d peak (s : State) : exec (.domainOvercurrent d peak) s = execDomainOvercurrent d peak s := rfl
@[simp] theorem exec_dieOvercurrent (s : State) : exec (.dieOvercurrent) s = execDieOvercurrent s := rfl
@[simp] theorem exec_vinLow (s : State) : exec (.vinLow) s = execVinLow s := rfl
@[simp] theorem exec_vinDip (s : State) : exec (.vinDip) s = execVinDip s := rfl
@[simp] theorem exec_vinHigh (s : State) : exec (.vinHigh) s = execVinHigh s := rfl
@[simp] theorem exec_inputOvercurrent (s : State) : exec (.inputOvercurrent) s = execInputOvercurrent s := rfl
@[simp] theorem exec_vinHoldEnd (s : State) : exec (.vinHoldEnd) s = execVinHoldEnd s := rfl
@[simp] theorem exec_bandEvaluation temps (s : State) : exec (.bandEvaluation temps) s = execBandEvaluation temps s := rfl
@[simp] theorem exec_thermalShutdown (s : State) : exec (.thermalShutdown) s = execThermalShutdown s := rfl
@[simp] theorem exec_coolantLoss (s : State) : exec (.coolantLoss) s = execCoolantLoss s := rfl
@[simp] theorem exec_dieStopCluster c (s : State) : exec (.dieStopCluster c) s = execDieStopCluster c s := rfl
@[simp] theorem exec_coolantClear flowHigh (s : State) : exec (.coolantClear flowHigh) s = execCoolantClear flowHigh s := rfl
@[simp] theorem exec_shutdnClear (s : State) : exec (.shutdnClear) s = execShutdnClear s := rfl
@[simp] theorem exec_vbkillClear (s : State) : exec (.vbkillClear) s = execVbkillClear s := rfl
@[simp] theorem exec_ovlatchClear d (s : State) : exec (.ovlatchClear d) s = execOvlatchClear d s := rfl
@[simp] theorem exec_protClrcnt (s : State) : exec (.protClrcnt) s = execProtClrcnt s := rfl
@[simp] theorem exec_siloProgram ok (s : State) : exec (.siloProgram ok) s = execSiloProgram ok s := rfl
@[simp] theorem exec_faultStatClear b bits (s : State) : exec (.faultStatClear b bits) s = execFaultStatClear b bits s := rfl
@[simp] theorem exec_handlingClear b (s : State) : exec (.handlingClear b) s = execHandlingClear b s := rfl
@[simp] theorem exec_hset b (s : State) : exec (.hset b) s = execHset b s := rfl
@[simp] theorem exec_hclr b (s : State) : exec (.hclr b) s = execHclr b s := rfl
@[simp] theorem exec_errPinPulseEnd (s : State) : exec (.errPinPulseEnd) s = execErrPinPulseEnd s := rfl
@[simp] theorem exec_siloClrcnt (s : State) : exec (.siloClrcnt) s = execSiloClrcnt s := rfl
@[simp] theorem exec_freezeEnter low (s : State) : exec (.freezeEnter low) s = execFreezeEnter low s := rfl
@[simp] theorem exec_freezeImageDone nodes (s : State) : exec (.freezeImageDone nodes) s = execFreezeImageDone nodes s := rfl
@[simp] theorem exec_freezeExit (s : State) : exec (.freezeExit) s = execFreezeExit s := rfl
@[simp] theorem exec_msrAcc op inst adr v (s : State) : exec (.msrAcc op inst adr v) s = execMsrAcc op inst adr v s := rfl
@[simp] theorem exec_injectGo (s : State) : exec (.injectGo) s = execInjectGo s := rfl
@[simp] theorem exec_injectStop (s : State) : exec (.injectStop) s = execInjectStop s := rfl
@[simp] theorem exec_injectHoldEnd blk src (s : State) : exec (.injectHoldEnd blk src) s = execInjectHoldEnd blk src s := rfl
@[simp] theorem exec_meterFrame bytes ok (s : State) : exec (.meterFrame bytes ok) s = execMeterFrame bytes ok s := rfl
@[simp] theorem exec_meterLinkLoss (s : State) : exec (.meterLinkLoss) s = execMeterLinkLoss s := rfl
@[simp] theorem exec_mtrmReqGo ch urgent (s : State) : exec (.mtrmReqGo ch urgent) s = execMtrmReqGo ch urgent s := rfl
@[simp] theorem exec_mtrmCtlWrite v (s : State) : exec (.mtrmCtlWrite v) s = execMtrmCtlWrite v s := rfl
@[simp] theorem exec_mtrmClrcnt (s : State) : exec (.mtrmClrcnt) s = execMtrmClrcnt s := rfl
@[simp] theorem exec_meterWindowEnd mv mi cv refOk nvOk (s : State) : exec (.meterWindowEnd mv mi cv refOk nvOk) s = execMeterWindowEnd mv mi cv refOk nvOk s := rfl
@[simp] theorem exec_mainsSyncEdge period since (s : State) : exec (.mainsSyncEdge period since) s = execMainsSyncEdge period since s := rfl
@[simp] theorem exec_mainsSyncLoss (s : State) : exec (.mainsSyncLoss) s = execMainsSyncLoss s := rfl
@[simp] theorem exec_refSettled (s : State) : exec (.refSettled) s = execRefSettled s := rfl
@[simp] theorem exec_nvCommit ok fall (s : State) : exec (.nvCommit ok fall) s = execNvCommit ok fall s := rfl
@[simp] theorem exec_calAverageDone (s : State) : exec (.calAverageDone) s = execCalAverageDone s := rfl
@[simp] theorem exec_mtrId (s : State) : exec (.mtrId) s = execMtrId s := rfl
@[simp] theorem exec_mtrStatus (s : State) : exec (.mtrStatus) s = execMtrStatus s := rfl
@[simp] theorem exec_mtrEimp (s : State) : exec (.mtrEimp) s = execMtrEimp s := rfl
@[simp] theorem exec_mtrErev (s : State) : exec (.mtrErev) s = execMtrErev s := rfl
@[simp] theorem exec_mtrSbrk (s : State) : exec (.mtrSbrk) s = execMtrSbrk s := rfl
@[simp] theorem exec_mtrPlauscnt (s : State) : exec (.mtrPlauscnt) s = execMtrPlauscnt s := rfl
@[simp] theorem exec_mtrUnreg (s : State) : exec (.mtrUnreg) s = execMtrUnreg s := rfl
@[simp] theorem exec_mtrWseq (s : State) : exec (.mtrWseq) s = execMtrWseq s := rfl
@[simp] theorem exec_mtrLast (s : State) : exec (.mtrLast) s = execMtrLast s := rfl
@[simp] theorem exec_mtrCfg w (s : State) : exec (.mtrCfg w) s = execMtrCfg w s := rfl
@[simp] theorem exec_mtrReq v (s : State) : exec (.mtrReq v) s = execMtrReq v s := rfl
@[simp] theorem exec_mtrCtl w (s : State) : exec (.mtrCtl w) s = execMtrCtl w s := rfl
@[simp] theorem exec_calz ch x (s : State) : exec (.calz ch x) s = execCalz ch x s := rfl
@[simp] theorem exec_calf ch x (s : State) : exec (.calf ch x) s = execCalf ch x s := rfl
@[simp] theorem exec_calstat (s : State) : exec (.calstat) s = execCalstat s := rfl
@[simp] theorem exec_coef (s : State) : exec (.coef) s = execCoef s := rfl
@[simp] theorem exec_sealMeter (s : State) : exec (.sealMeter) s = execSealMeter s := rfl
@[simp] theorem exec_unsealMeter (s : State) : exec (.unsealMeter) s = execUnsealMeter s := rfl
@[simp] theorem exec_train (s : State) : exec (.train) s = execTrain s := rfl
@[simp] theorem exec_trainDone links sns (s : State) : exec (.trainDone links sns) s = execTrainDone links sns s := rfl
@[simp] theorem exec_ber (s : State) : exec (.ber) s = execBer s := rfl
@[simp] theorem exec_berDone errs (s : State) : exec (.berDone errs) s = execBerDone errs s := rfl
@[simp] theorem exec_topo (s : State) : exec (.topo) s = execTopo s := rfl
@[simp] theorem exec_topoDone claims (s : State) : exec (.topoDone claims) s = execTopoDone claims s := rfl
@[simp] theorem exec_cal (s : State) : exec (.cal) s = execCal s := rfl
@[simp] theorem exec_calDone badPh badSns z (s : State) : exec (.calDone badPh badSns z) s = execCalDone badPh badSns z s := rfl
@[simp] theorem exec_coordWrite role (s : State) : exec (.coordWrite role) s = execCoordWrite role s := rfl
@[simp] theorem exec_resetCore c mode (s : State) : exec (.resetCore c mode) s = execResetCore c mode s := rfl
@[simp] theorem exec_resetCluster c mode (s : State) : exec (.resetCluster c mode) s = execResetCluster c mode s := rfl
@[simp] theorem exec_resetPartition k mode (s : State) : exec (.resetPartition k mode) s = execResetPartition k mode s := rfl
@[simp] theorem exec_resetWholeChip (s : State) : exec (.resetWholeChip) s = execResetWholeChip s := rfl
@[simp] theorem exec_resetSheafController u (s : State) : exec (.resetSheafController u) s = execResetSheafController u s := rfl
@[simp] theorem exec_resetSequencer (s : State) : exec (.resetSequencer) s = execResetSequencer s := rfl
@[simp] theorem exec_resetLoopEngine (s : State) : exec (.resetLoopEngine) s = execResetLoopEngine s := rfl
@[simp] theorem exec_resetInstance (s : State) : exec (.resetInstance) s = execResetInstance s := rfl
@[simp] theorem exec_hostResetRequest level target mode (s : State) : exec (.hostResetRequest level target mode) s = execHostResetRequest level target mode s := rfl
@[simp] theorem exec_coreDrained c (s : State) : exec (.coreDrained c) s = execCoreDrained c s := rfl
@[simp] theorem exec_drainTimeout (s : State) : exec (.drainTimeout) s = execDrainTimeout s := rfl
@[simp] theorem exec_resetClusterGate (s : State) : exec (.resetClusterGate) s = execResetClusterGate s := rfl
@[simp] theorem exec_partialResetEnd (s : State) : exec (.partialResetEnd) s = execPartialResetEnd s := rfl
@[simp] theorem exec_rstClrcnt (s : State) : exec (.rstClrcnt) s = execRstClrcnt s := rfl
@[simp] theorem exec_lcProgramDone (s : State) : exec (.lcProgramDone) s = execLcProgramDone s := rfl
@[simp] theorem exec_clearFaults pecOk (s : State) : exec (.clearFaults pecOk) s = execClearFaults pecOk s := rfl
@[simp] theorem exec_capability (s : State) : exec (.capability) s = execCapability s := rfl
@[simp] theorem exec_otFaultLimit (s : State) : exec (.otFaultLimit) s = execOtFaultLimit s := rfl
@[simp] theorem exec_otWarnLimit (s : State) : exec (.otWarnLimit) s = execOtWarnLimit s := rfl
@[simp] theorem exec_vinOvFaultLimit (s : State) : exec (.vinOvFaultLimit) s = execVinOvFaultLimit s := rfl
@[simp] theorem exec_vinOvWarnLimit w pecOk (s : State) : exec (.vinOvWarnLimit w pecOk) s = execVinOvWarnLimit w pecOk s := rfl
@[simp] theorem exec_vinUvWarnLimit w pecOk (s : State) : exec (.vinUvWarnLimit w pecOk) s = execVinUvWarnLimit w pecOk s := rfl
@[simp] theorem exec_vinUvFaultLimit w pecOk (s : State) : exec (.vinUvFaultLimit w pecOk) s = execVinUvFaultLimit w pecOk s := rfl
@[simp] theorem exec_iinOcFaultLimit (s : State) : exec (.iinOcFaultLimit) s = execIinOcFaultLimit s := rfl
@[simp] theorem exec_pinOpWarnLimit (s : State) : exec (.pinOpWarnLimit) s = execPinOpWarnLimit s := rfl
@[simp] theorem exec_statusByte (s : State) : exec (.statusByte) s = execStatusByte s := rfl
@[simp] theorem exec_statusWord (s : State) : exec (.statusWord) s = execStatusWord s := rfl
@[simp] theorem exec_statusInput (s : State) : exec (.statusInput) s = execStatusInput s := rfl
@[simp] theorem exec_statusTemperature (s : State) : exec (.statusTemperature) s = execStatusTemperature s := rfl
@[simp] theorem exec_statusCml (s : State) : exec (.statusCml) s = execStatusCml s := rfl
@[simp] theorem exec_statusMfrSpecific (s : State) : exec (.statusMfrSpecific) s = execStatusMfrSpecific s := rfl
@[simp] theorem exec_readVin (s : State) : exec (.readVin) s = execReadVin s := rfl
@[simp] theorem exec_readIin (s : State) : exec (.readIin) s = execReadIin s := rfl
@[simp] theorem exec_readTemperature1 (s : State) : exec (.readTemperature1) s = execReadTemperature1 s := rfl
@[simp] theorem exec_readPin (s : State) : exec (.readPin) s = execReadPin s := rfl
@[simp] theorem exec_pmbusRevision (s : State) : exec (.pmbusRevision) s = execPmbusRevision s := rfl
@[simp] theorem exec_mfrId (s : State) : exec (.mfrId) s = execMfrId s := rfl
@[simp] theorem exec_mfrModel (s : State) : exec (.mfrModel) s = execMfrModel s := rfl
@[simp] theorem exec_alertResponse (s : State) : exec (.alertResponse) s = execAlertResponse s := rfl
@[simp] theorem exec_pmbusUnsupported code rd pecOk (s : State) : exec (.pmbusUnsupported code rd pecOk) s = execPmbusUnsupported code rd pecOk s := rfl
@[simp] theorem exec_refclkEdge (s : State) : exec (.refclkEdge) s = execRefclkEdge s := rfl
@[simp] theorem exec_alignmentLineRise (s : State) : exec (.alignmentLineRise) s = execAlignmentLineRise s := rfl
@[simp] theorem exec_meterSupplyValid (s : State) : exec (.meterSupplyValid) s = execMeterSupplyValid s := rfl
@[simp] theorem exec_aonStartTimeout (s : State) : exec (.aonStartTimeout) s = execAonStartTimeout s := rfl

end Sys2Proof.Machine
end

