-- ==== Sys2Proof/Laws/Frame.lean ====
section
/-! SUPPORT. What an operation leaves alone: the byte stores and the queue of commands, through conditionals and folds. -/

namespace Sys2Proof.Machine

/-- The stores and the queue of commands are as they were. -/
abbrev Kept (s t : State) : Prop := t.mem = s.mem ∧ t.pending = s.pending

@[simp] theorem mem_ite (c : Prop) [Decidable c] (a b : State) :
    (if c then a else b).mem = if c then a.mem else b.mem := apply_ite _ _ _ _
@[simp] theorem pending_ite (c : Prop) [Decidable c] (a b : State) :
    (if c then a else b).pending = if c then a.pending else b.pending := apply_ite _ _ _ _
@[simp] theorem mem_dite (c : Prop) [Decidable c] (a : c → State) (b : ¬c → State) :
    (if h : c then a h else b h).mem = if h : c then (a h).mem else (b h).mem := apply_dite _ _ _ _
@[simp] theorem pending_dite (c : Prop) [Decidable c] (a : c → State) (b : ¬c → State) :
    (if h : c then a h else b h).pending = if h : c then (a h).pending else (b h).pending := apply_dite _ _ _ _
theorem kept_ite {s a b : State} {c : Prop} [Decidable c] (ha : c → Kept s a) (hb : ¬c → Kept s b) :
    Kept s (if c then a else b) := by
  split
  · exact ha ‹_›
  · exact hb ‹_›
@[simp] theorem foldl_kept {α : Type} (g : State → α → State) (l : List α) (s : State)
    (h : ∀ s x, (g s x).mem = s.mem ∧ (g s x).pending = s.pending) :
    (l.foldl g s).mem = s.mem ∧ (l.foldl g s).pending = s.pending := by
  induction l generalizing s with
  | nil => exact ⟨rfl, rfl⟩
  | cons x l ih => rw [List.foldl_cons]; exact ⟨(ih _).1.trans (h s x).1, (ih _).2.trans (h s x).2⟩
/-- The outcome is a next state with the stores and the queue as they were. -/
def Answers (s : State) (o : Out) : Prop := ∃ t, o = .next t ∧ Kept s t
theorem answers_next {s t : State} (h : Kept s t) : Answers s (.next t) := ⟨t, rfl, h⟩
theorem foldl_fst_kept {α β : Type} (g : State × β → α → State × β) (l : List α) (x : State × β)
    (h : ∀ x a, (g x a).1.mem = x.1.mem ∧ (g x a).1.pending = x.1.pending) : Kept x.1 (l.foldl g x).1 := by
  induction l generalizing x with
  | nil => exact ⟨rfl, rfl⟩
  | cons a l ih => rw [List.foldl_cons]; exact ⟨(ih _).1.trans (h x a).1, (ih _).2.trans (h x a).2⟩
theorem Kept.trans {a b c : State} (h : Kept a b) (k : Kept b c) : Kept a c := ⟨k.1.trans h.1, k.2.trans h.2⟩
@[simp] theorem answers_next_iff {s t : State} : Answers s (.next t) ↔ t.mem = s.mem ∧ t.pending = s.pending :=
  ⟨fun ⟨_, h, k⟩ => by cases h; exact k, fun h => answers_next h⟩

end Sys2Proof.Machine
end

