-- ==== Sys2Proof/Laws/FrameBlock.lean ====
section
/-! SUPPORT. The stores and the queue stay as they are through the shared operations, power, sheaves, set-points, notices and the estimator: one lemma for each operation and meaning. -/

namespace Sys2Proof.Machine

@[simp] theorem powered_kept (s : State) (f : State → State) (hf : ∀ s, (f s).mem = s.mem ∧ (f s).pending = s.pending) :
    Answers s (powered s f) := by simp [hf, powered]

@[simp] theorem awake_kept (s : State) (f : State → State) (hf : ∀ s, (f s).mem = s.mem ∧ (f s).pending = s.pending) :
    Answers s (awake s f) := by simp [hf, awake]

@[simp] theorem bus_kept (s : State) (f : State → State) (hf : ∀ s, (f s).mem = s.mem ∧ (f s).pending = s.pending) :
    Answers s (bus s f) := by simp [hf, bus]

@[simp] theorem live_kept (s : State) (f : State → State) (hf : ∀ s, (f s).mem = s.mem ∧ (f s).pending = s.pending) :
    Answers s (live s f) := by simp [hf, live]

@[simp] theorem sheafStep_kept (s : State) (f : State → State) (hf : ∀ s, (f s).mem = s.mem ∧ (f s).pending = s.pending) :
    Answers s (sheafStep s f) := by simp [hf, sheafStep]

@[simp] theorem setDomSt_kept (s : State) (d : Nat) (x : DomSt) :
    (setDomSt s d x).mem = s.mem ∧ (setDomSt s d x).pending = s.pending := by simp [setDomSt]

@[simp] theorem raiseWith_kept (s : State) (b : Fin 10) (src : Nat) (subj : Nat) (inj : Bool) (noCap : Bool) (cap :
    Option (List Byte)) :
    (raiseWith s b src subj inj noCap cap).mem = s.mem ∧ (raiseWith s b src subj inj noCap cap).pending = s.pending :=
  by simp [raiseWith]

@[simp] theorem raise_kept (s : State) (b : Fin 10) (src : Nat) (subj : Nat) :
    (raise s b src subj).mem = s.mem ∧ (raise s b src subj).pending = s.pending := by simp [raise]

@[simp] theorem raiseShf_kept (s : State) (d : Nat) (b : Fin 10) (src : Nat) (subj : Nat) :
    (raiseShf s d b src subj).mem = s.mem ∧ (raiseShf s d b src subj).pending = s.pending := by simp [raiseShf]

@[simp] theorem raiseDeferred_kept (s : State) (d : Nat) :
    (raiseDeferred s d).mem = s.mem ∧ (raiseDeferred s d).pending = s.pending := by simp [raiseDeferred]

@[simp] theorem modSp_kept (s : State) (d : Nat) (f : Sp → Sp) :
    (modSp s d f).mem = s.mem ∧ (modSp s d f).pending = s.pending := by simp [modSp]

@[simp] theorem modGw_kept (s : State) (d : Nat) (f : Gw → Gw) :
    (modGw s d f).mem = s.mem ∧ (modGw s d f).pending = s.pending := by simp [modGw]

@[simp] theorem modShf_kept (s : State) (d : Nat) (f : Shf → Shf) :
    (modShf s d f).mem = s.mem ∧ (modShf s d f).pending = s.pending := by simp [modShf]

@[simp] theorem modShw_kept (s : State) (d : Nat) (f : ShfW → ShfW) :
    (modShw s d f).mem = s.mem ∧ (modShw s d f).pending = s.pending := by simp [modShw]

@[simp] theorem modShr_kept (s : State) (d : Nat) (f : Shr → Shr) :
    (modShr s d f).mem = s.mem ∧ (modShr s d f).pending = s.pending := by simp [modShr]

@[simp] theorem modPh_kept (s : State) (p : Nat) (f : Ph → Ph) :
    (modPh s p f).mem = s.mem ∧ (modPh s p f).pending = s.pending := by simp [modPh]

@[simp] theorem modPhw_kept (s : State) (p : Nat) (f : PhW → PhW) :
    (modPhw s p f).mem = s.mem ∧ (modPhw s p f).pending = s.pending := by simp [modPhw]

@[simp] theorem modPd_kept (s : State) (d : Nat) (f : PDom → PDom) :
    (modPd s d f).mem = s.mem ∧ (modPd s d f).pending = s.pending := by simp [modPd]

@[simp] theorem modNd_kept (s : State) (d : Nat) (f : NDom → NDom) :
    (modNd s d f).mem = s.mem ∧ (modNd s d f).pending = s.pending := by simp [modNd]

@[simp] theorem modEstd_kept (s : State) (d : Nat) (f : EstD → EstD) :
    (modEstd s d f).mem = s.mem ∧ (modEstd s d f).pending = s.pending := by simp [modEstd]

@[simp] theorem modDom_kept (s : State) (d : Nat) (f : Dom → Dom) :
    (modDom s d f).mem = s.mem ∧ (modDom s d f).pending = s.pending := by simp [modDom]

@[simp] theorem reseedB_kept (s : State) (d : Nat) :
    (reseedB s d).mem = s.mem ∧ (reseedB s d).pending = s.pending := by simp [reseedB]

@[simp] theorem settleToken_kept (s : State) (d : Nat) :
    (settleToken s d).mem = s.mem ∧ (settleToken s d).pending = s.pending := by simp [settleToken]

@[simp] theorem passToken_kept (s : State) (d : Nat) (k : Nat) :
    (passToken s d k).mem = s.mem ∧ (passToken s d k).pending = s.pending := by simp [passToken]

@[simp] theorem restoreShed_kept (s : State) (d : Nat) :
    (restoreShed s d).mem = s.mem ∧ (restoreShed s d).pending = s.pending := by simp [restoreShed]

@[simp] theorem restoreFar_kept (s : State) (d : Nat) :
    (restoreFar s d).mem = s.mem ∧ (restoreFar s d).pending = s.pending := by simp [restoreFar]

@[simp] theorem retargetTo_kept (s : State) (d : Nat) (t : Int) (cmd : Bool) :
    (retargetTo s d t cmd).mem = s.mem ∧ (retargetTo s d t cmd).pending = s.pending := by simp [retargetTo]

@[simp] theorem retarget_kept (s : State) (d : Nat) (cmd : Bool) :
    (retarget s d cmd).mem = s.mem ∧ (retarget s d cmd).pending = s.pending :=
  by unfold retarget; (repeat' split) <;> simp

@[simp] theorem retargetAll_kept (s : State) :
    (retargetAll s).mem = s.mem ∧ (retargetAll s).pending = s.pending := by simp [retargetAll]

@[simp] theorem setDeadline_kept (s : State) (d : Nat) (b : Nat) :
    (setDeadline s d b).mem = s.mem ∧ (setDeadline s d b).pending = s.pending := by simp [setDeadline]

@[simp] theorem setVopCode_kept (s : State) (d : Nat) (v : Nat) (code : Nat) (cmd : Bool) (b : Nat) :
    (setVopCode s d v code cmd b).mem = s.mem ∧ (setVopCode s d v code cmd b).pending = s.pending :=
  by simp [setVopCode]

@[simp] theorem setVop_kept (s : State) (d : Nat) (v : Nat) (cmd : Bool) :
    (setVop s d v cmd).mem = s.mem ∧ (setVop s d v cmd).pending = s.pending := by simp [setVop]

@[simp] theorem askClock_kept (s : State) (d : Nat) (n : Nat) :
    (askClock s d n).mem = s.mem ∧ (askClock s d n).pending = s.pending := by simp [askClock]

@[simp] theorem raiseWaits_kept (s : State) (d : Nat) :
    (raiseWaits s d).mem = s.mem ∧ (raiseWaits s d).pending = s.pending := by simp [raiseWaits]

@[simp] theorem followOp_kept (s : State) (d : Nat) (cmd : Bool) :
    (followOp s d cmd).mem = s.mem ∧ (followOp s d cmd).pending = s.pending := by simp [followOp]

@[simp] theorem holdDom_kept (s : State) (d : Nat) :
    (holdDom s d).mem = s.mem ∧ (holdDom s d).pending = s.pending := by simp [holdDom]

@[simp] theorem followHeld_kept (s : State) (d : Nat) :
    (followHeld s d).mem = s.mem ∧ (followHeld s d).pending = s.pending := by simp [followHeld]

@[simp] theorem protEvent_kept (s : State) :
    (protEvent s).mem = s.mem ∧ (protEvent s).pending = s.pending := by simp [protEvent]

@[simp] theorem addDebt_kept (s : State) (d : Nat) (n : Nat) :
    (addDebt s d n).mem = s.mem ∧ (addDebt s d n).pending = s.pending := by simp [addDebt]

@[simp] theorem lagAll_kept (s : State) :
    (lagAll s).mem = s.mem ∧ (lagAll s).pending = s.pending := by simp [lagAll]

@[simp] theorem classP_kept (s : State) :
    (classP s).mem = s.mem ∧ (classP s).pending = s.pending := by unfold classP; split <;> simp

@[simp] theorem assignRoles_kept (s : State) (d : Nat) :
    (assignRoles s d).mem = s.mem ∧ (assignRoles s d).pending = s.pending := by simp [assignRoles]

@[simp] theorem phasesOff_kept (s : State) (d : Nat) :
    (phasesOff s d).mem = s.mem ∧ (phasesOff s d).pending = s.pending := by simp [phasesOff]

@[simp] theorem startSheaf_kept (s : State) (d : Nat) :
    (startSheaf s d).mem = s.mem ∧ (startSheaf s d).pending = s.pending := by simp [startSheaf]

@[simp] theorem restartSheaf_kept (s : State) (d : Nat) :
    (restartSheaf s d).mem = s.mem ∧ (restartSheaf s d).pending = s.pending := by simp [restartSheaf]

@[simp] theorem stopSheaf_kept (s : State) (d : Nat) :
    (stopSheaf s d).mem = s.mem ∧ (stopSheaf s d).pending = s.pending := by simp [stopSheaf]

@[simp] theorem fireOver_kept (s : State) (d : Nat) :
    (fireOver s d).mem = s.mem ∧ (fireOver s d).pending = s.pending := by unfold fireOver; split <;> simp

@[simp] theorem leaveFire_kept (s : State) (d : Nat) (k : Nat) :
    (leaveFire s d k).mem = s.mem ∧ (leaveFire s d k).pending = s.pending := by unfold leaveFire; split <;> simp

@[simp] theorem dropNotice_kept (s : State) (d : Nat) :
    (dropNotice s d).mem = s.mem ∧ (dropNotice s d).pending = s.pending := by simp [dropNotice]

@[simp] theorem leaveOn_kept (s : State) (d : Nat) :
    (leaveOn s d).mem = s.mem ∧ (leaveOn s d).pending = s.pending := by simp [leaveOn]

@[simp] theorem zeroVcmd_kept (s : State) (d : Nat) :
    (zeroVcmd s d).mem = s.mem ∧ (zeroVcmd s d).pending = s.pending := by simp [zeroVcmd]

@[simp] theorem modLa_kept (s : State) (l : Nat) (f : LaLoop → LaLoop) :
    (modLa s l f).mem = s.mem ∧ (modLa s l f).pending = s.pending := by simp [modLa]

@[simp] theorem goDark_kept (s : State) (d : Nat) :
    (goDark s d).mem = s.mem ∧ (goDark s d).pending = s.pending := by simp [goDark]

@[simp] theorem darkMove_kept (s : State) (d : Nat) :
    (darkMove s d).mem = s.mem ∧ (darkMove s d).pending = s.pending := by simp [darkMove]

@[simp] theorem darken_kept (s : State) (d : Nat) :
    (darken s d).mem = s.mem ∧ (darken s d).pending = s.pending := by simp [darken]

@[simp] theorem gateDom_kept (s : State) (d : Nat) (slow : Bool) (retain : Bool) :
    (gateDom s d slow retain).1.mem = s.mem ∧ (gateDom s d slow retain).1.pending = s.pending :=
  by unfold gateDom; (repeat' split) <;> simp

@[simp] theorem laLadder_kept (s : State) (l : Nat) :
    (laLadder s l).mem = s.mem ∧ (laLadder s l).pending = s.pending := by simp [laLadder]

@[simp] theorem zeroDuty_kept (s : State) (l : Nat) :
    (zeroDuty s l).mem = s.mem ∧ (zeroDuty s l).pending = s.pending := by simp [zeroDuty]

@[simp] theorem wakeRun_kept (s : State) (d : Nat) :
    (wakeRun s d).mem = s.mem ∧ (wakeRun s d).pending = s.pending := by simp [wakeRun]

@[simp] theorem wakeRefuse_kept (s : State) (d : Nat) :
    (wakeRefuse s d).mem = s.mem ∧ (wakeRefuse s d).pending = s.pending := by simp [wakeRefuse]

@[simp] theorem dropWake_kept (s : State) (d : Nat) :
    (dropWake s d).mem = s.mem ∧ (dropWake s d).pending = s.pending := by simp [dropWake]

@[simp] theorem wakeForce_kept (s : State) (d : Nat) :
    (wakeForce s d).mem = s.mem ∧ (wakeForce s d).pending = s.pending := by simp [wakeForce]

@[simp] theorem wakeStart_kept (s : State) (d : Nat) (slow : Bool) (dl : Nat) (b : Nat) :
    (wakeStart s d slow dl b).mem = s.mem ∧ (wakeStart s d slow dl b).pending = s.pending :=
  by unfold wakeStart; (repeat' split) <;> simp

@[simp] theorem wakeDom_kept (s : State) (d : Nat) (slow : Bool) (dl : Nat) (b : Nat) :
    (wakeDom s d slow dl b).1.mem = s.mem ∧ (wakeDom s d slow dl b).1.pending = s.pending :=
  by unfold wakeDom; dsimp only; (repeat' split) <;> simp

@[simp] theorem serviceStop_kept (s : State) :
    (serviceStop s).mem = s.mem ∧ (serviceStop s).pending = s.pending := by simp [serviceStop]

@[simp] theorem supplyLost_kept (s : State) :
    (supplyLost s).mem = s.mem ∧ (supplyLost s).pending = s.pending := by simp [supplyLost]

@[simp] theorem ladderUpdate_kept (s : State) (d : Nat) :
    (ladderUpdate s d).mem = s.mem ∧ (ladderUpdate s d).pending = s.pending := by simp [ladderUpdate]

@[simp] theorem excludePh_kept (s : State) (p : Nat) (cause : Nat) :
    (excludePh s p cause).mem = s.mem ∧ (excludePh s p cause).pending = s.pending := by simp [excludePh]

@[simp] theorem heldAct_kept (s : State) (d : Nat) (a : HeldAct) :
    (heldAct s d a).mem = s.mem ∧ (heldAct s d a).pending = s.pending := by unfold heldAct; split <;> simp

@[simp] theorem modBm_kept (s : State) (m : Fin 4) (f : Bm → Bm) :
    (modBm s m f).mem = s.mem ∧ (modBm s m f).pending = s.pending := by simp [modBm]

@[simp] theorem modEpp_kept (s : State) (c : Fin 16) (f : Epp → Epp) :
    (modEpp s c f).mem = s.mem ∧ (modEpp s c f).pending = s.pending := by simp [modEpp]

@[simp] theorem afterLeave_kept (s : State) (wasRun : Bool) :
    (afterLeave s wasRun).mem = s.mem ∧ (afterLeave s wasRun).pending = s.pending := by simp [afterLeave]

@[simp] theorem aonRise_kept (s : State) :
    (aonRise s).mem = s.mem ∧ (aonRise s).pending = s.pending := by simp [aonRise]

@[simp] theorem bmStart_kept (s : State) (m : Fin 4) (mode : Nat) :
    (bmStart s m mode).mem = s.mem ∧ (bmStart s m mode).pending = s.pending := by simp [bmStart]

@[simp] theorem effBmModeRun_kept (m : Fin 4) (s : State) :
    (effBmModeRun m s).mem = s.mem ∧ (effBmModeRun m s).pending = s.pending :=
  by unfold effBmModeRun; dsimp only; (repeat' split) <;> simp

@[simp] theorem execBmModeRun_kept (m : Fin 4) (s : State) :
    Answers s (execBmModeRun m s) := by simp [execBmModeRun]

@[simp] theorem effBmModePilot_kept (m : Fin 4) (s : State) :
    (effBmModePilot m s).mem = s.mem ∧ (effBmModePilot m s).pending = s.pending :=
  by unfold effBmModePilot; dsimp only; (repeat' split) <;> simp

@[simp] theorem execBmModePilot_kept (m : Fin 4) (s : State) :
    Answers s (execBmModePilot m s) := by simp [execBmModePilot]

@[simp] theorem effBmModeOff_kept (m : Fin 4) (s : State) :
    (effBmModeOff m s).mem = s.mem ∧ (effBmModeOff m s).pending = s.pending :=
  by unfold effBmModeOff; dsimp only; split <;> simp

@[simp] theorem execBmModeOff_kept (m : Fin 4) (s : State) :
    Answers s (execBmModeOff m s) := by simp [execBmModeOff]

@[simp] theorem effBmStartingEnd_kept (m : Fin 4) (s : State) :
    (effBmStartingEnd m s).mem = s.mem ∧ (effBmStartingEnd m s).pending = s.pending := by simp [effBmStartingEnd]

@[simp] theorem execBmStartingEnd_kept (m : Fin 4) (s : State) :
    Answers s (execBmStartingEnd m s) := by simp [execBmStartingEnd]

@[simp] theorem bootNext_kept (s : State) (m : Fin 4) :
    (bootNext s m).mem = s.mem ∧ (bootNext s m).pending = s.pending := by simp [bootNext]

@[simp] theorem effBmFault_kept (m : Fin 4) (cause : Nat) (iout : Int) (s : State) :
    (effBmFault m cause iout s).mem = s.mem ∧ (effBmFault m cause iout s).pending = s.pending :=
  by simp [effBmFault]

@[simp] theorem execBmFault_kept (m : Fin 4) (x : BmTrip) (s : State) :
    Answers s (execBmFault m x s) := by simp [execBmFault]

@[simp] theorem execBmClrcnt_kept (m : Fin 4) (s : State) :
    Answers s (execBmClrcnt m s) := by simp [execBmClrcnt]

@[simp] theorem execClrmm_kept (s : State) :
    Answers s (execClrmm s) := by simp [execClrmm]

@[simp] theorem laReturn_kept (s : State) (d : Nat) :
    (laReturn s d).mem = s.mem ∧ (laReturn s d).pending = s.pending := by simp [laReturn]

@[simp] theorem effEppEnWrite_kept (c : Fin 16) (en : Bool) (s : State) :
    (effEppEnWrite c en s).mem = s.mem ∧ (effEppEnWrite c en s).pending = s.pending := by simp [effEppEnWrite]

@[simp] theorem execEppEnWrite_kept (c : Fin 16) (en : Bool) (s : State) :
    Answers s (execEppEnWrite c en s) := by simp [execEppEnWrite]

@[simp] theorem execEppClrcnt_kept (c : Fin 16) (s : State) :
    Answers s (execEppClrcnt c s) := by simp [execEppClrcnt]

@[simp] theorem effEppDutyUpdate_kept (l : Fin 4) (vsns : Int) (isns : List Int) (s : State) :
    (effEppDutyUpdate l vsns isns s).mem = s.mem ∧ (effEppDutyUpdate l vsns isns s).pending = s.pending :=
  by simp [effEppDutyUpdate]

@[simp] theorem execEppDutyUpdate_kept (l : Fin 4) (vsns : Int) (isns : List Int) (s : State) :
    Answers s (execEppDutyUpdate l vsns isns s) := by simp [execEppDutyUpdate]

@[simp] theorem effEppOutOfService_kept (c : Fin 16) (tflt : Bool) (s : State) :
    (effEppOutOfService c tflt s).mem = s.mem ∧ (effEppOutOfService c tflt s).pending = s.pending :=
  by simp [effEppOutOfService]

@[simp] theorem execEppOutOfService_kept (c : Fin 16) (tflt : Bool) (s : State) :
    Answers s (execEppOutOfService c tflt s) := by simp [execEppOutOfService]

@[simp] theorem ripAll_kept (s : State) (d : Nat) (t : Nat) :
    (ripAll s d t).mem = s.mem ∧ (ripAll s d t).pending = s.pending := by simp [ripAll]

@[simp] theorem effVbSample_kept (i : Fin 93) (vb : Nat) (t : Nat) (s : State) :
    (effVbSample i vb t s).mem = s.mem ∧ (effVbSample i vb t s).pending = s.pending := by simp [effVbSample]

@[simp] theorem execVbSample_kept (i : Fin 93) (vb : Timed Nat) (s : State) :
    Answers s (execVbSample i vb s) := by simp [execVbSample]

@[simp] theorem estCurrent_kept (s : State) (d : Nat) (isw : Int) :
    (estCurrent s d isw).mem = s.mem ∧ (estCurrent s d isw).pending = s.pending := by simp [estCurrent]

@[simp] theorem effSwrefPeriod_kept (i : Fin 93) (cur : List Int) (vfly : List Nat) (tind : List Int) (t : Nat) (s :
    State) :
    (effSwrefPeriod i cur vfly tind t s).mem = s.mem ∧ (effSwrefPeriod i cur vfly tind t s).pending = s.pending :=
  by simp [effSwrefPeriod]

@[simp] theorem execSwrefPeriod_kept (i : Fin 93) (cur : Timed (List Int)) (vfly : List Nat) (tind : List Int) (s :
    State) :
    Answers s (execSwrefPeriod i cur vfly tind s) := by simp [execSwrefPeriod]

@[simp] theorem effConductionIntervalStart_kept (i : Fin 93) (k : Fin 9) (node : Int) (t : Nat) (s : State) :
    (effConductionIntervalStart i k node t s).mem = s.mem ∧ (effConductionIntervalStart i k node t s).pending = s.pending :=
  by simp [effConductionIntervalStart]

@[simp] theorem execConductionIntervalStart_kept (i : Fin 93) (k : Fin 9) (node : Timed Int) (s : State) :
    Answers s (execConductionIntervalStart i k node s) := by simp [execConductionIntervalStart]

@[simp] theorem effConductionIntervalEnd_kept (i : Fin 93) (k : Fin 9) (node : Int) (peak : Int) (t : Nat) (s : State) :
    (effConductionIntervalEnd i k node peak t s).mem = s.mem ∧ (effConductionIntervalEnd i k node peak t s).pending = s.pending :=
  by simp [effConductionIntervalEnd]

@[simp] theorem execConductionIntervalEnd_kept (i : Fin 93) (k : Fin 9) (node : Timed Int) (peak : Int) (s : State) :
    Answers s (execConductionIntervalEnd i k node peak s) := by simp [execConductionIntervalEnd]

@[simp] theorem effLockWindowEnd_kept (i : Fin 93) (err : List Int) (s : State) :
    (effLockWindowEnd i err s).mem = s.mem ∧ (effLockWindowEnd i err s).pending = s.pending :=
  by simp [effLockWindowEnd]

@[simp] theorem execLockWindowEnd_kept (i : Fin 93) (err : List Int) (s : State) :
    Answers s (execLockWindowEnd i err s) := by simp [execLockWindowEnd]

@[simp] theorem pilotSet_kept (s : State) (v : Int) :
    (pilotSet s v).mem = s.mem ∧ (pilotSet s v).pending = s.pending := by simp [pilotSet]

@[simp] theorem effTrimCycleEnd_kept (i : Fin 93) (samp : List (Int × Int)) (idom : Int) (s : State) :
    (effTrimCycleEnd i samp idom s).mem = s.mem ∧ (effTrimCycleEnd i samp idom s).pending = s.pending := by
  unfold effTrimCycleEnd
  have hs : Kept s s := ⟨rfl, rfl⟩
  show Kept s _
  repeat' first
    | with_reducible assumption
    | (extract_lets +onlyGivenNames -underBinder x
       first
         | (have hk : Kept s x := by
              dsimp only [x]
              repeat' first
                | with_reducible assumption
                | (extract_lets +onlyGivenNames -underBinder x
                   first
                     | (have hk : Kept s x := by
                          dsimp only [x]
                          repeat' first
                            | with_reducible assumption
                            | with_reducible refine kept_ite (fun _ => ?_) (fun _ => ?_)
                            | (unfold Kept; simp; done)
                            | (unfold Kept; simp; with_reducible assumption)
                            | split
                        clear_value x
                        revert x
                        intro y hy)
                     | (clear_value x
                        revert x
                        intro y))
                | with_reducible refine kept_ite (fun _ => ?_) (fun _ => ?_)
                | (unfold Kept; simp; done)
                | (unfold Kept; simp; with_reducible assumption)
                | split
            clear_value x
            revert x
            intro y hy)
         | (clear_value x
            revert x
            intro y))
    | with_reducible refine kept_ite (fun _ => ?_) (fun _ => ?_)
    | (unfold Kept; simp; done)
    | (unfold Kept; simp; with_reducible assumption)
    | split

@[simp] theorem execTrimCycleEnd_kept (i : Fin 93) (samp : List (Int × Int)) (idom : Int) (s : State) :
    Answers s (execTrimCycleEnd i samp idom s) := by simp [execTrimCycleEnd]

@[simp] theorem effPulseSkipStart_kept (i : Fin 93) (s : State) :
    (effPulseSkipStart i s).mem = s.mem ∧ (effPulseSkipStart i s).pending = s.pending :=
  by simp [effPulseSkipStart]

@[simp] theorem execPulseSkipStart_kept (i : Fin 93) (s : State) :
    Answers s (execPulseSkipStart i s) := by simp [execPulseSkipStart]

@[simp] theorem effPhaseShed_kept (i : Fin 93) (s : State) :
    (effPhaseShed i s).mem = s.mem ∧ (effPhaseShed i s).pending = s.pending :=
  by unfold effPhaseShed; dsimp only; (repeat' split) <;> simp

@[simp] theorem execPhaseShed_kept (i : Fin 93) (s : State) :
    Answers s (execPhaseShed i s) := by simp [execPhaseShed]

@[simp] theorem effFireStart_kept (i : Fin 93) (node : Int) (gap : Nat) (s : State) :
    (effFireStart i node gap s).mem = s.mem ∧ (effFireStart i node gap s).pending = s.pending :=
  by simp [effFireStart]

@[simp] theorem execFireStart_kept (i : Fin 93) (node : Int) (gap : Nat) (s : State) :
    Answers s (execFireStart i node gap s) := by simp [execFireStart]

@[simp] theorem execFirePulseLimit_kept (i : Fin 93) (k : Fin 9) (s : State) :
    Answers s (execFirePulseLimit i k s) := by simp [execFirePulseLimit]

@[simp] theorem effFireEnd_kept (i : Fin 93) (node : Int) (s : State) :
    (effFireEnd i node s).mem = s.mem ∧ (effFireEnd i node s).pending = s.pending := by simp [effFireEnd]

@[simp] theorem execFireEnd_kept (i : Fin 93) (node : Int) (s : State) :
    Answers s (execFireEnd i node s) := by simp [execFireEnd]

@[simp] theorem effShfCfgWrite_kept (i : Fin 93) (v : Word32) (s : State) :
    (effShfCfgWrite i v s).mem = s.mem ∧ (effShfCfgWrite i v s).pending = s.pending := by simp [effShfCfgWrite]

@[simp] theorem execShfCfgWrite_kept (i : Fin 93) (v : Word32) (s : State) :
    Answers s (execShfCfgWrite i v s) := by simp [execShfCfgWrite]

@[simp] theorem execShfClrcnt_kept (i : Fin 93) (s : State) :
    Answers s (execShfClrcnt i s) := by simp [execShfClrcnt]

@[simp] theorem effSyncInLoss_kept (s : State) :
    (effSyncInLoss s).mem = s.mem ∧ (effSyncInLoss s).pending = s.pending := by simp [effSyncInLoss]

@[simp] theorem execSyncInLoss_kept (s : State) :
    Answers s (execSyncInLoss s) := by simp [execSyncInLoss]

@[simp] theorem execFallbkClear_kept (s : State) :
    Answers s (execFallbkClear s) := by simp [execFallbkClear]

@[simp] theorem effSwrefSourceChange_kept (s : State) :
    (effSwrefSourceChange s).mem = s.mem ∧ (effSwrefSourceChange s).pending = s.pending :=
  by simp [effSwrefSourceChange]

@[simp] theorem execSwrefSourceChange_kept (s : State) :
    Answers s (execSwrefSourceChange s) := by simp [execSwrefSourceChange]

@[simp] theorem coolHeld_kept (s : State) (d : Nat) :
    (coolHeld s d).mem = s.mem ∧ (coolHeld s d).pending = s.pending := by unfold coolHeld; (repeat' split) <;> simp

@[simp] theorem holdSheaf_kept (s : State) (d : Nat) (frz : Bool) :
    (holdSheaf s d frz).mem = s.mem ∧ (holdSheaf s d frz).pending = s.pending := by simp [holdSheaf]

@[simp] theorem execHoldEnter_kept (i : Fin 93) (s : State) :
    Answers s (execHoldEnter i s) := by simp [execHoldEnter]

@[simp] theorem unholdSheaf_kept (s : State) (d : Nat) :
    (unholdSheaf s d).mem = s.mem ∧ (unholdSheaf s d).pending = s.pending := by simp [unholdSheaf]

@[simp] theorem modPend_kept (s : State) (d : Nat) (e : Nat) (f : Pend → Pend) :
    (modPend s d e f).mem = s.mem ∧ (modPend s d e f).pending = s.pending := by simp [modPend]

@[simp] theorem effNoticeRestore_kept (i : Fin 93) (e : Nat) (s : State) :
    (effNoticeRestore i e s).mem = s.mem ∧ (effNoticeRestore i e s).pending = s.pending :=
  by unfold effNoticeRestore; split <;> simp

@[simp] theorem execNoticeRestore_kept (i : Fin 93) (e : Nat) (s : State) :
    Answers s (execNoticeRestore i e s) := by simp [execNoticeRestore]

@[simp] theorem effNoticeRampStart_kept (i : Fin 93) (e : Nat) (t : Nat) (s : State) :
    (effNoticeRampStart i e t s).mem = s.mem ∧ (effNoticeRampStart i e t s).pending = s.pending :=
  by unfold effNoticeRampStart; dsimp only; split <;> simp

@[simp] theorem execNoticeRampStart_kept (i : Fin 93) (e : Timed Nat) (s : State) :
    Answers s (execNoticeRampStart i e s) := by simp [execNoticeRampStart]

@[simp] theorem effPreliftEnter_kept (d : Fin 128) (e : Nat) (s : State) :
    (effPreliftEnter d e s).mem = s.mem ∧ (effPreliftEnter d e s).pending = s.pending :=
  by unfold effPreliftEnter; split <;> simp

@[simp] theorem execPreliftEnter_kept (d : Fin 128) (e : Nat) (s : State) :
    Answers s (execPreliftEnter d e s) := by simp [execPreliftEnter]

@[simp] theorem effPreliftLeave_kept (d : Fin 128) (e : Nat) (s : State) :
    (effPreliftLeave d e s).mem = s.mem ∧ (effPreliftLeave d e s).pending = s.pending :=
  by unfold effPreliftLeave; split <;> simp

@[simp] theorem execPreliftLeave_kept (d : Fin 128) (e : Nat) (s : State) :
    Answers s (execPreliftLeave d e s) := by simp [execPreliftLeave]

@[simp] theorem execReversalHoldEnd_kept (d : Fin 128) (s : State) :
    Answers s (execReversalHoldEnd d s) := by simp [execReversalHoldEnd]

@[simp] theorem feSettled_kept (s : State) (d : Nat) :
    (feSettled s d).mem = s.mem ∧ (feSettled s d).pending = s.pending := by simp [feSettled]

@[simp] theorem effFrequencyRaiseRequest_kept (d : Fin 128) (vlow : Int) (s : State) :
    (effFrequencyRaiseRequest d vlow s).mem = s.mem ∧ (effFrequencyRaiseRequest d vlow s).pending = s.pending :=
  by simp [effFrequencyRaiseRequest]

@[simp] theorem execFrequencyRaiseRequest_kept (d : Fin 128) (vlow : Int) (s : State) :
    Answers s (execFrequencyRaiseRequest d vlow s) := by simp [execFrequencyRaiseRequest]

@[simp] theorem effFrequencyLowerApplied_kept (d : Fin 128) (s : State) :
    (effFrequencyLowerApplied d s).mem = s.mem ∧ (effFrequencyLowerApplied d s).pending = s.pending :=
  by unfold effFrequencyLowerApplied; split <;> simp

@[simp] theorem execFrequencyLowerApplied_kept (d : Fin 128) (s : State) :
    Answers s (execFrequencyLowerApplied d s) := by simp [execFrequencyLowerApplied]

@[simp] theorem effFeDeadline_kept (d : Fin 128) (vlow : Int) (s : State) :
    (effFeDeadline d vlow s).mem = s.mem ∧ (effFeDeadline d vlow s).pending = s.pending := by simp [effFeDeadline]

@[simp] theorem execFeDeadline_kept (d : Fin 128) (vlow : Int) (s : State) :
    Answers s (execFeDeadline d vlow s) := by simp [execFeDeadline]

@[simp] theorem effHeaderStageOpen_kept (d : Fin 128) (s : State) :
    (effHeaderStageOpen d s).mem = s.mem ∧ (effHeaderStageOpen d s).pending = s.pending :=
  by simp [effHeaderStageOpen]

@[simp] theorem execHeaderStageOpen_kept (d : Fin 128) (s : State) :
    Answers s (execHeaderStageOpen d s) := by simp [execHeaderStageOpen]

@[simp] theorem effHeaderStageClose_kept (d : Fin 128) (near : Bool) (ns : Nat) (s : State) :
    (effHeaderStageClose d near ns s).mem = s.mem ∧ (effHeaderStageClose d near ns s).pending = s.pending :=
  by simp [effHeaderStageClose]

@[simp] theorem execHeaderStageClose_kept (d : Fin 128) (near : Bool) (ns : Nat) (s : State) :
    Answers s (execHeaderStageClose d near ns s) := by simp [execHeaderStageClose]

@[simp] theorem goOff_kept (s : State) (d : Nat) :
    (goOff s d).mem = s.mem ∧ (goOff s d).pending = s.pending := by simp [goOff]

@[simp] theorem effGatingComplete_kept (d : Fin 128) (s : State) :
    (effGatingComplete d s).mem = s.mem ∧ (effGatingComplete d s).pending = s.pending :=
  by unfold effGatingComplete; dsimp only; split <;> simp

@[simp] theorem enterOn_kept (s : State) (d : Nat) :
    (enterOn s d).mem = s.mem ∧ (enterOn s d).pending = s.pending := by simp [enterOn]

@[simp] theorem effWakeComplete_kept (d : Fin 128) (s : State) :
    (effWakeComplete d s).mem = s.mem ∧ (effWakeComplete d s).pending = s.pending :=
  by unfold effWakeComplete; split <;> simp

@[simp] theorem effReadyRise_kept (d : Fin 128) (s : State) :
    (effReadyRise d s).mem = s.mem ∧ (effReadyRise d s).pending = s.pending :=
  by unfold effReadyRise; dsimp only; (repeat' split) <;> simp

@[simp] theorem execReadyRise_kept (d : Fin 128) (s : State) :
    Answers s (execReadyRise d s) := by simp [execReadyRise]

@[simp] theorem effFirstWakeOn_kept (d : Fin 128) (vlow : Int) (s : State) :
    (effFirstWakeOn d vlow s).mem = s.mem ∧ (effFirstWakeOn d vlow s).pending = s.pending :=
  by simp [effFirstWakeOn]

@[simp] theorem execFirstWakeOn_kept (d : Fin 128) (vlow : Int) (s : State) :
    Answers s (execFirstWakeOn d vlow s) := by simp [execFirstWakeOn]

@[simp] theorem effWakeForced_kept (d : Fin 128) (s : State) :
    (effWakeForced d s).mem = s.mem ∧ (effWakeForced d s).pending = s.pending := by simp [effWakeForced]

@[simp] theorem execWakeForced_kept (d : Fin 128) (s : State) :
    Answers s (execWakeForced d s) := by simp [execWakeForced]

@[simp] theorem wakeRetry_kept (s : State) (d : Nat) :
    (wakeRetry s d).mem = s.mem ∧ (wakeRetry s d).pending = s.pending := by simp [wakeRetry]

@[simp] theorem bankGate_kept (s : State) (m : Nat) (mask : Word64) :
    (bankGate s m mask).mem = s.mem ∧ (bankGate s m mask).pending = s.pending := by simp [bankGate]

@[simp] theorem execBankGateComplete_kept (m : Fin 16) (s : State) :
    Answers s (execBankGateComplete m s) := by simp [execBankGateComplete]

@[simp] theorem effBankWakeRequest_kept (m : Fin 16) (b : Fin 64) (s : State) :
    (effBankWakeRequest m b s).mem = s.mem ∧ (effBankWakeRequest m b s).pending = s.pending :=
  by simp [effBankWakeRequest]

@[simp] theorem execBankWakeRequest_kept (m : Fin 16) (b : Fin 64) (s : State) :
    Answers s (execBankWakeRequest m b s) := by simp [execBankWakeRequest]

@[simp] theorem effBankWakeReady_kept (m : Fin 16) (b : Fin 64) (s : State) :
    (effBankWakeReady m b s).mem = s.mem ∧ (effBankWakeReady m b s).pending = s.pending :=
  by simp [effBankWakeReady]

@[simp] theorem execBankWakeReady_kept (m : Fin 16) (b : Fin 64) (s : State) :
    Answers s (execBankWakeReady m b s) := by simp [execBankWakeReady]

@[simp] theorem execDomSpstatClrcnt_kept (d : Fin 128) (s : State) :
    Answers s (execDomSpstatClrcnt d s) := by simp [execDomSpstatClrcnt]

@[simp] theorem opselDom_kept (s : State) (d : Nat) (op : Nat) :
    (opselDom s d op).mem = s.mem ∧ (opselDom s d op).pending = s.pending := by simp [opselDom]

@[simp] theorem vsetDom_kept (s : State) (d : Nat) (v : Nat) (code : Nat) :
    (vsetDom s d v code).mem = s.mem ∧ (vsetDom s d v code).pending = s.pending := by simp [vsetDom]

@[simp] theorem llineDom_kept (s : State) (d : Nat) (z : Nat) :
    (llineDom s d z).mem = s.mem ∧ (llineDom s d z).pending = s.pending := by simp [llineDom]

@[simp] theorem execPhaseOpenDetect_kept (p : Fin 720) (s : State) :
    Answers s (execPhaseOpenDetect p s) := by simp [execPhaseOpenDetect]

@[simp] theorem execPhaseShortDetect_kept (p : Fin 720) (high : Bool) (s : State) :
    Answers s (execPhaseShortDetect p high s) := by simp [execPhaseShortDetect]

@[simp] theorem joinActive_kept (s : State) (p : Nat) :
    (joinActive s p).mem = s.mem ∧ (joinActive s p).pending = s.pending := by simp [joinActive]

@[simp] theorem effSpareActive_kept (i : Fin 93) (s : State) :
    (effSpareActive i s).mem = s.mem ∧ (effSpareActive i s).pending = s.pending := by simp [effSpareActive]

@[simp] theorem execSpareActive_kept (i : Fin 93) (s : State) :
    Answers s (execSpareActive i s) := by simp [execSpareActive]

@[simp] theorem execPhExclude_kept (p : Fin 720) (s : State) :
    Answers s (execPhExclude p s) := by simp [execPhExclude]

@[simp] theorem effReadmit_kept (p : Fin 720) (s : State) :
    (effReadmit p s).mem = s.mem ∧ (effReadmit p s).pending = s.pending := by simp [effReadmit]

@[simp] theorem execReadmit_kept (p : Fin 720) (s : State) :
    Answers s (execReadmit p s) := by simp [execReadmit]

@[simp] theorem execPhClrcnt_kept (p : Fin 720) (s : State) :
    Answers s (execPhClrcnt p s) := by simp [execPhClrcnt]

@[simp] theorem hiccupOff_kept (s : State) (p : Nat) (at' : Nat) :
    (hiccupOff s p at').mem = s.mem ∧ (hiccupOff s p at').pending = s.pending := by simp [hiccupOff]

@[simp] theorem effPhaseHiccupEnter_kept (p : Fin 720) (s : State) :
    (effPhaseHiccupEnter p s).mem = s.mem ∧ (effPhaseHiccupEnter p s).pending = s.pending :=
  by simp [effPhaseHiccupEnter]

@[simp] theorem execPhaseHiccupEnter_kept (p : Fin 720) (s : State) :
    Answers s (execPhaseHiccupEnter p s) := by simp [execPhaseHiccupEnter]

@[simp] theorem effPhaseHiccupRetry_kept (p : Fin 720) (s : State) :
    (effPhaseHiccupRetry p s).mem = s.mem ∧ (effPhaseHiccupRetry p s).pending = s.pending :=
  by simp [effPhaseHiccupRetry]

@[simp] theorem execPhaseHiccupRetry_kept (p : Fin 720) (s : State) :
    Answers s (execPhaseHiccupRetry p s) := by simp [execPhaseHiccupRetry]

@[simp] theorem execPhaseRetrySuccess_kept (p : Fin 720) (s : State) :
    Answers s (execPhaseRetrySuccess p s) := by simp [execPhaseRetrySuccess]

@[simp] theorem effDomainHiccup_kept (i : Fin 93) (s : State) :
    (effDomainHiccup i s).mem = s.mem ∧ (effDomainHiccup i s).pending = s.pending := by simp [effDomainHiccup]

@[simp] theorem execDomainHiccup_kept (i : Fin 93) (s : State) :
    Answers s (execDomainHiccup i s) := by simp [execDomainHiccup]

@[simp] theorem effDomainHiccupRestart_kept (i : Fin 93) (s : State) :
    (effDomainHiccupRestart i s).mem = s.mem ∧ (effDomainHiccupRestart i s).pending = s.pending :=
  by simp [effDomainHiccupRestart]

@[simp] theorem execDomainHiccupRestart_kept (i : Fin 93) (s : State) :
    Answers s (execDomainHiccupRestart i s) := by simp [execDomainHiccupRestart]

@[simp] theorem execDomainRetrySuccess_kept (i : Fin 93) (s : State) :
    Answers s (execDomainRetrySuccess i s) := by simp [execDomainRetrySuccess]

@[simp] theorem execLatchClear_kept (i : Fin 93) (s : State) :
    Answers s (execLatchClear i s) := by simp [execLatchClear]

@[simp] theorem effGleanerSweepStart_kept (i : Fin 93) (s : State) :
    (effGleanerSweepStart i s).mem = s.mem ∧ (effGleanerSweepStart i s).pending = s.pending :=
  by simp [effGleanerSweepStart]

@[simp] theorem execGleanerSweepStart_kept (i : Fin 93) (s : State) :
    Answers s (execGleanerSweepStart i s) := by simp [execGleanerSweepStart]

@[simp] theorem effPhaseHealthSweep_kept (i : Fin 93) (m : HealthMeas) (s : State) :
    (effPhaseHealthSweep i m s).mem = s.mem ∧ (effPhaseHealthSweep i m s).pending = s.pending :=
  by simp [effPhaseHealthSweep]

@[simp] theorem execPhaseHealthSweep_kept (i : Fin 93) (m : HealthMeas) (s : State) :
    Answers s (execPhaseHealthSweep i m s) := by simp [execPhaseHealthSweep]

@[simp] theorem effPlausibilitySweep_kept (i : Fin 93) (low : List Int) (node : Int) (s : State) :
    (effPlausibilitySweep i low node s).mem = s.mem ∧ (effPlausibilitySweep i low node s).pending = s.pending :=
  by simp [effPlausibilitySweep]

@[simp] theorem execPlausibilitySweep_kept (i : Fin 93) (low : List Int) (node : Int) (s : State) :
    Answers s (execPlausibilitySweep i low node s) := by simp [execPlausibilitySweep]

@[simp] theorem effBondMeasurement_kept (g : Fin 1232) (dv : Int) (i : Int) (s : State) :
    (effBondMeasurement g dv i s).mem = s.mem ∧ (effBondMeasurement g dv i s).pending = s.pending :=
  by simp [effBondMeasurement]

@[simp] theorem execBondMeasurement_kept (g : Fin 1232) (dv : Int) (i : Int) (s : State) :
    Answers s (execBondMeasurement g dv i s) := by simp [execBondMeasurement]

@[simp] theorem dropFull_kept (s : State) :
    (dropFull s).mem = s.mem ∧ (dropFull s).pending = s.pending := by simp [dropFull]

@[simp] theorem dropBad_kept (s : State) :
    (dropBad s).mem = s.mem ∧ (dropBad s).pending = s.pending := by simp [dropBad]

@[simp] theorem portTakeOne_kept (s : State) (x : Nat × Word64) :
    (portTakeOne s x).mem = s.mem ∧ (portTakeOne s x).pending = s.pending := by unfold portTakeOne; split <;> simp

@[simp] theorem portTake_kept (s : State) :
    (portTake s).mem = s.mem ∧ (portTake s).pending = s.pending := by simp [portTake]

@[simp] theorem portIn_kept (kind : Nat) (w : Word64) (s : State) :
    (portIn kind w s).mem = s.mem ∧ (portIn kind w s).pending = s.pending :=
  by unfold portIn; dsimp only; (repeat' split) <;> simp

@[simp] theorem execStep_kept (w : Word64) (s : State) :
    Answers s (execStep w s) := by simp [execStep]

@[simp] theorem execCancel_kept (w : Word64) (s : State) :
    Answers s (execCancel w s) := by simp [execCancel]

@[simp] theorem execArrive_kept (w : Word64) (s : State) :
    Answers s (execArrive w s) := by simp [execArrive]

@[simp] theorem arriveAt_kept (s : State) (core : Nat) (id : Nat) :
    (arriveAt s core id).mem = s.mem ∧ (arriveAt s core id).pending = s.pending := by simp [arriveAt]

@[simp] theorem effNoticeQueueRelease_kept (s : State) :
    (effNoticeQueueRelease s).mem = s.mem ∧ (effNoticeQueueRelease s).pending = s.pending :=
  by unfold effNoticeQueueRelease; (repeat' split) <;> simp

@[simp] theorem execNoticeQueueRelease_kept (s : State) :
    Answers s (execNoticeQueueRelease s) := by simp [execNoticeQueueRelease]

@[simp] theorem pendAdd_kept (s : State) (d : Nat) (e : Nat) (r : Nat) (c : Contr) :
    (pendAdd s d e r c).mem = s.mem ∧ (pendAdd s d e r c).pending = s.pending :=
  by unfold pendAdd; dsimp only; (repeat' split) <;> simp

@[simp] theorem stepArrive_kept (s : State) (src : Option Nat) (d : Nat) (dI : Int) (e : Nat) (r : Nat) (exempt : Bool) :
    (stepArrive s src d dI e r exempt).mem = s.mem ∧ (stepArrive s src d dI e r exempt).pending = s.pending :=
  by simp [stepArrive]

@[simp] theorem cancelArrive_kept (s : State) (src : Nat) (d : Nat) (e : Nat) (r : Nat) :
    (cancelArrive s src d e r).mem = s.mem ∧ (cancelArrive s src d e r).pending = s.pending :=
  by unfold cancelArrive; split <;> simp

@[simp] theorem effNoticeArrival_kept (s : State) :
    (effNoticeArrival s).mem = s.mem ∧ (effNoticeArrival s).pending = s.pending :=
  by unfold effNoticeArrival; dsimp only; (repeat' split) <;> simp

@[simp] theorem execNoticeArrival_kept (s : State) :
    Answers s (execNoticeArrival s) := by simp [execNoticeArrival]

@[simp] theorem discardNotice_kept (s : State) (pending : Bool) :
    (discardNotice s pending).mem = s.mem ∧ (discardNotice s pending).pending = s.pending :=
  by simp [discardNotice]

@[simp] theorem covEval_kept (s : State) (d : Nat) :
    (covEval s d).mem = s.mem ∧ (covEval s d).pending = s.pending := by simp [covEval]

@[simp] theorem effBarrierRelease_kept (s : State) :
    (effBarrierRelease s).mem = s.mem ∧ (effBarrierRelease s).pending = s.pending := by simp [effBarrierRelease]

@[simp] theorem execBarrierRelease_kept (s : State) :
    Answers s (execBarrierRelease s) := by simp [execBarrierRelease]

@[simp] theorem execEngineStartRequest_kept (c : Fin 64) (e : Fin 4) (s : State) :
    Answers s (execEngineStartRequest c e s) := by simp [execEngineStartRequest]

@[simp] theorem effEngineStartGrant_kept (c : Fin 64) (e : Fin 4) (s : State) :
    (effEngineStartGrant c e s).mem = s.mem ∧ (effEngineStartGrant c e s).pending = s.pending :=
  by unfold effEngineStartGrant; dsimp only; split <;> simp

@[simp] theorem execEngineStartGrant_kept (c : Fin 64) (e : Fin 4) (s : State) :
    Answers s (execEngineStartGrant c e s) := by simp [execEngineStartGrant]

@[simp] theorem execSeqTstatClrcnt_kept (s : State) :
    Answers s (execSeqTstatClrcnt s) := by simp [execSeqTstatClrcnt]

@[simp] theorem execSeqNstatClrcnt_kept (s : State) :
    Answers s (execSeqNstatClrcnt s) := by simp [execSeqNstatClrcnt]

@[simp] theorem execSeqNdomClrcnt_kept (d : Fin 128) (s : State) :
    Answers s (execSeqNdomClrcnt d s) := by simp [execSeqNdomClrcnt]

@[simp] theorem distrustDom_kept (s : State) (d : Nat) :
    (distrustDom s d).mem = s.mem ∧ (distrustDom s d).pending = s.pending := by simp [distrustDom]

@[simp] theorem trustDom_kept (s : State) (d : Nat) :
    (trustDom s d).mem = s.mem ∧ (trustDom s d).pending = s.pending := by simp [trustDom]

@[simp] theorem switchWeights_kept (s : State) :
    (switchWeights s).mem = s.mem ∧ (switchWeights s).pending = s.pending :=
  by unfold switchWeights; split <;> simp

@[simp] theorem countDistrust_kept (s : State) :
    (countDistrust s).mem = s.mem ∧ (countDistrust s).pending = s.pending := by simp [countDistrust]

@[simp] theorem effEstimatorLatch_kept (raw : List (List Nat)) (lines : List (Nat × Nat)) (s : State) :
    (effEstimatorLatch raw lines s).mem = s.mem ∧ (effEstimatorLatch raw lines s).pending = s.pending :=
  by unfold effEstimatorLatch; (repeat' split) <;> simp

@[simp] theorem execEstimatorLatch_kept (raw : List (List Nat)) (lines : List (Nat × Nat)) (s : State) :
    Answers s (execEstimatorLatch raw lines s) := by simp [execEstimatorLatch]

@[simp] theorem compareDom_kept (w : EWin) (s : State) (d : Nat) :
    (compareDom w s d).mem = s.mem ∧ (compareDom w s d).pending = s.pending := by simp [compareDom]

@[simp] theorem effEstimatorCompare_kept (s : State) :
    (effEstimatorCompare s).mem = s.mem ∧ (effEstimatorCompare s).pending = s.pending :=
  by unfold effEstimatorCompare; dsimp only; (repeat' split) <;> simp

@[simp] theorem execEstimatorCompare_kept (s : State) :
    Answers s (execEstimatorCompare s) := by simp [execEstimatorCompare]

@[simp] theorem applyDom_kept (a : Nat) (w : Option EWin) (s : State) (d : Nat) :
    (applyDom a w s d).mem = s.mem ∧ (applyDom a w s d).pending = s.pending := by unfold applyDom; split <;> simp

@[simp] theorem effEstimatorApply_kept (s : State) :
    (effEstimatorApply s).mem = s.mem ∧ (effEstimatorApply s).pending = s.pending :=
  by unfold effEstimatorApply; dsimp only; (repeat' split) <;> simp

@[simp] theorem execEstimatorApply_kept (s : State) :
    Answers s (execEstimatorApply s) := by simp [execEstimatorApply]

@[simp] theorem estBeat_kept (s : State) :
    (estBeat s).mem = s.mem ∧ (estBeat s).pending = s.pending := by simp [estBeat]

@[simp] theorem estRestart_kept (s : State) :
    (estRestart s).mem = s.mem ∧ (estRestart s).pending = s.pending := by simp [estRestart]

@[simp] theorem endEstTerms_kept (s : State) :
    (endEstTerms s).mem = s.mem ∧ (endEstTerms s).pending = s.pending := by simp [endEstTerms]

@[simp] theorem execEstClrcnt_kept (s : State) :
    Answers s (execEstClrcnt s) := by simp [execEstClrcnt]

@[simp] theorem loadWeights_kept (s : State) (img : List Byte) :
    (loadWeights s img).1.mem = s.mem ∧ (loadWeights s img).1.pending = s.pending :=
  by unfold loadWeights; dsimp only; split <;> simp

end Sys2Proof.Machine
end

