-- ==== Sys2Proof/Laws/FrameTrack.lean ====
section
/-! SUPPORT. The stores and the queue stay as they are through tracks, lanes, plans, the exact set, fault controls and actions: one lemma for each operation and meaning. -/

namespace Sys2Proof.Machine

@[simp] theorem tallyAdd_kept (s : State) (beat : Nat) (iword : Nat) (result : Nat) (source : Nat) (detail : Nat)
    (lanes : Nat) (aux : Nat) (cseq : Nat) :
    (tallyAdd s beat iword result source detail lanes aux cseq).mem = s.mem ∧ (tallyAdd s beat iword result source detail lanes aux cseq).pending = s.pending :=
  by simp [tallyAdd]

@[simp] theorem tallyEvent_kept (s : State) (beat : Nat) (source : Nat) (detail : Nat) (lanes : Nat) (aux : Nat) :
    (tallyEvent s beat source detail lanes aux).mem = s.mem ∧ (tallyEvent s beat source detail lanes aux).pending = s.pending :=
  by simp [tallyEvent]

@[simp] theorem tallyResult_kept (s : State) (t : Nat) (result : Nat) (detail : Nat) :
    (tallyResult s t result detail).mem = s.mem ∧ (tallyResult s t result detail).pending = s.pending :=
  by simp [tallyResult]

@[simp] theorem portPut_kept (s : State) (k : Nat) (m : Msg) :
    (portPut s k m).mem = s.mem ∧ (portPut s k m).pending = s.pending := by simp [portPut]

@[simp] theorem sendOn_kept (s : State) (f : Nat → Port → Bool) (m : Msg) :
    (sendOn s f m).mem = s.mem ∧ (sendOn s f m).pending = s.pending := by simp [sendOn]

@[simp] theorem bumpSeq_kept (s : State) (kind : Nat) :
    (bumpSeq s kind).mem = s.mem ∧ (bumpSeq s kind).pending = s.pending := by simp [bumpSeq]

@[simp] theorem sendArmrpt_kept (s : State) (isArmed : Bool) (b : Nat) :
    (sendArmrpt s isArmed b).mem = s.mem ∧ (sendArmrpt s isArmed b).pending = s.pending := by simp [sendArmrpt]

@[simp] theorem endTrack_kept (s : State) :
    (endTrack s).mem = s.mem ∧ (endTrack s).pending = s.pending := by simp [endTrack]

@[simp] theorem afterStop_kept (s : State) (was : Bool) (journal : Bool) :
    (afterStop s was journal).mem = s.mem ∧ (afterStop s was journal).pending = s.pending := by simp [afterStop]

@[simp] theorem haltLanes_kept (s : State) (mask : Nat) :
    (haltLanes s mask).mem = s.mem ∧ (haltLanes s mask).pending = s.pending := by simp [haltLanes]

@[simp] theorem abortLane_kept (s : State) (i : Fin 8) (cause : Nat) :
    (abortLane s i cause).mem = s.mem ∧ (abortLane s i cause).pending = s.pending := by simp [abortLane]

@[simp] theorem modRf_kept (s : State) (c : Ctx) (f : RegFile → RegFile) :
    (modRf s c f).mem = s.mem ∧ (modRf s c f).pending = s.pending := by unfold modRf; split <;> simp

@[simp] theorem cmdDone_kept (s : State) (result : Nat) (detail : Nat) (due : Nat) :
    (cmdDone s result detail due).mem = s.mem ∧ (cmdDone s result detail due).pending = s.pending :=
  by simp [cmdDone]

@[simp] theorem stepLane_kept (s : State) (l : Fin 8) (actuation : Bool) :
    (stepLane s l actuation).mem = s.mem ∧ (stepLane s l actuation).pending = s.pending := by simp [stepLane]

@[simp] theorem stepCmd_kept (s : State) :
    (stepCmd s).mem = s.mem ∧ (stepCmd s).pending = s.pending := by simp [stepCmd]

@[simp] theorem deferAct_kept (s : State) (l : Fin 8) :
    (deferAct s l).mem = s.mem ∧ (deferAct s l).pending = s.pending := by simp [deferAct]

@[simp] theorem issueLane_kept (s : State) (l : Fin 8) (want : Nat → Bool) (f : Nat → State → State) (hf : ∀ w s, (f w
    s).mem = s.mem ∧ (f w s).pending = s.pending) :
    (issueLane s l want f).mem = s.mem ∧ (issueLane s l want f).pending = s.pending := by simp [hf, issueLane]

@[simp] theorem issueCmd_kept (s : State) (want : Nat → Bool) (f : Nat → State → State) (hf : ∀ w s, (f w s).mem =
    s.mem ∧ (f w s).pending = s.pending) :
    (issueCmd s want f).mem = s.mem ∧ (issueCmd s want f).pending = s.pending := by simp [hf, issueCmd]

@[simp] theorem issue_kept (c : Ctx) (want : Nat → Bool) (f : Nat → State → State) (s : State) (hf : ∀ w s, (f w
    s).mem = s.mem ∧ (f w s).pending = s.pending) :
    (issue c want f s).mem = s.mem ∧ (issue c want f s).pending = s.pending := by unfold issue; split <;> simp [hf]

@[simp] theorem lateBy_kept (s : State) (l : Fin 8) (n : Nat) :
    (lateBy s l n).mem = s.mem ∧ (lateBy s l n).pending = s.pending := by unfold lateBy; split <;> simp

@[simp] theorem countLate_kept (s : State) (c : Ctx) :
    (countLate s c).mem = s.mem ∧ (countLate s c).pending = s.pending :=
  by unfold countLate; (repeat' split) <;> simp

@[simp] theorem enqueue_kept (c : Ctx) (w : Nat) (s : State) :
    (enqueue c w s).mem = s.mem ∧ (enqueue c w s).pending = s.pending := by unfold enqueue; split <;> simp

@[simp] theorem atOnce_kept (c : Ctx) (f : State → State) (s : State) (hf : ∀ s, (f s).mem = s.mem ∧ (f s).pending =
    s.pending) :
    (atOnce c f s).mem = s.mem ∧ (atOnce c f s).pending = s.pending := by unfold atOnce; split <;> simp [hf]

@[simp] theorem effCommandGo_kept (s : State) :
    (effCommandGo s).mem = s.mem ∧ (effCommandGo s).pending = s.pending := by simp [effCommandGo]

@[simp] theorem execCommandGo_kept (s : State) :
    Answers s (execCommandGo s) := by simp [execCommandGo]

@[simp] theorem effCommandAccept_kept (s : State) :
    (effCommandAccept s).mem = s.mem ∧ (effCommandAccept s).pending = s.pending := by simp [effCommandAccept]

@[simp] theorem execCommandAccept_kept (s : State) :
    Answers s (execCommandAccept s) := by simp [execCommandAccept]

@[simp] theorem effCommandComplete_kept (s : State) :
    (effCommandComplete s).mem = s.mem ∧ (effCommandComplete s).pending = s.pending :=
  by unfold effCommandComplete; split <;> simp

@[simp] theorem execCommandComplete_kept (s : State) :
    Answers s (execCommandComplete s) := by simp [execCommandComplete]

@[simp] theorem execCmdwClrcnt_kept (s : State) :
    Answers s (execCmdwClrcnt s) := by simp [execCmdwClrcnt]

@[simp] theorem execSeqTrkClrcnt_kept (s : State) :
    Answers s (execSeqTrkClrcnt s) := by simp [execSeqTrkClrcnt]

@[simp] theorem execSeqLaneOvrClear_kept (l : Fin 8) (s : State) :
    Answers s (execSeqLaneOvrClear l s) := by simp [execSeqLaneOvrClear]

@[simp] theorem modLane_kept (s : State) (l : Fin 8) (f : Lane → Lane) :
    (modLane s l f).mem = s.mem ∧ (modLane s l f).pending = s.pending := by simp [modLane]

@[simp] theorem effLaneStart_kept (s : State) :
    (effLaneStart s).mem = s.mem ∧ (effLaneStart s).pending = s.pending := by simp [effLaneStart]

@[simp] theorem execLaneStart_kept (s : State) :
    Answers s (execLaneStart s) := by simp [execLaneStart]

@[simp] theorem effLaneResume_kept (l : Fin 8) (s : State) :
    (effLaneResume l s).mem = s.mem ∧ (effLaneResume l s).pending = s.pending :=
  by unfold effLaneResume; dsimp only; (repeat' split) <;> simp

@[simp] theorem execLaneResume_kept (l : Fin 8) (s : State) :
    Answers s (execLaneResume l s) := by simp [execLaneResume]

@[simp] theorem effBarComplete_kept (l : Fin 8) (s : State) :
    (effBarComplete l s).mem = s.mem ∧ (effBarComplete l s).pending = s.pending :=
  by unfold effBarComplete; dsimp only; split <;> simp

@[simp] theorem execBarComplete_kept (l : Fin 8) (s : State) :
    Answers s (execBarComplete l s) := by simp [execBarComplete]

@[simp] theorem execNop_kept (c : Ctx) (s : State) :
    Answers s (execNop c s) := live_kept _ _ fun s => issue_kept _ _ _ s fun _ s => by simp

@[simp] theorem execHalt_kept (c : Ctx) (s : State) :
    Answers s (execHalt c s) := live_kept _ _ fun s => by split <;> simp

@[simp] theorem waitBeat_kept (l : Fin 8) (t : Nat) (setB : Option Nat) (s : State) :
    (waitBeat l t setB s).mem = s.mem ∧ (waitBeat l t setB s).pending = s.pending := by simp [waitBeat]

@[simp] theorem execAt_kept (c : Ctx) (s : State) :
    Answers s (execAt c s) := live_kept _ _ fun s => by split <;> simp

@[simp] theorem execWait_kept (c : Ctx) (s : State) :
    Answers s (execWait c s) := live_kept _ _ fun s => by split <;> simp

@[simp] theorem execSeg_kept (c : Ctx) (s : State) :
    Answers s (execSeg c s) := by simp [execSeg]

@[simp] theorem execMark_kept (c : Ctx) (s : State) :
    Answers s (execMark c s) := live_kept _ _ fun s => issue_kept _ _ _ s fun _ s => by simp

@[simp] theorem execVset_kept (c : Ctx) (s : State) :
    Answers s (execVset c s) := by simp [execVset]

@[simp] theorem execLline_kept (c : Ctx) (s : State) :
    Answers s (execLline c s) := by simp [execLline]

@[simp] theorem execNote_kept (c : Ctx) (s : State) :
    Answers s (execNote c s) := by simp [execNote]

@[simp] theorem execOpsel_kept (c : Ctx) (s : State) :
    Answers s (execOpsel c s) := by simp [execOpsel]

@[simp] theorem execGate_kept (c : Ctx) (s : State) :
    Answers s (execGate c s) := by simp [execGate]

@[simp] theorem execWake_kept (c : Ctx) (s : State) :
    Answers s (execWake c s) := by simp [execWake]

@[simp] theorem execBank_kept (c : Ctx) (s : State) :
    Answers s (execBank c s) := by simp [execBank]

@[simp] theorem execStartg_kept (c : Ctx) (s : State) :
    Answers s (execStartg c s) := by simp [execStartg]

@[simp] theorem execCapDomainIlim_kept (c : Ctx) (s : State) :
    Answers s (execCapDomainIlim c s) := by simp [execCapDomainIlim]

@[simp] theorem execCapDieLimit_kept (c : Ctx) (s : State) :
    Answers s (execCapDieLimit c s) := by simp [execCapDieLimit]

@[simp] theorem execCapPackagePower_kept (c : Ctx) (s : State) :
    Answers s (execCapPackagePower c s) := by simp [execCapPackagePower]

@[simp] theorem execCapAveragingPeriod_kept (c : Ctx) (s : State) :
    Answers s (execCapAveragingPeriod c s) := by simp [execCapAveragingPeriod]

@[simp] theorem execOvly_kept (c : Ctx) (s : State) :
    Answers s (execOvly c s) := by simp [execOvly]

@[simp] theorem execPrio_kept (c : Ctx) (s : State) :
    Answers s (execPrio c s) := by simp [execPrio]

@[simp] theorem execTelNormal_kept (c : Ctx) (s : State) :
    Answers s (execTelNormal c s) := by simp [execTelNormal]

@[simp] theorem execTelFine_kept (c : Ctx) (s : State) :
    Answers s (execTelFine c s) := by simp [execTelFine]

@[simp] theorem execTelTag_kept (c : Ctx) (s : State) :
    Answers s (execTelTag c s) := by simp [execTelTag]

@[simp] theorem execGran_kept (c : Ctx) (s : State) :
    Answers s (execGran c s) := by simp [execGran]

@[simp] theorem execSave_kept (c : Ctx) (s : State) :
    Answers s (execSave c s) := by simp [execSave]

@[simp] theorem execLi_kept (c : Ctx) (s : State) :
    Answers s (execLi c s) := live_kept _ _ fun s => issue_kept _ _ _ s fun _ s => by simp

@[simp] theorem execAdd_kept (c : Ctx) (s : State) :
    Answers s (execAdd c s) := live_kept _ _ fun s => issue_kept _ _ _ s fun _ s => by simp

@[simp] theorem execSub_kept (c : Ctx) (s : State) :
    Answers s (execSub c s) := live_kept _ _ fun s => issue_kept _ _ _ s fun _ s => by simp

@[simp] theorem execMin_kept (c : Ctx) (s : State) :
    Answers s (execMin c s) := live_kept _ _ fun s => issue_kept _ _ _ s fun _ s => by simp

@[simp] theorem execMax_kept (c : Ctx) (s : State) :
    Answers s (execMax c s) := live_kept _ _ fun s => issue_kept _ _ _ s fun _ s => by simp

@[simp] theorem execMulq_kept (c : Ctx) (s : State) :
    Answers s (execMulq c s) := live_kept _ _ fun s => issue_kept _ _ _ s fun _ s => by simp

@[simp] theorem execCmp_kept (c : Ctx) (s : State) :
    Answers s (execCmp c s) := live_kept _ _ fun s => issue_kept _ _ _ s fun _ s => by simp

@[simp] theorem onLane_kept (c : Ctx) (f : Fin 8 → State → State) (s : State) (hf : ∀ w s, (f w s).mem = s.mem ∧ (f w
    s).pending = s.pending) :
    (onLane c f s).mem = s.mem ∧ (onLane c f s).pending = s.pending := by unfold onLane; split <;> simp [hf]

@[simp] theorem execBr_kept (c : Ctx) (s : State) :
    Answers s (execBr c s) := live_kept _ _ fun s => issue_kept _ _ _ s fun _ s => by simp

@[simp] theorem execCall_kept (c : Ctx) (s : State) :
    Answers s (execCall c s) := live_kept _ _ fun s => issue_kept _ _ _ s fun _ s => by simp

@[simp] theorem execRet_kept (c : Ctx) (s : State) :
    Answers s (execRet c s) := by
  unfold execRet
  refine live_kept _ _ (fun s => issue_kept _ _ _ s (fun _ s => onLane_kept _ _ s (fun l s => ?_)))
  show Kept s _
  split <;> (unfold Kept; simp)

@[simp] theorem execLoop_kept (c : Ctx) (s : State) :
    Answers s (execLoop c s) := live_kept _ _ fun s => issue_kept _ _ _ s fun _ s => by simp

@[simp] theorem execSend_kept (c : Ctx) (s : State) :
    Answers s (execSend c s) := live_kept _ _ fun s => issue_kept _ _ _ s fun _ s => by simp

@[simp] theorem execBar_kept (c : Ctx) (s : State) :
    Answers s (execBar c s) := live_kept _ _ fun s => issue_kept _ _ _ s fun _ s => by simp

@[simp] theorem execFence_kept (c : Ctx) (s : State) :
    Answers s (execFence c s) :=
  live_kept _ _ fun s => issue_kept _ _ _ s fun _ s => by simp [onLane]; split <;> simp

@[simp] theorem execClrfFaultBlock_kept (s : State) :
    Answers s (execClrfFaultBlock s) := by simp [execClrfFaultBlock]

@[simp] theorem execClrfSat_kept (s : State) :
    Answers s (execClrfSat s) := by simp [execClrfSat]

@[simp] theorem execLoadplanTrack_kept (s : State) :
    Answers s (execLoadplanTrack s) := by simp [execLoadplanTrack]

@[simp] theorem execLoadplanMicrotable_kept (s : State) :
    Answers s (execLoadplanMicrotable s) := by simp [execLoadplanMicrotable]

@[simp] theorem execLoadplanWeights_kept (s : State) :
    Answers s (execLoadplanWeights s) := by simp [execLoadplanWeights]

@[simp] theorem execLoadplanPlan_kept (s : State) :
    Answers s (execLoadplanPlan s) := by simp [execLoadplanPlan]

@[simp] theorem execLoadplanOverlay_kept (s : State) :
    Answers s (execLoadplanOverlay s) := by simp [execLoadplanOverlay]

@[simp] theorem execLoadplanMode_kept (s : State) :
    Answers s (execLoadplanMode s) := by simp [execLoadplanMode]

@[simp] theorem execArm_kept (s : State) :
    Answers s (execArm s) := by simp [execArm]

@[simp] theorem execArmResume_kept (s : State) :
    Answers s (execArmResume s) := by simp [execArmResume]

@[simp] theorem execDisarm_kept (s : State) :
    Answers s (execDisarm s) := by simp [execDisarm]

@[simp] theorem execLcreq_kept (s : State) :
    Answers s (execLcreq s) := by simp [execLcreq]

@[simp] theorem planReject_kept (s : State) (c : Nat) :
    (planReject s c).mem = s.mem ∧ (planReject s c).pending = s.pending := by simp [planReject]

@[simp] theorem loadPlan_kept (s : State) :
    (loadPlan s).mem = s.mem ∧ (loadPlan s).pending = s.pending :=
  by unfold loadPlan; dsimp only; (repeat' split) <;> simp

@[simp] theorem loadOverlay_kept (s : State) (k : Nat) :
    (loadOverlay s k).mem = s.mem ∧ (loadOverlay s k).pending = s.pending :=
  by unfold loadOverlay; dsimp only; (repeat' split) <;> simp

@[simp] theorem vfChanged_kept (s : State) (s0 : State) (d : Nat) :
    (vfChanged s s0 d).mem = s.mem ∧ (vfChanged s s0 d).pending = s.pending := by simp [vfChanged]

@[simp] theorem writeDom_kept (ch : Nat → Nat → Bool) (s0 : State) (s : State) (d : Nat) :
    (writeDom ch s0 s d).mem = s.mem ∧ (writeDom ch s0 s d).pending = s.pending := by simp [writeDom]

@[simp] theorem setTavg_kept (s : State) (v : Nat) :
    (setTavg s v).mem = s.mem ∧ (setTavg s v).pending = s.pending := by simp [setTavg]

@[simp] theorem writeFields_kept (ch : Nat → Nat → Bool) (s0 : State) (s : State) :
    (writeFields ch s0 s).mem = s.mem ∧ (writeFields ch s0 s).pending = s.pending := by simp [writeFields]

@[simp] theorem switchOverlay_kept (s : State) (k : Option (Fin 16)) :
    (switchOverlay s k).mem = s.mem ∧ (switchOverlay s k).pending = s.pending := by simp [switchOverlay]

@[simp] theorem setrecDirty_kept (s : State) :
    (setrecDirty s).mem = s.mem ∧ (setrecDirty s).pending = s.pending := by simp [setrecDirty]

@[simp] theorem effPlanTakeEffect_kept (s : State) :
    (effPlanTakeEffect s).mem = s.mem ∧ (effPlanTakeEffect s).pending = s.pending :=
  by unfold effPlanTakeEffect; split <;> simp

@[simp] theorem execPlanTakeEffect_kept (s : State) :
    Answers s (execPlanTakeEffect s) := by simp [execPlanTakeEffect]

@[simp] theorem effOverlayValid_kept (s : State) :
    (effOverlayValid s).mem = s.mem ∧ (effOverlayValid s).pending = s.pending :=
  by unfold effOverlayValid; split <;> simp

@[simp] theorem execOverlayValid_kept (s : State) :
    Answers s (execOverlayValid s) := by simp [execOverlayValid]

@[simp] theorem setVoid_kept (s : State) :
    (setVoid s).mem = s.mem ∧ (setVoid s).pending = s.pending := by simp [setVoid]

@[simp] theorem closeDebt_kept (s : State) :
    (closeDebt s).mem = s.mem ∧ (closeDebt s).pending = s.pending := by simp [closeDebt]

@[simp] theorem keepSlack_kept (s : State) :
    (keepSlack s).mem = s.mem ∧ (keepSlack s).pending = s.pending := by simp [keepSlack]

@[simp] theorem closeSeg_kept (s : State) :
    (closeSeg s).mem = s.mem ∧ (closeSeg s).pending = s.pending := by simp [closeSeg]

@[simp] theorem segAction_kept (s : State) (id : Nat) (slack : Nat) (gran : Bool) :
    (segAction s id slack gran).mem = s.mem ∧ (segAction s id slack gran).pending = s.pending :=
  by simp [segAction]

@[simp] theorem moveTime_kept (s : State) (a : Nat) (n : Nat) :
    (moveTime s a n).mem = s.mem ∧ (moveTime s a n).pending = s.pending := by simp [moveTime]

@[simp] theorem applyStall_kept (s : State) (t : Nat) (n : Nat) :
    (applyStall s t n).mem = s.mem ∧ (applyStall s t n).pending = s.pending := by simp [applyStall]

@[simp] theorem lateStall_kept (s : State) (t : Nat) (n : Nat) (all : Nat) :
    (lateStall s t n all).mem = s.mem ∧ (lateStall s t n all).pending = s.pending := by simp [lateStall]

@[simp] theorem takeStall_kept (s : State) (t : Nat) (n : Nat) :
    (takeStall s t n).mem = s.mem ∧ (takeStall s t n).pending = s.pending :=
  by unfold takeStall; (repeat' split) <;> simp

@[simp] theorem effStallApply_kept (s : State) :
    (effStallApply s).mem = s.mem ∧ (effStallApply s).pending = s.pending :=
  by unfold effStallApply; split <;> simp

@[simp] theorem execStallApply_kept (s : State) :
    Answers s (execStallApply s) := by simp [execStallApply]

@[simp] theorem execStallHoldEnd_kept (s : State) :
    Answers s (execStallHoldEnd s) := by simp [execStallHoldEnd]

@[simp] theorem requestStall_kept (s : State) :
    (requestStall s).mem = s.mem ∧ (requestStall s).pending = s.pending := by simp [requestStall]

@[simp] theorem cutPeriods_kept (s : State) :
    (cutPeriods s).mem = s.mem ∧ (cutPeriods s).pending = s.pending := by simp [cutPeriods]

@[simp] theorem loadMode_kept (s : State) (ex : Bool) :
    (loadMode s ex).mem = s.mem ∧ (loadMode s ex).pending = s.pending := by simp [loadMode]

@[simp] theorem pkgDigest_kept (others : List (List Byte)) (s : State) :
    (pkgDigest others s).mem = s.mem ∧ (pkgDigest others s).pending = s.pending := by simp [pkgDigest]

@[simp] theorem effSetrecRecompute_kept (others : List (List Byte)) (s : State) :
    (effSetrecRecompute others s).mem = s.mem ∧ (effSetrecRecompute others s).pending = s.pending :=
  by simp [effSetrecRecompute]

@[simp] theorem execSetrecRecompute_kept (others : List (List Byte)) (s : State) :
    Answers s (execSetrecRecompute others s) := by simp [execSetrecRecompute]

@[simp] theorem execSeqXstatClrcnt_kept (s : State) :
    Answers s (execSeqXstatClrcnt s) := by simp [execSeqXstatClrcnt]

@[simp] theorem saveBoundary_kept (s : State) :
    (saveBoundary s).mem = s.mem ∧ (saveBoundary s).pending = s.pending := by unfold saveBoundary; split <;> simp

@[simp] theorem effSaveCapture_kept (s : State) :
    (effSaveCapture s).mem = s.mem ∧ (effSaveCapture s).pending = s.pending :=
  by unfold effSaveCapture; split <;> simp

@[simp] theorem execSaveCapture_kept (s : State) :
    Answers s (execSaveCapture s) := by simp [execSaveCapture]

@[simp] theorem saveMeans_kept (s : State) :
    (saveMeans s).mem = s.mem ∧ (saveMeans s).pending = s.pending := by simp [saveMeans]

@[simp] theorem restoreDom_kept (img : List Byte) (b' : Nat) (s : State) (d : Nat) :
    (restoreDom img b' s d).mem = s.mem ∧ (restoreDom img b' s d).pending = s.pending := by simp [restoreDom]

@[simp] theorem restoreLoops_kept (img : List Byte) (s : State) :
    (restoreLoops img s).mem = s.mem ∧ (restoreLoops img s).pending = s.pending := by simp [restoreLoops]

@[simp] theorem setHiccup_kept (s : State) (p : Nat) (hic : Bool) (at' : Nat) :
    (setHiccup s p hic at').mem = s.mem ∧ (setHiccup s p hic at').pending = s.pending := by simp [setHiccup]

@[simp] theorem restoreHic_kept (img : List Byte) (same : Bool) (s : State) (d : Nat) :
    (restoreHic img same s d).mem = s.mem ∧ (restoreHic img same s d).pending = s.pending := by simp [restoreHic]

@[simp] theorem restoreAll_kept (s : State) (img : List Byte) (b' : Nat) :
    (restoreAll s img b').mem = s.mem ∧ (restoreAll s img b').pending = s.pending := by simp [restoreAll]

@[simp] theorem seqReject_kept (s : State) (c : Nat) :
    (seqReject s c).mem = s.mem ∧ (seqReject s c).pending = s.pending := by simp [seqReject]

@[simp] theorem loadTrack_kept (s : State) :
    (loadTrack s).mem = s.mem ∧ (loadTrack s).pending = s.pending := by simp [loadTrack]

@[simp] theorem effTrackAdmissionDone_kept (s : State) :
    (effTrackAdmissionDone s).mem = s.mem ∧ (effTrackAdmissionDone s).pending = s.pending :=
  by unfold effTrackAdmissionDone; dsimp only; (repeat' split) <;> simp

@[simp] theorem execTrackAdmissionDone_kept (s : State) :
    Answers s (execTrackAdmissionDone s) := by simp [execTrackAdmissionDone]

@[simp] theorem modMt_kept (s : State) (d : Nat) (f : Mt → Mt) :
    (modMt s d f).mem = s.mem ∧ (modMt s d f).pending = s.pending := by simp [modMt]

@[simp] theorem loadMicrotable_kept (s : State) :
    (loadMicrotable s).mem = s.mem ∧ (loadMicrotable s).pending = s.pending :=
  by unfold loadMicrotable; split <;> simp

@[simp] theorem effMicrotablePacket_kept (i : Fin 93) (n : Nat) (npkt : Nat) (data : List Byte) (crc : Word32) (s :
    State) :
    (effMicrotablePacket i n npkt data crc s).mem = s.mem ∧ (effMicrotablePacket i n npkt data crc s).pending = s.pending :=
  by simp [effMicrotablePacket]

@[simp] theorem execMicrotablePacket_kept (i : Fin 93) (n : Nat) (npkt : Nat) (data : List Byte) (crc : Word32) (s :
    State) :
    Answers s (execMicrotablePacket i n npkt data crc s) := by simp [execMicrotablePacket]

@[simp] theorem effMicrotableEnd_kept (i : Fin 93) (dig : List Byte) (s : State) :
    (effMicrotableEnd i dig s).mem = s.mem ∧ (effMicrotableEnd i dig s).pending = s.pending :=
  by simp [effMicrotableEnd]

@[simp] theorem execMicrotableEnd_kept (i : Fin 93) (dig : List Byte) (s : State) :
    Answers s (execMicrotableEnd i dig s) := by simp [execMicrotableEnd]

@[simp] theorem mtMaybeCommit_kept (s : State) :
    (mtMaybeCommit s).mem = s.mem ∧ (mtMaybeCommit s).pending = s.pending :=
  by unfold mtMaybeCommit; split <;> simp

@[simp] theorem effMicrotableAck_kept (i : Fin 93) (s : State) :
    (effMicrotableAck i s).mem = s.mem ∧ (effMicrotableAck i s).pending = s.pending :=
  by unfold effMicrotableAck; split <;> simp

@[simp] theorem execMicrotableAck_kept (i : Fin 93) (s : State) :
    Answers s (execMicrotableAck i s) := by simp [execMicrotableAck]

@[simp] theorem effMicrotableNack_kept (i : Fin 93) (s : State) :
    (effMicrotableNack i s).mem = s.mem ∧ (effMicrotableNack i s).pending = s.pending :=
  by unfold effMicrotableNack; dsimp only; split <;> simp

@[simp] theorem execMicrotableNack_kept (i : Fin 93) (s : State) :
    Answers s (execMicrotableNack i s) := by simp [execMicrotableNack]

@[simp] theorem effMicrotableCommit_kept (s : State) :
    (effMicrotableCommit s).mem = s.mem ∧ (effMicrotableCommit s).pending = s.pending :=
  by unfold effMicrotableCommit; dsimp only; split <;> simp

@[simp] theorem execMicrotableCommit_kept (s : State) :
    Answers s (execMicrotableCommit s) := by simp [execMicrotableCommit]

@[simp] theorem execShfMtstatClrcnt_kept (i : Fin 93) (s : State) :
    Answers s (execShfMtstatClrcnt i s) := by simp [execShfMtstatClrcnt]

@[simp] theorem armLanes_kept (s : State) (b : Nat) :
    (armLanes s b).mem = s.mem ∧ (armLanes s b).pending = s.pending := by simp [armLanes]

@[simp] theorem armReport_kept (s : State) :
    (armReport s).mem = s.mem ∧ (armReport s).pending = s.pending := by simp [armReport]

@[simp] theorem armAction_kept (s : State) (a : Act) :
    (armAction s a).mem = s.mem ∧ (armAction s a).pending = s.pending :=
  by unfold armAction; dsimp only; (repeat' split) <;> simp

@[simp] theorem lcreqAction_kept (s : State) (a : Act) :
    (lcreqAction s a).mem = s.mem ∧ (lcreqAction s a).pending = s.pending :=
  by unfold lcreqAction; dsimp only; (repeat' split) <;> simp

@[simp] theorem effLcProgramDone_kept (s : State) :
    (effLcProgramDone s).mem = s.mem ∧ (effLcProgramDone s).pending = s.pending :=
  by unfold effLcProgramDone; split <;> simp

@[simp] theorem execLcProgramDone_kept (s : State) :
    Answers s (execLcProgramDone s) := by simp [execLcProgramDone]

@[simp] theorem modFlt_kept (s : State) (b : Fin 10) (f : Flt → Flt) :
    (modFlt s b f).mem = s.mem ∧ (modFlt s b f).pending = s.pending := by simp [modFlt]

@[simp] theorem triskBeat_kept (s : State) :
    (triskBeat s).mem = s.mem ∧ (triskBeat s).pending = s.pending := by simp [triskBeat]

@[simp] theorem statClear_kept (s : State) (b : Fin 10) (bits : Word32) :
    (statClear s b bits).mem = s.mem ∧ (statClear s b bits).pending = s.pending := by simp [statClear]

@[simp] theorem execFaultStatClear_kept (b : Fin 10) (bits : Word32) (s : State) :
    Answers s (execFaultStatClear b bits s) := by simp [execFaultStatClear]

@[simp] theorem execHandlingClear_kept (b : Fin 10) (s : State) :
    Answers s (execHandlingClear b s) := by simp [execHandlingClear]

@[simp] theorem execHset_kept (b : Fin 10) (s : State) :
    Answers s (execHset b s) := by simp [execHset]

@[simp] theorem execHclr_kept (b : Fin 10) (s : State) :
    Answers s (execHclr b s) := by simp [execHclr]

@[simp] theorem execErrPinPulseEnd_kept (s : State) :
    Answers s (execErrPinPulseEnd s) := by simp [execErrPinPulseEnd]

@[simp] theorem execSiloClrcnt_kept (s : State) :
    Answers s (execSiloClrcnt s) := by simp [execSiloClrcnt]

@[simp] theorem holdRaw_kept (s : State) (blk : Nat) (src : Nat) (due : Nat) :
    (holdRaw s blk src due).mem = s.mem ∧ (holdRaw s blk src due).pending = s.pending := by simp [holdRaw]

@[simp] theorem effInjectGo_kept (s : State) :
    (effInjectGo s).mem = s.mem ∧ (effInjectGo s).pending = s.pending := by simp [effInjectGo]

@[simp] theorem execInjectGo_kept (s : State) :
    Answers s (execInjectGo s) := by simp [execInjectGo]

@[simp] theorem execInjectStop_kept (s : State) :
    Answers s (execInjectStop s) := by simp [execInjectStop]

@[simp] theorem execInjectHoldEnd_kept (blk : Nat) (src : Nat) (s : State) :
    Answers s (execInjectHoldEnd blk src s) := by simp [execInjectHoldEnd]

@[simp] theorem samplePin_kept (s : State) (low : Bool) :
    (samplePin s low).mem = s.mem ∧ (samplePin s low).pending = s.pending := by simp [samplePin]

@[simp] theorem effFreezeEnter_kept (low : Bool) (s : State) :
    (effFreezeEnter low s).mem = s.mem ∧ (effFreezeEnter low s).pending = s.pending := by simp [effFreezeEnter]

@[simp] theorem execFreezeEnter_kept (low : Bool) (s : State) :
    Answers s (execFreezeEnter low s) := by simp [execFreezeEnter]

@[simp] theorem effFreezeImageDone_kept (nodes : List Nat) (s : State) :
    (effFreezeImageDone nodes s).mem = s.mem ∧ (effFreezeImageDone nodes s).pending = s.pending :=
  by simp [effFreezeImageDone]

@[simp] theorem execFreezeImageDone_kept (nodes : List Nat) (s : State) :
    Answers s (execFreezeImageDone nodes s) := by simp [execFreezeImageDone]

@[simp] theorem effFreezeExit_kept (s : State) :
    (effFreezeExit s).mem = s.mem ∧ (effFreezeExit s).pending = s.pending := by simp [effFreezeExit]

@[simp] theorem lagDebt_kept (s : State) (a : Act) (m : BitVec 128) :
    (lagDebt s a m).mem = s.mem ∧ (lagDebt s a m).pending = s.pending := by simp [lagDebt]

@[simp] theorem resolveAct_kept (s : State) (a : Act) :
    (resolveAct s a).mem = s.mem ∧ (resolveAct s a).pending = s.pending :=
  by unfold resolveAct; (repeat' split) <;> simp

@[simp] theorem stageOne_kept (s : State) :
    (stageOne s).mem = s.mem ∧ (stageOne s).pending = s.pending := by simp [stageOne]

@[simp] theorem actDom_kept (a : Act) (v : Nat) (s : State) (d : Nat) :
    (actDom a v s d).1.mem = s.mem ∧ (actDom a v s d).1.pending = s.pending :=
  by unfold actDom; dsimp only; (repeat' split) <;> simp

@[simp] theorem spacing_kept (lane : Bool) (s : State) (due : Nat) (d : Nat) :
    (spacing lane s due d).mem = s.mem ∧ (spacing lane s due d).pending = s.pending := by simp [spacing]

@[simp] theorem finish_kept (s : State) (a : Act) (result : Nat) :
    (finish s a result).mem = s.mem ∧ (finish s a result).pending = s.pending := by unfold finish; split <;> simp

@[simp] theorem actTargets_kept (s : State) (a : Act) (v : Nat) (m : BitVec 128) :
    (actTargets s a v m).mem = s.mem ∧ (actTargets s a v m).pending = s.pending := by
  have hf : ∀ (ds : List Nat) (x : State × Bool), Kept x.1 (ds.foldl (fun (x : State × Bool) d =>
      let y := actDom a v (spacing (decide (a.ctx ≠ .cmd)) x.1 a.due d) d
      (y.1, x.2 || y.2)) x).1 := fun ds x => foldl_fst_kept _ ds x (fun x d => by simp)
  unfold actTargets
  show Kept s _
  extract_lets single src ds r
  have hr : Kept s r.1 := hf ds (s, _)
  clear_value r
  split
  · unfold Kept; simp
  · split
    · split <;> (unfold Kept; simp)
    · unfold Kept; simp; exact hr

@[simp] theorem granStart_kept (s : State) :
    (granStart s).mem = s.mem ∧ (granStart s).pending = s.pending :=
  by unfold granStart; dsimp only; (repeat' split) <;> simp

@[simp] theorem segEffect_kept (s : State) (w : Nat) :
    (segEffect s w).mem = s.mem ∧ (segEffect s w).pending = s.pending := by simp [segEffect]

@[simp] theorem telAction_kept (s : State) (w : Nat) :
    (telAction s w).mem = s.mem ∧ (telAction s w).pending = s.pending := by unfold telAction; split <;> simp

@[simp] theorem granAction_kept (s : State) (v : Nat) :
    (granAction s v).mem = s.mem ∧ (granAction s v).pending = s.pending := by simp [granAction]

@[simp] theorem saveAction_kept (s : State) (a : Act) :
    (saveAction s a).mem = s.mem ∧ (saveAction s a).pending = s.pending := by simp [saveAction]

@[simp] theorem clearSat_kept (s : State) (m : Nat) :
    (clearSat s m).mem = s.mem ∧ (clearSat s m).pending = s.pending := by simp [clearSat]

@[simp] theorem dropSave_kept (s : State) :
    (dropSave s).mem = s.mem ∧ (dropSave s).pending = s.pending := by simp [dropSave]

@[simp] theorem clrfAction_kept (s : State) (a : Act) :
    (clrfAction s a).mem = s.mem ∧ (clrfAction s a).pending = s.pending := by simp [clrfAction]

@[simp] theorem loadplanAction_kept (s : State) (a : Act) :
    (loadplanAction s a).mem = s.mem ∧ (loadplanAction s a).pending = s.pending :=
  by unfold loadplanAction; (repeat' split) <;> simp

@[simp] theorem actDie_kept (s : State) (a : Act) (v : Nat) :
    (actDie s a v).mem = s.mem ∧ (actDie s a v).pending = s.pending :=
  by unfold actDie; dsimp only; (repeat' split) <;> simp

@[simp] theorem actDue_kept (s : State) (a : Act) :
    (actDue s a).mem = s.mem ∧ (actDue s a).pending = s.pending := by unfold actDue; split <;> simp

@[simp] theorem actOne_kept (s : State) (a : Act) :
    (actOne s a).mem = s.mem ∧ (actOne s a).pending = s.pending := by unfold actOne; split <;> simp

@[simp] theorem effActionTakesEffect_kept (s : State) :
    (effActionTakesEffect s).mem = s.mem ∧ (effActionTakesEffect s).pending = s.pending :=
  by simp [effActionTakesEffect]

@[simp] theorem execActionTakesEffect_kept (s : State) :
    Answers s (execActionTakesEffect s) := by simp [execActionTakesEffect]

@[simp] theorem effEstImageCopyDone_kept (s : State) :
    (effEstImageCopyDone s).mem = s.mem ∧ (effEstImageCopyDone s).pending = s.pending :=
  by simp [effEstImageCopyDone]

@[simp] theorem execEstImageCopyDone_kept (s : State) :
    Answers s (execEstImageCopyDone s) := by simp [execEstImageCopyDone]

end Sys2Proof.Machine
end

