-- ==== Sys2Proof/Laws/FrameLoops.lean ====
section
/-! SUPPORT. The stores and the queue stay as they are through loops, side channel, protection, life cycle, beats, the meter and PMBus: one lemma for each operation and meaning. -/

namespace Sys2Proof.Machine

@[simp] theorem loopLive_kept (s : State) (f : State → State) (hf : ∀ s, (f s).mem = s.mem ∧ (f s).pending = s.pending) :
    Answers s (loopLive s f) := by simp [hf, loopLive]

@[simp] theorem raiseSat_kept (s : State) (was : Bool) (now : Bool) (subj : Nat) :
    (raiseSat s was now subj).mem = s.mem ∧ (raiseSat s was now subj).pending = s.pending := by simp [raiseSat]

@[simp] theorem dieLoop_kept (s : State) :
    (dieLoop s).mem = s.mem ∧ (dieLoop s).pending = s.pending := by simp [dieLoop]

@[simp] theorem modDl_kept (s : State) (d : Nat) (f : DLoop → DLoop) :
    (modDl s d f).mem = s.mem ∧ (modDl s d f).pending = s.pending := by simp [modDl]

@[simp] theorem linkOver_kept (s : State) (d : Nat) :
    (linkOver s d).mem = s.mem ∧ (linkOver s d).pending = s.pending := by simp [linkOver]

@[simp] theorem domLoop_kept (s : State) (d : Nat) :
    (domLoop s d).mem = s.mem ∧ (domLoop s d).pending = s.pending := by simp [domLoop]

@[simp] theorem thermLoop_kept (s : State) (c : Nat) :
    (thermLoop s c).mem = s.mem ∧ (thermLoop s c).pending = s.pending := by unfold thermLoop; split <;> simp

@[simp] theorem effCapBinEnd_kept (s : State) :
    (effCapBinEnd s).mem = s.mem ∧ (effCapBinEnd s).pending = s.pending := by simp [effCapBinEnd]

@[simp] theorem execCapBinEnd_kept (s : State) :
    Answers s (execCapBinEnd s) := by simp [execCapBinEnd]

@[simp] theorem budgetRead_kept (s : State) (x : Nat) (edge : Bool) :
    (budgetRead s x edge).mem = s.mem ∧ (budgetRead s x edge).pending = s.pending := by simp [budgetRead]

@[simp] theorem budgetFollow_kept (s : State) :
    (budgetFollow s).mem = s.mem ∧ (budgetFollow s).pending = s.pending := by simp [budgetFollow]

@[simp] theorem budgetBins_kept (s : State) :
    (budgetBins s).mem = s.mem ∧ (budgetBins s).pending = s.pending := by simp [budgetBins]

@[simp] theorem budgetLoops_kept (s : State) :
    (budgetLoops s).mem = s.mem ∧ (budgetLoops s).pending = s.pending := by simp [budgetLoops]

@[simp] theorem effBudgetDecode_kept (x : Nat) (edge : Bool) (s : State) :
    (effBudgetDecode x edge s).mem = s.mem ∧ (effBudgetDecode x edge s).pending = s.pending :=
  by simp [effBudgetDecode]

@[simp] theorem execBudgetDecode_kept (x : Nat) (edge : Bool) (s : State) :
    Answers s (execBudgetDecode x edge s) := by simp [execBudgetDecode]

@[simp] theorem effBudgetFeTimer_kept (s : State) :
    (effBudgetFeTimer s).mem = s.mem ∧ (effBudgetFeTimer s).pending = s.pending := by simp [effBudgetFeTimer]

@[simp] theorem execBudgetFeTimer_kept (s : State) :
    Answers s (execBudgetFeTimer s) := by simp [execBudgetFeTimer]

@[simp] theorem setCeil_kept (s : State) (c : Nat) (v : Nat) :
    (setCeil s c v).mem = s.mem ∧ (setCeil s c v).pending = s.pending := by simp [setCeil]

@[simp] theorem ceilings_kept (s : State) :
    (ceilings s).mem = s.mem ∧ (ceilings s).pending = s.pending :=
  by unfold ceilings; dsimp only; (repeat' split) <;> simp

@[simp] theorem selectOne_kept (s : State) (d : Nat) :
    (selectOne s d).mem = s.mem ∧ (selectOne s d).pending = s.pending := by simp [selectOne]

@[simp] theorem selectAll_kept (s : State) :
    (selectAll s).mem = s.mem ∧ (selectAll s).pending = s.pending := by simp [selectAll]

@[simp] theorem selectLater_kept (s : State) :
    (selectLater s).mem = s.mem ∧ (selectLater s).pending = s.pending := by simp [selectLater]

@[simp] theorem selectDue_kept (s : State) :
    (selectDue s).mem = s.mem ∧ (selectDue s).pending = s.pending := by simp [selectDue]

@[simp] theorem sampleBins_kept (s : State) :
    (sampleBins s).mem = s.mem ∧ (sampleBins s).pending = s.pending := by simp [sampleBins]

@[simp] theorem sampleTel_kept (s : State) :
    (sampleTel s).mem = s.mem ∧ (sampleTel s).pending = s.pending := by simp [sampleTel]

@[simp] theorem applyFractions_kept (s : State) (fcap : Nat) (fbud : Nat) :
    (applyFractions s fcap fbud).mem = s.mem ∧ (applyFractions s fcap fbud).pending = s.pending :=
  by simp [applyFractions]

@[simp] theorem effLoopEngineStep_kept (fcap : Nat) (fbud : Nat) (s : State) :
    (effLoopEngineStep fcap fbud s).mem = s.mem ∧ (effLoopEngineStep fcap fbud s).pending = s.pending :=
  by simp [effLoopEngineStep]

@[simp] theorem execLoopEngineStep_kept (fcap : Nat) (fbud : Nat) (s : State) :
    Answers s (execLoopEngineStep fcap fbud s) := by simp [execLoopEngineStep]

@[simp] theorem effLoopDisable_kept (k : Fin 5) (s : State) :
    (effLoopDisable k s).mem = s.mem ∧ (effLoopDisable k s).pending = s.pending := by simp [effLoopDisable]

@[simp] theorem execLoopDisable_kept (k : Fin 5) (s : State) :
    Answers s (execLoopDisable k s) := by simp [execLoopDisable]

@[simp] theorem throttleBeat_kept (s : State) :
    (throttleBeat s).mem = s.mem ∧ (throttleBeat s).pending = s.pending := by simp [throttleBeat]

@[simp] theorem telRestart_kept (s : State) (b : Nat) :
    (telRestart s b).mem = s.mem ∧ (telRestart s b).pending = s.pending := by simp [telRestart]

@[simp] theorem telLoseN_kept (n : Nat) (s : State) :
    (telLoseN n s).mem = s.mem ∧ (telLoseN n s).pending = s.pending := by simp [telLoseN]

@[simp] theorem telLose_kept (s : State) :
    (telLose s).mem = s.mem ∧ (telLose s).pending = s.pending := by simp [telLose]

@[simp] theorem telCut_kept (n : Nat) (s : State) :
    (telCut n s).mem = s.mem ∧ (telCut n s).pending = s.pending := by simp [telCut]

@[simp] theorem telBreak_kept (s : State) :
    (telBreak s).mem = s.mem ∧ (telBreak s).pending = s.pending := by simp [telBreak]

@[simp] theorem execTelClrcnt_kept (s : State) :
    Answers s (execTelClrcnt s) := by simp [execTelClrcnt]

@[simp] theorem dropSide_kept (s : State) :
    (dropSide s).mem = s.mem ∧ (dropSide s).pending = s.pending := by simp [dropSide]

@[simp] theorem receive_kept (kind : Nat) (port : Fin 19) (h : Word64) (pay : List Word64) (f : Msg → State → State)
    (s : State) (hf : ∀ w s, (f w s).mem = s.mem ∧ (f w s).pending = s.pending) :
    (receive kind port h pay f s).mem = s.mem ∧ (receive kind port h pay f s).pending = s.pending :=
  by simp [hf, receive]

@[simp] theorem forward_kept (s : State) (port : Fin 19) (f : Port → Bool) (m : Msg) :
    (forward s port f m).mem = s.mem ∧ (forward s port f m).pending = s.pending := by simp [forward]

@[simp] theorem floodOn_kept (s : State) (port : Fin 19) (m : Msg) :
    (floodOn s port m).mem = s.mem ∧ (floodOn s port m).pending = s.pending := by simp [floodOn]

@[simp] theorem onStall_kept (port : Fin 19) (m : Msg) (s : State) :
    (onStall port m s).mem = s.mem ∧ (onStall port m s).pending = s.pending := by simp [onStall]

@[simp] theorem execStall_kept (port : Fin 19) (h : Word64) (pay : List Word64) (s : State) :
    Answers s (execStall port h pay s) := by simp [execStall]

@[simp] theorem barDisarm_kept (s : State) :
    (barDisarm s).mem = s.mem ∧ (barDisarm s).pending = s.pending := by simp [barDisarm]

@[simp] theorem onVerdict_kept (port : Fin 19) (m : Msg) (s : State) :
    (onVerdict port m s).mem = s.mem ∧ (onVerdict port m s).pending = s.pending := by simp [onVerdict]

@[simp] theorem execVerdict_kept (port : Fin 19) (h : Word64) (pay : List Word64) (s : State) :
    Answers s (execVerdict port h pay s) := by simp [execVerdict]

@[simp] theorem onArmrpt_kept (port : Fin 19) (m : Msg) (s : State) :
    (onArmrpt port m s).mem = s.mem ∧ (onArmrpt port m s).pending = s.pending := by simp [onArmrpt]

@[simp] theorem execArmrpt_kept (port : Fin 19) (h : Word64) (pay : List Word64) (s : State) :
    Answers s (execArmrpt port h pay s) := by simp [execArmrpt]

@[simp] theorem effArmBarrierDecision_kept (s : State) :
    (effArmBarrierDecision s).mem = s.mem ∧ (effArmBarrierDecision s).pending = s.pending :=
  by simp [effArmBarrierDecision]

@[simp] theorem execArmBarrierDecision_kept (s : State) :
    Answers s (execArmBarrierDecision s) := by simp [execArmBarrierDecision]

@[simp] theorem effArmBarrierTimeout_kept (s : State) :
    (effArmBarrierTimeout s).mem = s.mem ∧ (effArmBarrierTimeout s).pending = s.pending :=
  by simp [effArmBarrierTimeout]

@[simp] theorem execArmBarrierTimeout_kept (s : State) :
    Answers s (execArmBarrierTimeout s) := by simp [execArmBarrierTimeout]

@[simp] theorem modGran_kept (s : State) (f : Gran → Gran) :
    (modGran s f).mem = s.mem ∧ (modGran s f).pending = s.pending := by simp [modGran]

@[simp] theorem granSend_kept (s : State) :
    (granSend s).mem = s.mem ∧ (granSend s).pending = s.pending := by unfold granSend; (repeat' split) <;> simp

@[simp] theorem effGranReport_kept (sig : List Int) (s : State) :
    (effGranReport sig s).mem = s.mem ∧ (effGranReport sig s).pending = s.pending :=
  by unfold effGranReport; dsimp only; split <;> simp

@[simp] theorem execGranReport_kept (sig : List Int) (s : State) :
    Answers s (execGranReport sig s) := by simp [execGranReport]

@[simp] theorem onGranrpt_kept (port : Fin 19) (m : Msg) (s : State) :
    (onGranrpt port m s).mem = s.mem ∧ (onGranrpt port m s).pending = s.pending := by simp [onGranrpt]

@[simp] theorem execGranrpt_kept (port : Fin 19) (h : Word64) (pay : List Word64) (s : State) :
    Answers s (execGranrpt port h pay s) := by simp [execGranrpt]

@[simp] theorem effGranDecision_kept (s : State) :
    (effGranDecision s).mem = s.mem ∧ (effGranDecision s).pending = s.pending :=
  by unfold effGranDecision; dsimp only; split <;> simp

@[simp] theorem execGranDecision_kept (s : State) :
    Answers s (execGranDecision s) := by simp [execGranDecision]

@[simp] theorem onGrant_kept (port : Fin 19) (m : Msg) (s : State) :
    (onGrant port m s).mem = s.mem ∧ (onGrant port m s).pending = s.pending := by simp [onGrant]

@[simp] theorem execGrant_kept (port : Fin 19) (h : Word64) (pay : List Word64) (s : State) :
    Answers s (execGrant port h pay s) := by simp [execGrant]

@[simp] theorem effGranApply_kept (s : State) :
    (effGranApply s).mem = s.mem ∧ (effGranApply s).pending = s.pending :=
  by unfold effGranApply; dsimp only; split <;> simp

@[simp] theorem execGranApply_kept (s : State) :
    Answers s (execGranApply s) := by simp [execGranApply]

@[simp] theorem effPkgBalance_kept (s : State) :
    (effPkgBalance s).mem = s.mem ∧ (effPkgBalance s).pending = s.pending :=
  by unfold effPkgBalance; dsimp only; (repeat' split) <;> simp

@[simp] theorem execPkgBalance_kept (s : State) :
    Answers s (execPkgBalance s) := by simp [execPkgBalance]

@[simp] theorem modDist_kept (s : State) (f : Dist → Dist) :
    (modDist s f).mem = s.mem ∧ (modDist s f).pending = s.pending := by simp [modDist]

@[simp] theorem effDistStart_kept (s : State) :
    (effDistStart s).mem = s.mem ∧ (effDistStart s).pending = s.pending := by simp [effDistStart]

@[simp] theorem execDistStart_kept (s : State) :
    Answers s (execDistStart s) := by simp [execDistStart]

@[simp] theorem distMeet_kept (s : State) (id : Nat) (npkt : Nat) :
    (distMeet s id npkt).mem = s.mem ∧ (distMeet s id npkt).pending = s.pending := by simp [distMeet]

@[simp] theorem onTrkend_kept (port : Fin 19) (m : Msg) (s : State) :
    (onTrkend port m s).mem = s.mem ∧ (onTrkend port m s).pending = s.pending := by simp [onTrkend]

@[simp] theorem execTrkend_kept (port : Fin 19) (h : Word64) (pay : List Word64) (s : State) :
    Answers s (execTrkend port h pay s) := by simp [execTrkend]

@[simp] theorem onTrknack_kept (port : Fin 19) (m : Msg) (s : State) :
    (onTrknack port m s).mem = s.mem ∧ (onTrknack port m s).pending = s.pending := by simp [onTrknack]

@[simp] theorem execTrknack_kept (port : Fin 19) (h : Word64) (pay : List Word64) (s : State) :
    Answers s (execTrknack port h pay s) := by simp [execTrknack]

@[simp] theorem effDistNackTimer_kept (s : State) :
    (effDistNackTimer s).mem = s.mem ∧ (effDistNackTimer s).pending = s.pending := by simp [effDistNackTimer]

@[simp] theorem execDistNackTimer_kept (s : State) :
    Answers s (execDistNackTimer s) := by simp [execDistNackTimer]

@[simp] theorem sendSlots_kept (s : State) :
    (sendSlots s).mem = s.mem ∧ (sendSlots s).pending = s.pending := by simp [sendSlots]

@[simp] theorem execSideClrcnt_kept (s : State) :
    Answers s (execSideClrcnt s) := by simp [execSideClrcnt]

@[simp] theorem execGranDivClear_kept (s : State) :
    Answers s (execGranDivClear s) := by simp [execGranDivClear]

@[simp] theorem effOvTrip_kept (d : Fin 128) (node : Int) (s : State) :
    (effOvTrip d node s).mem = s.mem ∧ (effOvTrip d node s).pending = s.pending := by simp [effOvTrip]

@[simp] theorem execOvTrip_kept (d : Fin 128) (node : Int) (s : State) :
    Answers s (execOvTrip d node s) := by simp [execOvTrip]

@[simp] theorem effOvTripClear_kept (d : Fin 128) (node : Int) (s : State) :
    (effOvTripClear d node s).mem = s.mem ∧ (effOvTripClear d node s).pending = s.pending :=
  by simp [effOvTripClear]

@[simp] theorem execOvTripClear_kept (d : Fin 128) (node : Int) (s : State) :
    Answers s (execOvTripClear d node s) := by simp [execOvTripClear]

@[simp] theorem effOvOff_kept (d : Fin 128) (s : State) :
    (effOvOff d s).mem = s.mem ∧ (effOvOff d s).pending = s.pending := by simp [effOvOff]

@[simp] theorem execOvOff_kept (d : Fin 128) (s : State) :
    Answers s (execOvOff d s) := by simp [execOvOff]

@[simp] theorem modulesOff_kept (s : State) :
    (modulesOff s).mem = s.mem ∧ (modulesOff s).pending = s.pending := by simp [modulesOff]

@[simp] theorem vbKill_kept (s : State) :
    (vbKill s).mem = s.mem ∧ (vbKill s).pending = s.pending := by simp [vbKill]

@[simp] theorem effOvAfterOff_kept (d : Fin 128) (node : Int) (s : State) :
    (effOvAfterOff d node s).mem = s.mem ∧ (effOvAfterOff d node s).pending = s.pending := by simp [effOvAfterOff]

@[simp] theorem execOvAfterOff_kept (d : Fin 128) (node : Int) (s : State) :
    Answers s (execOvAfterOff d node s) := by simp [execOvAfterOff]

@[simp] theorem effVbOvervoltage_kept (s : State) :
    (effVbOvervoltage s).mem = s.mem ∧ (effVbOvervoltage s).pending = s.pending := by simp [effVbOvervoltage]

@[simp] theorem execVbOvervoltage_kept (s : State) :
    Answers s (execVbOvervoltage s) := by simp [execVbOvervoltage]

@[simp] theorem effUvTrip_kept (d : Fin 128) (samp : List Int) (s : State) :
    (effUvTrip d samp s).mem = s.mem ∧ (effUvTrip d samp s).pending = s.pending := by simp [effUvTrip]

@[simp] theorem execUvTrip_kept (d : Fin 128) (samp : List Int) (s : State) :
    Answers s (execUvTrip d samp s) := by simp [execUvTrip]

@[simp] theorem effUvRecover_kept (d : Fin 128) (samp : List Int) (s : State) :
    (effUvRecover d samp s).mem = s.mem ∧ (effUvRecover d samp s).pending = s.pending := by simp [effUvRecover]

@[simp] theorem execUvRecover_kept (d : Fin 128) (samp : List Int) (s : State) :
    Answers s (execUvRecover d samp s) := by simp [execUvRecover]

@[simp] theorem effUvDark_kept (d : Fin 128) (s : State) :
    (effUvDark d s).mem = s.mem ∧ (effUvDark d s).pending = s.pending := by simp [effUvDark]

@[simp] theorem execUvDark_kept (d : Fin 128) (s : State) :
    Answers s (execUvDark d s) := by simp [execUvDark]

@[simp] theorem effDroopStretch_kept (c : Fin 64) (grid : Int) (s : State) :
    (effDroopStretch c grid s).mem = s.mem ∧ (effDroopStretch c grid s).pending = s.pending :=
  by simp [effDroopStretch]

@[simp] theorem execDroopStretch_kept (c : Fin 64) (grid : Int) (s : State) :
    Answers s (execDroopStretch c grid s) := by simp [execDroopStretch]

@[simp] theorem effDroopReport_kept (c : Fin 64) (len : Nat) (s : State) :
    (effDroopReport c len s).mem = s.mem ∧ (effDroopReport c len s).pending = s.pending := by simp [effDroopReport]

@[simp] theorem execDroopReport_kept (c : Fin 64) (len : Nat) (s : State) :
    Answers s (execDroopReport c len s) := by simp [execDroopReport]

@[simp] theorem effPhaseHardLimit_kept (p : Fin 720) (s : State) :
    (effPhaseHardLimit p s).mem = s.mem ∧ (effPhaseHardLimit p s).pending = s.pending :=
  by simp [effPhaseHardLimit]

@[simp] theorem execPhaseHardLimit_kept (p : Fin 720) (s : State) :
    Answers s (execPhaseHardLimit p s) := by simp [execPhaseHardLimit]

@[simp] theorem effDomainOvercurrent_kept (d : Fin 128) (peak : Int) (s : State) :
    (effDomainOvercurrent d peak s).mem = s.mem ∧ (effDomainOvercurrent d peak s).pending = s.pending :=
  by simp [effDomainOvercurrent]

@[simp] theorem execDomainOvercurrent_kept (d : Fin 128) (peak : Int) (s : State) :
    Answers s (execDomainOvercurrent d peak s) := by simp [execDomainOvercurrent]

@[simp] theorem effDieOvercurrent_kept (s : State) :
    (effDieOvercurrent s).mem = s.mem ∧ (effDieOvercurrent s).pending = s.pending := by simp [effDieOvercurrent]

@[simp] theorem execDieOvercurrent_kept (s : State) :
    Answers s (execDieOvercurrent s) := by simp [execDieOvercurrent]

@[simp] theorem effVinLow_kept (s : State) :
    (effVinLow s).mem = s.mem ∧ (effVinLow s).pending = s.pending := by simp [effVinLow]

@[simp] theorem execVinLow_kept (s : State) :
    Answers s (execVinLow s) := by simp [execVinLow]

@[simp] theorem effVinHigh_kept (s : State) :
    (effVinHigh s).mem = s.mem ∧ (effVinHigh s).pending = s.pending := by simp [effVinHigh]

@[simp] theorem execVinHigh_kept (s : State) :
    Answers s (execVinHigh s) := by simp [execVinHigh]

@[simp] theorem holdCaps_kept (s : State) :
    (holdCaps s).mem = s.mem ∧ (holdCaps s).pending = s.pending := by simp [holdCaps]

@[simp] theorem effVinDip_kept (s : State) :
    (effVinDip s).mem = s.mem ∧ (effVinDip s).pending = s.pending := by simp [effVinDip]

@[simp] theorem execVinDip_kept (s : State) :
    Answers s (execVinDip s) := by simp [execVinDip]

@[simp] theorem effInputOvercurrent_kept (s : State) :
    (effInputOvercurrent s).mem = s.mem ∧ (effInputOvercurrent s).pending = s.pending :=
  by simp [effInputOvercurrent]

@[simp] theorem execInputOvercurrent_kept (s : State) :
    Answers s (execInputOvercurrent s) := by simp [execInputOvercurrent]

@[simp] theorem effVinHoldEnd_kept (s : State) :
    (effVinHoldEnd s).mem = s.mem ∧ (effVinHoldEnd s).pending = s.pending := by simp [effVinHoldEnd]

@[simp] theorem execVinHoldEnd_kept (s : State) :
    Answers s (execVinHoldEnd s) := by simp [execVinHoldEnd]

@[simp] theorem effBandEvaluation_kept (temps : List (Option Int)) (s : State) :
    (effBandEvaluation temps s).mem = s.mem ∧ (effBandEvaluation temps s).pending = s.pending :=
  by simp [effBandEvaluation]

@[simp] theorem execBandEvaluation_kept (temps : List (Option Int)) (s : State) :
    Answers s (execBandEvaluation temps s) := by simp [execBandEvaluation]

@[simp] theorem dieStop_kept (s : State) :
    (dieStop s).mem = s.mem ∧ (dieStop s).pending = s.pending := by simp [dieStop]

@[simp] theorem effDieStopCluster_kept (c : Fin 8) (s : State) :
    (effDieStopCluster c s).mem = s.mem ∧ (effDieStopCluster c s).pending = s.pending :=
  by unfold effDieStopCluster; split <;> simp

@[simp] theorem execDieStopCluster_kept (c : Fin 8) (s : State) :
    Answers s (execDieStopCluster c s) := by simp [execDieStopCluster]

@[simp] theorem effThermalShutdown_kept (s : State) :
    (effThermalShutdown s).mem = s.mem ∧ (effThermalShutdown s).pending = s.pending := by simp [effThermalShutdown]

@[simp] theorem execThermalShutdown_kept (s : State) :
    Answers s (execThermalShutdown s) := by simp [execThermalShutdown]

@[simp] theorem effCoolantLoss_kept (s : State) :
    (effCoolantLoss s).mem = s.mem ∧ (effCoolantLoss s).pending = s.pending := by simp [effCoolantLoss]

@[simp] theorem execCoolantLoss_kept (s : State) :
    Answers s (execCoolantLoss s) := by simp [execCoolantLoss]

@[simp] theorem execCoolantClear_kept (flowHigh : Bool) (s : State) :
    Answers s (execCoolantClear flowHigh s) := by simp [execCoolantClear]

@[simp] theorem execShutdnClear_kept (s : State) :
    Answers s (execShutdnClear s) := by simp [execShutdnClear]

@[simp] theorem execVbkillClear_kept (s : State) :
    Answers s (execVbkillClear s) := by simp [execVbkillClear]

@[simp] theorem execOvlatchClear_kept (d : Fin 128) (s : State) :
    Answers s (execOvlatchClear d s) := by simp [execOvlatchClear]

@[simp] theorem execProtClrcnt_kept (s : State) :
    Answers s (execProtClrcnt s) := by simp [execProtClrcnt]

@[simp] theorem execVinStart_kept (vin : Nat) (s : State) :
    Answers s (execVinStart vin s) := by simp [execVinStart]

@[simp] theorem aonOff_kept (s : State) :
    (aonOff s).mem = s.mem ∧ (aonOff s).pending = s.pending := by simp [aonOff]

@[simp] theorem execUndervoltageStop_kept (vin : Nat) (s : State) :
    Answers s (execUndervoltageStop vin s) := by simp [execUndervoltageStop]

@[simp] theorem execOvervoltageStop_kept (vin : Nat) (s : State) :
    Answers s (execOvervoltageStop vin s) := by simp [execOvervoltageStop]

@[simp] theorem execAonStartTimeout_kept (s : State) :
    Answers s (execAonStartTimeout s) := by simp [execAonStartTimeout]

@[simp] theorem modBu_kept (s : State) (f : Bu → Bu) :
    (modBu s f).mem = s.mem ∧ (modBu s f).pending = s.pending := by simp [modBu]

@[simp] theorem modShb_kept (s : State) (d : Nat) (f : Shbu → Shbu) :
    (modShb s d f).mem = s.mem ∧ (modShb s d f).pending = s.pending := by simp [modShb]

@[simp] theorem buStart_kept (ready : Bool) (k : BuRun) (s : State) :
    (buStart ready k s).mem = s.mem ∧ (buStart ready k s).pending = s.pending := by simp [buStart]

@[simp] theorem execTrain_kept (s : State) :
    Answers s (execTrain s) := by simp [execTrain]

@[simp] theorem execBer_kept (s : State) :
    Answers s (execBer s) := by simp [execBer]

@[simp] theorem execTopo_kept (s : State) :
    Answers s (execTopo s) := by simp [execTopo]

@[simp] theorem calLoad_kept (s : State) (b : Nat) :
    (calLoad s b).mem = s.mem ∧ (calLoad s b).pending = s.pending := by simp [calLoad]

@[simp] theorem calWind_kept (s : State) (b : Nat) :
    (calWind s b).mem = s.mem ∧ (calWind s b).pending = s.pending := by simp [calWind]

@[simp] theorem calBeat_kept (s : State) :
    (calBeat s).mem = s.mem ∧ (calBeat s).pending = s.pending := by unfold calBeat; split <;> simp

@[simp] theorem effCal_kept (s : State) :
    (effCal s).mem = s.mem ∧ (effCal s).pending = s.pending := by simp [effCal]

@[simp] theorem execCal_kept (s : State) :
    Answers s (execCal s) := by simp [execCal]

@[simp] theorem sheafFail_kept (s : State) (d : Nat) :
    (sheafFail s d).mem = s.mem ∧ (sheafFail s d).pending = s.pending := by simp [sheafFail]

@[simp] theorem linkFail_kept (s : State) (d : Nat) :
    (linkFail s d).mem = s.mem ∧ (linkFail s d).pending = s.pending := by simp [linkFail]

@[simp] theorem effTrainDone_kept (links : List Bool) (sns : List Bool) (s : State) :
    (effTrainDone links sns s).mem = s.mem ∧ (effTrainDone links sns s).pending = s.pending :=
  by simp [effTrainDone]

@[simp] theorem execTrainDone_kept (links : List Bool) (sns : List Bool) (s : State) :
    Answers s (execTrainDone links sns s) := by simp [execTrainDone]

@[simp] theorem effBerDone_kept (errs : List Nat) (s : State) :
    (effBerDone errs s).mem = s.mem ∧ (effBerDone errs s).pending = s.pending := by simp [effBerDone]

@[simp] theorem execBerDone_kept (errs : List Nat) (s : State) :
    Answers s (execBerDone errs s) := by simp [execBerDone]

@[simp] theorem topoSheaf_kept (s : State) (d : Nat) (cl : List Nat) :
    (topoSheaf s d cl).mem = s.mem ∧ (topoSheaf s d cl).pending = s.pending := by simp [topoSheaf]

@[simp] theorem effTopoDone_kept (claims : List (List Nat)) (s : State) :
    (effTopoDone claims s).mem = s.mem ∧ (effTopoDone claims s).pending = s.pending := by simp [effTopoDone]

@[simp] theorem execTopoDone_kept (claims : List (List Nat)) (s : State) :
    Answers s (execTopoDone claims s) := by simp [execTopoDone]

@[simp] theorem calBond_kept (s : State) (g : Nat) (z : Nat) :
    (calBond s g z).mem = s.mem ∧ (calBond s g z).pending = s.pending := by simp [calBond]

@[simp] theorem calSheaf_kept (badPh : List Nat) (badSns : List Nat) (z : List Nat) (s : State) (d : Nat) :
    (calSheaf badPh badSns z s d).mem = s.mem ∧ (calSheaf badPh badSns z s d).pending = s.pending :=
  by simp [calSheaf]

@[simp] theorem effCalDone_kept (badPh : List Nat) (badSns : List Nat) (z : List Nat) (s : State) :
    (effCalDone badPh badSns z s).mem = s.mem ∧ (effCalDone badPh badSns z s).pending = s.pending :=
  by simp [effCalDone]

@[simp] theorem execCalDone_kept (badPh : List Nat) (badSns : List Nat) (z : List Nat) (s : State) :
    Answers s (execCalDone badPh badSns z s) := by simp [execCalDone]

@[simp] theorem pmbCheck_kept (s : State) :
    (pmbCheck s).mem = s.mem ∧ (pmbCheck s).pending = s.pending := by simp [pmbCheck]

@[simp] theorem takeRole_kept (s : State) (r : Option Role) :
    (takeRole s r).mem = s.mem ∧ (takeRole s r).pending = s.pending := by simp [takeRole]

@[simp] theorem loseRole_kept (s : State) (h : Option Nat) :
    (loseRole s h).mem = s.mem ∧ (loseRole s h).pending = s.pending := by simp [loseRole]

@[simp] theorem execCoordWrite_kept (role : Option Role) (s : State) :
    Answers s (execCoordWrite role s) := by simp [execCoordWrite]

@[simp] theorem modRst_kept (s : State) (f : Rst → Rst) :
    (modRst s f).mem = s.mem ∧ (modRst s f).pending = s.pending := by simp [modRst]

@[simp] theorem modRun_kept (s : State) (f : RstRun → RstRun) :
    (modRun s f).mem = s.mem ∧ (modRun s f).pending = s.pending := by simp [modRun]

@[simp] theorem rstRefuse_kept (s : State) :
    (rstRefuse s).mem = s.mem ∧ (rstRefuse s).pending = s.pending := by simp [rstRefuse]

@[simp] theorem rstStop_kept (s : State) (f : Lane → Bool) :
    (rstStop s f).mem = s.mem ∧ (rstStop s f).pending = s.pending := by simp [rstStop]

@[simp] theorem rstAbort_kept (s : State) (m : BitVec 128) :
    (rstAbort s m).mem = s.mem ∧ (rstAbort s m).pending = s.pending := by simp [rstAbort]

@[simp] theorem rstDiscard_kept (s : State) (m : BitVec 128) :
    (rstDiscard s m).mem = s.mem ∧ (rstDiscard s m).pending = s.pending := by simp [rstDiscard]

@[simp] theorem rstBoundary_kept (s : State) :
    (rstBoundary s).mem = s.mem ∧ (rstBoundary s).pending = s.pending := by unfold rstBoundary; split <;> simp

@[simp] theorem rstCheck_kept (s : State) :
    (rstCheck s).mem = s.mem ∧ (rstCheck s).pending = s.pending := by unfold rstCheck; split <;> simp

@[simp] theorem rstWake_kept (s : State) (d : Nat) :
    (rstWake s d).mem = s.mem ∧ (rstWake s d).pending = s.pending := by unfold rstWake; split <;> simp

@[simp] theorem effResetClusterGate_kept (s : State) :
    (effResetClusterGate s).mem = s.mem ∧ (effResetClusterGate s).pending = s.pending :=
  by unfold effResetClusterGate; (repeat' split) <;> simp

@[simp] theorem execResetClusterGate_kept (s : State) :
    Answers s (execResetClusterGate s) := by simp [execResetClusterGate]

@[simp] theorem execGatingComplete_kept (d : Fin 128) (s : State) :
    Answers s (execGatingComplete d s) := by simp [execGatingComplete]

@[simp] theorem execWakeComplete_kept (d : Fin 128) (s : State) :
    Answers s (execWakeComplete d s) := by simp [execWakeComplete]

@[simp] theorem rstStart_kept (s : State) (level : Nat) (target : Nat) (mode : Bool) :
    (rstStart s level target mode).mem = s.mem ∧ (rstStart s level target mode).pending = s.pending :=
  by simp [rstStart]

@[simp] theorem effCoreDrained_kept (c : Fin 64) (s : State) :
    (effCoreDrained c s).mem = s.mem ∧ (effCoreDrained c s).pending = s.pending :=
  by unfold effCoreDrained; split <;> simp

@[simp] theorem execCoreDrained_kept (c : Fin 64) (s : State) :
    Answers s (execCoreDrained c s) := by simp [execCoreDrained]

@[simp] theorem effDrainTimeout_kept (s : State) :
    (effDrainTimeout s).mem = s.mem ∧ (effDrainTimeout s).pending = s.pending :=
  by unfold effDrainTimeout; split <;> simp

@[simp] theorem execDrainTimeout_kept (s : State) :
    Answers s (execDrainTimeout s) := by simp [execDrainTimeout]

@[simp] theorem sheafFresh_kept (s : State) (d : Nat) :
    (sheafFresh s d).mem = s.mem ∧ (sheafFresh s d).pending = s.pending := by simp [sheafFresh]

@[simp] theorem resetSheaf_kept (s : State) (d : Nat) :
    (resetSheaf s d).mem = s.mem ∧ (resetSheaf s d).pending = s.pending :=
  by unfold resetSheaf; dsimp only; split <;> simp

@[simp] theorem sheafBack_kept (s : State) (d : Nat) :
    (sheafBack s d).mem = s.mem ∧ (sheafBack s d).pending = s.pending := by simp [sheafBack]

@[simp] theorem resetSeq_kept (s : State) :
    (resetSeq s).mem = s.mem ∧ (resetSeq s).pending = s.pending := by simp [resetSeq]

@[simp] theorem resetLoops_kept (s : State) :
    (resetLoops s).mem = s.mem ∧ (resetLoops s).pending = s.pending := by simp [resetLoops]

@[simp] theorem distrustAll_kept (s : State) :
    (distrustAll s).mem = s.mem ∧ (distrustAll s).pending = s.pending := by simp [distrustAll]

@[simp] theorem flushSide_kept (s : State) :
    (flushSide s).mem = s.mem ∧ (flushSide s).pending = s.pending := by simp [flushSide]

@[simp] theorem resetCentral_kept (s : State) :
    (resetCentral s).mem = s.mem ∧ (resetCentral s).pending = s.pending := by simp [resetCentral]

@[simp] theorem meserReset_kept (s : State) (level : Nat) (target : Nat) :
    (meserReset s level target).mem = s.mem ∧ (meserReset s level target).pending = s.pending :=
  by unfold meserReset; (repeat' split) <;> simp

@[simp] theorem effPartialResetEnd_kept (s : State) :
    (effPartialResetEnd s).mem = s.mem ∧ (effPartialResetEnd s).pending = s.pending :=
  by unfold effPartialResetEnd; split <;> simp

@[simp] theorem execPartialResetEnd_kept (s : State) :
    Answers s (execPartialResetEnd s) := by simp [execPartialResetEnd]

@[simp] theorem raiseStanding_kept (s : State) :
    (raiseStanding s).mem = s.mem ∧ (raiseStanding s).pending = s.pending := by simp [raiseStanding]

@[simp] theorem chipStop_kept (s : State) :
    (chipStop s).mem = s.mem ∧ (chipStop s).pending = s.pending := by simp [chipStop]

@[simp] theorem chipStart_kept (s : State) :
    (chipStart s).mem = s.mem ∧ (chipStart s).pending = s.pending := by simp [chipStart]

@[simp] theorem resetRequest_kept (s : State) (level : Nat) (target : Nat) (mode : Bool) :
    (resetRequest s level target mode).mem = s.mem ∧ (resetRequest s level target mode).pending = s.pending :=
  by simp [resetRequest]

@[simp] theorem rstGo_kept (s : State) (level : Nat) (target : Nat) (mode : Bool) :
    (rstGo s level target mode).mem = s.mem ∧ (rstGo s level target mode).pending = s.pending := by simp [rstGo]

@[simp] theorem rstLive_kept (s : State) (f : State → State) (hf : ∀ s, (f s).mem = s.mem ∧ (f s).pending = s.pending) :
    Answers s (rstLive s f) := by simp [hf, rstLive]

@[simp] theorem execResetCore_kept (c : Nat) (mode : Bool) (s : State) :
    Answers s (execResetCore c mode s) := by simp [execResetCore]

@[simp] theorem execResetCluster_kept (c : Nat) (mode : Bool) (s : State) :
    Answers s (execResetCluster c mode s) := by simp [execResetCluster]

@[simp] theorem execResetPartition_kept (k : Nat) (mode : Bool) (s : State) :
    Answers s (execResetPartition k mode s) := by simp [execResetPartition]

@[simp] theorem execResetWholeChip_kept (s : State) :
    Answers s (execResetWholeChip s) := by simp [execResetWholeChip]

@[simp] theorem execResetSheafController_kept (i : Nat) (s : State) :
    Answers s (execResetSheafController i s) := by simp [execResetSheafController]

@[simp] theorem execResetSequencer_kept (s : State) :
    Answers s (execResetSequencer s) := by simp [execResetSequencer]

@[simp] theorem execResetLoopEngine_kept (s : State) :
    Answers s (execResetLoopEngine s) := by simp [execResetLoopEngine]

@[simp] theorem execResetInstance_kept (s : State) :
    Answers s (execResetInstance s) := by simp [execResetInstance]

@[simp] theorem execHostResetRequest_kept (level : Nat) (target : Nat) (mode : Bool) (s : State) :
    Answers s (execHostResetRequest level target mode s) := by simp [execHostResetRequest]

@[simp] theorem execRstClrcnt_kept (s : State) :
    Answers s (execRstClrcnt s) := by simp [execRstClrcnt]

@[simp] theorem resetMirror_kept (s : State) :
    (resetMirror s).mem = s.mem ∧ (resetMirror s).pending = s.pending := by simp [resetMirror]

@[simp] theorem blockReset_kept (s : State) (x : Nat × Nat) :
    (blockReset s x).mem = s.mem ∧ (blockReset s x).pending = s.pending :=
  by unfold blockReset; (repeat' split) <;> simp

@[simp] theorem blockResets_kept (s : State) :
    (blockResets s).mem = s.mem ∧ (blockResets s).pending = s.pending := by simp [blockResets]

@[simp] theorem clocked_kept (s : State) (f : State → State) (hf : ∀ s, (f s).mem = s.mem ∧ (f s).pending = s.pending) :
    Answers s (clocked s f) := by simp [hf, clocked]

@[simp] theorem slewAll_kept (s : State) :
    (slewAll s).mem = s.mem ∧ (slewAll s).pending = s.pending := by simp [slewAll]

@[simp] theorem deliverSends_kept (s : State) :
    (deliverSends s).mem = s.mem ∧ (deliverSends s).pending = s.pending := by simp [deliverSends]

@[simp] theorem endResumeTerms_kept (s : State) :
    (endResumeTerms s).mem = s.mem ∧ (endResumeTerms s).pending = s.pending := by simp [endResumeTerms]

@[simp] theorem beatCounts_kept (s : State) :
    (beatCounts s).mem = s.mem ∧ (beatCounts s).pending = s.pending := by simp [beatCounts]

@[simp] theorem centralBeat_kept (s : State) :
    (centralBeat s).mem = s.mem ∧ (centralBeat s).pending = s.pending := by simp [centralBeat]

@[simp] theorem restampTally_kept (s : State) :
    (restampTally s).mem = s.mem ∧ (restampTally s).pending = s.pending := by unfold restampTally; split <;> simp

@[simp] theorem slipLate_kept (n : Nat) (s : State) (a : Act) :
    (slipLate n s a).mem = s.mem ∧ (slipLate n s a).pending = s.pending := by unfold slipLate; split <;> simp

@[simp] theorem slipForward_kept (s : State) (gap : Nat) :
    (slipForward s gap).mem = s.mem ∧ (slipForward s gap).pending = s.pending := by simp [slipForward]

@[simp] theorem effBeatMarker_kept (n : Nat) (s : State) :
    (effBeatMarker n s).mem = s.mem ∧ (effBeatMarker n s).pending = s.pending := by simp [effBeatMarker]

@[simp] theorem execBeatMarker_kept (n : Nat) (s : State) :
    Answers s (execBeatMarker n s) := by simp [execBeatMarker]

@[simp] theorem effRefclkLoss_kept (s : State) :
    (effRefclkLoss s).mem = s.mem ∧ (effRefclkLoss s).pending = s.pending := by simp [effRefclkLoss]

@[simp] theorem execRefclkLoss_kept (s : State) :
    Answers s (execRefclkLoss s) := by simp [execRefclkLoss]

@[simp] theorem effRefclkReturn_kept (s : State) :
    (effRefclkReturn s).mem = s.mem ∧ (effRefclkReturn s).pending = s.pending :=
  by unfold effRefclkReturn; dsimp only; split <;> simp

@[simp] theorem execRefclkReturn_kept (s : State) :
    Answers s (execRefclkReturn s) := by simp [execRefclkReturn]

@[simp] theorem alignFell_kept (s : State) :
    (alignFell s).mem = s.mem ∧ (alignFell s).pending = s.pending := by simp [alignFell]

@[simp] theorem effAlignLoss_kept (s : State) :
    (effAlignLoss s).mem = s.mem ∧ (effAlignLoss s).pending = s.pending := by simp [effAlignLoss]

@[simp] theorem execAlignLoss_kept (s : State) :
    Answers s (execAlignLoss s) := by simp [execAlignLoss]

@[simp] theorem execAlignmentLineRise_kept (s : State) :
    Answers s (execAlignmentLineRise s) := by simp [execAlignmentLineRise]

@[simp] theorem coolFinish_kept (s : State) (d : Nat) :
    (coolFinish s d).mem = s.mem ∧ (coolFinish s d).pending = s.pending := by unfold coolFinish; split <;> simp

@[simp] theorem coolRaise_kept (s : State) :
    (coolRaise s).mem = s.mem ∧ (coolRaise s).pending = s.pending := by simp [coolRaise]

@[simp] theorem endHold_kept (s : State) (d : Nat) (frz : Bool) (dark : Bool) (acts : List HeldAct) :
    (endHold s d frz dark acts).mem = s.mem ∧ (endHold s d frz dark acts).pending = s.pending := by simp [endHold]

@[simp] theorem leaveLocal_kept (s : State) (d : Nat) :
    (leaveLocal s d).mem = s.mem ∧ (leaveLocal s d).pending = s.pending := by simp [leaveLocal]

@[simp] theorem effHoldExit_kept (i : Fin 93) (s : State) :
    (effHoldExit i s).mem = s.mem ∧ (effHoldExit i s).pending = s.pending :=
  by unfold effHoldExit; dsimp only; (repeat' split) <;> simp

@[simp] theorem execHoldExit_kept (i : Fin 93) (s : State) :
    Answers s (execHoldExit i s) := by simp [execHoldExit]

@[simp] theorem freezeEnds_kept (s : State) :
    (freezeEnds s).mem = s.mem ∧ (freezeEnds s).pending = s.pending :=
  by unfold freezeEnds; dsimp only; split <;> simp

@[simp] theorem execFreezeExit_kept (s : State) :
    Answers s (execFreezeExit s) := by simp [execFreezeExit]

@[simp] theorem winPower_kept (m : WindowMeas) (s : State) :
    (winPower m s).mem = s.mem ∧ (winPower m s).pending = s.pending := by simp [winPower]

@[simp] theorem winInput_kept (m : WindowMeas) (s : State) :
    (winInput m s).mem = s.mem ∧ (winInput m s).pending = s.pending := by simp [winInput]

@[simp] theorem winRegs_kept (m : WindowMeas) (s : State) :
    (winRegs m s).mem = s.mem ∧ (winRegs m s).pending = s.pending := by simp [winRegs]

@[simp] theorem winRaises_kept (old : State) (s : State) :
    (winRaises old s).mem = s.mem ∧ (winRaises old s).pending = s.pending := by simp [winRaises]

@[simp] theorem winMss_kept (s : State) :
    (winMss s).mem = s.mem ∧ (winMss s).pending = s.pending := by simp [winMss]

@[simp] theorem winPeers_kept (m : WindowMeas) (s : State) :
    (winPeers m s).mem = s.mem ∧ (winPeers m s).pending = s.pending := by simp [winPeers]

@[simp] theorem winRole_kept (m : WindowMeas) (old : State) (s : State) :
    (winRole m old s).mem = s.mem ∧ (winRole m old s).pending = s.pending := by simp [winRole]

@[simp] theorem winPmb_kept (s : State) :
    (winPmb s).mem = s.mem ∧ (winPmb s).pending = s.pending := by simp [winPmb]

@[simp] theorem winDiscard_kept (s : State) :
    (winDiscard s).mem = s.mem ∧ (winDiscard s).pending = s.pending := by simp [winDiscard]

@[simp] theorem effMeasurementWindowEnd_kept (m : WindowMeas) (s : State) :
    (effMeasurementWindowEnd m s).mem = s.mem ∧ (effMeasurementWindowEnd m s).pending = s.pending :=
  by simp [effMeasurementWindowEnd]

@[simp] theorem execMeasurementWindowEnd_kept (m : WindowMeas) (s : State) :
    Answers s (execMeasurementWindowEnd m s) := by simp [execMeasurementWindowEnd]

@[simp] theorem modMtr_kept (s : State) (f : Meter → Meter) :
    (modMtr s f).mem = s.mem ∧ (modMtr s f).pending = s.pending := by simp [modMtr]

@[simp] theorem metered_kept (s : State) (f : Meter → Meter) :
    Answers s (metered s f) := by simp [metered]

@[simp] theorem execMeterWindowEnd_kept (mv : Int) (mi : Int) (cv : Int) (refOk : Bool) (nvOk : Bool) (s : State) :
    Answers s (execMeterWindowEnd mv mi cv refOk nvOk s) := by simp [execMeterWindowEnd]

@[simp] theorem execMainsSyncEdge_kept (period : Nat) (since : Nat) (s : State) :
    Answers s (execMainsSyncEdge period since s) := by simp [execMainsSyncEdge]

@[simp] theorem execMainsSyncLoss_kept (s : State) :
    Answers s (execMainsSyncLoss s) := by simp [execMainsSyncLoss]

@[simp] theorem execMeterSupplyValid_kept (s : State) :
    Answers s (execMeterSupplyValid s) := by simp [execMeterSupplyValid]

@[simp] theorem execRefSettled_kept (s : State) :
    Answers s (execRefSettled s) := by simp [execRefSettled]

@[simp] theorem execNvCommit_kept (ok : Bool) (fall : Bool) (s : State) :
    Answers s (execNvCommit ok fall s) := by simp [execNvCommit]

@[simp] theorem i2cNone_kept (s : State) :
    (i2cNone s).mem = s.mem ∧ (i2cNone s).pending = s.pending := by simp [i2cNone]

@[simp] theorem i2cRead_kept (code : Nat) (data : Meter → List Byte) (s : State) :
    Answers s (i2cRead code data s) := by simp [i2cRead]

@[simp] theorem i2cWrite_kept (f : Meter → Meter × Bool) (s : State) :
    Answers s (i2cWrite f s) := by simp [i2cWrite]

@[simp] theorem execMtrId_kept (s : State) :
    Answers s (execMtrId s) := by simp [execMtrId]

@[simp] theorem execMtrStatus_kept (s : State) :
    Answers s (execMtrStatus s) := by simp [execMtrStatus]

@[simp] theorem execMtrEimp_kept (s : State) :
    Answers s (execMtrEimp s) := by simp [execMtrEimp]

@[simp] theorem execMtrErev_kept (s : State) :
    Answers s (execMtrErev s) := by simp [execMtrErev]

@[simp] theorem execMtrSbrk_kept (s : State) :
    Answers s (execMtrSbrk s) := by simp [execMtrSbrk]

@[simp] theorem execMtrPlauscnt_kept (s : State) :
    Answers s (execMtrPlauscnt s) := by simp [execMtrPlauscnt]

@[simp] theorem execMtrUnreg_kept (s : State) :
    Answers s (execMtrUnreg s) := by simp [execMtrUnreg]

@[simp] theorem execMtrWseq_kept (s : State) :
    Answers s (execMtrWseq s) := by simp [execMtrWseq]

@[simp] theorem execMtrLast_kept (s : State) :
    Answers s (execMtrLast s) := by simp [execMtrLast]

@[simp] theorem execMtrCfg_kept (w : Option Nat) (s : State) :
    Answers s (execMtrCfg w s) := by unfold execMtrCfg; (repeat' split) <;> simp

@[simp] theorem execMtrReq_kept (v : Nat) (s : State) :
    Answers s (execMtrReq v s) := by simp [execMtrReq]

@[simp] theorem execMtrCtl_kept (w : Option Nat) (s : State) :
    Answers s (execMtrCtl w s) := by unfold execMtrCtl; (repeat' split) <;> simp

@[simp] theorem execCalz_kept (ch : Nat) (x : Int) (s : State) :
    Answers s (execCalz ch x s) := by simp [execCalz]

@[simp] theorem execCalf_kept (ch : Nat) (x : Int) (s : State) :
    Answers s (execCalf ch x s) := by simp [execCalf]

@[simp] theorem execCalAverageDone_kept (s : State) :
    Answers s (execCalAverageDone s) := by simp [execCalAverageDone]

@[simp] theorem execCalstat_kept (s : State) :
    Answers s (execCalstat s) := by simp [execCalstat]

@[simp] theorem execCoef_kept (s : State) :
    Answers s (execCoef s) := by simp [execCoef]

@[simp] theorem execSealMeter_kept (s : State) :
    Answers s (execSealMeter s) := by simp [execSealMeter]

@[simp] theorem execUnsealMeter_kept (s : State) :
    Answers s (execUnsealMeter s) := by simp [execUnsealMeter]

@[simp] theorem modMtrm_kept (s : State) (f : Mtrm → Mtrm) :
    (modMtrm s f).mem = s.mem ∧ (modMtrm s f).pending = s.pending := by simp [modMtrm]

@[simp] theorem effMtrmReqGo_kept (ch : Nat) (urgent : Bool) (s : State) :
    (effMtrmReqGo ch urgent s).mem = s.mem ∧ (effMtrmReqGo ch urgent s).pending = s.pending :=
  by unfold effMtrmReqGo; dsimp only; (repeat' split) <;> simp

@[simp] theorem execMtrmReqGo_kept (ch : Nat) (urgent : Bool) (s : State) :
    Answers s (execMtrmReqGo ch urgent s) := by simp [execMtrmReqGo]

@[simp] theorem effMtrmClrcnt_kept (s : State) :
    (effMtrmClrcnt s).mem = s.mem ∧ (effMtrmClrcnt s).pending = s.pending := by simp [effMtrmClrcnt]

@[simp] theorem execMtrmClrcnt_kept (s : State) :
    Answers s (execMtrmClrcnt s) := by simp [execMtrmClrcnt]

@[simp] theorem effMtrmCtlWrite_kept (v : Word32) (s : State) :
    (effMtrmCtlWrite v s).mem = s.mem ∧ (effMtrmCtlWrite v s).pending = s.pending := by simp [effMtrmCtlWrite]

@[simp] theorem execMtrmCtlWrite_kept (v : Word32) (s : State) :
    Answers s (execMtrmCtlWrite v s) := by simp [execMtrmCtlWrite]

@[simp] theorem effMeterLinkLoss_kept (s : State) :
    (effMeterLinkLoss s).mem = s.mem ∧ (effMeterLinkLoss s).pending = s.pending := by simp [effMeterLinkLoss]

@[simp] theorem execMeterLinkLoss_kept (s : State) :
    Answers s (execMeterLinkLoss s) := by simp [execMeterLinkLoss]

@[simp] theorem modPmb_kept (s : State) (f : Pmb → Pmb) :
    (modPmb s f).mem = s.mem ∧ (modPmb s f).pending = s.pending := by simp [modPmb]

@[simp] theorem pmbSay_kept (ack : Bool) (l : List Byte) (s : State) :
    (pmbSay ack l s).mem = s.mem ∧ (pmbSay ack l s).pending = s.pending := by simp [pmbSay]

@[simp] theorem pmbus_kept (f : State → State) (s : State) (hf : ∀ s, (f s).mem = s.mem ∧ (f s).pending = s.pending) :
    Answers s (pmbus f s) := by simp [hf, pmbus]

@[simp] theorem pmbReply_kept (code : Nat) (d : List Byte) (s : State) :
    (pmbReply code d s).mem = s.mem ∧ (pmbReply code d s).pending = s.pending := by simp [pmbReply]

@[simp] theorem pmbRead_kept (code : Nat) (data : State → List Byte) (s : State) :
    Answers s (pmbRead code data s) := by simp [pmbRead]

@[simp] theorem pmbWord_kept (code : Nat) (f : State → Nat) (s : State) :
    Answers s (pmbWord code f s) := by simp [pmbWord]

@[simp] theorem pmbByte_kept (code : Nat) (f : State → Nat) (s : State) :
    Answers s (pmbByte code f s) := by simp [pmbByte]

@[simp] theorem pmbCml_kept (i : Nat) (s : State) :
    (pmbCml i s).mem = s.mem ∧ (pmbCml i s).pending = s.pending := by simp [pmbCml]

@[simp] theorem pmbWrite_kept (pecOk : Bool) (f : State → State) (s : State) (hf : ∀ s, (f s).mem = s.mem ∧ (f
    s).pending = s.pending) :
    (pmbWrite pecOk f s).mem = s.mem ∧ (pmbWrite pecOk f s).pending = s.pending := by simp [hf, pmbWrite]

@[simp] theorem execClearFaults_kept (pecOk : Bool) (s : State) :
    Answers s (execClearFaults pecOk s) := by simp [execClearFaults]

@[simp] theorem execStatusByte_kept (s : State) :
    Answers s (execStatusByte s) := by simp [execStatusByte]

@[simp] theorem execStatusWord_kept (s : State) :
    Answers s (execStatusWord s) := by simp [execStatusWord]

@[simp] theorem execStatusInput_kept (s : State) :
    Answers s (execStatusInput s) := by simp [execStatusInput]

@[simp] theorem execStatusTemperature_kept (s : State) :
    Answers s (execStatusTemperature s) := by simp [execStatusTemperature]

@[simp] theorem execStatusCml_kept (s : State) :
    Answers s (execStatusCml s) := by simp [execStatusCml]

@[simp] theorem execStatusMfrSpecific_kept (s : State) :
    Answers s (execStatusMfrSpecific s) := by simp [execStatusMfrSpecific]

@[simp] theorem execCapability_kept (s : State) :
    Answers s (execCapability s) := by simp [execCapability]

@[simp] theorem execPmbusRevision_kept (s : State) :
    Answers s (execPmbusRevision s) := by simp [execPmbusRevision]

@[simp] theorem execMfrId_kept (s : State) :
    Answers s (execMfrId s) := by simp [execMfrId]

@[simp] theorem execMfrModel_kept (s : State) :
    Answers s (execMfrModel s) := by simp [execMfrModel]

@[simp] theorem execOtFaultLimit_kept (s : State) :
    Answers s (execOtFaultLimit s) := by simp [execOtFaultLimit]

@[simp] theorem execOtWarnLimit_kept (s : State) :
    Answers s (execOtWarnLimit s) := by simp [execOtWarnLimit]

@[simp] theorem execVinOvFaultLimit_kept (s : State) :
    Answers s (execVinOvFaultLimit s) := by simp [execVinOvFaultLimit]

@[simp] theorem execIinOcFaultLimit_kept (s : State) :
    Answers s (execIinOcFaultLimit s) := by simp [execIinOcFaultLimit]

@[simp] theorem execPinOpWarnLimit_kept (s : State) :
    Answers s (execPinOpWarnLimit s) := by simp [execPinOpWarnLimit]

@[simp] theorem execReadVin_kept (s : State) :
    Answers s (execReadVin s) := by simp [execReadVin]

@[simp] theorem execReadIin_kept (s : State) :
    Answers s (execReadIin s) := by simp [execReadIin]

@[simp] theorem execReadTemperature1_kept (s : State) :
    Answers s (execReadTemperature1 s) := by simp [execReadTemperature1]

@[simp] theorem execReadPin_kept (s : State) :
    Answers s (execReadPin s) := by simp [execReadPin]

@[simp] theorem setVinlo_kept (s : State) (x : Int) :
    (setVinlo s x).mem = s.mem ∧ (setVinlo s x).pending = s.pending := by simp [setVinlo]

@[simp] theorem setVindip_kept (s : State) (x : Int) :
    (setVindip s x).mem = s.mem ∧ (setVindip s x).pending = s.pending := by simp [setVindip]

@[simp] theorem setVinhi_kept (s : State) (x : Int) :
    (setVinhi s x).mem = s.mem ∧ (setVinhi s x).pending = s.pending := by simp [setVinhi]

@[simp] theorem pmbLimit_kept (code : Nat) (get : State → Nat) (set : State → Int → State) (w : Option Nat) (pecOk :
    Bool) (s : State) (hset : ∀ s x, (set s x).mem = s.mem ∧ (set s x).pending = s.pending) :
    Answers s (pmbLimit code get set w pecOk s) := by unfold pmbLimit; (repeat' split) <;> simp [hset]

@[simp] theorem execVinOvWarnLimit_kept (w : Option Nat) (pecOk : Bool) (s : State) :
    Answers s (execVinOvWarnLimit w pecOk s) := by simp [execVinOvWarnLimit]

@[simp] theorem execVinUvWarnLimit_kept (w : Option Nat) (pecOk : Bool) (s : State) :
    Answers s (execVinUvWarnLimit w pecOk s) := by simp [execVinUvWarnLimit]

@[simp] theorem execVinUvFaultLimit_kept (w : Option Nat) (pecOk : Bool) (s : State) :
    Answers s (execVinUvFaultLimit w pecOk s) := by simp [execVinUvFaultLimit]

@[simp] theorem execAlertResponse_kept (s : State) :
    Answers s (execAlertResponse s) := by simp [execAlertResponse]

@[simp] theorem execPmbusUnsupported_kept (code : Nat) (rd : Option Nat) (pecOk : Bool) (s : State) :
    Answers s (execPmbusUnsupported code rd pecOk s) := by unfold execPmbusUnsupported; (repeat' split) <;> simp

end Sys2Proof.Machine
end

