-- ==== Sys2Proof/Laws/FrameBus.lean ====
section
/-! SUPPORT. The stores and the queue stay as they are through the registers' writes and the paths of access: one lemma for each operation and meaning. -/

namespace Sys2Proof.Machine

@[simp] theorem after_kept (s : State) (f : State → Out) (hf : ∀ s, Answers s (f s)) :
    (after s f).mem = s.mem ∧ (after s f).pending = s.pending := by
  obtain ⟨t, h, k⟩ := hf s
  simp [after, h, k]

@[simp] theorem whenBit_kept (v : Nat) (i : Nat) (f : State → Out) (s : State) (hf : ∀ s, Answers s (f s)) :
    (whenBit v i f s).mem = s.mem ∧ (whenBit v i f s).pending = s.pending := by simp [hf, whenBit]

@[simp] theorem setIf_kept (c : Bool) (f : State → State) (s : State) (hf : ∀ s, (f s).mem = s.mem ∧ (f s).pending =
    s.pending) :
    (setIf c f s).mem = s.mem ∧ (setIf c f s).pending = s.pending := by simp [hf, setIf]

@[simp] theorem writeRst_kept (s : State) (o : Nat) (v : Nat) :
    (writeRst s o v).mem = s.mem ∧ (writeRst s o v).pending = s.pending :=
  by unfold writeRst; (repeat' split) <;> simp

@[simp] theorem writeGlobal_kept (s : State) (o : Nat) (v : Nat) :
    (writeGlobal s o v).mem = s.mem ∧ (writeGlobal s o v).pending = s.pending :=
  by unfold writeGlobal; split <;> simp

@[simp] theorem writeCmd_kept (s : State) (o : Nat) (v : Nat) :
    (writeCmd s o v).mem = s.mem ∧ (writeCmd s o v).pending = s.pending :=
  by unfold writeCmd; (repeat' split) <;> simp

@[simp] theorem writeDomReg_kept (s : State) (o : Nat) (v : Nat) :
    (writeDomReg s o v).mem = s.mem ∧ (writeDomReg s o v).pending = s.pending :=
  by unfold writeDomReg; split <;> simp

@[simp] theorem writeShf_kept (s : State) (d : Nat) (o : Nat) (v : Nat) :
    (writeShf s d o v).mem = s.mem ∧ (writeShf s d o v).pending = s.pending :=
  by unfold writeShf; (repeat' split) <;> simp

@[simp] theorem writeSwref_kept (s : State) (o : Nat) (v : Nat) :
    (writeSwref s o v).mem = s.mem ∧ (writeSwref s o v).pending = s.pending := by unfold writeSwref; split <;> simp

@[simp] theorem writePh_kept (s : State) (p : Nat) (o : Nat) (v : Nat) :
    (writePh s p o v).mem = s.mem ∧ (writePh s p o v).pending = s.pending := by simp [writePh]

@[simp] theorem writeSeq_kept (s : State) (o : Nat) (v : Nat) :
    (writeSeq s o v).mem = s.mem ∧ (writeSeq s o v).pending = s.pending :=
  by unfold writeSeq; (repeat' split) <;> simp

@[simp] theorem writeTime_kept (s : State) (o : Nat) (v : Nat) :
    (writeTime s o v).mem = s.mem ∧ (writeTime s o v).pending = s.pending :=
  by unfold writeTime; (repeat' split) <;> simp

@[simp] theorem writeExact_kept (s : State) (o : Nat) (v : Nat) :
    (writeExact s o v).mem = s.mem ∧ (writeExact s o v).pending = s.pending := by unfold writeExact; split <;> simp

@[simp] theorem loopBit_kept (v : Nat) (k : Fin 5) (on : State → Bool) (set : State → State) (s : State) (hset : ∀ s,
    (set s).mem = s.mem ∧ (set s).pending = s.pending) :
    (loopBit v k on set s).mem = s.mem ∧ (loopBit v k on set s).pending = s.pending := by simp [hset, loopBit]

@[simp] theorem writeLoopCtl_kept (s : State) (v : Nat) :
    (writeLoopCtl s v).mem = s.mem ∧ (writeLoopCtl s v).pending = s.pending := by simp [writeLoopCtl]

@[simp] theorem writeBudCtl_kept (s : State) (v : Nat) :
    (writeBudCtl s v).mem = s.mem ∧ (writeBudCtl s v).pending = s.pending := by simp [writeBudCtl]

@[simp] theorem writeLoop_kept (s : State) (o : Nat) (v : Nat) :
    (writeLoop s o v).mem = s.mem ∧ (writeLoop s o v).pending = s.pending := by unfold writeLoop; split <;> simp

@[simp] theorem writeTel_kept (s : State) (o : Nat) (v : Nat) :
    (writeTel s o v).mem = s.mem ∧ (writeTel s o v).pending = s.pending := by unfold writeTel; split <;> simp

@[simp] theorem writeProt_kept (s : State) (o : Nat) (v : Nat) :
    (writeProt s o v).mem = s.mem ∧ (writeProt s o v).pending = s.pending :=
  by unfold writeProt; (repeat' split) <;> simp

@[simp] theorem writeFlt_kept (s : State) (b : Fin 10) (o : Nat) (v : Nat) :
    (writeFlt s b o v).mem = s.mem ∧ (writeFlt s b o v).pending = s.pending :=
  by unfold writeFlt; (repeat' split) <;> simp

@[simp] theorem writeSilo_kept (s : State) (o : Nat) (v : Nat) :
    (writeSilo s o v).mem = s.mem ∧ (writeSilo s o v).pending = s.pending := by unfold writeSilo; split <;> simp

@[simp] theorem writeJob_kept (s : State) (o : Nat) (v : Nat) :
    (writeJob s o v).mem = s.mem ∧ (writeJob s o v).pending = s.pending :=
  by unfold writeJob; (repeat' split) <;> simp

@[simp] theorem writeGran_kept (s : State) (o : Nat) (v : Nat) :
    (writeGran s o v).mem = s.mem ∧ (writeGran s o v).pending = s.pending :=
  by unfold writeGran; (repeat' split) <;> simp

@[simp] theorem writeSide_kept (s : State) (o : Nat) (v : Nat) :
    (writeSide s o v).mem = s.mem ∧ (writeSide s o v).pending = s.pending := by unfold writeSide; split <;> simp

@[simp] theorem writeEpp_kept (s : State) (c : Fin 16) (o : Nat) (v : Nat) :
    (writeEpp s c o v).mem = s.mem ∧ (writeEpp s c o v).pending = s.pending := by unfold writeEpp; split <;> simp

@[simp] theorem writeBm_kept (s : State) (m : Fin 4) (o : Nat) (v : Nat) :
    (writeBm s m o v).mem = s.mem ∧ (writeBm s m o v).pending = s.pending :=
  by unfold writeBm; (repeat' split) <;> simp

@[simp] theorem writePower_kept (s : State) (o : Nat) (v : Nat) :
    (writePower s o v).mem = s.mem ∧ (writePower s o v).pending = s.pending := by unfold writePower; split <;> simp

@[simp] theorem writeMtrm_kept (s : State) (o : Nat) (v : Nat) :
    (writeMtrm s o v).mem = s.mem ∧ (writeMtrm s o v).pending = s.pending := by unfold writeMtrm; split <;> simp

@[simp] theorem writeDbg_kept (s : State) (o : Nat) (v : Nat) :
    (writeDbg s o v).mem = s.mem ∧ (writeDbg s o v).pending = s.pending := by unfold writeDbg; split <;> simp

@[simp] theorem writeWide_kept (s : State) (o : Nat) (x : Nat) :
    (writeWide s o x).mem = s.mem ∧ (writeWide s o x).pending = s.pending := by unfold writeWide; split <;> simp

@[simp] theorem busWide_kept (s : State) (o : Nat) (x : Nat) :
    (busWide s o x).mem = s.mem ∧ (busWide s o x).pending = s.pending := by simp [busWide]

@[simp] theorem modPath_kept (s : State) (p : Path) (f : PathSt → PathSt) :
    (modPath s p f).mem = s.mem ∧ (modPath s p f).pending = s.pending := by unfold modPath; split <;> simp

@[simp] theorem answer_kept (s : State) (p : Path) (x : Word32) :
    (answer s p x).mem = s.mem ∧ (answer s p x).pending = s.pending := by simp [answer]

@[simp] theorem answerErr_kept (s : State) (p : Path) :
    (answerErr s p).mem = s.mem ∧ (answerErr s p).pending = s.pending := by simp [answerErr]

@[simp] theorem readLoAt_kept (p : Path) (o : Nat) (s : State) :
    (readLoAt p o s).mem = s.mem ∧ (readLoAt p o s).pending = s.pending := by simp [readLoAt]

@[simp] theorem readHiAt_kept (p : Path) (o : Nat) (s : State) :
    (readHiAt p o s).mem = s.mem ∧ (readHiAt p o s).pending = s.pending := by unfold readHiAt; split <;> simp

@[simp] theorem writeLoAt_kept (p : Path) (o : Nat) (v : Word32) (s : State) :
    (writeLoAt p o v s).mem = s.mem ∧ (writeLoAt p o v s).pending = s.pending := by simp [writeLoAt]

@[simp] theorem writeHiAt_kept (p : Path) (o : Nat) (v : Word32) (s : State) :
    (writeHiAt p o v s).mem = s.mem ∧ (writeHiAt p o v s).pending = s.pending := by simp [writeHiAt]

@[simp] theorem readVsns_kept (p : Path) (d : Nat) (s : State) :
    (readVsns p d s).mem = s.mem ∧ (readVsns p d s).pending = s.pending := by simp [readVsns]

@[simp] theorem readAt_kept (p : Path) (o : Nat) (s : State) :
    (readAt p o s).mem = s.mem ∧ (readAt p o s).pending = s.pending := by unfold readAt; (repeat' split) <;> simp

@[simp] theorem execMisalignedAccess_kept (p : Path) (off : Nat) (size : Nat) (_wr : Bool) (s : State) :
    Answers s (execMisalignedAccess p off size _wr s) := by simp [execMisalignedAccess]

@[simp] theorem execReadLo_kept (p : Path) (off : Nat) (s : State) :
    Answers s (execReadLo p off s) := by simp [execReadLo]

@[simp] theorem execReadHi_kept (p : Path) (off : Nat) (s : State) :
    Answers s (execReadHi p off s) := by simp [execReadHi]

@[simp] theorem execDomVsnsRead_kept (p : Path) (d : Fin 128) (s : State) :
    Answers s (execDomVsnsRead p d s) := by simp [execDomVsnsRead]

@[simp] theorem scanCapture_kept (s : State) :
    (scanCapture s).mem = s.mem ∧ (scanCapture s).pending = s.pending := by simp [scanCapture]

end Sys2Proof.Machine
end

