-- ==== Sys2Proof/Laws/Memory.lean ====
section
/-! SUPPORT. The byte memories: what a write does to a read, and that every operation keeps the canonical form. -/

namespace Sys2Proof.Machine

namespace Memory

theorem wfFrom_mono {m : List Host.Cell} {lo lo' : Nat} (h : lo' ≤ lo) (hm : wfFrom lo m) : wfFrom lo' m := by
  cases m with
  | nil => rfl
  | cons c cs =>
    simp only [wfFrom, Bool.and_eq_true, decide_eq_true_eq] at hm ⊢
    exact ⟨⟨Nat.le_trans h hm.1.1, hm.1.2⟩, hm.2⟩

theorem read_below {m : List Host.Cell} {lo a : Nat} (hm : wfFrom lo m) (h : a < lo) : read m a = memDefault := by
  induction m generalizing lo with
  | nil => rfl
  | cons c cs ih =>
    simp only [wfFrom, Bool.and_eq_true, decide_eq_true_eq] at hm
    have hne : c.1 ≠ a := by omega
    simp only [read, hne, if_false]
    exact ih hm.2 (by omega)

/-- A write keeps the canonical form. -/
theorem write_wfFrom {m : List Host.Cell} {lo a : Nat} (b : Byte) (h : lo ≤ a) (hm : wfFrom lo m) :
    wfFrom lo (write m a b) := by
  induction m generalizing lo with
  | nil => by_cases hb : b = memDefault <;> simp [write, wfFrom, hb, h]
  | cons c cs ih =>
    simp only [wfFrom, Bool.and_eq_true, decide_eq_true_eq] at hm
    obtain ⟨⟨h1, h2⟩, h3⟩ := hm
    simp only [write]
    split
    · split
      · simp [wfFrom, h1, h2, h3]
      · have := wfFrom_mono (lo' := c.1 + 1) (Nat.le_refl _) h3
        simp only [wfFrom, Bool.and_eq_true, decide_eq_true_eq]
        exact ⟨⟨h, ‹_›⟩, ⟨by omega, h2⟩, h3⟩
    · split
      · split
        · exact wfFrom_mono (by omega) h3
        · simp only [wfFrom, Bool.and_eq_true, decide_eq_true_eq]
          exact ⟨⟨h, ‹_›⟩, by subst a; exact h3⟩
      · simp only [wfFrom, Bool.and_eq_true, decide_eq_true_eq]
        exact ⟨⟨h1, h2⟩, ih (by omega) h3⟩

theorem write_wf {m : List Host.Cell} (a : Nat) (b : Byte) (hm : wf m) : wf (write m a b) :=
  write_wfFrom b (Nat.zero_le a) hm

theorem writeBytes_wf {m : List Host.Cell} (a : Nat) (l : List Byte) (hm : wf m) : wf (writeBytes m a l) := by
  induction l generalizing m a with
  | nil => exact hm
  | cons b l ih => exact ih _ (write_wf a b hm)

theorem setWord_wf {m : List Host.Cell} (a : Nat) (v : Word32) (hm : wf m) : wf (setWord m a v) :=
  writeBytes_wf _ _ hm

/-- A read after a write: the byte written at its address, every other byte as it was. -/
theorem read_writeFrom {m : List Host.Cell} {lo a : Nat} (b : Byte) (c : Nat) (hm : wfFrom lo m) :
    read (write m a b) c = if c = a then b else read m c := by
  induction m generalizing lo with
  | nil =>
    by_cases hb : b = memDefault
    · by_cases hc : c = a <;> simp [write, hb, read, hc]
    · by_cases hc : c = a
      · simp [write, hb, read, hc]
      · simp [write, hb, read, hc, Ne.symm hc]
  | cons x xs ih =>
    simp only [wfFrom, Bool.and_eq_true, decide_eq_true_eq] at hm
    obtain ⟨⟨h1, h2⟩, h3⟩ := hm
    simp only [write]
    by_cases hlt : a < x.1
    · simp only [hlt, if_true]
      by_cases hc : c = a
      · subst hc
        have hx : x.1 ≠ c := by omega
        by_cases hb : b = memDefault
        · simp only [hb, if_true, read, hx, if_false]
          exact read_below h3 (by omega)
        · simp [hb, read]
      · by_cases hb : b = memDefault
        · simp [hb, hc]
        · simp [hb, hc, read, Ne.symm hc]
    · simp only [hlt, if_false]
      by_cases heq : a = x.1
      · simp only [heq, if_true]
        by_cases hc : c = x.1
        · subst hc
          by_cases hb : b = memDefault
          · simp only [hb, if_true]
            exact read_below h3 (by omega)
          · simp [hb, read]
        · by_cases hb : b = memDefault
          · simp [hb, hc, read, Ne.symm hc]
          · simp [hb, hc, read, Ne.symm hc]
      · simp only [heq, if_false, read]
        by_cases hx : x.1 = c
        · have : c ≠ a := by omega
          simp [hx, this]
        · simp only [hx, if_false]
          exact ih h3

theorem read_write {m : List Host.Cell} (a : Nat) (b : Byte) (c : Nat) (hm : wf m) :
    read (write m a b) c = if c = a then b else read m c := read_writeFrom b c hm

/-- Bytes outside those written keep their value. -/
theorem read_writeBytes_outside {m : List Host.Cell} (a : Nat) (l : List Byte) (c : Nat) (hm : wf m)
    (h : c < a ∨ a + l.length ≤ c) : read (writeBytes m a l) c = read m c := by
  induction l generalizing m a with
  | nil => rfl
  | cons b l ih =>
    simp only [List.length_cons] at h
    have hne : c ≠ a := by omega
    rw [writeBytes, ih (a + 1) (write_wf a b hm) (by omega), read_write _ _ _ hm, if_neg hne]

/-- The bytes written read back. -/
theorem read_writeBytes_inside {m : List Host.Cell} (a : Nat) (l : List Byte) (i : Nat) (hm : wf m) (h : i < l.length) :
    read (writeBytes m a l) (a + i) = l[i] := by
  induction l generalizing m a i with
  | nil => simp at h
  | cons b l ih =>
    have hw := write_wf a b hm
    cases i with
    | zero =>
      rw [writeBytes, Nat.add_zero, read_writeBytes_outside _ _ _ hw (by omega), read_write _ _ _ hm]
      simp
    | succ i =>
      simp only [List.length_cons] at h
      have := ih (m := write m a b) (a + 1) i hw (by omega)
      rw [writeBytes, show a + (i + 1) = a + 1 + i by omega, this]
      simp

/-- Canonical memories that read alike are equal. -/
theorem ext_of_read {m n : List Host.Cell} {lo : Nat} (hm : wfFrom lo m) (hn : wfFrom lo n)
    (h : ∀ a, read m a = read n a) : m = n := by
  induction m generalizing n lo with
  | nil =>
    cases n with
    | nil => rfl
    | cons y ys =>
      simp only [wfFrom, Bool.and_eq_true, decide_eq_true_eq] at hn
      have := h y.1
      simp only [read, if_true] at this
      exact absurd this.symm hn.1.2
  | cons x xs ih =>
    simp only [wfFrom, Bool.and_eq_true, decide_eq_true_eq] at hm
    cases n with
    | nil =>
      have := h x.1
      simp only [read, if_true] at this
      exact absurd this hm.1.2
    | cons y ys =>
      simp only [wfFrom, Bool.and_eq_true, decide_eq_true_eq] at hn
      have hx := h x.1
      have hy := h y.1
      have key : x.1 = y.1 := by
        rcases Nat.lt_trichotomy x.1 y.1 with hlt | heq | hgt
        · have hne : y.1 ≠ x.1 := by omega
          simp only [read, if_true, hne, if_false] at hx
          rw [read_below hn.2 (by omega)] at hx
          exact absurd hx hm.1.2
        · exact heq
        · have hne : x.1 ≠ y.1 := by omega
          simp only [read, if_true, hne, if_false] at hy
          rw [read_below hm.2 (by omega)] at hy
          exact absurd hy.symm hn.1.2
      have hv : x.2 = y.2 := by simpa [read, key] using hx
      have hrest : xs = ys := by
        refine ih hm.2 (key ▸ hn.2) fun a => ?_
        by_cases ha : x.1 = a
        · rw [read_below hm.2 (by omega), read_below hn.2 (by omega)]
        · have := h a
          simpa [read, ha, key ▸ ha] using this
      rw [hrest, Prod.ext key hv]

end Memory

end Sys2Proof.Machine
end

