-- ==== Sys2Proof/Laws/Only.lean ====
section
/-! SUPPORT. Frames compose: `Frame` is reflexive and transitive, grows with its set, and goes through conditionals and folds. -/

namespace Sys2Proof.Machine

theorem Frame.refl {m : Nat} (s : State) : Frame m s s := by constructor <;> intro _ <;> rfl

theorem Frame.trans {m : Nat} {a b c : State} (h : Frame m a b) (k : Frame m b c) : Frame m a c :=
  ⟨fun x => (k.inp x).trans (h.inp x), fun x => (k.bm x).trans (h.bm x), fun x => (k.epp x).trans (h.epp x),
    fun x => (k.la x).trans (h.la x), fun x => (k.dom x).trans (h.dom x), fun x => (k.sns x).trans (h.sns x),
    fun x => (k.bond x).trans (h.bond x), fun x => (k.shf x).trans (h.shf x), fun x => (k.shw x).trans (h.shw x),
    fun x => (k.shr x).trans (h.shr x), fun x => (k.ph x).trans (h.ph x), fun x => (k.phw x).trans (h.phw x),
    fun x => (k.swref x).trans (h.swref x), fun x => (k.gln x).trans (h.gln x), fun x => (k.sp x).trans (h.sp x),
    fun x => (k.gw x).trans (h.gw x), fun x => (k.bank x).trans (h.bank x), fun x => (k.clk x).trans (h.clk x),
    fun x => (k.time x).trans (h.time x), fun x => (k.seg x).trans (h.seg x), fun x => (k.ntc x).trans (h.ntc x),
    fun x => (k.nd x).trans (h.nd x), fun x => (k.sg x).trans (h.sg x), fun x => (k.est x).trans (h.est x),
    fun x => (k.estd x).trans (h.estd x), fun x => (k.plan x).trans (h.plan x), fun x => (k.pd x).trans (h.pd x),
    fun x => (k.prot x).trans (h.prot x), fun x => (k.flt x).trans (h.flt x), fun x => (k.fpin x).trans (h.fpin x),
    fun x => (k.silo x).trans (h.silo x), fun x => (k.defer x).trans (h.defer x), fun x => (k.blkReset x).trans (h.blkReset x),
    fun x => (k.mtrmRaw x).trans (h.mtrmRaw x), fun x => (k.dbg x).trans (h.dbg x), fun x => (k.g x).trans (h.g x),
    fun x => (k.peer x).trans (h.peer x), fun x => (k.mem x).trans (h.mem x), fun x => (k.bu x).trans (h.bu x),
    fun x => (k.rst x).trans (h.rst x), fun x => (k.meter x).trans (h.meter x), fun x => (k.mtrm x).trans (h.mtrm x),
    fun x => (k.pmb x).trans (h.pmb x), fun x => (k.pins x).trans (h.pins x), fun x => (k.io x).trans (h.io x),
    fun x => (k.seqr x).trans (h.seqr x), fun x => (k.lane x).trans (h.lane x), fun x => (k.acts x).trans (h.acts x),
    fun x => (k.sends x).trans (h.sends x), fun x => (k.cmdw x).trans (h.cmdw x), fun x => (k.tally x).trans (h.tally x),
    fun x => (k.mt x).trans (h.mt x), fun x => (k.mts x).trans (h.mts x), fun x => (k.loop x).trans (h.loop x),
    fun x => (k.tel x).trans (h.tel x), fun x => (k.exa x).trans (h.exa x), fun x => (k.setrec x).trans (h.setrec x),
    fun x => (k.side x).trans (h.side x), fun x => (k.freeCtr x).trans (h.freeCtr x), fun x => (k.classHold x).trans (h.classHold x),
    fun x => (k.pending x).trans (h.pending x)⟩

theorem bit_of_sub {m k : Nat} (hm : m &&& k = m) {i : Nat} (h : k.testBit i = false) : m.testBit i = false := by
  rw [← hm, Nat.testBit_and, h, Bool.and_false]

theorem sub_trans {a b m : Nat} (h : a &&& b = a) (k : b &&& m = b) : a &&& m = a := by
  rw [← h, Nat.and_assoc, k]

theorem Frame.mono {m k : Nat} {a b : State} (hm : m &&& k = m) (h : Frame m a b) : Frame k a b :=
  ⟨fun x => h.inp (bit_of_sub hm x), fun x => h.bm (bit_of_sub hm x), fun x => h.epp (bit_of_sub hm x),
    fun x => h.la (bit_of_sub hm x), fun x => h.dom (bit_of_sub hm x), fun x => h.sns (bit_of_sub hm x),
    fun x => h.bond (bit_of_sub hm x), fun x => h.shf (bit_of_sub hm x), fun x => h.shw (bit_of_sub hm x),
    fun x => h.shr (bit_of_sub hm x), fun x => h.ph (bit_of_sub hm x), fun x => h.phw (bit_of_sub hm x),
    fun x => h.swref (bit_of_sub hm x), fun x => h.gln (bit_of_sub hm x), fun x => h.sp (bit_of_sub hm x),
    fun x => h.gw (bit_of_sub hm x), fun x => h.bank (bit_of_sub hm x), fun x => h.clk (bit_of_sub hm x),
    fun x => h.time (bit_of_sub hm x), fun x => h.seg (bit_of_sub hm x), fun x => h.ntc (bit_of_sub hm x),
    fun x => h.nd (bit_of_sub hm x), fun x => h.sg (bit_of_sub hm x), fun x => h.est (bit_of_sub hm x),
    fun x => h.estd (bit_of_sub hm x), fun x => h.plan (bit_of_sub hm x), fun x => h.pd (bit_of_sub hm x),
    fun x => h.prot (bit_of_sub hm x), fun x => h.flt (bit_of_sub hm x), fun x => h.fpin (bit_of_sub hm x),
    fun x => h.silo (bit_of_sub hm x), fun x => h.defer (bit_of_sub hm x), fun x => h.blkReset (bit_of_sub hm x),
    fun x => h.mtrmRaw (bit_of_sub hm x), fun x => h.dbg (bit_of_sub hm x), fun x => h.g (bit_of_sub hm x),
    fun x => h.peer (bit_of_sub hm x), fun x => h.mem (bit_of_sub hm x), fun x => h.bu (bit_of_sub hm x),
    fun x => h.rst (bit_of_sub hm x), fun x => h.meter (bit_of_sub hm x), fun x => h.mtrm (bit_of_sub hm x),
    fun x => h.pmb (bit_of_sub hm x), fun x => h.pins (bit_of_sub hm x), fun x => h.io (bit_of_sub hm x),
    fun x => h.seqr (bit_of_sub hm x), fun x => h.lane (bit_of_sub hm x), fun x => h.acts (bit_of_sub hm x),
    fun x => h.sends (bit_of_sub hm x), fun x => h.cmdw (bit_of_sub hm x), fun x => h.tally (bit_of_sub hm x),
    fun x => h.mt (bit_of_sub hm x), fun x => h.mts (bit_of_sub hm x), fun x => h.loop (bit_of_sub hm x),
    fun x => h.tel (bit_of_sub hm x), fun x => h.exa (bit_of_sub hm x), fun x => h.setrec (bit_of_sub hm x),
    fun x => h.side (bit_of_sub hm x), fun x => h.freeCtr (bit_of_sub hm x), fun x => h.classHold (bit_of_sub hm x),
    fun x => h.pending (bit_of_sub hm x)⟩

theorem Frame.only {m : Nat} {l : List Grp} {a b : State} (h : Frame m a b) (hm : m &&& Grp.mask l = m) : Only l a b :=
  h.mono hm

/-- A record update of `x` changes what the record literal says. -/
theorem frame_lit {m : Nat} {s0 x : State} {a0 a1 a2 a3 a4 a5 a6 a7 a8 a9 a10 a11 a12 a13 a14 a15 a16 a17 a18 a19
    a20 a21 a22 a23 a24 a25 a26 a27 a28 a29 a30 a31 a32 a33 a34 a35 a36 a37 a38 a39
    a40 a41 a42 a43 a44 a45 a46 a47 a48 a49 a50 a51 a52 a53 a54 a55 a56 a57 a58 a59}
    (h : Frame m s0 x)
    (k : Frame m x { x with
      inp := a0, bm := a1, epp := a2, la := a3, dom := a4, sns := a5, bond := a6, shf := a7,
      shw := a8, shr := a9, ph := a10, phw := a11, swref := a12, gln := a13, sp := a14, gw := a15,
      bank := a16, clk := a17, time := a18, seg := a19, ntc := a20, nd := a21, sg := a22, est := a23,
      estd := a24, plan := a25, pd := a26, prot := a27, flt := a28, fpin := a29, silo := a30, defer := a31,
      blkReset := a32, mtrmRaw := a33, dbg := a34, g := a35, peer := a36, mem := a37, bu := a38, rst := a39,
      meter := a40, mtrm := a41, pmb := a42, pins := a43, io := a44, seqr := a45, lane := a46, acts := a47,
      sends := a48, cmdw := a49, tally := a50, mt := a51, mts := a52, loop := a53, tel := a54, exa := a55,
      setrec := a56, side := a57, freeCtr := a58, classHold := a59 }) :
    Frame m s0 { x with
      inp := a0, bm := a1, epp := a2, la := a3, dom := a4, sns := a5, bond := a6, shf := a7,
      shw := a8, shr := a9, ph := a10, phw := a11, swref := a12, gln := a13, sp := a14, gw := a15,
      bank := a16, clk := a17, time := a18, seg := a19, ntc := a20, nd := a21, sg := a22, est := a23,
      estd := a24, plan := a25, pd := a26, prot := a27, flt := a28, fpin := a29, silo := a30, defer := a31,
      blkReset := a32, mtrmRaw := a33, dbg := a34, g := a35, peer := a36, mem := a37, bu := a38, rst := a39,
      meter := a40, mtrm := a41, pmb := a42, pins := a43, io := a44, seqr := a45, lane := a46, acts := a47,
      sends := a48, cmdw := a49, tally := a50, mt := a51, mts := a52, loop := a53, tel := a54, exa := a55,
      setrec := a56, side := a57, freeCtr := a58, classHold := a59 } := h.trans k

theorem frame_ite {m : Nat} {s a b : State} {c : Prop} [Decidable c] (ha : c → Frame m s a) (hb : ¬c → Frame m s b) :
    Frame m s (if c then a else b) := by
  split
  · exact ha ‹_›
  · exact hb ‹_›

theorem frame_foldl {m : Nat} {s0 : State} {α : Type} {g : State → α → State} {xs : List α} {s : State}
    (hg : ∀ s x, Frame m s0 s → Frame m s0 (g s x)) (h : Frame m s0 s) : Frame m s0 (xs.foldl g s) := by
  induction xs generalizing s with
  | nil => exact h
  | cons x xs ih => exact ih (hg s x h)

theorem frame_foldl_fst {m : Nat} {s0 : State} {α β : Type} {g : State × β → α → State × β} {xs : List α} {x : State × β}
    (hg : ∀ x a, Frame m s0 x.1 → Frame m s0 (g x a).1) (h : Frame m s0 x.1) : Frame m s0 (xs.foldl g x).1 := by
  induction xs generalizing x with
  | nil => exact h
  | cons a xs ih => exact ih (hg x a h)

/-- The outcome is a next state that differs from `s` in the groups of `m` only. -/
def Ends (m : Nat) (s : State) (o : Out) : Prop := ∃ t, o = .next t ∧ Frame m s t

theorem ends_next {m : Nat} {s t : State} (h : Frame m s t) : Ends m s (.next t) := ⟨t, rfl, h⟩

theorem Ends.mono {m k : Nat} {s : State} {o : Out} (hm : m &&& k = m) (h : Ends m s o) : Ends k s o := by
  obtain ⟨t, e, h⟩ := h
  exact ⟨t, e, h.mono hm⟩

theorem Ends.next {m : Nat} {s t : State} {o : Out} (h : Ends m s o) (e : o = .next t) : Frame m s t := by
  obtain ⟨u, e', h⟩ := h
  rw [e] at e'; cases e'; exact h

end Sys2Proof.Machine
end

