-- ==== Sys2Proof/Laws/Tab.lean ====
section
/-! SUPPORT. Tables: reading an entry after a write. -/

namespace Sys2Proof

variable {n : Nat} {α : Type}

theorem Tab.ext_data {t u : Tab n α} (h : t.data = u.data) : t = u := by
  cases t; cases u; cases h; rfl

theorem Tab.get_eq (t : Tab n α) (i : Fin n) : t.get i = t.data[i.val]'(by rw [t.size]; exact i.isLt) := rfl

@[simp] theorem Tab.get_set_same (t : Tab n α) (i : Fin n) (x : α) : (t.set i x).get i = x := by
  simp [Tab.get_eq, Tab.set]

theorem Tab.get_set_ne (t : Tab n α) {i j : Fin n} (x : α) (h : j ≠ i) : (t.set i x).get j = t.get j := by
  have hv : i.val ≠ j.val := fun e => h (Fin.ext e.symm)
  simp [Tab.get_eq, Tab.set, hv]

@[simp] theorem Tab.get_mod_same (t : Tab n α) (i : Fin n) (f : α → α) : (t.mod i f).get i = f (t.get i) := by
  simp [Tab.mod]

theorem Tab.get_mod_ne (t : Tab n α) {i j : Fin n} (f : α → α) (h : j ≠ i) : (t.mod i f).get j = t.get j :=
  Tab.get_set_ne t _ h

theorem Tab.nth_eq_get [Inhabited α] (t : Tab n α) (i : Fin n) : t.nth i.val = t.get i := by
  have h : i.val < t.data.length := by rw [t.size]; exact i.isLt
  simp [Tab.nth, Tab.get_eq, h]

theorem Tab.nth_lt [Inhabited α] (t : Tab n α) {i : Nat} (h : i < n) : t.nth i = t.get ⟨i, h⟩ :=
  Tab.nth_eq_get t ⟨i, h⟩

theorem Tab.modN_lt (t : Tab n α) {i : Nat} (h : i < n) (f : α → α) : t.modN i f = t.mod ⟨i, h⟩ f := by
  simp [Tab.modN, h]

@[simp] theorem Tab.modN_ge (t : Tab n α) {i : Nat} (h : n ≤ i) (f : α → α) : t.modN i f = t := by
  simp [Tab.modN, Nat.not_lt.mpr h]

/-- An entry that the table has reads as changed. -/
theorem Tab.nth_modN_same [Inhabited α] (t : Tab n α) {i : Nat} (h : i < n) (f : α → α) :
    (t.modN i f).nth i = f (t.nth i) := by
  rw [Tab.modN_lt t h, Tab.nth_lt _ h, Tab.nth_lt _ h, Tab.get_mod_same]

/-- Every other entry reads as before. -/
theorem Tab.nth_modN_ne [Inhabited α] (t : Tab n α) {i j : Nat} (f : α → α) (h : j ≠ i) :
    (t.modN i f).nth j = t.nth j := by
  by_cases hi : i < n
  · by_cases hj : j < n
    · rw [Tab.modN_lt t hi, Tab.nth_lt _ hj, Tab.nth_lt _ hj]
      exact Tab.get_mod_ne t f fun e => h (congrArg Fin.val e)
    · have h1 : (t.modN i f).data.length ≤ j := by rw [(t.modN i f).size]; omega
      have h2 : t.data.length ≤ j := by rw [t.size]; omega
      simp [Tab.nth, List.getD_eq_getElem?_getD, List.getElem?_eq_none h1, List.getElem?_eq_none h2]
  · rw [Tab.modN_ge t (by omega)]

/-- Two changes of one entry are one. -/
theorem Tab.mod_mod (t : Tab n α) (i : Fin n) (f g : α → α) : (t.mod i f).mod i g = t.mod i (g ∘ f) := by
  apply Tab.ext_data
  simp [Tab.mod, Tab.set, Tab.get_eq]

theorem Tab.nth_make [Inhabited α] (f : Nat → α) {i : Nat} (h : i < n) : (Tab.make n f).nth i = f i := by
  simp [Tab.nth, Tab.make, upTo, h]

theorem Tab.get_make (f : Nat → α) (i : Fin n) : (Tab.make n f).get i = f i.val := by
  simp [Tab.get_eq, Tab.make, upTo]

theorem Tab.get_map {β : Type} (f : α → β) (t : Tab n α) (i : Fin n) : (t.map f).get i = f (t.get i) := by
  simp [Tab.get_eq, Tab.map]

end Sys2Proof
end

