-- ==== Sys2Proof/Laws/Raise.lean ====
section
/-! SUPPORT. What a raise does, and what it leaves (R376, R377). -/

namespace Sys2Proof.Machine

/-- A raise touches the fault blocks, the silo, the requests of block resets, the PMBus status, the error pin and the
block's own counters of it, and nothing else. -/
theorem raiseWith_only (s : State) (b : Fin 10) (src subj : Nat) (inj noCap : Bool) (cap : Option (List Byte)) :
    let t := raiseWith s b src subj inj noCap cap
    t = { s with flt := t.flt, silo := t.silo, blkReset := t.blkReset, pmb := t.pmb, fpin := t.fpin, g := t.g } := rfl

theorem raise_only (s : State) (b : Fin 10) (src subj : Nat) :
    let t := raise s b src subj
    t = { s with flt := t.flt, silo := t.silo, blkReset := t.blkReset, pmb := t.pmb, fpin := t.fpin, g := t.g } := rfl

/-- History keeps the block's STAT, mask and reactions. -/
@[simp] theorem histRaise_stat (f : Flt) (beat src subj : Nat) (inj masked silo react : Bool) :
    (histRaise f beat src subj inj masked silo react).stat = f.stat := by
  unfold histRaise; split <;> rfl

@[simp] theorem histRaise_mask (f : Flt) (beat src subj : Nat) (inj masked silo react : Bool) :
    (histRaise f beat src subj inj masked silo react).mask = f.mask := by
  unfold histRaise; split <;> rfl

@[simp] theorem histRaise_react (f : Flt) (beat src subj : Nat) (inj masked silo react : Bool) :
    (histRaise f beat src subj inj masked silo react).react = f.react := by
  unfold histRaise; split <;> rfl

/-- A raise sets its source's STAT bit, masked or not (R376). -/
theorem raise_stat (s : State) (b : Fin 10) (src subj : Nat) :
    ((raise s b src subj).flt.get b).stat = (s.flt.get b).stat ||| (1 <<< src) := by
  simp [raise, raiseWith]

/-- The other blocks keep all they hold. -/
theorem raise_other (s : State) (b c : Fin 10) (src subj : Nat) (h : c ≠ b) :
    (raise s b src subj).flt.get c = s.flt.get c := by
  simp [raise, raiseWith, Tab.get_set_ne _ _ h]

theorem raise_mask (s : State) (b : Fin 10) (src subj : Nat) :
    ((raise s b src subj).flt.get b).mask = (s.flt.get b).mask := by
  simp [raise, raiseWith]

theorem raise_react (s : State) (b : Fin 10) (src subj : Nat) :
    ((raise s b src subj).flt.get b).react = (s.flt.get b).react := by
  simp [raise, raiseWith]

/-- A masked source's raise stops at STAT, history and its capture: no trap, no request of a reset, no pulse (R377). -/
theorem raise_masked (s : State) (b : Fin 10) (src subj : Nat) (h : (s.flt.get b).mask.getLsbD src = true) :
    (raise s b src subj).fpin = s.fpin ∧ (raise s b src subj).blkReset = s.blkReset ∧ (raise s b src subj).g = s.g := by
  simp [raise, raiseWith, h]

@[simp] theorem raise_inp (s : State) (b : Fin 10) (src subj : Nat) : (raise s b src subj).inp = s.inp := rfl
@[simp] theorem raise_bm (s : State) (b : Fin 10) (src subj : Nat) : (raise s b src subj).bm = s.bm := rfl
@[simp] theorem raise_epp (s : State) (b : Fin 10) (src subj : Nat) : (raise s b src subj).epp = s.epp := rfl
@[simp] theorem raise_la (s : State) (b : Fin 10) (src subj : Nat) : (raise s b src subj).la = s.la := rfl
@[simp] theorem raise_dom (s : State) (b : Fin 10) (src subj : Nat) : (raise s b src subj).dom = s.dom := rfl
@[simp] theorem raise_sns (s : State) (b : Fin 10) (src subj : Nat) : (raise s b src subj).sns = s.sns := rfl
@[simp] theorem raise_bond (s : State) (b : Fin 10) (src subj : Nat) : (raise s b src subj).bond = s.bond := rfl
@[simp] theorem raise_shf (s : State) (b : Fin 10) (src subj : Nat) : (raise s b src subj).shf = s.shf := rfl
@[simp] theorem raise_shw (s : State) (b : Fin 10) (src subj : Nat) : (raise s b src subj).shw = s.shw := rfl
@[simp] theorem raise_shr (s : State) (b : Fin 10) (src subj : Nat) : (raise s b src subj).shr = s.shr := rfl
@[simp] theorem raise_ph (s : State) (b : Fin 10) (src subj : Nat) : (raise s b src subj).ph = s.ph := rfl
@[simp] theorem raise_phw (s : State) (b : Fin 10) (src subj : Nat) : (raise s b src subj).phw = s.phw := rfl
@[simp] theorem raise_swref (s : State) (b : Fin 10) (src subj : Nat) : (raise s b src subj).swref = s.swref := rfl
@[simp] theorem raise_gln (s : State) (b : Fin 10) (src subj : Nat) : (raise s b src subj).gln = s.gln := rfl
@[simp] theorem raise_sp (s : State) (b : Fin 10) (src subj : Nat) : (raise s b src subj).sp = s.sp := rfl
@[simp] theorem raise_gw (s : State) (b : Fin 10) (src subj : Nat) : (raise s b src subj).gw = s.gw := rfl
@[simp] theorem raise_bank (s : State) (b : Fin 10) (src subj : Nat) : (raise s b src subj).bank = s.bank := rfl
@[simp] theorem raise_clk (s : State) (b : Fin 10) (src subj : Nat) : (raise s b src subj).clk = s.clk := rfl
@[simp] theorem raise_time (s : State) (b : Fin 10) (src subj : Nat) : (raise s b src subj).time = s.time := rfl
@[simp] theorem raise_seg (s : State) (b : Fin 10) (src subj : Nat) : (raise s b src subj).seg = s.seg := rfl
@[simp] theorem raise_ntc (s : State) (b : Fin 10) (src subj : Nat) : (raise s b src subj).ntc = s.ntc := rfl
@[simp] theorem raise_nd (s : State) (b : Fin 10) (src subj : Nat) : (raise s b src subj).nd = s.nd := rfl
@[simp] theorem raise_sg (s : State) (b : Fin 10) (src subj : Nat) : (raise s b src subj).sg = s.sg := rfl
@[simp] theorem raise_est (s : State) (b : Fin 10) (src subj : Nat) : (raise s b src subj).est = s.est := rfl
@[simp] theorem raise_estd (s : State) (b : Fin 10) (src subj : Nat) : (raise s b src subj).estd = s.estd := rfl
@[simp] theorem raise_plan (s : State) (b : Fin 10) (src subj : Nat) : (raise s b src subj).plan = s.plan := rfl
@[simp] theorem raise_pd (s : State) (b : Fin 10) (src subj : Nat) : (raise s b src subj).pd = s.pd := rfl
@[simp] theorem raise_prot (s : State) (b : Fin 10) (src subj : Nat) : (raise s b src subj).prot = s.prot := rfl
@[simp] theorem raise_defer (s : State) (b : Fin 10) (src subj : Nat) : (raise s b src subj).defer = s.defer := rfl
@[simp] theorem raise_mtrmRaw (s : State) (b : Fin 10) (src subj : Nat) : (raise s b src subj).mtrmRaw = s.mtrmRaw := rfl
@[simp] theorem raise_dbg (s : State) (b : Fin 10) (src subj : Nat) : (raise s b src subj).dbg = s.dbg := rfl
@[simp] theorem raise_peer (s : State) (b : Fin 10) (src subj : Nat) : (raise s b src subj).peer = s.peer := rfl
@[simp] theorem raise_mem (s : State) (b : Fin 10) (src subj : Nat) : (raise s b src subj).mem = s.mem := rfl
@[simp] theorem raise_bu (s : State) (b : Fin 10) (src subj : Nat) : (raise s b src subj).bu = s.bu := rfl
@[simp] theorem raise_rst (s : State) (b : Fin 10) (src subj : Nat) : (raise s b src subj).rst = s.rst := rfl
@[simp] theorem raise_meter (s : State) (b : Fin 10) (src subj : Nat) : (raise s b src subj).meter = s.meter := rfl
@[simp] theorem raise_mtrm (s : State) (b : Fin 10) (src subj : Nat) : (raise s b src subj).mtrm = s.mtrm := rfl
@[simp] theorem raise_pins (s : State) (b : Fin 10) (src subj : Nat) : (raise s b src subj).pins = s.pins := rfl
@[simp] theorem raise_io (s : State) (b : Fin 10) (src subj : Nat) : (raise s b src subj).io = s.io := rfl
@[simp] theorem raise_seqr (s : State) (b : Fin 10) (src subj : Nat) : (raise s b src subj).seqr = s.seqr := rfl
@[simp] theorem raise_lane (s : State) (b : Fin 10) (src subj : Nat) : (raise s b src subj).lane = s.lane := rfl
@[simp] theorem raise_acts (s : State) (b : Fin 10) (src subj : Nat) : (raise s b src subj).acts = s.acts := rfl
@[simp] theorem raise_sends (s : State) (b : Fin 10) (src subj : Nat) : (raise s b src subj).sends = s.sends := rfl
@[simp] theorem raise_cmdw (s : State) (b : Fin 10) (src subj : Nat) : (raise s b src subj).cmdw = s.cmdw := rfl
@[simp] theorem raise_tally (s : State) (b : Fin 10) (src subj : Nat) : (raise s b src subj).tally = s.tally := rfl
@[simp] theorem raise_mt (s : State) (b : Fin 10) (src subj : Nat) : (raise s b src subj).mt = s.mt := rfl
@[simp] theorem raise_mts (s : State) (b : Fin 10) (src subj : Nat) : (raise s b src subj).mts = s.mts := rfl
@[simp] theorem raise_loop (s : State) (b : Fin 10) (src subj : Nat) : (raise s b src subj).loop = s.loop := rfl
@[simp] theorem raise_tel (s : State) (b : Fin 10) (src subj : Nat) : (raise s b src subj).tel = s.tel := rfl
@[simp] theorem raise_exa (s : State) (b : Fin 10) (src subj : Nat) : (raise s b src subj).exa = s.exa := rfl
@[simp] theorem raise_setrec (s : State) (b : Fin 10) (src subj : Nat) : (raise s b src subj).setrec = s.setrec := rfl
@[simp] theorem raise_side (s : State) (b : Fin 10) (src subj : Nat) : (raise s b src subj).side = s.side := rfl
@[simp] theorem raise_freeCtr (s : State) (b : Fin 10) (src subj : Nat) : (raise s b src subj).freeCtr = s.freeCtr := rfl
@[simp] theorem raise_classHold (s : State) (b : Fin 10) (src subj : Nat) : (raise s b src subj).classHold = s.classHold := rfl
@[simp] theorem raise_pending (s : State) (b : Fin 10) (src subj : Nat) : (raise s b src subj).pending = s.pending := rfl

end Sys2Proof.Machine
end

