-- ==== Sys2Proof/Laws/State.lean ====
section
/-! SUPPORT. Each named update of State, field by field: what it writes and what it leaves. -/

namespace Sys2Proof.Machine

-- modBm
@[simp] theorem modBm_bm (s : State) (m : Fin 4) (f : Bm → Bm) : (modBm s m f).bm = s.bm.mod m f := rfl
@[simp] theorem modBm_inp (s : State) (m : Fin 4) (f : Bm → Bm) : (modBm s m f).inp = s.inp := rfl
@[simp] theorem modBm_epp (s : State) (m : Fin 4) (f : Bm → Bm) : (modBm s m f).epp = s.epp := rfl
@[simp] theorem modBm_la (s : State) (m : Fin 4) (f : Bm → Bm) : (modBm s m f).la = s.la := rfl
@[simp] theorem modBm_dom (s : State) (m : Fin 4) (f : Bm → Bm) : (modBm s m f).dom = s.dom := rfl
@[simp] theorem modBm_sns (s : State) (m : Fin 4) (f : Bm → Bm) : (modBm s m f).sns = s.sns := rfl
@[simp] theorem modBm_bond (s : State) (m : Fin 4) (f : Bm → Bm) : (modBm s m f).bond = s.bond := rfl
@[simp] theorem modBm_shf (s : State) (m : Fin 4) (f : Bm → Bm) : (modBm s m f).shf = s.shf := rfl
@[simp] theorem modBm_shw (s : State) (m : Fin 4) (f : Bm → Bm) : (modBm s m f).shw = s.shw := rfl
@[simp] theorem modBm_shr (s : State) (m : Fin 4) (f : Bm → Bm) : (modBm s m f).shr = s.shr := rfl
@[simp] theorem modBm_ph (s : State) (m : Fin 4) (f : Bm → Bm) : (modBm s m f).ph = s.ph := rfl
@[simp] theorem modBm_phw (s : State) (m : Fin 4) (f : Bm → Bm) : (modBm s m f).phw = s.phw := rfl
@[simp] theorem modBm_swref (s : State) (m : Fin 4) (f : Bm → Bm) : (modBm s m f).swref = s.swref := rfl
@[simp] theorem modBm_gln (s : State) (m : Fin 4) (f : Bm → Bm) : (modBm s m f).gln = s.gln := rfl
@[simp] theorem modBm_sp (s : State) (m : Fin 4) (f : Bm → Bm) : (modBm s m f).sp = s.sp := rfl
@[simp] theorem modBm_gw (s : State) (m : Fin 4) (f : Bm → Bm) : (modBm s m f).gw = s.gw := rfl
@[simp] theorem modBm_bank (s : State) (m : Fin 4) (f : Bm → Bm) : (modBm s m f).bank = s.bank := rfl
@[simp] theorem modBm_clk (s : State) (m : Fin 4) (f : Bm → Bm) : (modBm s m f).clk = s.clk := rfl
@[simp] theorem modBm_time (s : State) (m : Fin 4) (f : Bm → Bm) : (modBm s m f).time = s.time := rfl
@[simp] theorem modBm_seg (s : State) (m : Fin 4) (f : Bm → Bm) : (modBm s m f).seg = s.seg := rfl
@[simp] theorem modBm_ntc (s : State) (m : Fin 4) (f : Bm → Bm) : (modBm s m f).ntc = s.ntc := rfl
@[simp] theorem modBm_nd (s : State) (m : Fin 4) (f : Bm → Bm) : (modBm s m f).nd = s.nd := rfl
@[simp] theorem modBm_sg (s : State) (m : Fin 4) (f : Bm → Bm) : (modBm s m f).sg = s.sg := rfl
@[simp] theorem modBm_est (s : State) (m : Fin 4) (f : Bm → Bm) : (modBm s m f).est = s.est := rfl
@[simp] theorem modBm_estd (s : State) (m : Fin 4) (f : Bm → Bm) : (modBm s m f).estd = s.estd := rfl
@[simp] theorem modBm_plan (s : State) (m : Fin 4) (f : Bm → Bm) : (modBm s m f).plan = s.plan := rfl
@[simp] theorem modBm_pd (s : State) (m : Fin 4) (f : Bm → Bm) : (modBm s m f).pd = s.pd := rfl
@[simp] theorem modBm_prot (s : State) (m : Fin 4) (f : Bm → Bm) : (modBm s m f).prot = s.prot := rfl
@[simp] theorem modBm_flt (s : State) (m : Fin 4) (f : Bm → Bm) : (modBm s m f).flt = s.flt := rfl
@[simp] theorem modBm_fpin (s : State) (m : Fin 4) (f : Bm → Bm) : (modBm s m f).fpin = s.fpin := rfl
@[simp] theorem modBm_silo (s : State) (m : Fin 4) (f : Bm → Bm) : (modBm s m f).silo = s.silo := rfl
@[simp] theorem modBm_defer (s : State) (m : Fin 4) (f : Bm → Bm) : (modBm s m f).defer = s.defer := rfl
@[simp] theorem modBm_blkReset (s : State) (m : Fin 4) (f : Bm → Bm) : (modBm s m f).blkReset = s.blkReset := rfl
@[simp] theorem modBm_mtrmRaw (s : State) (m : Fin 4) (f : Bm → Bm) : (modBm s m f).mtrmRaw = s.mtrmRaw := rfl
@[simp] theorem modBm_dbg (s : State) (m : Fin 4) (f : Bm → Bm) : (modBm s m f).dbg = s.dbg := rfl
@[simp] theorem modBm_g (s : State) (m : Fin 4) (f : Bm → Bm) : (modBm s m f).g = s.g := rfl
@[simp] theorem modBm_peer (s : State) (m : Fin 4) (f : Bm → Bm) : (modBm s m f).peer = s.peer := rfl
@[simp] theorem modBm_mem (s : State) (m : Fin 4) (f : Bm → Bm) : (modBm s m f).mem = s.mem := rfl
@[simp] theorem modBm_bu (s : State) (m : Fin 4) (f : Bm → Bm) : (modBm s m f).bu = s.bu := rfl
@[simp] theorem modBm_rst (s : State) (m : Fin 4) (f : Bm → Bm) : (modBm s m f).rst = s.rst := rfl
@[simp] theorem modBm_meter (s : State) (m : Fin 4) (f : Bm → Bm) : (modBm s m f).meter = s.meter := rfl
@[simp] theorem modBm_mtrm (s : State) (m : Fin 4) (f : Bm → Bm) : (modBm s m f).mtrm = s.mtrm := rfl
@[simp] theorem modBm_pmb (s : State) (m : Fin 4) (f : Bm → Bm) : (modBm s m f).pmb = s.pmb := rfl
@[simp] theorem modBm_pins (s : State) (m : Fin 4) (f : Bm → Bm) : (modBm s m f).pins = s.pins := rfl
@[simp] theorem modBm_io (s : State) (m : Fin 4) (f : Bm → Bm) : (modBm s m f).io = s.io := rfl
@[simp] theorem modBm_seqr (s : State) (m : Fin 4) (f : Bm → Bm) : (modBm s m f).seqr = s.seqr := rfl
@[simp] theorem modBm_lane (s : State) (m : Fin 4) (f : Bm → Bm) : (modBm s m f).lane = s.lane := rfl
@[simp] theorem modBm_acts (s : State) (m : Fin 4) (f : Bm → Bm) : (modBm s m f).acts = s.acts := rfl
@[simp] theorem modBm_sends (s : State) (m : Fin 4) (f : Bm → Bm) : (modBm s m f).sends = s.sends := rfl
@[simp] theorem modBm_cmdw (s : State) (m : Fin 4) (f : Bm → Bm) : (modBm s m f).cmdw = s.cmdw := rfl
@[simp] theorem modBm_tally (s : State) (m : Fin 4) (f : Bm → Bm) : (modBm s m f).tally = s.tally := rfl
@[simp] theorem modBm_mt (s : State) (m : Fin 4) (f : Bm → Bm) : (modBm s m f).mt = s.mt := rfl
@[simp] theorem modBm_mts (s : State) (m : Fin 4) (f : Bm → Bm) : (modBm s m f).mts = s.mts := rfl
@[simp] theorem modBm_loop (s : State) (m : Fin 4) (f : Bm → Bm) : (modBm s m f).loop = s.loop := rfl
@[simp] theorem modBm_tel (s : State) (m : Fin 4) (f : Bm → Bm) : (modBm s m f).tel = s.tel := rfl
@[simp] theorem modBm_exa (s : State) (m : Fin 4) (f : Bm → Bm) : (modBm s m f).exa = s.exa := rfl
@[simp] theorem modBm_setrec (s : State) (m : Fin 4) (f : Bm → Bm) : (modBm s m f).setrec = s.setrec := rfl
@[simp] theorem modBm_side (s : State) (m : Fin 4) (f : Bm → Bm) : (modBm s m f).side = s.side := rfl
@[simp] theorem modBm_freeCtr (s : State) (m : Fin 4) (f : Bm → Bm) : (modBm s m f).freeCtr = s.freeCtr := rfl
@[simp] theorem modBm_classHold (s : State) (m : Fin 4) (f : Bm → Bm) : (modBm s m f).classHold = s.classHold := rfl
@[simp] theorem modBm_pending (s : State) (m : Fin 4) (f : Bm → Bm) : (modBm s m f).pending = s.pending := rfl

-- modEpp
@[simp] theorem modEpp_epp (s : State) (c : Fin 16) (f : Epp → Epp) : (modEpp s c f).epp = s.epp.mod c f := rfl
@[simp] theorem modEpp_inp (s : State) (c : Fin 16) (f : Epp → Epp) : (modEpp s c f).inp = s.inp := rfl
@[simp] theorem modEpp_bm (s : State) (c : Fin 16) (f : Epp → Epp) : (modEpp s c f).bm = s.bm := rfl
@[simp] theorem modEpp_la (s : State) (c : Fin 16) (f : Epp → Epp) : (modEpp s c f).la = s.la := rfl
@[simp] theorem modEpp_dom (s : State) (c : Fin 16) (f : Epp → Epp) : (modEpp s c f).dom = s.dom := rfl
@[simp] theorem modEpp_sns (s : State) (c : Fin 16) (f : Epp → Epp) : (modEpp s c f).sns = s.sns := rfl
@[simp] theorem modEpp_bond (s : State) (c : Fin 16) (f : Epp → Epp) : (modEpp s c f).bond = s.bond := rfl
@[simp] theorem modEpp_shf (s : State) (c : Fin 16) (f : Epp → Epp) : (modEpp s c f).shf = s.shf := rfl
@[simp] theorem modEpp_shw (s : State) (c : Fin 16) (f : Epp → Epp) : (modEpp s c f).shw = s.shw := rfl
@[simp] theorem modEpp_shr (s : State) (c : Fin 16) (f : Epp → Epp) : (modEpp s c f).shr = s.shr := rfl
@[simp] theorem modEpp_ph (s : State) (c : Fin 16) (f : Epp → Epp) : (modEpp s c f).ph = s.ph := rfl
@[simp] theorem modEpp_phw (s : State) (c : Fin 16) (f : Epp → Epp) : (modEpp s c f).phw = s.phw := rfl
@[simp] theorem modEpp_swref (s : State) (c : Fin 16) (f : Epp → Epp) : (modEpp s c f).swref = s.swref := rfl
@[simp] theorem modEpp_gln (s : State) (c : Fin 16) (f : Epp → Epp) : (modEpp s c f).gln = s.gln := rfl
@[simp] theorem modEpp_sp (s : State) (c : Fin 16) (f : Epp → Epp) : (modEpp s c f).sp = s.sp := rfl
@[simp] theorem modEpp_gw (s : State) (c : Fin 16) (f : Epp → Epp) : (modEpp s c f).gw = s.gw := rfl
@[simp] theorem modEpp_bank (s : State) (c : Fin 16) (f : Epp → Epp) : (modEpp s c f).bank = s.bank := rfl
@[simp] theorem modEpp_clk (s : State) (c : Fin 16) (f : Epp → Epp) : (modEpp s c f).clk = s.clk := rfl
@[simp] theorem modEpp_time (s : State) (c : Fin 16) (f : Epp → Epp) : (modEpp s c f).time = s.time := rfl
@[simp] theorem modEpp_seg (s : State) (c : Fin 16) (f : Epp → Epp) : (modEpp s c f).seg = s.seg := rfl
@[simp] theorem modEpp_ntc (s : State) (c : Fin 16) (f : Epp → Epp) : (modEpp s c f).ntc = s.ntc := rfl
@[simp] theorem modEpp_nd (s : State) (c : Fin 16) (f : Epp → Epp) : (modEpp s c f).nd = s.nd := rfl
@[simp] theorem modEpp_sg (s : State) (c : Fin 16) (f : Epp → Epp) : (modEpp s c f).sg = s.sg := rfl
@[simp] theorem modEpp_est (s : State) (c : Fin 16) (f : Epp → Epp) : (modEpp s c f).est = s.est := rfl
@[simp] theorem modEpp_estd (s : State) (c : Fin 16) (f : Epp → Epp) : (modEpp s c f).estd = s.estd := rfl
@[simp] theorem modEpp_plan (s : State) (c : Fin 16) (f : Epp → Epp) : (modEpp s c f).plan = s.plan := rfl
@[simp] theorem modEpp_pd (s : State) (c : Fin 16) (f : Epp → Epp) : (modEpp s c f).pd = s.pd := rfl
@[simp] theorem modEpp_prot (s : State) (c : Fin 16) (f : Epp → Epp) : (modEpp s c f).prot = s.prot := rfl
@[simp] theorem modEpp_flt (s : State) (c : Fin 16) (f : Epp → Epp) : (modEpp s c f).flt = s.flt := rfl
@[simp] theorem modEpp_fpin (s : State) (c : Fin 16) (f : Epp → Epp) : (modEpp s c f).fpin = s.fpin := rfl
@[simp] theorem modEpp_silo (s : State) (c : Fin 16) (f : Epp → Epp) : (modEpp s c f).silo = s.silo := rfl
@[simp] theorem modEpp_defer (s : State) (c : Fin 16) (f : Epp → Epp) : (modEpp s c f).defer = s.defer := rfl
@[simp] theorem modEpp_blkReset (s : State) (c : Fin 16) (f : Epp → Epp) : (modEpp s c f).blkReset = s.blkReset := rfl
@[simp] theorem modEpp_mtrmRaw (s : State) (c : Fin 16) (f : Epp → Epp) : (modEpp s c f).mtrmRaw = s.mtrmRaw := rfl
@[simp] theorem modEpp_dbg (s : State) (c : Fin 16) (f : Epp → Epp) : (modEpp s c f).dbg = s.dbg := rfl
@[simp] theorem modEpp_g (s : State) (c : Fin 16) (f : Epp → Epp) : (modEpp s c f).g = s.g := rfl
@[simp] theorem modEpp_peer (s : State) (c : Fin 16) (f : Epp → Epp) : (modEpp s c f).peer = s.peer := rfl
@[simp] theorem modEpp_mem (s : State) (c : Fin 16) (f : Epp → Epp) : (modEpp s c f).mem = s.mem := rfl
@[simp] theorem modEpp_bu (s : State) (c : Fin 16) (f : Epp → Epp) : (modEpp s c f).bu = s.bu := rfl
@[simp] theorem modEpp_rst (s : State) (c : Fin 16) (f : Epp → Epp) : (modEpp s c f).rst = s.rst := rfl
@[simp] theorem modEpp_meter (s : State) (c : Fin 16) (f : Epp → Epp) : (modEpp s c f).meter = s.meter := rfl
@[simp] theorem modEpp_mtrm (s : State) (c : Fin 16) (f : Epp → Epp) : (modEpp s c f).mtrm = s.mtrm := rfl
@[simp] theorem modEpp_pmb (s : State) (c : Fin 16) (f : Epp → Epp) : (modEpp s c f).pmb = s.pmb := rfl
@[simp] theorem modEpp_pins (s : State) (c : Fin 16) (f : Epp → Epp) : (modEpp s c f).pins = s.pins := rfl
@[simp] theorem modEpp_io (s : State) (c : Fin 16) (f : Epp → Epp) : (modEpp s c f).io = s.io := rfl
@[simp] theorem modEpp_seqr (s : State) (c : Fin 16) (f : Epp → Epp) : (modEpp s c f).seqr = s.seqr := rfl
@[simp] theorem modEpp_lane (s : State) (c : Fin 16) (f : Epp → Epp) : (modEpp s c f).lane = s.lane := rfl
@[simp] theorem modEpp_acts (s : State) (c : Fin 16) (f : Epp → Epp) : (modEpp s c f).acts = s.acts := rfl
@[simp] theorem modEpp_sends (s : State) (c : Fin 16) (f : Epp → Epp) : (modEpp s c f).sends = s.sends := rfl
@[simp] theorem modEpp_cmdw (s : State) (c : Fin 16) (f : Epp → Epp) : (modEpp s c f).cmdw = s.cmdw := rfl
@[simp] theorem modEpp_tally (s : State) (c : Fin 16) (f : Epp → Epp) : (modEpp s c f).tally = s.tally := rfl
@[simp] theorem modEpp_mt (s : State) (c : Fin 16) (f : Epp → Epp) : (modEpp s c f).mt = s.mt := rfl
@[simp] theorem modEpp_mts (s : State) (c : Fin 16) (f : Epp → Epp) : (modEpp s c f).mts = s.mts := rfl
@[simp] theorem modEpp_loop (s : State) (c : Fin 16) (f : Epp → Epp) : (modEpp s c f).loop = s.loop := rfl
@[simp] theorem modEpp_tel (s : State) (c : Fin 16) (f : Epp → Epp) : (modEpp s c f).tel = s.tel := rfl
@[simp] theorem modEpp_exa (s : State) (c : Fin 16) (f : Epp → Epp) : (modEpp s c f).exa = s.exa := rfl
@[simp] theorem modEpp_setrec (s : State) (c : Fin 16) (f : Epp → Epp) : (modEpp s c f).setrec = s.setrec := rfl
@[simp] theorem modEpp_side (s : State) (c : Fin 16) (f : Epp → Epp) : (modEpp s c f).side = s.side := rfl
@[simp] theorem modEpp_freeCtr (s : State) (c : Fin 16) (f : Epp → Epp) : (modEpp s c f).freeCtr = s.freeCtr := rfl
@[simp] theorem modEpp_classHold (s : State) (c : Fin 16) (f : Epp → Epp) : (modEpp s c f).classHold = s.classHold := rfl
@[simp] theorem modEpp_pending (s : State) (c : Fin 16) (f : Epp → Epp) : (modEpp s c f).pending = s.pending := rfl

-- setDomSt
@[simp] theorem setDomSt_dom (s : State) (d : Nat) (x : DomSt) : (setDomSt s d x).dom = s.dom.modN d fun e => { e with st := x } := rfl
@[simp] theorem setDomSt_inp (s : State) (d : Nat) (x : DomSt) : (setDomSt s d x).inp = s.inp := rfl
@[simp] theorem setDomSt_bm (s : State) (d : Nat) (x : DomSt) : (setDomSt s d x).bm = s.bm := rfl
@[simp] theorem setDomSt_epp (s : State) (d : Nat) (x : DomSt) : (setDomSt s d x).epp = s.epp := rfl
@[simp] theorem setDomSt_la (s : State) (d : Nat) (x : DomSt) : (setDomSt s d x).la = s.la := rfl
@[simp] theorem setDomSt_sns (s : State) (d : Nat) (x : DomSt) : (setDomSt s d x).sns = s.sns := rfl
@[simp] theorem setDomSt_bond (s : State) (d : Nat) (x : DomSt) : (setDomSt s d x).bond = s.bond := rfl
@[simp] theorem setDomSt_shf (s : State) (d : Nat) (x : DomSt) : (setDomSt s d x).shf = s.shf := rfl
@[simp] theorem setDomSt_shw (s : State) (d : Nat) (x : DomSt) : (setDomSt s d x).shw = s.shw := rfl
@[simp] theorem setDomSt_shr (s : State) (d : Nat) (x : DomSt) : (setDomSt s d x).shr = s.shr := rfl
@[simp] theorem setDomSt_ph (s : State) (d : Nat) (x : DomSt) : (setDomSt s d x).ph = s.ph := rfl
@[simp] theorem setDomSt_phw (s : State) (d : Nat) (x : DomSt) : (setDomSt s d x).phw = s.phw := rfl
@[simp] theorem setDomSt_swref (s : State) (d : Nat) (x : DomSt) : (setDomSt s d x).swref = s.swref := rfl
@[simp] theorem setDomSt_gln (s : State) (d : Nat) (x : DomSt) : (setDomSt s d x).gln = s.gln := rfl
@[simp] theorem setDomSt_sp (s : State) (d : Nat) (x : DomSt) : (setDomSt s d x).sp = s.sp := rfl
@[simp] theorem setDomSt_gw (s : State) (d : Nat) (x : DomSt) : (setDomSt s d x).gw = s.gw := rfl
@[simp] theorem setDomSt_bank (s : State) (d : Nat) (x : DomSt) : (setDomSt s d x).bank = s.bank := rfl
@[simp] theorem setDomSt_clk (s : State) (d : Nat) (x : DomSt) : (setDomSt s d x).clk = s.clk := rfl
@[simp] theorem setDomSt_time (s : State) (d : Nat) (x : DomSt) : (setDomSt s d x).time = s.time := rfl
@[simp] theorem setDomSt_seg (s : State) (d : Nat) (x : DomSt) : (setDomSt s d x).seg = s.seg := rfl
@[simp] theorem setDomSt_ntc (s : State) (d : Nat) (x : DomSt) : (setDomSt s d x).ntc = s.ntc := rfl
@[simp] theorem setDomSt_nd (s : State) (d : Nat) (x : DomSt) : (setDomSt s d x).nd = s.nd := rfl
@[simp] theorem setDomSt_sg (s : State) (d : Nat) (x : DomSt) : (setDomSt s d x).sg = s.sg := rfl
@[simp] theorem setDomSt_est (s : State) (d : Nat) (x : DomSt) : (setDomSt s d x).est = s.est := rfl
@[simp] theorem setDomSt_estd (s : State) (d : Nat) (x : DomSt) : (setDomSt s d x).estd = s.estd := rfl
@[simp] theorem setDomSt_plan (s : State) (d : Nat) (x : DomSt) : (setDomSt s d x).plan = s.plan := rfl
@[simp] theorem setDomSt_pd (s : State) (d : Nat) (x : DomSt) : (setDomSt s d x).pd = s.pd := rfl
@[simp] theorem setDomSt_prot (s : State) (d : Nat) (x : DomSt) : (setDomSt s d x).prot = s.prot := rfl
@[simp] theorem setDomSt_flt (s : State) (d : Nat) (x : DomSt) : (setDomSt s d x).flt = s.flt := rfl
@[simp] theorem setDomSt_fpin (s : State) (d : Nat) (x : DomSt) : (setDomSt s d x).fpin = s.fpin := rfl
@[simp] theorem setDomSt_silo (s : State) (d : Nat) (x : DomSt) : (setDomSt s d x).silo = s.silo := rfl
@[simp] theorem setDomSt_defer (s : State) (d : Nat) (x : DomSt) : (setDomSt s d x).defer = s.defer := rfl
@[simp] theorem setDomSt_blkReset (s : State) (d : Nat) (x : DomSt) : (setDomSt s d x).blkReset = s.blkReset := rfl
@[simp] theorem setDomSt_mtrmRaw (s : State) (d : Nat) (x : DomSt) : (setDomSt s d x).mtrmRaw = s.mtrmRaw := rfl
@[simp] theorem setDomSt_dbg (s : State) (d : Nat) (x : DomSt) : (setDomSt s d x).dbg = s.dbg := rfl
@[simp] theorem setDomSt_g (s : State) (d : Nat) (x : DomSt) : (setDomSt s d x).g = s.g := rfl
@[simp] theorem setDomSt_peer (s : State) (d : Nat) (x : DomSt) : (setDomSt s d x).peer = s.peer := rfl
@[simp] theorem setDomSt_mem (s : State) (d : Nat) (x : DomSt) : (setDomSt s d x).mem = s.mem := rfl
@[simp] theorem setDomSt_bu (s : State) (d : Nat) (x : DomSt) : (setDomSt s d x).bu = s.bu := rfl
@[simp] theorem setDomSt_rst (s : State) (d : Nat) (x : DomSt) : (setDomSt s d x).rst = s.rst := rfl
@[simp] theorem setDomSt_meter (s : State) (d : Nat) (x : DomSt) : (setDomSt s d x).meter = s.meter := rfl
@[simp] theorem setDomSt_mtrm (s : State) (d : Nat) (x : DomSt) : (setDomSt s d x).mtrm = s.mtrm := rfl
@[simp] theorem setDomSt_pmb (s : State) (d : Nat) (x : DomSt) : (setDomSt s d x).pmb = s.pmb := rfl
@[simp] theorem setDomSt_pins (s : State) (d : Nat) (x : DomSt) : (setDomSt s d x).pins = s.pins := rfl
@[simp] theorem setDomSt_io (s : State) (d : Nat) (x : DomSt) : (setDomSt s d x).io = s.io := rfl
@[simp] theorem setDomSt_seqr (s : State) (d : Nat) (x : DomSt) : (setDomSt s d x).seqr = s.seqr := rfl
@[simp] theorem setDomSt_lane (s : State) (d : Nat) (x : DomSt) : (setDomSt s d x).lane = s.lane := rfl
@[simp] theorem setDomSt_acts (s : State) (d : Nat) (x : DomSt) : (setDomSt s d x).acts = s.acts := rfl
@[simp] theorem setDomSt_sends (s : State) (d : Nat) (x : DomSt) : (setDomSt s d x).sends = s.sends := rfl
@[simp] theorem setDomSt_cmdw (s : State) (d : Nat) (x : DomSt) : (setDomSt s d x).cmdw = s.cmdw := rfl
@[simp] theorem setDomSt_tally (s : State) (d : Nat) (x : DomSt) : (setDomSt s d x).tally = s.tally := rfl
@[simp] theorem setDomSt_mt (s : State) (d : Nat) (x : DomSt) : (setDomSt s d x).mt = s.mt := rfl
@[simp] theorem setDomSt_mts (s : State) (d : Nat) (x : DomSt) : (setDomSt s d x).mts = s.mts := rfl
@[simp] theorem setDomSt_loop (s : State) (d : Nat) (x : DomSt) : (setDomSt s d x).loop = s.loop := rfl
@[simp] theorem setDomSt_tel (s : State) (d : Nat) (x : DomSt) : (setDomSt s d x).tel = s.tel := rfl
@[simp] theorem setDomSt_exa (s : State) (d : Nat) (x : DomSt) : (setDomSt s d x).exa = s.exa := rfl
@[simp] theorem setDomSt_setrec (s : State) (d : Nat) (x : DomSt) : (setDomSt s d x).setrec = s.setrec := rfl
@[simp] theorem setDomSt_side (s : State) (d : Nat) (x : DomSt) : (setDomSt s d x).side = s.side := rfl
@[simp] theorem setDomSt_freeCtr (s : State) (d : Nat) (x : DomSt) : (setDomSt s d x).freeCtr = s.freeCtr := rfl
@[simp] theorem setDomSt_classHold (s : State) (d : Nat) (x : DomSt) : (setDomSt s d x).classHold = s.classHold := rfl
@[simp] theorem setDomSt_pending (s : State) (d : Nat) (x : DomSt) : (setDomSt s d x).pending = s.pending := rfl

-- modSp
@[simp] theorem modSp_sp (s : State) (d : Nat) (f : Sp → Sp) : (modSp s d f).sp = s.sp.modN d f := rfl
@[simp] theorem modSp_inp (s : State) (d : Nat) (f : Sp → Sp) : (modSp s d f).inp = s.inp := rfl
@[simp] theorem modSp_bm (s : State) (d : Nat) (f : Sp → Sp) : (modSp s d f).bm = s.bm := rfl
@[simp] theorem modSp_epp (s : State) (d : Nat) (f : Sp → Sp) : (modSp s d f).epp = s.epp := rfl
@[simp] theorem modSp_la (s : State) (d : Nat) (f : Sp → Sp) : (modSp s d f).la = s.la := rfl
@[simp] theorem modSp_dom (s : State) (d : Nat) (f : Sp → Sp) : (modSp s d f).dom = s.dom := rfl
@[simp] theorem modSp_sns (s : State) (d : Nat) (f : Sp → Sp) : (modSp s d f).sns = s.sns := rfl
@[simp] theorem modSp_bond (s : State) (d : Nat) (f : Sp → Sp) : (modSp s d f).bond = s.bond := rfl
@[simp] theorem modSp_shf (s : State) (d : Nat) (f : Sp → Sp) : (modSp s d f).shf = s.shf := rfl
@[simp] theorem modSp_shw (s : State) (d : Nat) (f : Sp → Sp) : (modSp s d f).shw = s.shw := rfl
@[simp] theorem modSp_shr (s : State) (d : Nat) (f : Sp → Sp) : (modSp s d f).shr = s.shr := rfl
@[simp] theorem modSp_ph (s : State) (d : Nat) (f : Sp → Sp) : (modSp s d f).ph = s.ph := rfl
@[simp] theorem modSp_phw (s : State) (d : Nat) (f : Sp → Sp) : (modSp s d f).phw = s.phw := rfl
@[simp] theorem modSp_swref (s : State) (d : Nat) (f : Sp → Sp) : (modSp s d f).swref = s.swref := rfl
@[simp] theorem modSp_gln (s : State) (d : Nat) (f : Sp → Sp) : (modSp s d f).gln = s.gln := rfl
@[simp] theorem modSp_gw (s : State) (d : Nat) (f : Sp → Sp) : (modSp s d f).gw = s.gw := rfl
@[simp] theorem modSp_bank (s : State) (d : Nat) (f : Sp → Sp) : (modSp s d f).bank = s.bank := rfl
@[simp] theorem modSp_clk (s : State) (d : Nat) (f : Sp → Sp) : (modSp s d f).clk = s.clk := rfl
@[simp] theorem modSp_time (s : State) (d : Nat) (f : Sp → Sp) : (modSp s d f).time = s.time := rfl
@[simp] theorem modSp_seg (s : State) (d : Nat) (f : Sp → Sp) : (modSp s d f).seg = s.seg := rfl
@[simp] theorem modSp_ntc (s : State) (d : Nat) (f : Sp → Sp) : (modSp s d f).ntc = s.ntc := rfl
@[simp] theorem modSp_nd (s : State) (d : Nat) (f : Sp → Sp) : (modSp s d f).nd = s.nd := rfl
@[simp] theorem modSp_sg (s : State) (d : Nat) (f : Sp → Sp) : (modSp s d f).sg = s.sg := rfl
@[simp] theorem modSp_est (s : State) (d : Nat) (f : Sp → Sp) : (modSp s d f).est = s.est := rfl
@[simp] theorem modSp_estd (s : State) (d : Nat) (f : Sp → Sp) : (modSp s d f).estd = s.estd := rfl
@[simp] theorem modSp_plan (s : State) (d : Nat) (f : Sp → Sp) : (modSp s d f).plan = s.plan := rfl
@[simp] theorem modSp_pd (s : State) (d : Nat) (f : Sp → Sp) : (modSp s d f).pd = s.pd := rfl
@[simp] theorem modSp_prot (s : State) (d : Nat) (f : Sp → Sp) : (modSp s d f).prot = s.prot := rfl
@[simp] theorem modSp_flt (s : State) (d : Nat) (f : Sp → Sp) : (modSp s d f).flt = s.flt := rfl
@[simp] theorem modSp_fpin (s : State) (d : Nat) (f : Sp → Sp) : (modSp s d f).fpin = s.fpin := rfl
@[simp] theorem modSp_silo (s : State) (d : Nat) (f : Sp → Sp) : (modSp s d f).silo = s.silo := rfl
@[simp] theorem modSp_defer (s : State) (d : Nat) (f : Sp → Sp) : (modSp s d f).defer = s.defer := rfl
@[simp] theorem modSp_blkReset (s : State) (d : Nat) (f : Sp → Sp) : (modSp s d f).blkReset = s.blkReset := rfl
@[simp] theorem modSp_mtrmRaw (s : State) (d : Nat) (f : Sp → Sp) : (modSp s d f).mtrmRaw = s.mtrmRaw := rfl
@[simp] theorem modSp_dbg (s : State) (d : Nat) (f : Sp → Sp) : (modSp s d f).dbg = s.dbg := rfl
@[simp] theorem modSp_g (s : State) (d : Nat) (f : Sp → Sp) : (modSp s d f).g = s.g := rfl
@[simp] theorem modSp_peer (s : State) (d : Nat) (f : Sp → Sp) : (modSp s d f).peer = s.peer := rfl
@[simp] theorem modSp_mem (s : State) (d : Nat) (f : Sp → Sp) : (modSp s d f).mem = s.mem := rfl
@[simp] theorem modSp_bu (s : State) (d : Nat) (f : Sp → Sp) : (modSp s d f).bu = s.bu := rfl
@[simp] theorem modSp_rst (s : State) (d : Nat) (f : Sp → Sp) : (modSp s d f).rst = s.rst := rfl
@[simp] theorem modSp_meter (s : State) (d : Nat) (f : Sp → Sp) : (modSp s d f).meter = s.meter := rfl
@[simp] theorem modSp_mtrm (s : State) (d : Nat) (f : Sp → Sp) : (modSp s d f).mtrm = s.mtrm := rfl
@[simp] theorem modSp_pmb (s : State) (d : Nat) (f : Sp → Sp) : (modSp s d f).pmb = s.pmb := rfl
@[simp] theorem modSp_pins (s : State) (d : Nat) (f : Sp → Sp) : (modSp s d f).pins = s.pins := rfl
@[simp] theorem modSp_io (s : State) (d : Nat) (f : Sp → Sp) : (modSp s d f).io = s.io := rfl
@[simp] theorem modSp_seqr (s : State) (d : Nat) (f : Sp → Sp) : (modSp s d f).seqr = s.seqr := rfl
@[simp] theorem modSp_lane (s : State) (d : Nat) (f : Sp → Sp) : (modSp s d f).lane = s.lane := rfl
@[simp] theorem modSp_acts (s : State) (d : Nat) (f : Sp → Sp) : (modSp s d f).acts = s.acts := rfl
@[simp] theorem modSp_sends (s : State) (d : Nat) (f : Sp → Sp) : (modSp s d f).sends = s.sends := rfl
@[simp] theorem modSp_cmdw (s : State) (d : Nat) (f : Sp → Sp) : (modSp s d f).cmdw = s.cmdw := rfl
@[simp] theorem modSp_tally (s : State) (d : Nat) (f : Sp → Sp) : (modSp s d f).tally = s.tally := rfl
@[simp] theorem modSp_mt (s : State) (d : Nat) (f : Sp → Sp) : (modSp s d f).mt = s.mt := rfl
@[simp] theorem modSp_mts (s : State) (d : Nat) (f : Sp → Sp) : (modSp s d f).mts = s.mts := rfl
@[simp] theorem modSp_loop (s : State) (d : Nat) (f : Sp → Sp) : (modSp s d f).loop = s.loop := rfl
@[simp] theorem modSp_tel (s : State) (d : Nat) (f : Sp → Sp) : (modSp s d f).tel = s.tel := rfl
@[simp] theorem modSp_exa (s : State) (d : Nat) (f : Sp → Sp) : (modSp s d f).exa = s.exa := rfl
@[simp] theorem modSp_setrec (s : State) (d : Nat) (f : Sp → Sp) : (modSp s d f).setrec = s.setrec := rfl
@[simp] theorem modSp_side (s : State) (d : Nat) (f : Sp → Sp) : (modSp s d f).side = s.side := rfl
@[simp] theorem modSp_freeCtr (s : State) (d : Nat) (f : Sp → Sp) : (modSp s d f).freeCtr = s.freeCtr := rfl
@[simp] theorem modSp_classHold (s : State) (d : Nat) (f : Sp → Sp) : (modSp s d f).classHold = s.classHold := rfl
@[simp] theorem modSp_pending (s : State) (d : Nat) (f : Sp → Sp) : (modSp s d f).pending = s.pending := rfl

-- modGw
@[simp] theorem modGw_gw (s : State) (d : Nat) (f : Gw → Gw) : (modGw s d f).gw = s.gw.modN d f := rfl
@[simp] theorem modGw_inp (s : State) (d : Nat) (f : Gw → Gw) : (modGw s d f).inp = s.inp := rfl
@[simp] theorem modGw_bm (s : State) (d : Nat) (f : Gw → Gw) : (modGw s d f).bm = s.bm := rfl
@[simp] theorem modGw_epp (s : State) (d : Nat) (f : Gw → Gw) : (modGw s d f).epp = s.epp := rfl
@[simp] theorem modGw_la (s : State) (d : Nat) (f : Gw → Gw) : (modGw s d f).la = s.la := rfl
@[simp] theorem modGw_dom (s : State) (d : Nat) (f : Gw → Gw) : (modGw s d f).dom = s.dom := rfl
@[simp] theorem modGw_sns (s : State) (d : Nat) (f : Gw → Gw) : (modGw s d f).sns = s.sns := rfl
@[simp] theorem modGw_bond (s : State) (d : Nat) (f : Gw → Gw) : (modGw s d f).bond = s.bond := rfl
@[simp] theorem modGw_shf (s : State) (d : Nat) (f : Gw → Gw) : (modGw s d f).shf = s.shf := rfl
@[simp] theorem modGw_shw (s : State) (d : Nat) (f : Gw → Gw) : (modGw s d f).shw = s.shw := rfl
@[simp] theorem modGw_shr (s : State) (d : Nat) (f : Gw → Gw) : (modGw s d f).shr = s.shr := rfl
@[simp] theorem modGw_ph (s : State) (d : Nat) (f : Gw → Gw) : (modGw s d f).ph = s.ph := rfl
@[simp] theorem modGw_phw (s : State) (d : Nat) (f : Gw → Gw) : (modGw s d f).phw = s.phw := rfl
@[simp] theorem modGw_swref (s : State) (d : Nat) (f : Gw → Gw) : (modGw s d f).swref = s.swref := rfl
@[simp] theorem modGw_gln (s : State) (d : Nat) (f : Gw → Gw) : (modGw s d f).gln = s.gln := rfl
@[simp] theorem modGw_sp (s : State) (d : Nat) (f : Gw → Gw) : (modGw s d f).sp = s.sp := rfl
@[simp] theorem modGw_bank (s : State) (d : Nat) (f : Gw → Gw) : (modGw s d f).bank = s.bank := rfl
@[simp] theorem modGw_clk (s : State) (d : Nat) (f : Gw → Gw) : (modGw s d f).clk = s.clk := rfl
@[simp] theorem modGw_time (s : State) (d : Nat) (f : Gw → Gw) : (modGw s d f).time = s.time := rfl
@[simp] theorem modGw_seg (s : State) (d : Nat) (f : Gw → Gw) : (modGw s d f).seg = s.seg := rfl
@[simp] theorem modGw_ntc (s : State) (d : Nat) (f : Gw → Gw) : (modGw s d f).ntc = s.ntc := rfl
@[simp] theorem modGw_nd (s : State) (d : Nat) (f : Gw → Gw) : (modGw s d f).nd = s.nd := rfl
@[simp] theorem modGw_sg (s : State) (d : Nat) (f : Gw → Gw) : (modGw s d f).sg = s.sg := rfl
@[simp] theorem modGw_est (s : State) (d : Nat) (f : Gw → Gw) : (modGw s d f).est = s.est := rfl
@[simp] theorem modGw_estd (s : State) (d : Nat) (f : Gw → Gw) : (modGw s d f).estd = s.estd := rfl
@[simp] theorem modGw_plan (s : State) (d : Nat) (f : Gw → Gw) : (modGw s d f).plan = s.plan := rfl
@[simp] theorem modGw_pd (s : State) (d : Nat) (f : Gw → Gw) : (modGw s d f).pd = s.pd := rfl
@[simp] theorem modGw_prot (s : State) (d : Nat) (f : Gw → Gw) : (modGw s d f).prot = s.prot := rfl
@[simp] theorem modGw_flt (s : State) (d : Nat) (f : Gw → Gw) : (modGw s d f).flt = s.flt := rfl
@[simp] theorem modGw_fpin (s : State) (d : Nat) (f : Gw → Gw) : (modGw s d f).fpin = s.fpin := rfl
@[simp] theorem modGw_silo (s : State) (d : Nat) (f : Gw → Gw) : (modGw s d f).silo = s.silo := rfl
@[simp] theorem modGw_defer (s : State) (d : Nat) (f : Gw → Gw) : (modGw s d f).defer = s.defer := rfl
@[simp] theorem modGw_blkReset (s : State) (d : Nat) (f : Gw → Gw) : (modGw s d f).blkReset = s.blkReset := rfl
@[simp] theorem modGw_mtrmRaw (s : State) (d : Nat) (f : Gw → Gw) : (modGw s d f).mtrmRaw = s.mtrmRaw := rfl
@[simp] theorem modGw_dbg (s : State) (d : Nat) (f : Gw → Gw) : (modGw s d f).dbg = s.dbg := rfl
@[simp] theorem modGw_g (s : State) (d : Nat) (f : Gw → Gw) : (modGw s d f).g = s.g := rfl
@[simp] theorem modGw_peer (s : State) (d : Nat) (f : Gw → Gw) : (modGw s d f).peer = s.peer := rfl
@[simp] theorem modGw_mem (s : State) (d : Nat) (f : Gw → Gw) : (modGw s d f).mem = s.mem := rfl
@[simp] theorem modGw_bu (s : State) (d : Nat) (f : Gw → Gw) : (modGw s d f).bu = s.bu := rfl
@[simp] theorem modGw_rst (s : State) (d : Nat) (f : Gw → Gw) : (modGw s d f).rst = s.rst := rfl
@[simp] theorem modGw_meter (s : State) (d : Nat) (f : Gw → Gw) : (modGw s d f).meter = s.meter := rfl
@[simp] theorem modGw_mtrm (s : State) (d : Nat) (f : Gw → Gw) : (modGw s d f).mtrm = s.mtrm := rfl
@[simp] theorem modGw_pmb (s : State) (d : Nat) (f : Gw → Gw) : (modGw s d f).pmb = s.pmb := rfl
@[simp] theorem modGw_pins (s : State) (d : Nat) (f : Gw → Gw) : (modGw s d f).pins = s.pins := rfl
@[simp] theorem modGw_io (s : State) (d : Nat) (f : Gw → Gw) : (modGw s d f).io = s.io := rfl
@[simp] theorem modGw_seqr (s : State) (d : Nat) (f : Gw → Gw) : (modGw s d f).seqr = s.seqr := rfl
@[simp] theorem modGw_lane (s : State) (d : Nat) (f : Gw → Gw) : (modGw s d f).lane = s.lane := rfl
@[simp] theorem modGw_acts (s : State) (d : Nat) (f : Gw → Gw) : (modGw s d f).acts = s.acts := rfl
@[simp] theorem modGw_sends (s : State) (d : Nat) (f : Gw → Gw) : (modGw s d f).sends = s.sends := rfl
@[simp] theorem modGw_cmdw (s : State) (d : Nat) (f : Gw → Gw) : (modGw s d f).cmdw = s.cmdw := rfl
@[simp] theorem modGw_tally (s : State) (d : Nat) (f : Gw → Gw) : (modGw s d f).tally = s.tally := rfl
@[simp] theorem modGw_mt (s : State) (d : Nat) (f : Gw → Gw) : (modGw s d f).mt = s.mt := rfl
@[simp] theorem modGw_mts (s : State) (d : Nat) (f : Gw → Gw) : (modGw s d f).mts = s.mts := rfl
@[simp] theorem modGw_loop (s : State) (d : Nat) (f : Gw → Gw) : (modGw s d f).loop = s.loop := rfl
@[simp] theorem modGw_tel (s : State) (d : Nat) (f : Gw → Gw) : (modGw s d f).tel = s.tel := rfl
@[simp] theorem modGw_exa (s : State) (d : Nat) (f : Gw → Gw) : (modGw s d f).exa = s.exa := rfl
@[simp] theorem modGw_setrec (s : State) (d : Nat) (f : Gw → Gw) : (modGw s d f).setrec = s.setrec := rfl
@[simp] theorem modGw_side (s : State) (d : Nat) (f : Gw → Gw) : (modGw s d f).side = s.side := rfl
@[simp] theorem modGw_freeCtr (s : State) (d : Nat) (f : Gw → Gw) : (modGw s d f).freeCtr = s.freeCtr := rfl
@[simp] theorem modGw_classHold (s : State) (d : Nat) (f : Gw → Gw) : (modGw s d f).classHold = s.classHold := rfl
@[simp] theorem modGw_pending (s : State) (d : Nat) (f : Gw → Gw) : (modGw s d f).pending = s.pending := rfl

-- modShf
@[simp] theorem modShf_shf (s : State) (d : Nat) (f : Shf → Shf) : (modShf s d f).shf = s.shf.modN d f := rfl
@[simp] theorem modShf_inp (s : State) (d : Nat) (f : Shf → Shf) : (modShf s d f).inp = s.inp := rfl
@[simp] theorem modShf_bm (s : State) (d : Nat) (f : Shf → Shf) : (modShf s d f).bm = s.bm := rfl
@[simp] theorem modShf_epp (s : State) (d : Nat) (f : Shf → Shf) : (modShf s d f).epp = s.epp := rfl
@[simp] theorem modShf_la (s : State) (d : Nat) (f : Shf → Shf) : (modShf s d f).la = s.la := rfl
@[simp] theorem modShf_dom (s : State) (d : Nat) (f : Shf → Shf) : (modShf s d f).dom = s.dom := rfl
@[simp] theorem modShf_sns (s : State) (d : Nat) (f : Shf → Shf) : (modShf s d f).sns = s.sns := rfl
@[simp] theorem modShf_bond (s : State) (d : Nat) (f : Shf → Shf) : (modShf s d f).bond = s.bond := rfl
@[simp] theorem modShf_shw (s : State) (d : Nat) (f : Shf → Shf) : (modShf s d f).shw = s.shw := rfl
@[simp] theorem modShf_shr (s : State) (d : Nat) (f : Shf → Shf) : (modShf s d f).shr = s.shr := rfl
@[simp] theorem modShf_ph (s : State) (d : Nat) (f : Shf → Shf) : (modShf s d f).ph = s.ph := rfl
@[simp] theorem modShf_phw (s : State) (d : Nat) (f : Shf → Shf) : (modShf s d f).phw = s.phw := rfl
@[simp] theorem modShf_swref (s : State) (d : Nat) (f : Shf → Shf) : (modShf s d f).swref = s.swref := rfl
@[simp] theorem modShf_gln (s : State) (d : Nat) (f : Shf → Shf) : (modShf s d f).gln = s.gln := rfl
@[simp] theorem modShf_sp (s : State) (d : Nat) (f : Shf → Shf) : (modShf s d f).sp = s.sp := rfl
@[simp] theorem modShf_gw (s : State) (d : Nat) (f : Shf → Shf) : (modShf s d f).gw = s.gw := rfl
@[simp] theorem modShf_bank (s : State) (d : Nat) (f : Shf → Shf) : (modShf s d f).bank = s.bank := rfl
@[simp] theorem modShf_clk (s : State) (d : Nat) (f : Shf → Shf) : (modShf s d f).clk = s.clk := rfl
@[simp] theorem modShf_time (s : State) (d : Nat) (f : Shf → Shf) : (modShf s d f).time = s.time := rfl
@[simp] theorem modShf_seg (s : State) (d : Nat) (f : Shf → Shf) : (modShf s d f).seg = s.seg := rfl
@[simp] theorem modShf_ntc (s : State) (d : Nat) (f : Shf → Shf) : (modShf s d f).ntc = s.ntc := rfl
@[simp] theorem modShf_nd (s : State) (d : Nat) (f : Shf → Shf) : (modShf s d f).nd = s.nd := rfl
@[simp] theorem modShf_sg (s : State) (d : Nat) (f : Shf → Shf) : (modShf s d f).sg = s.sg := rfl
@[simp] theorem modShf_est (s : State) (d : Nat) (f : Shf → Shf) : (modShf s d f).est = s.est := rfl
@[simp] theorem modShf_estd (s : State) (d : Nat) (f : Shf → Shf) : (modShf s d f).estd = s.estd := rfl
@[simp] theorem modShf_plan (s : State) (d : Nat) (f : Shf → Shf) : (modShf s d f).plan = s.plan := rfl
@[simp] theorem modShf_pd (s : State) (d : Nat) (f : Shf → Shf) : (modShf s d f).pd = s.pd := rfl
@[simp] theorem modShf_prot (s : State) (d : Nat) (f : Shf → Shf) : (modShf s d f).prot = s.prot := rfl
@[simp] theorem modShf_flt (s : State) (d : Nat) (f : Shf → Shf) : (modShf s d f).flt = s.flt := rfl
@[simp] theorem modShf_fpin (s : State) (d : Nat) (f : Shf → Shf) : (modShf s d f).fpin = s.fpin := rfl
@[simp] theorem modShf_silo (s : State) (d : Nat) (f : Shf → Shf) : (modShf s d f).silo = s.silo := rfl
@[simp] theorem modShf_defer (s : State) (d : Nat) (f : Shf → Shf) : (modShf s d f).defer = s.defer := rfl
@[simp] theorem modShf_blkReset (s : State) (d : Nat) (f : Shf → Shf) : (modShf s d f).blkReset = s.blkReset := rfl
@[simp] theorem modShf_mtrmRaw (s : State) (d : Nat) (f : Shf → Shf) : (modShf s d f).mtrmRaw = s.mtrmRaw := rfl
@[simp] theorem modShf_dbg (s : State) (d : Nat) (f : Shf → Shf) : (modShf s d f).dbg = s.dbg := rfl
@[simp] theorem modShf_g (s : State) (d : Nat) (f : Shf → Shf) : (modShf s d f).g = s.g := rfl
@[simp] theorem modShf_peer (s : State) (d : Nat) (f : Shf → Shf) : (modShf s d f).peer = s.peer := rfl
@[simp] theorem modShf_mem (s : State) (d : Nat) (f : Shf → Shf) : (modShf s d f).mem = s.mem := rfl
@[simp] theorem modShf_bu (s : State) (d : Nat) (f : Shf → Shf) : (modShf s d f).bu = s.bu := rfl
@[simp] theorem modShf_rst (s : State) (d : Nat) (f : Shf → Shf) : (modShf s d f).rst = s.rst := rfl
@[simp] theorem modShf_meter (s : State) (d : Nat) (f : Shf → Shf) : (modShf s d f).meter = s.meter := rfl
@[simp] theorem modShf_mtrm (s : State) (d : Nat) (f : Shf → Shf) : (modShf s d f).mtrm = s.mtrm := rfl
@[simp] theorem modShf_pmb (s : State) (d : Nat) (f : Shf → Shf) : (modShf s d f).pmb = s.pmb := rfl
@[simp] theorem modShf_pins (s : State) (d : Nat) (f : Shf → Shf) : (modShf s d f).pins = s.pins := rfl
@[simp] theorem modShf_io (s : State) (d : Nat) (f : Shf → Shf) : (modShf s d f).io = s.io := rfl
@[simp] theorem modShf_seqr (s : State) (d : Nat) (f : Shf → Shf) : (modShf s d f).seqr = s.seqr := rfl
@[simp] theorem modShf_lane (s : State) (d : Nat) (f : Shf → Shf) : (modShf s d f).lane = s.lane := rfl
@[simp] theorem modShf_acts (s : State) (d : Nat) (f : Shf → Shf) : (modShf s d f).acts = s.acts := rfl
@[simp] theorem modShf_sends (s : State) (d : Nat) (f : Shf → Shf) : (modShf s d f).sends = s.sends := rfl
@[simp] theorem modShf_cmdw (s : State) (d : Nat) (f : Shf → Shf) : (modShf s d f).cmdw = s.cmdw := rfl
@[simp] theorem modShf_tally (s : State) (d : Nat) (f : Shf → Shf) : (modShf s d f).tally = s.tally := rfl
@[simp] theorem modShf_mt (s : State) (d : Nat) (f : Shf → Shf) : (modShf s d f).mt = s.mt := rfl
@[simp] theorem modShf_mts (s : State) (d : Nat) (f : Shf → Shf) : (modShf s d f).mts = s.mts := rfl
@[simp] theorem modShf_loop (s : State) (d : Nat) (f : Shf → Shf) : (modShf s d f).loop = s.loop := rfl
@[simp] theorem modShf_tel (s : State) (d : Nat) (f : Shf → Shf) : (modShf s d f).tel = s.tel := rfl
@[simp] theorem modShf_exa (s : State) (d : Nat) (f : Shf → Shf) : (modShf s d f).exa = s.exa := rfl
@[simp] theorem modShf_setrec (s : State) (d : Nat) (f : Shf → Shf) : (modShf s d f).setrec = s.setrec := rfl
@[simp] theorem modShf_side (s : State) (d : Nat) (f : Shf → Shf) : (modShf s d f).side = s.side := rfl
@[simp] theorem modShf_freeCtr (s : State) (d : Nat) (f : Shf → Shf) : (modShf s d f).freeCtr = s.freeCtr := rfl
@[simp] theorem modShf_classHold (s : State) (d : Nat) (f : Shf → Shf) : (modShf s d f).classHold = s.classHold := rfl
@[simp] theorem modShf_pending (s : State) (d : Nat) (f : Shf → Shf) : (modShf s d f).pending = s.pending := rfl

-- modShw
@[simp] theorem modShw_shw (s : State) (d : Nat) (f : ShfW → ShfW) : (modShw s d f).shw = s.shw.modN d f := rfl
@[simp] theorem modShw_inp (s : State) (d : Nat) (f : ShfW → ShfW) : (modShw s d f).inp = s.inp := rfl
@[simp] theorem modShw_bm (s : State) (d : Nat) (f : ShfW → ShfW) : (modShw s d f).bm = s.bm := rfl
@[simp] theorem modShw_epp (s : State) (d : Nat) (f : ShfW → ShfW) : (modShw s d f).epp = s.epp := rfl
@[simp] theorem modShw_la (s : State) (d : Nat) (f : ShfW → ShfW) : (modShw s d f).la = s.la := rfl
@[simp] theorem modShw_dom (s : State) (d : Nat) (f : ShfW → ShfW) : (modShw s d f).dom = s.dom := rfl
@[simp] theorem modShw_sns (s : State) (d : Nat) (f : ShfW → ShfW) : (modShw s d f).sns = s.sns := rfl
@[simp] theorem modShw_bond (s : State) (d : Nat) (f : ShfW → ShfW) : (modShw s d f).bond = s.bond := rfl
@[simp] theorem modShw_shf (s : State) (d : Nat) (f : ShfW → ShfW) : (modShw s d f).shf = s.shf := rfl
@[simp] theorem modShw_shr (s : State) (d : Nat) (f : ShfW → ShfW) : (modShw s d f).shr = s.shr := rfl
@[simp] theorem modShw_ph (s : State) (d : Nat) (f : ShfW → ShfW) : (modShw s d f).ph = s.ph := rfl
@[simp] theorem modShw_phw (s : State) (d : Nat) (f : ShfW → ShfW) : (modShw s d f).phw = s.phw := rfl
@[simp] theorem modShw_swref (s : State) (d : Nat) (f : ShfW → ShfW) : (modShw s d f).swref = s.swref := rfl
@[simp] theorem modShw_gln (s : State) (d : Nat) (f : ShfW → ShfW) : (modShw s d f).gln = s.gln := rfl
@[simp] theorem modShw_sp (s : State) (d : Nat) (f : ShfW → ShfW) : (modShw s d f).sp = s.sp := rfl
@[simp] theorem modShw_gw (s : State) (d : Nat) (f : ShfW → ShfW) : (modShw s d f).gw = s.gw := rfl
@[simp] theorem modShw_bank (s : State) (d : Nat) (f : ShfW → ShfW) : (modShw s d f).bank = s.bank := rfl
@[simp] theorem modShw_clk (s : State) (d : Nat) (f : ShfW → ShfW) : (modShw s d f).clk = s.clk := rfl
@[simp] theorem modShw_time (s : State) (d : Nat) (f : ShfW → ShfW) : (modShw s d f).time = s.time := rfl
@[simp] theorem modShw_seg (s : State) (d : Nat) (f : ShfW → ShfW) : (modShw s d f).seg = s.seg := rfl
@[simp] theorem modShw_ntc (s : State) (d : Nat) (f : ShfW → ShfW) : (modShw s d f).ntc = s.ntc := rfl
@[simp] theorem modShw_nd (s : State) (d : Nat) (f : ShfW → ShfW) : (modShw s d f).nd = s.nd := rfl
@[simp] theorem modShw_sg (s : State) (d : Nat) (f : ShfW → ShfW) : (modShw s d f).sg = s.sg := rfl
@[simp] theorem modShw_est (s : State) (d : Nat) (f : ShfW → ShfW) : (modShw s d f).est = s.est := rfl
@[simp] theorem modShw_estd (s : State) (d : Nat) (f : ShfW → ShfW) : (modShw s d f).estd = s.estd := rfl
@[simp] theorem modShw_plan (s : State) (d : Nat) (f : ShfW → ShfW) : (modShw s d f).plan = s.plan := rfl
@[simp] theorem modShw_pd (s : State) (d : Nat) (f : ShfW → ShfW) : (modShw s d f).pd = s.pd := rfl
@[simp] theorem modShw_prot (s : State) (d : Nat) (f : ShfW → ShfW) : (modShw s d f).prot = s.prot := rfl
@[simp] theorem modShw_flt (s : State) (d : Nat) (f : ShfW → ShfW) : (modShw s d f).flt = s.flt := rfl
@[simp] theorem modShw_fpin (s : State) (d : Nat) (f : ShfW → ShfW) : (modShw s d f).fpin = s.fpin := rfl
@[simp] theorem modShw_silo (s : State) (d : Nat) (f : ShfW → ShfW) : (modShw s d f).silo = s.silo := rfl
@[simp] theorem modShw_defer (s : State) (d : Nat) (f : ShfW → ShfW) : (modShw s d f).defer = s.defer := rfl
@[simp] theorem modShw_blkReset (s : State) (d : Nat) (f : ShfW → ShfW) : (modShw s d f).blkReset = s.blkReset := rfl
@[simp] theorem modShw_mtrmRaw (s : State) (d : Nat) (f : ShfW → ShfW) : (modShw s d f).mtrmRaw = s.mtrmRaw := rfl
@[simp] theorem modShw_dbg (s : State) (d : Nat) (f : ShfW → ShfW) : (modShw s d f).dbg = s.dbg := rfl
@[simp] theorem modShw_g (s : State) (d : Nat) (f : ShfW → ShfW) : (modShw s d f).g = s.g := rfl
@[simp] theorem modShw_peer (s : State) (d : Nat) (f : ShfW → ShfW) : (modShw s d f).peer = s.peer := rfl
@[simp] theorem modShw_mem (s : State) (d : Nat) (f : ShfW → ShfW) : (modShw s d f).mem = s.mem := rfl
@[simp] theorem modShw_bu (s : State) (d : Nat) (f : ShfW → ShfW) : (modShw s d f).bu = s.bu := rfl
@[simp] theorem modShw_rst (s : State) (d : Nat) (f : ShfW → ShfW) : (modShw s d f).rst = s.rst := rfl
@[simp] theorem modShw_meter (s : State) (d : Nat) (f : ShfW → ShfW) : (modShw s d f).meter = s.meter := rfl
@[simp] theorem modShw_mtrm (s : State) (d : Nat) (f : ShfW → ShfW) : (modShw s d f).mtrm = s.mtrm := rfl
@[simp] theorem modShw_pmb (s : State) (d : Nat) (f : ShfW → ShfW) : (modShw s d f).pmb = s.pmb := rfl
@[simp] theorem modShw_pins (s : State) (d : Nat) (f : ShfW → ShfW) : (modShw s d f).pins = s.pins := rfl
@[simp] theorem modShw_io (s : State) (d : Nat) (f : ShfW → ShfW) : (modShw s d f).io = s.io := rfl
@[simp] theorem modShw_seqr (s : State) (d : Nat) (f : ShfW → ShfW) : (modShw s d f).seqr = s.seqr := rfl
@[simp] theorem modShw_lane (s : State) (d : Nat) (f : ShfW → ShfW) : (modShw s d f).lane = s.lane := rfl
@[simp] theorem modShw_acts (s : State) (d : Nat) (f : ShfW → ShfW) : (modShw s d f).acts = s.acts := rfl
@[simp] theorem modShw_sends (s : State) (d : Nat) (f : ShfW → ShfW) : (modShw s d f).sends = s.sends := rfl
@[simp] theorem modShw_cmdw (s : State) (d : Nat) (f : ShfW → ShfW) : (modShw s d f).cmdw = s.cmdw := rfl
@[simp] theorem modShw_tally (s : State) (d : Nat) (f : ShfW → ShfW) : (modShw s d f).tally = s.tally := rfl
@[simp] theorem modShw_mt (s : State) (d : Nat) (f : ShfW → ShfW) : (modShw s d f).mt = s.mt := rfl
@[simp] theorem modShw_mts (s : State) (d : Nat) (f : ShfW → ShfW) : (modShw s d f).mts = s.mts := rfl
@[simp] theorem modShw_loop (s : State) (d : Nat) (f : ShfW → ShfW) : (modShw s d f).loop = s.loop := rfl
@[simp] theorem modShw_tel (s : State) (d : Nat) (f : ShfW → ShfW) : (modShw s d f).tel = s.tel := rfl
@[simp] theorem modShw_exa (s : State) (d : Nat) (f : ShfW → ShfW) : (modShw s d f).exa = s.exa := rfl
@[simp] theorem modShw_setrec (s : State) (d : Nat) (f : ShfW → ShfW) : (modShw s d f).setrec = s.setrec := rfl
@[simp] theorem modShw_side (s : State) (d : Nat) (f : ShfW → ShfW) : (modShw s d f).side = s.side := rfl
@[simp] theorem modShw_freeCtr (s : State) (d : Nat) (f : ShfW → ShfW) : (modShw s d f).freeCtr = s.freeCtr := rfl
@[simp] theorem modShw_classHold (s : State) (d : Nat) (f : ShfW → ShfW) : (modShw s d f).classHold = s.classHold := rfl
@[simp] theorem modShw_pending (s : State) (d : Nat) (f : ShfW → ShfW) : (modShw s d f).pending = s.pending := rfl

-- modShr
@[simp] theorem modShr_shr (s : State) (d : Nat) (f : Shr → Shr) : (modShr s d f).shr = s.shr.modN d f := rfl
@[simp] theorem modShr_inp (s : State) (d : Nat) (f : Shr → Shr) : (modShr s d f).inp = s.inp := rfl
@[simp] theorem modShr_bm (s : State) (d : Nat) (f : Shr → Shr) : (modShr s d f).bm = s.bm := rfl
@[simp] theorem modShr_epp (s : State) (d : Nat) (f : Shr → Shr) : (modShr s d f).epp = s.epp := rfl
@[simp] theorem modShr_la (s : State) (d : Nat) (f : Shr → Shr) : (modShr s d f).la = s.la := rfl
@[simp] theorem modShr_dom (s : State) (d : Nat) (f : Shr → Shr) : (modShr s d f).dom = s.dom := rfl
@[simp] theorem modShr_sns (s : State) (d : Nat) (f : Shr → Shr) : (modShr s d f).sns = s.sns := rfl
@[simp] theorem modShr_bond (s : State) (d : Nat) (f : Shr → Shr) : (modShr s d f).bond = s.bond := rfl
@[simp] theorem modShr_shf (s : State) (d : Nat) (f : Shr → Shr) : (modShr s d f).shf = s.shf := rfl
@[simp] theorem modShr_shw (s : State) (d : Nat) (f : Shr → Shr) : (modShr s d f).shw = s.shw := rfl
@[simp] theorem modShr_ph (s : State) (d : Nat) (f : Shr → Shr) : (modShr s d f).ph = s.ph := rfl
@[simp] theorem modShr_phw (s : State) (d : Nat) (f : Shr → Shr) : (modShr s d f).phw = s.phw := rfl
@[simp] theorem modShr_swref (s : State) (d : Nat) (f : Shr → Shr) : (modShr s d f).swref = s.swref := rfl
@[simp] theorem modShr_gln (s : State) (d : Nat) (f : Shr → Shr) : (modShr s d f).gln = s.gln := rfl
@[simp] theorem modShr_sp (s : State) (d : Nat) (f : Shr → Shr) : (modShr s d f).sp = s.sp := rfl
@[simp] theorem modShr_gw (s : State) (d : Nat) (f : Shr → Shr) : (modShr s d f).gw = s.gw := rfl
@[simp] theorem modShr_bank (s : State) (d : Nat) (f : Shr → Shr) : (modShr s d f).bank = s.bank := rfl
@[simp] theorem modShr_clk (s : State) (d : Nat) (f : Shr → Shr) : (modShr s d f).clk = s.clk := rfl
@[simp] theorem modShr_time (s : State) (d : Nat) (f : Shr → Shr) : (modShr s d f).time = s.time := rfl
@[simp] theorem modShr_seg (s : State) (d : Nat) (f : Shr → Shr) : (modShr s d f).seg = s.seg := rfl
@[simp] theorem modShr_ntc (s : State) (d : Nat) (f : Shr → Shr) : (modShr s d f).ntc = s.ntc := rfl
@[simp] theorem modShr_nd (s : State) (d : Nat) (f : Shr → Shr) : (modShr s d f).nd = s.nd := rfl
@[simp] theorem modShr_sg (s : State) (d : Nat) (f : Shr → Shr) : (modShr s d f).sg = s.sg := rfl
@[simp] theorem modShr_est (s : State) (d : Nat) (f : Shr → Shr) : (modShr s d f).est = s.est := rfl
@[simp] theorem modShr_estd (s : State) (d : Nat) (f : Shr → Shr) : (modShr s d f).estd = s.estd := rfl
@[simp] theorem modShr_plan (s : State) (d : Nat) (f : Shr → Shr) : (modShr s d f).plan = s.plan := rfl
@[simp] theorem modShr_pd (s : State) (d : Nat) (f : Shr → Shr) : (modShr s d f).pd = s.pd := rfl
@[simp] theorem modShr_prot (s : State) (d : Nat) (f : Shr → Shr) : (modShr s d f).prot = s.prot := rfl
@[simp] theorem modShr_flt (s : State) (d : Nat) (f : Shr → Shr) : (modShr s d f).flt = s.flt := rfl
@[simp] theorem modShr_fpin (s : State) (d : Nat) (f : Shr → Shr) : (modShr s d f).fpin = s.fpin := rfl
@[simp] theorem modShr_silo (s : State) (d : Nat) (f : Shr → Shr) : (modShr s d f).silo = s.silo := rfl
@[simp] theorem modShr_defer (s : State) (d : Nat) (f : Shr → Shr) : (modShr s d f).defer = s.defer := rfl
@[simp] theorem modShr_blkReset (s : State) (d : Nat) (f : Shr → Shr) : (modShr s d f).blkReset = s.blkReset := rfl
@[simp] theorem modShr_mtrmRaw (s : State) (d : Nat) (f : Shr → Shr) : (modShr s d f).mtrmRaw = s.mtrmRaw := rfl
@[simp] theorem modShr_dbg (s : State) (d : Nat) (f : Shr → Shr) : (modShr s d f).dbg = s.dbg := rfl
@[simp] theorem modShr_g (s : State) (d : Nat) (f : Shr → Shr) : (modShr s d f).g = s.g := rfl
@[simp] theorem modShr_peer (s : State) (d : Nat) (f : Shr → Shr) : (modShr s d f).peer = s.peer := rfl
@[simp] theorem modShr_mem (s : State) (d : Nat) (f : Shr → Shr) : (modShr s d f).mem = s.mem := rfl
@[simp] theorem modShr_bu (s : State) (d : Nat) (f : Shr → Shr) : (modShr s d f).bu = s.bu := rfl
@[simp] theorem modShr_rst (s : State) (d : Nat) (f : Shr → Shr) : (modShr s d f).rst = s.rst := rfl
@[simp] theorem modShr_meter (s : State) (d : Nat) (f : Shr → Shr) : (modShr s d f).meter = s.meter := rfl
@[simp] theorem modShr_mtrm (s : State) (d : Nat) (f : Shr → Shr) : (modShr s d f).mtrm = s.mtrm := rfl
@[simp] theorem modShr_pmb (s : State) (d : Nat) (f : Shr → Shr) : (modShr s d f).pmb = s.pmb := rfl
@[simp] theorem modShr_pins (s : State) (d : Nat) (f : Shr → Shr) : (modShr s d f).pins = s.pins := rfl
@[simp] theorem modShr_io (s : State) (d : Nat) (f : Shr → Shr) : (modShr s d f).io = s.io := rfl
@[simp] theorem modShr_seqr (s : State) (d : Nat) (f : Shr → Shr) : (modShr s d f).seqr = s.seqr := rfl
@[simp] theorem modShr_lane (s : State) (d : Nat) (f : Shr → Shr) : (modShr s d f).lane = s.lane := rfl
@[simp] theorem modShr_acts (s : State) (d : Nat) (f : Shr → Shr) : (modShr s d f).acts = s.acts := rfl
@[simp] theorem modShr_sends (s : State) (d : Nat) (f : Shr → Shr) : (modShr s d f).sends = s.sends := rfl
@[simp] theorem modShr_cmdw (s : State) (d : Nat) (f : Shr → Shr) : (modShr s d f).cmdw = s.cmdw := rfl
@[simp] theorem modShr_tally (s : State) (d : Nat) (f : Shr → Shr) : (modShr s d f).tally = s.tally := rfl
@[simp] theorem modShr_mt (s : State) (d : Nat) (f : Shr → Shr) : (modShr s d f).mt = s.mt := rfl
@[simp] theorem modShr_mts (s : State) (d : Nat) (f : Shr → Shr) : (modShr s d f).mts = s.mts := rfl
@[simp] theorem modShr_loop (s : State) (d : Nat) (f : Shr → Shr) : (modShr s d f).loop = s.loop := rfl
@[simp] theorem modShr_tel (s : State) (d : Nat) (f : Shr → Shr) : (modShr s d f).tel = s.tel := rfl
@[simp] theorem modShr_exa (s : State) (d : Nat) (f : Shr → Shr) : (modShr s d f).exa = s.exa := rfl
@[simp] theorem modShr_setrec (s : State) (d : Nat) (f : Shr → Shr) : (modShr s d f).setrec = s.setrec := rfl
@[simp] theorem modShr_side (s : State) (d : Nat) (f : Shr → Shr) : (modShr s d f).side = s.side := rfl
@[simp] theorem modShr_freeCtr (s : State) (d : Nat) (f : Shr → Shr) : (modShr s d f).freeCtr = s.freeCtr := rfl
@[simp] theorem modShr_classHold (s : State) (d : Nat) (f : Shr → Shr) : (modShr s d f).classHold = s.classHold := rfl
@[simp] theorem modShr_pending (s : State) (d : Nat) (f : Shr → Shr) : (modShr s d f).pending = s.pending := rfl

-- modPh
@[simp] theorem modPh_ph (s : State) (p : Nat) (f : Ph → Ph) : (modPh s p f).ph = s.ph.modN p f := rfl
@[simp] theorem modPh_inp (s : State) (p : Nat) (f : Ph → Ph) : (modPh s p f).inp = s.inp := rfl
@[simp] theorem modPh_bm (s : State) (p : Nat) (f : Ph → Ph) : (modPh s p f).bm = s.bm := rfl
@[simp] theorem modPh_epp (s : State) (p : Nat) (f : Ph → Ph) : (modPh s p f).epp = s.epp := rfl
@[simp] theorem modPh_la (s : State) (p : Nat) (f : Ph → Ph) : (modPh s p f).la = s.la := rfl
@[simp] theorem modPh_dom (s : State) (p : Nat) (f : Ph → Ph) : (modPh s p f).dom = s.dom := rfl
@[simp] theorem modPh_sns (s : State) (p : Nat) (f : Ph → Ph) : (modPh s p f).sns = s.sns := rfl
@[simp] theorem modPh_bond (s : State) (p : Nat) (f : Ph → Ph) : (modPh s p f).bond = s.bond := rfl
@[simp] theorem modPh_shf (s : State) (p : Nat) (f : Ph → Ph) : (modPh s p f).shf = s.shf := rfl
@[simp] theorem modPh_shw (s : State) (p : Nat) (f : Ph → Ph) : (modPh s p f).shw = s.shw := rfl
@[simp] theorem modPh_shr (s : State) (p : Nat) (f : Ph → Ph) : (modPh s p f).shr = s.shr := rfl
@[simp] theorem modPh_phw (s : State) (p : Nat) (f : Ph → Ph) : (modPh s p f).phw = s.phw := rfl
@[simp] theorem modPh_swref (s : State) (p : Nat) (f : Ph → Ph) : (modPh s p f).swref = s.swref := rfl
@[simp] theorem modPh_gln (s : State) (p : Nat) (f : Ph → Ph) : (modPh s p f).gln = s.gln := rfl
@[simp] theorem modPh_sp (s : State) (p : Nat) (f : Ph → Ph) : (modPh s p f).sp = s.sp := rfl
@[simp] theorem modPh_gw (s : State) (p : Nat) (f : Ph → Ph) : (modPh s p f).gw = s.gw := rfl
@[simp] theorem modPh_bank (s : State) (p : Nat) (f : Ph → Ph) : (modPh s p f).bank = s.bank := rfl
@[simp] theorem modPh_clk (s : State) (p : Nat) (f : Ph → Ph) : (modPh s p f).clk = s.clk := rfl
@[simp] theorem modPh_time (s : State) (p : Nat) (f : Ph → Ph) : (modPh s p f).time = s.time := rfl
@[simp] theorem modPh_seg (s : State) (p : Nat) (f : Ph → Ph) : (modPh s p f).seg = s.seg := rfl
@[simp] theorem modPh_ntc (s : State) (p : Nat) (f : Ph → Ph) : (modPh s p f).ntc = s.ntc := rfl
@[simp] theorem modPh_nd (s : State) (p : Nat) (f : Ph → Ph) : (modPh s p f).nd = s.nd := rfl
@[simp] theorem modPh_sg (s : State) (p : Nat) (f : Ph → Ph) : (modPh s p f).sg = s.sg := rfl
@[simp] theorem modPh_est (s : State) (p : Nat) (f : Ph → Ph) : (modPh s p f).est = s.est := rfl
@[simp] theorem modPh_estd (s : State) (p : Nat) (f : Ph → Ph) : (modPh s p f).estd = s.estd := rfl
@[simp] theorem modPh_plan (s : State) (p : Nat) (f : Ph → Ph) : (modPh s p f).plan = s.plan := rfl
@[simp] theorem modPh_pd (s : State) (p : Nat) (f : Ph → Ph) : (modPh s p f).pd = s.pd := rfl
@[simp] theorem modPh_prot (s : State) (p : Nat) (f : Ph → Ph) : (modPh s p f).prot = s.prot := rfl
@[simp] theorem modPh_flt (s : State) (p : Nat) (f : Ph → Ph) : (modPh s p f).flt = s.flt := rfl
@[simp] theorem modPh_fpin (s : State) (p : Nat) (f : Ph → Ph) : (modPh s p f).fpin = s.fpin := rfl
@[simp] theorem modPh_silo (s : State) (p : Nat) (f : Ph → Ph) : (modPh s p f).silo = s.silo := rfl
@[simp] theorem modPh_defer (s : State) (p : Nat) (f : Ph → Ph) : (modPh s p f).defer = s.defer := rfl
@[simp] theorem modPh_blkReset (s : State) (p : Nat) (f : Ph → Ph) : (modPh s p f).blkReset = s.blkReset := rfl
@[simp] theorem modPh_mtrmRaw (s : State) (p : Nat) (f : Ph → Ph) : (modPh s p f).mtrmRaw = s.mtrmRaw := rfl
@[simp] theorem modPh_dbg (s : State) (p : Nat) (f : Ph → Ph) : (modPh s p f).dbg = s.dbg := rfl
@[simp] theorem modPh_g (s : State) (p : Nat) (f : Ph → Ph) : (modPh s p f).g = s.g := rfl
@[simp] theorem modPh_peer (s : State) (p : Nat) (f : Ph → Ph) : (modPh s p f).peer = s.peer := rfl
@[simp] theorem modPh_mem (s : State) (p : Nat) (f : Ph → Ph) : (modPh s p f).mem = s.mem := rfl
@[simp] theorem modPh_bu (s : State) (p : Nat) (f : Ph → Ph) : (modPh s p f).bu = s.bu := rfl
@[simp] theorem modPh_rst (s : State) (p : Nat) (f : Ph → Ph) : (modPh s p f).rst = s.rst := rfl
@[simp] theorem modPh_meter (s : State) (p : Nat) (f : Ph → Ph) : (modPh s p f).meter = s.meter := rfl
@[simp] theorem modPh_mtrm (s : State) (p : Nat) (f : Ph → Ph) : (modPh s p f).mtrm = s.mtrm := rfl
@[simp] theorem modPh_pmb (s : State) (p : Nat) (f : Ph → Ph) : (modPh s p f).pmb = s.pmb := rfl
@[simp] theorem modPh_pins (s : State) (p : Nat) (f : Ph → Ph) : (modPh s p f).pins = s.pins := rfl
@[simp] theorem modPh_io (s : State) (p : Nat) (f : Ph → Ph) : (modPh s p f).io = s.io := rfl
@[simp] theorem modPh_seqr (s : State) (p : Nat) (f : Ph → Ph) : (modPh s p f).seqr = s.seqr := rfl
@[simp] theorem modPh_lane (s : State) (p : Nat) (f : Ph → Ph) : (modPh s p f).lane = s.lane := rfl
@[simp] theorem modPh_acts (s : State) (p : Nat) (f : Ph → Ph) : (modPh s p f).acts = s.acts := rfl
@[simp] theorem modPh_sends (s : State) (p : Nat) (f : Ph → Ph) : (modPh s p f).sends = s.sends := rfl
@[simp] theorem modPh_cmdw (s : State) (p : Nat) (f : Ph → Ph) : (modPh s p f).cmdw = s.cmdw := rfl
@[simp] theorem modPh_tally (s : State) (p : Nat) (f : Ph → Ph) : (modPh s p f).tally = s.tally := rfl
@[simp] theorem modPh_mt (s : State) (p : Nat) (f : Ph → Ph) : (modPh s p f).mt = s.mt := rfl
@[simp] theorem modPh_mts (s : State) (p : Nat) (f : Ph → Ph) : (modPh s p f).mts = s.mts := rfl
@[simp] theorem modPh_loop (s : State) (p : Nat) (f : Ph → Ph) : (modPh s p f).loop = s.loop := rfl
@[simp] theorem modPh_tel (s : State) (p : Nat) (f : Ph → Ph) : (modPh s p f).tel = s.tel := rfl
@[simp] theorem modPh_exa (s : State) (p : Nat) (f : Ph → Ph) : (modPh s p f).exa = s.exa := rfl
@[simp] theorem modPh_setrec (s : State) (p : Nat) (f : Ph → Ph) : (modPh s p f).setrec = s.setrec := rfl
@[simp] theorem modPh_side (s : State) (p : Nat) (f : Ph → Ph) : (modPh s p f).side = s.side := rfl
@[simp] theorem modPh_freeCtr (s : State) (p : Nat) (f : Ph → Ph) : (modPh s p f).freeCtr = s.freeCtr := rfl
@[simp] theorem modPh_classHold (s : State) (p : Nat) (f : Ph → Ph) : (modPh s p f).classHold = s.classHold := rfl
@[simp] theorem modPh_pending (s : State) (p : Nat) (f : Ph → Ph) : (modPh s p f).pending = s.pending := rfl

-- modPhw
@[simp] theorem modPhw_phw (s : State) (p : Nat) (f : PhW → PhW) : (modPhw s p f).phw = s.phw.modN p f := rfl
@[simp] theorem modPhw_inp (s : State) (p : Nat) (f : PhW → PhW) : (modPhw s p f).inp = s.inp := rfl
@[simp] theorem modPhw_bm (s : State) (p : Nat) (f : PhW → PhW) : (modPhw s p f).bm = s.bm := rfl
@[simp] theorem modPhw_epp (s : State) (p : Nat) (f : PhW → PhW) : (modPhw s p f).epp = s.epp := rfl
@[simp] theorem modPhw_la (s : State) (p : Nat) (f : PhW → PhW) : (modPhw s p f).la = s.la := rfl
@[simp] theorem modPhw_dom (s : State) (p : Nat) (f : PhW → PhW) : (modPhw s p f).dom = s.dom := rfl
@[simp] theorem modPhw_sns (s : State) (p : Nat) (f : PhW → PhW) : (modPhw s p f).sns = s.sns := rfl
@[simp] theorem modPhw_bond (s : State) (p : Nat) (f : PhW → PhW) : (modPhw s p f).bond = s.bond := rfl
@[simp] theorem modPhw_shf (s : State) (p : Nat) (f : PhW → PhW) : (modPhw s p f).shf = s.shf := rfl
@[simp] theorem modPhw_shw (s : State) (p : Nat) (f : PhW → PhW) : (modPhw s p f).shw = s.shw := rfl
@[simp] theorem modPhw_shr (s : State) (p : Nat) (f : PhW → PhW) : (modPhw s p f).shr = s.shr := rfl
@[simp] theorem modPhw_ph (s : State) (p : Nat) (f : PhW → PhW) : (modPhw s p f).ph = s.ph := rfl
@[simp] theorem modPhw_swref (s : State) (p : Nat) (f : PhW → PhW) : (modPhw s p f).swref = s.swref := rfl
@[simp] theorem modPhw_gln (s : State) (p : Nat) (f : PhW → PhW) : (modPhw s p f).gln = s.gln := rfl
@[simp] theorem modPhw_sp (s : State) (p : Nat) (f : PhW → PhW) : (modPhw s p f).sp = s.sp := rfl
@[simp] theorem modPhw_gw (s : State) (p : Nat) (f : PhW → PhW) : (modPhw s p f).gw = s.gw := rfl
@[simp] theorem modPhw_bank (s : State) (p : Nat) (f : PhW → PhW) : (modPhw s p f).bank = s.bank := rfl
@[simp] theorem modPhw_clk (s : State) (p : Nat) (f : PhW → PhW) : (modPhw s p f).clk = s.clk := rfl
@[simp] theorem modPhw_time (s : State) (p : Nat) (f : PhW → PhW) : (modPhw s p f).time = s.time := rfl
@[simp] theorem modPhw_seg (s : State) (p : Nat) (f : PhW → PhW) : (modPhw s p f).seg = s.seg := rfl
@[simp] theorem modPhw_ntc (s : State) (p : Nat) (f : PhW → PhW) : (modPhw s p f).ntc = s.ntc := rfl
@[simp] theorem modPhw_nd (s : State) (p : Nat) (f : PhW → PhW) : (modPhw s p f).nd = s.nd := rfl
@[simp] theorem modPhw_sg (s : State) (p : Nat) (f : PhW → PhW) : (modPhw s p f).sg = s.sg := rfl
@[simp] theorem modPhw_est (s : State) (p : Nat) (f : PhW → PhW) : (modPhw s p f).est = s.est := rfl
@[simp] theorem modPhw_estd (s : State) (p : Nat) (f : PhW → PhW) : (modPhw s p f).estd = s.estd := rfl
@[simp] theorem modPhw_plan (s : State) (p : Nat) (f : PhW → PhW) : (modPhw s p f).plan = s.plan := rfl
@[simp] theorem modPhw_pd (s : State) (p : Nat) (f : PhW → PhW) : (modPhw s p f).pd = s.pd := rfl
@[simp] theorem modPhw_prot (s : State) (p : Nat) (f : PhW → PhW) : (modPhw s p f).prot = s.prot := rfl
@[simp] theorem modPhw_flt (s : State) (p : Nat) (f : PhW → PhW) : (modPhw s p f).flt = s.flt := rfl
@[simp] theorem modPhw_fpin (s : State) (p : Nat) (f : PhW → PhW) : (modPhw s p f).fpin = s.fpin := rfl
@[simp] theorem modPhw_silo (s : State) (p : Nat) (f : PhW → PhW) : (modPhw s p f).silo = s.silo := rfl
@[simp] theorem modPhw_defer (s : State) (p : Nat) (f : PhW → PhW) : (modPhw s p f).defer = s.defer := rfl
@[simp] theorem modPhw_blkReset (s : State) (p : Nat) (f : PhW → PhW) : (modPhw s p f).blkReset = s.blkReset := rfl
@[simp] theorem modPhw_mtrmRaw (s : State) (p : Nat) (f : PhW → PhW) : (modPhw s p f).mtrmRaw = s.mtrmRaw := rfl
@[simp] theorem modPhw_dbg (s : State) (p : Nat) (f : PhW → PhW) : (modPhw s p f).dbg = s.dbg := rfl
@[simp] theorem modPhw_g (s : State) (p : Nat) (f : PhW → PhW) : (modPhw s p f).g = s.g := rfl
@[simp] theorem modPhw_peer (s : State) (p : Nat) (f : PhW → PhW) : (modPhw s p f).peer = s.peer := rfl
@[simp] theorem modPhw_mem (s : State) (p : Nat) (f : PhW → PhW) : (modPhw s p f).mem = s.mem := rfl
@[simp] theorem modPhw_bu (s : State) (p : Nat) (f : PhW → PhW) : (modPhw s p f).bu = s.bu := rfl
@[simp] theorem modPhw_rst (s : State) (p : Nat) (f : PhW → PhW) : (modPhw s p f).rst = s.rst := rfl
@[simp] theorem modPhw_meter (s : State) (p : Nat) (f : PhW → PhW) : (modPhw s p f).meter = s.meter := rfl
@[simp] theorem modPhw_mtrm (s : State) (p : Nat) (f : PhW → PhW) : (modPhw s p f).mtrm = s.mtrm := rfl
@[simp] theorem modPhw_pmb (s : State) (p : Nat) (f : PhW → PhW) : (modPhw s p f).pmb = s.pmb := rfl
@[simp] theorem modPhw_pins (s : State) (p : Nat) (f : PhW → PhW) : (modPhw s p f).pins = s.pins := rfl
@[simp] theorem modPhw_io (s : State) (p : Nat) (f : PhW → PhW) : (modPhw s p f).io = s.io := rfl
@[simp] theorem modPhw_seqr (s : State) (p : Nat) (f : PhW → PhW) : (modPhw s p f).seqr = s.seqr := rfl
@[simp] theorem modPhw_lane (s : State) (p : Nat) (f : PhW → PhW) : (modPhw s p f).lane = s.lane := rfl
@[simp] theorem modPhw_acts (s : State) (p : Nat) (f : PhW → PhW) : (modPhw s p f).acts = s.acts := rfl
@[simp] theorem modPhw_sends (s : State) (p : Nat) (f : PhW → PhW) : (modPhw s p f).sends = s.sends := rfl
@[simp] theorem modPhw_cmdw (s : State) (p : Nat) (f : PhW → PhW) : (modPhw s p f).cmdw = s.cmdw := rfl
@[simp] theorem modPhw_tally (s : State) (p : Nat) (f : PhW → PhW) : (modPhw s p f).tally = s.tally := rfl
@[simp] theorem modPhw_mt (s : State) (p : Nat) (f : PhW → PhW) : (modPhw s p f).mt = s.mt := rfl
@[simp] theorem modPhw_mts (s : State) (p : Nat) (f : PhW → PhW) : (modPhw s p f).mts = s.mts := rfl
@[simp] theorem modPhw_loop (s : State) (p : Nat) (f : PhW → PhW) : (modPhw s p f).loop = s.loop := rfl
@[simp] theorem modPhw_tel (s : State) (p : Nat) (f : PhW → PhW) : (modPhw s p f).tel = s.tel := rfl
@[simp] theorem modPhw_exa (s : State) (p : Nat) (f : PhW → PhW) : (modPhw s p f).exa = s.exa := rfl
@[simp] theorem modPhw_setrec (s : State) (p : Nat) (f : PhW → PhW) : (modPhw s p f).setrec = s.setrec := rfl
@[simp] theorem modPhw_side (s : State) (p : Nat) (f : PhW → PhW) : (modPhw s p f).side = s.side := rfl
@[simp] theorem modPhw_freeCtr (s : State) (p : Nat) (f : PhW → PhW) : (modPhw s p f).freeCtr = s.freeCtr := rfl
@[simp] theorem modPhw_classHold (s : State) (p : Nat) (f : PhW → PhW) : (modPhw s p f).classHold = s.classHold := rfl
@[simp] theorem modPhw_pending (s : State) (p : Nat) (f : PhW → PhW) : (modPhw s p f).pending = s.pending := rfl

-- modPd
@[simp] theorem modPd_pd (s : State) (d : Nat) (f : PDom → PDom) : (modPd s d f).pd = s.pd.modN d f := rfl
@[simp] theorem modPd_inp (s : State) (d : Nat) (f : PDom → PDom) : (modPd s d f).inp = s.inp := rfl
@[simp] theorem modPd_bm (s : State) (d : Nat) (f : PDom → PDom) : (modPd s d f).bm = s.bm := rfl
@[simp] theorem modPd_epp (s : State) (d : Nat) (f : PDom → PDom) : (modPd s d f).epp = s.epp := rfl
@[simp] theorem modPd_la (s : State) (d : Nat) (f : PDom → PDom) : (modPd s d f).la = s.la := rfl
@[simp] theorem modPd_dom (s : State) (d : Nat) (f : PDom → PDom) : (modPd s d f).dom = s.dom := rfl
@[simp] theorem modPd_sns (s : State) (d : Nat) (f : PDom → PDom) : (modPd s d f).sns = s.sns := rfl
@[simp] theorem modPd_bond (s : State) (d : Nat) (f : PDom → PDom) : (modPd s d f).bond = s.bond := rfl
@[simp] theorem modPd_shf (s : State) (d : Nat) (f : PDom → PDom) : (modPd s d f).shf = s.shf := rfl
@[simp] theorem modPd_shw (s : State) (d : Nat) (f : PDom → PDom) : (modPd s d f).shw = s.shw := rfl
@[simp] theorem modPd_shr (s : State) (d : Nat) (f : PDom → PDom) : (modPd s d f).shr = s.shr := rfl
@[simp] theorem modPd_ph (s : State) (d : Nat) (f : PDom → PDom) : (modPd s d f).ph = s.ph := rfl
@[simp] theorem modPd_phw (s : State) (d : Nat) (f : PDom → PDom) : (modPd s d f).phw = s.phw := rfl
@[simp] theorem modPd_swref (s : State) (d : Nat) (f : PDom → PDom) : (modPd s d f).swref = s.swref := rfl
@[simp] theorem modPd_gln (s : State) (d : Nat) (f : PDom → PDom) : (modPd s d f).gln = s.gln := rfl
@[simp] theorem modPd_sp (s : State) (d : Nat) (f : PDom → PDom) : (modPd s d f).sp = s.sp := rfl
@[simp] theorem modPd_gw (s : State) (d : Nat) (f : PDom → PDom) : (modPd s d f).gw = s.gw := rfl
@[simp] theorem modPd_bank (s : State) (d : Nat) (f : PDom → PDom) : (modPd s d f).bank = s.bank := rfl
@[simp] theorem modPd_clk (s : State) (d : Nat) (f : PDom → PDom) : (modPd s d f).clk = s.clk := rfl
@[simp] theorem modPd_time (s : State) (d : Nat) (f : PDom → PDom) : (modPd s d f).time = s.time := rfl
@[simp] theorem modPd_seg (s : State) (d : Nat) (f : PDom → PDom) : (modPd s d f).seg = s.seg := rfl
@[simp] theorem modPd_ntc (s : State) (d : Nat) (f : PDom → PDom) : (modPd s d f).ntc = s.ntc := rfl
@[simp] theorem modPd_nd (s : State) (d : Nat) (f : PDom → PDom) : (modPd s d f).nd = s.nd := rfl
@[simp] theorem modPd_sg (s : State) (d : Nat) (f : PDom → PDom) : (modPd s d f).sg = s.sg := rfl
@[simp] theorem modPd_est (s : State) (d : Nat) (f : PDom → PDom) : (modPd s d f).est = s.est := rfl
@[simp] theorem modPd_estd (s : State) (d : Nat) (f : PDom → PDom) : (modPd s d f).estd = s.estd := rfl
@[simp] theorem modPd_plan (s : State) (d : Nat) (f : PDom → PDom) : (modPd s d f).plan = s.plan := rfl
@[simp] theorem modPd_prot (s : State) (d : Nat) (f : PDom → PDom) : (modPd s d f).prot = s.prot := rfl
@[simp] theorem modPd_flt (s : State) (d : Nat) (f : PDom → PDom) : (modPd s d f).flt = s.flt := rfl
@[simp] theorem modPd_fpin (s : State) (d : Nat) (f : PDom → PDom) : (modPd s d f).fpin = s.fpin := rfl
@[simp] theorem modPd_silo (s : State) (d : Nat) (f : PDom → PDom) : (modPd s d f).silo = s.silo := rfl
@[simp] theorem modPd_defer (s : State) (d : Nat) (f : PDom → PDom) : (modPd s d f).defer = s.defer := rfl
@[simp] theorem modPd_blkReset (s : State) (d : Nat) (f : PDom → PDom) : (modPd s d f).blkReset = s.blkReset := rfl
@[simp] theorem modPd_mtrmRaw (s : State) (d : Nat) (f : PDom → PDom) : (modPd s d f).mtrmRaw = s.mtrmRaw := rfl
@[simp] theorem modPd_dbg (s : State) (d : Nat) (f : PDom → PDom) : (modPd s d f).dbg = s.dbg := rfl
@[simp] theorem modPd_g (s : State) (d : Nat) (f : PDom → PDom) : (modPd s d f).g = s.g := rfl
@[simp] theorem modPd_peer (s : State) (d : Nat) (f : PDom → PDom) : (modPd s d f).peer = s.peer := rfl
@[simp] theorem modPd_mem (s : State) (d : Nat) (f : PDom → PDom) : (modPd s d f).mem = s.mem := rfl
@[simp] theorem modPd_bu (s : State) (d : Nat) (f : PDom → PDom) : (modPd s d f).bu = s.bu := rfl
@[simp] theorem modPd_rst (s : State) (d : Nat) (f : PDom → PDom) : (modPd s d f).rst = s.rst := rfl
@[simp] theorem modPd_meter (s : State) (d : Nat) (f : PDom → PDom) : (modPd s d f).meter = s.meter := rfl
@[simp] theorem modPd_mtrm (s : State) (d : Nat) (f : PDom → PDom) : (modPd s d f).mtrm = s.mtrm := rfl
@[simp] theorem modPd_pmb (s : State) (d : Nat) (f : PDom → PDom) : (modPd s d f).pmb = s.pmb := rfl
@[simp] theorem modPd_pins (s : State) (d : Nat) (f : PDom → PDom) : (modPd s d f).pins = s.pins := rfl
@[simp] theorem modPd_io (s : State) (d : Nat) (f : PDom → PDom) : (modPd s d f).io = s.io := rfl
@[simp] theorem modPd_seqr (s : State) (d : Nat) (f : PDom → PDom) : (modPd s d f).seqr = s.seqr := rfl
@[simp] theorem modPd_lane (s : State) (d : Nat) (f : PDom → PDom) : (modPd s d f).lane = s.lane := rfl
@[simp] theorem modPd_acts (s : State) (d : Nat) (f : PDom → PDom) : (modPd s d f).acts = s.acts := rfl
@[simp] theorem modPd_sends (s : State) (d : Nat) (f : PDom → PDom) : (modPd s d f).sends = s.sends := rfl
@[simp] theorem modPd_cmdw (s : State) (d : Nat) (f : PDom → PDom) : (modPd s d f).cmdw = s.cmdw := rfl
@[simp] theorem modPd_tally (s : State) (d : Nat) (f : PDom → PDom) : (modPd s d f).tally = s.tally := rfl
@[simp] theorem modPd_mt (s : State) (d : Nat) (f : PDom → PDom) : (modPd s d f).mt = s.mt := rfl
@[simp] theorem modPd_mts (s : State) (d : Nat) (f : PDom → PDom) : (modPd s d f).mts = s.mts := rfl
@[simp] theorem modPd_loop (s : State) (d : Nat) (f : PDom → PDom) : (modPd s d f).loop = s.loop := rfl
@[simp] theorem modPd_tel (s : State) (d : Nat) (f : PDom → PDom) : (modPd s d f).tel = s.tel := rfl
@[simp] theorem modPd_exa (s : State) (d : Nat) (f : PDom → PDom) : (modPd s d f).exa = s.exa := rfl
@[simp] theorem modPd_setrec (s : State) (d : Nat) (f : PDom → PDom) : (modPd s d f).setrec = s.setrec := rfl
@[simp] theorem modPd_side (s : State) (d : Nat) (f : PDom → PDom) : (modPd s d f).side = s.side := rfl
@[simp] theorem modPd_freeCtr (s : State) (d : Nat) (f : PDom → PDom) : (modPd s d f).freeCtr = s.freeCtr := rfl
@[simp] theorem modPd_classHold (s : State) (d : Nat) (f : PDom → PDom) : (modPd s d f).classHold = s.classHold := rfl
@[simp] theorem modPd_pending (s : State) (d : Nat) (f : PDom → PDom) : (modPd s d f).pending = s.pending := rfl

-- modNd
@[simp] theorem modNd_nd (s : State) (d : Nat) (f : NDom → NDom) : (modNd s d f).nd = s.nd.modN d f := rfl
@[simp] theorem modNd_inp (s : State) (d : Nat) (f : NDom → NDom) : (modNd s d f).inp = s.inp := rfl
@[simp] theorem modNd_bm (s : State) (d : Nat) (f : NDom → NDom) : (modNd s d f).bm = s.bm := rfl
@[simp] theorem modNd_epp (s : State) (d : Nat) (f : NDom → NDom) : (modNd s d f).epp = s.epp := rfl
@[simp] theorem modNd_la (s : State) (d : Nat) (f : NDom → NDom) : (modNd s d f).la = s.la := rfl
@[simp] theorem modNd_dom (s : State) (d : Nat) (f : NDom → NDom) : (modNd s d f).dom = s.dom := rfl
@[simp] theorem modNd_sns (s : State) (d : Nat) (f : NDom → NDom) : (modNd s d f).sns = s.sns := rfl
@[simp] theorem modNd_bond (s : State) (d : Nat) (f : NDom → NDom) : (modNd s d f).bond = s.bond := rfl
@[simp] theorem modNd_shf (s : State) (d : Nat) (f : NDom → NDom) : (modNd s d f).shf = s.shf := rfl
@[simp] theorem modNd_shw (s : State) (d : Nat) (f : NDom → NDom) : (modNd s d f).shw = s.shw := rfl
@[simp] theorem modNd_shr (s : State) (d : Nat) (f : NDom → NDom) : (modNd s d f).shr = s.shr := rfl
@[simp] theorem modNd_ph (s : State) (d : Nat) (f : NDom → NDom) : (modNd s d f).ph = s.ph := rfl
@[simp] theorem modNd_phw (s : State) (d : Nat) (f : NDom → NDom) : (modNd s d f).phw = s.phw := rfl
@[simp] theorem modNd_swref (s : State) (d : Nat) (f : NDom → NDom) : (modNd s d f).swref = s.swref := rfl
@[simp] theorem modNd_gln (s : State) (d : Nat) (f : NDom → NDom) : (modNd s d f).gln = s.gln := rfl
@[simp] theorem modNd_sp (s : State) (d : Nat) (f : NDom → NDom) : (modNd s d f).sp = s.sp := rfl
@[simp] theorem modNd_gw (s : State) (d : Nat) (f : NDom → NDom) : (modNd s d f).gw = s.gw := rfl
@[simp] theorem modNd_bank (s : State) (d : Nat) (f : NDom → NDom) : (modNd s d f).bank = s.bank := rfl
@[simp] theorem modNd_clk (s : State) (d : Nat) (f : NDom → NDom) : (modNd s d f).clk = s.clk := rfl
@[simp] theorem modNd_time (s : State) (d : Nat) (f : NDom → NDom) : (modNd s d f).time = s.time := rfl
@[simp] theorem modNd_seg (s : State) (d : Nat) (f : NDom → NDom) : (modNd s d f).seg = s.seg := rfl
@[simp] theorem modNd_ntc (s : State) (d : Nat) (f : NDom → NDom) : (modNd s d f).ntc = s.ntc := rfl
@[simp] theorem modNd_sg (s : State) (d : Nat) (f : NDom → NDom) : (modNd s d f).sg = s.sg := rfl
@[simp] theorem modNd_est (s : State) (d : Nat) (f : NDom → NDom) : (modNd s d f).est = s.est := rfl
@[simp] theorem modNd_estd (s : State) (d : Nat) (f : NDom → NDom) : (modNd s d f).estd = s.estd := rfl
@[simp] theorem modNd_plan (s : State) (d : Nat) (f : NDom → NDom) : (modNd s d f).plan = s.plan := rfl
@[simp] theorem modNd_pd (s : State) (d : Nat) (f : NDom → NDom) : (modNd s d f).pd = s.pd := rfl
@[simp] theorem modNd_prot (s : State) (d : Nat) (f : NDom → NDom) : (modNd s d f).prot = s.prot := rfl
@[simp] theorem modNd_flt (s : State) (d : Nat) (f : NDom → NDom) : (modNd s d f).flt = s.flt := rfl
@[simp] theorem modNd_fpin (s : State) (d : Nat) (f : NDom → NDom) : (modNd s d f).fpin = s.fpin := rfl
@[simp] theorem modNd_silo (s : State) (d : Nat) (f : NDom → NDom) : (modNd s d f).silo = s.silo := rfl
@[simp] theorem modNd_defer (s : State) (d : Nat) (f : NDom → NDom) : (modNd s d f).defer = s.defer := rfl
@[simp] theorem modNd_blkReset (s : State) (d : Nat) (f : NDom → NDom) : (modNd s d f).blkReset = s.blkReset := rfl
@[simp] theorem modNd_mtrmRaw (s : State) (d : Nat) (f : NDom → NDom) : (modNd s d f).mtrmRaw = s.mtrmRaw := rfl
@[simp] theorem modNd_dbg (s : State) (d : Nat) (f : NDom → NDom) : (modNd s d f).dbg = s.dbg := rfl
@[simp] theorem modNd_g (s : State) (d : Nat) (f : NDom → NDom) : (modNd s d f).g = s.g := rfl
@[simp] theorem modNd_peer (s : State) (d : Nat) (f : NDom → NDom) : (modNd s d f).peer = s.peer := rfl
@[simp] theorem modNd_mem (s : State) (d : Nat) (f : NDom → NDom) : (modNd s d f).mem = s.mem := rfl
@[simp] theorem modNd_bu (s : State) (d : Nat) (f : NDom → NDom) : (modNd s d f).bu = s.bu := rfl
@[simp] theorem modNd_rst (s : State) (d : Nat) (f : NDom → NDom) : (modNd s d f).rst = s.rst := rfl
@[simp] theorem modNd_meter (s : State) (d : Nat) (f : NDom → NDom) : (modNd s d f).meter = s.meter := rfl
@[simp] theorem modNd_mtrm (s : State) (d : Nat) (f : NDom → NDom) : (modNd s d f).mtrm = s.mtrm := rfl
@[simp] theorem modNd_pmb (s : State) (d : Nat) (f : NDom → NDom) : (modNd s d f).pmb = s.pmb := rfl
@[simp] theorem modNd_pins (s : State) (d : Nat) (f : NDom → NDom) : (modNd s d f).pins = s.pins := rfl
@[simp] theorem modNd_io (s : State) (d : Nat) (f : NDom → NDom) : (modNd s d f).io = s.io := rfl
@[simp] theorem modNd_seqr (s : State) (d : Nat) (f : NDom → NDom) : (modNd s d f).seqr = s.seqr := rfl
@[simp] theorem modNd_lane (s : State) (d : Nat) (f : NDom → NDom) : (modNd s d f).lane = s.lane := rfl
@[simp] theorem modNd_acts (s : State) (d : Nat) (f : NDom → NDom) : (modNd s d f).acts = s.acts := rfl
@[simp] theorem modNd_sends (s : State) (d : Nat) (f : NDom → NDom) : (modNd s d f).sends = s.sends := rfl
@[simp] theorem modNd_cmdw (s : State) (d : Nat) (f : NDom → NDom) : (modNd s d f).cmdw = s.cmdw := rfl
@[simp] theorem modNd_tally (s : State) (d : Nat) (f : NDom → NDom) : (modNd s d f).tally = s.tally := rfl
@[simp] theorem modNd_mt (s : State) (d : Nat) (f : NDom → NDom) : (modNd s d f).mt = s.mt := rfl
@[simp] theorem modNd_mts (s : State) (d : Nat) (f : NDom → NDom) : (modNd s d f).mts = s.mts := rfl
@[simp] theorem modNd_loop (s : State) (d : Nat) (f : NDom → NDom) : (modNd s d f).loop = s.loop := rfl
@[simp] theorem modNd_tel (s : State) (d : Nat) (f : NDom → NDom) : (modNd s d f).tel = s.tel := rfl
@[simp] theorem modNd_exa (s : State) (d : Nat) (f : NDom → NDom) : (modNd s d f).exa = s.exa := rfl
@[simp] theorem modNd_setrec (s : State) (d : Nat) (f : NDom → NDom) : (modNd s d f).setrec = s.setrec := rfl
@[simp] theorem modNd_side (s : State) (d : Nat) (f : NDom → NDom) : (modNd s d f).side = s.side := rfl
@[simp] theorem modNd_freeCtr (s : State) (d : Nat) (f : NDom → NDom) : (modNd s d f).freeCtr = s.freeCtr := rfl
@[simp] theorem modNd_classHold (s : State) (d : Nat) (f : NDom → NDom) : (modNd s d f).classHold = s.classHold := rfl
@[simp] theorem modNd_pending (s : State) (d : Nat) (f : NDom → NDom) : (modNd s d f).pending = s.pending := rfl

-- modEstd
@[simp] theorem modEstd_estd (s : State) (d : Nat) (f : EstD → EstD) : (modEstd s d f).estd = s.estd.modN d f := rfl
@[simp] theorem modEstd_inp (s : State) (d : Nat) (f : EstD → EstD) : (modEstd s d f).inp = s.inp := rfl
@[simp] theorem modEstd_bm (s : State) (d : Nat) (f : EstD → EstD) : (modEstd s d f).bm = s.bm := rfl
@[simp] theorem modEstd_epp (s : State) (d : Nat) (f : EstD → EstD) : (modEstd s d f).epp = s.epp := rfl
@[simp] theorem modEstd_la (s : State) (d : Nat) (f : EstD → EstD) : (modEstd s d f).la = s.la := rfl
@[simp] theorem modEstd_dom (s : State) (d : Nat) (f : EstD → EstD) : (modEstd s d f).dom = s.dom := rfl
@[simp] theorem modEstd_sns (s : State) (d : Nat) (f : EstD → EstD) : (modEstd s d f).sns = s.sns := rfl
@[simp] theorem modEstd_bond (s : State) (d : Nat) (f : EstD → EstD) : (modEstd s d f).bond = s.bond := rfl
@[simp] theorem modEstd_shf (s : State) (d : Nat) (f : EstD → EstD) : (modEstd s d f).shf = s.shf := rfl
@[simp] theorem modEstd_shw (s : State) (d : Nat) (f : EstD → EstD) : (modEstd s d f).shw = s.shw := rfl
@[simp] theorem modEstd_shr (s : State) (d : Nat) (f : EstD → EstD) : (modEstd s d f).shr = s.shr := rfl
@[simp] theorem modEstd_ph (s : State) (d : Nat) (f : EstD → EstD) : (modEstd s d f).ph = s.ph := rfl
@[simp] theorem modEstd_phw (s : State) (d : Nat) (f : EstD → EstD) : (modEstd s d f).phw = s.phw := rfl
@[simp] theorem modEstd_swref (s : State) (d : Nat) (f : EstD → EstD) : (modEstd s d f).swref = s.swref := rfl
@[simp] theorem modEstd_gln (s : State) (d : Nat) (f : EstD → EstD) : (modEstd s d f).gln = s.gln := rfl
@[simp] theorem modEstd_sp (s : State) (d : Nat) (f : EstD → EstD) : (modEstd s d f).sp = s.sp := rfl
@[simp] theorem modEstd_gw (s : State) (d : Nat) (f : EstD → EstD) : (modEstd s d f).gw = s.gw := rfl
@[simp] theorem modEstd_bank (s : State) (d : Nat) (f : EstD → EstD) : (modEstd s d f).bank = s.bank := rfl
@[simp] theorem modEstd_clk (s : State) (d : Nat) (f : EstD → EstD) : (modEstd s d f).clk = s.clk := rfl
@[simp] theorem modEstd_time (s : State) (d : Nat) (f : EstD → EstD) : (modEstd s d f).time = s.time := rfl
@[simp] theorem modEstd_seg (s : State) (d : Nat) (f : EstD → EstD) : (modEstd s d f).seg = s.seg := rfl
@[simp] theorem modEstd_ntc (s : State) (d : Nat) (f : EstD → EstD) : (modEstd s d f).ntc = s.ntc := rfl
@[simp] theorem modEstd_nd (s : State) (d : Nat) (f : EstD → EstD) : (modEstd s d f).nd = s.nd := rfl
@[simp] theorem modEstd_sg (s : State) (d : Nat) (f : EstD → EstD) : (modEstd s d f).sg = s.sg := rfl
@[simp] theorem modEstd_est (s : State) (d : Nat) (f : EstD → EstD) : (modEstd s d f).est = s.est := rfl
@[simp] theorem modEstd_plan (s : State) (d : Nat) (f : EstD → EstD) : (modEstd s d f).plan = s.plan := rfl
@[simp] theorem modEstd_pd (s : State) (d : Nat) (f : EstD → EstD) : (modEstd s d f).pd = s.pd := rfl
@[simp] theorem modEstd_prot (s : State) (d : Nat) (f : EstD → EstD) : (modEstd s d f).prot = s.prot := rfl
@[simp] theorem modEstd_flt (s : State) (d : Nat) (f : EstD → EstD) : (modEstd s d f).flt = s.flt := rfl
@[simp] theorem modEstd_fpin (s : State) (d : Nat) (f : EstD → EstD) : (modEstd s d f).fpin = s.fpin := rfl
@[simp] theorem modEstd_silo (s : State) (d : Nat) (f : EstD → EstD) : (modEstd s d f).silo = s.silo := rfl
@[simp] theorem modEstd_defer (s : State) (d : Nat) (f : EstD → EstD) : (modEstd s d f).defer = s.defer := rfl
@[simp] theorem modEstd_blkReset (s : State) (d : Nat) (f : EstD → EstD) : (modEstd s d f).blkReset = s.blkReset := rfl
@[simp] theorem modEstd_mtrmRaw (s : State) (d : Nat) (f : EstD → EstD) : (modEstd s d f).mtrmRaw = s.mtrmRaw := rfl
@[simp] theorem modEstd_dbg (s : State) (d : Nat) (f : EstD → EstD) : (modEstd s d f).dbg = s.dbg := rfl
@[simp] theorem modEstd_g (s : State) (d : Nat) (f : EstD → EstD) : (modEstd s d f).g = s.g := rfl
@[simp] theorem modEstd_peer (s : State) (d : Nat) (f : EstD → EstD) : (modEstd s d f).peer = s.peer := rfl
@[simp] theorem modEstd_mem (s : State) (d : Nat) (f : EstD → EstD) : (modEstd s d f).mem = s.mem := rfl
@[simp] theorem modEstd_bu (s : State) (d : Nat) (f : EstD → EstD) : (modEstd s d f).bu = s.bu := rfl
@[simp] theorem modEstd_rst (s : State) (d : Nat) (f : EstD → EstD) : (modEstd s d f).rst = s.rst := rfl
@[simp] theorem modEstd_meter (s : State) (d : Nat) (f : EstD → EstD) : (modEstd s d f).meter = s.meter := rfl
@[simp] theorem modEstd_mtrm (s : State) (d : Nat) (f : EstD → EstD) : (modEstd s d f).mtrm = s.mtrm := rfl
@[simp] theorem modEstd_pmb (s : State) (d : Nat) (f : EstD → EstD) : (modEstd s d f).pmb = s.pmb := rfl
@[simp] theorem modEstd_pins (s : State) (d : Nat) (f : EstD → EstD) : (modEstd s d f).pins = s.pins := rfl
@[simp] theorem modEstd_io (s : State) (d : Nat) (f : EstD → EstD) : (modEstd s d f).io = s.io := rfl
@[simp] theorem modEstd_seqr (s : State) (d : Nat) (f : EstD → EstD) : (modEstd s d f).seqr = s.seqr := rfl
@[simp] theorem modEstd_lane (s : State) (d : Nat) (f : EstD → EstD) : (modEstd s d f).lane = s.lane := rfl
@[simp] theorem modEstd_acts (s : State) (d : Nat) (f : EstD → EstD) : (modEstd s d f).acts = s.acts := rfl
@[simp] theorem modEstd_sends (s : State) (d : Nat) (f : EstD → EstD) : (modEstd s d f).sends = s.sends := rfl
@[simp] theorem modEstd_cmdw (s : State) (d : Nat) (f : EstD → EstD) : (modEstd s d f).cmdw = s.cmdw := rfl
@[simp] theorem modEstd_tally (s : State) (d : Nat) (f : EstD → EstD) : (modEstd s d f).tally = s.tally := rfl
@[simp] theorem modEstd_mt (s : State) (d : Nat) (f : EstD → EstD) : (modEstd s d f).mt = s.mt := rfl
@[simp] theorem modEstd_mts (s : State) (d : Nat) (f : EstD → EstD) : (modEstd s d f).mts = s.mts := rfl
@[simp] theorem modEstd_loop (s : State) (d : Nat) (f : EstD → EstD) : (modEstd s d f).loop = s.loop := rfl
@[simp] theorem modEstd_tel (s : State) (d : Nat) (f : EstD → EstD) : (modEstd s d f).tel = s.tel := rfl
@[simp] theorem modEstd_exa (s : State) (d : Nat) (f : EstD → EstD) : (modEstd s d f).exa = s.exa := rfl
@[simp] theorem modEstd_setrec (s : State) (d : Nat) (f : EstD → EstD) : (modEstd s d f).setrec = s.setrec := rfl
@[simp] theorem modEstd_side (s : State) (d : Nat) (f : EstD → EstD) : (modEstd s d f).side = s.side := rfl
@[simp] theorem modEstd_freeCtr (s : State) (d : Nat) (f : EstD → EstD) : (modEstd s d f).freeCtr = s.freeCtr := rfl
@[simp] theorem modEstd_classHold (s : State) (d : Nat) (f : EstD → EstD) : (modEstd s d f).classHold = s.classHold := rfl
@[simp] theorem modEstd_pending (s : State) (d : Nat) (f : EstD → EstD) : (modEstd s d f).pending = s.pending := rfl

-- modDom
@[simp] theorem modDom_dom (s : State) (d : Nat) (f : Dom → Dom) : (modDom s d f).dom = s.dom.modN d f := rfl
@[simp] theorem modDom_inp (s : State) (d : Nat) (f : Dom → Dom) : (modDom s d f).inp = s.inp := rfl
@[simp] theorem modDom_bm (s : State) (d : Nat) (f : Dom → Dom) : (modDom s d f).bm = s.bm := rfl
@[simp] theorem modDom_epp (s : State) (d : Nat) (f : Dom → Dom) : (modDom s d f).epp = s.epp := rfl
@[simp] theorem modDom_la (s : State) (d : Nat) (f : Dom → Dom) : (modDom s d f).la = s.la := rfl
@[simp] theorem modDom_sns (s : State) (d : Nat) (f : Dom → Dom) : (modDom s d f).sns = s.sns := rfl
@[simp] theorem modDom_bond (s : State) (d : Nat) (f : Dom → Dom) : (modDom s d f).bond = s.bond := rfl
@[simp] theorem modDom_shf (s : State) (d : Nat) (f : Dom → Dom) : (modDom s d f).shf = s.shf := rfl
@[simp] theorem modDom_shw (s : State) (d : Nat) (f : Dom → Dom) : (modDom s d f).shw = s.shw := rfl
@[simp] theorem modDom_shr (s : State) (d : Nat) (f : Dom → Dom) : (modDom s d f).shr = s.shr := rfl
@[simp] theorem modDom_ph (s : State) (d : Nat) (f : Dom → Dom) : (modDom s d f).ph = s.ph := rfl
@[simp] theorem modDom_phw (s : State) (d : Nat) (f : Dom → Dom) : (modDom s d f).phw = s.phw := rfl
@[simp] theorem modDom_swref (s : State) (d : Nat) (f : Dom → Dom) : (modDom s d f).swref = s.swref := rfl
@[simp] theorem modDom_gln (s : State) (d : Nat) (f : Dom → Dom) : (modDom s d f).gln = s.gln := rfl
@[simp] theorem modDom_sp (s : State) (d : Nat) (f : Dom → Dom) : (modDom s d f).sp = s.sp := rfl
@[simp] theorem modDom_gw (s : State) (d : Nat) (f : Dom → Dom) : (modDom s d f).gw = s.gw := rfl
@[simp] theorem modDom_bank (s : State) (d : Nat) (f : Dom → Dom) : (modDom s d f).bank = s.bank := rfl
@[simp] theorem modDom_clk (s : State) (d : Nat) (f : Dom → Dom) : (modDom s d f).clk = s.clk := rfl
@[simp] theorem modDom_time (s : State) (d : Nat) (f : Dom → Dom) : (modDom s d f).time = s.time := rfl
@[simp] theorem modDom_seg (s : State) (d : Nat) (f : Dom → Dom) : (modDom s d f).seg = s.seg := rfl
@[simp] theorem modDom_ntc (s : State) (d : Nat) (f : Dom → Dom) : (modDom s d f).ntc = s.ntc := rfl
@[simp] theorem modDom_nd (s : State) (d : Nat) (f : Dom → Dom) : (modDom s d f).nd = s.nd := rfl
@[simp] theorem modDom_sg (s : State) (d : Nat) (f : Dom → Dom) : (modDom s d f).sg = s.sg := rfl
@[simp] theorem modDom_est (s : State) (d : Nat) (f : Dom → Dom) : (modDom s d f).est = s.est := rfl
@[simp] theorem modDom_estd (s : State) (d : Nat) (f : Dom → Dom) : (modDom s d f).estd = s.estd := rfl
@[simp] theorem modDom_plan (s : State) (d : Nat) (f : Dom → Dom) : (modDom s d f).plan = s.plan := rfl
@[simp] theorem modDom_pd (s : State) (d : Nat) (f : Dom → Dom) : (modDom s d f).pd = s.pd := rfl
@[simp] theorem modDom_prot (s : State) (d : Nat) (f : Dom → Dom) : (modDom s d f).prot = s.prot := rfl
@[simp] theorem modDom_flt (s : State) (d : Nat) (f : Dom → Dom) : (modDom s d f).flt = s.flt := rfl
@[simp] theorem modDom_fpin (s : State) (d : Nat) (f : Dom → Dom) : (modDom s d f).fpin = s.fpin := rfl
@[simp] theorem modDom_silo (s : State) (d : Nat) (f : Dom → Dom) : (modDom s d f).silo = s.silo := rfl
@[simp] theorem modDom_defer (s : State) (d : Nat) (f : Dom → Dom) : (modDom s d f).defer = s.defer := rfl
@[simp] theorem modDom_blkReset (s : State) (d : Nat) (f : Dom → Dom) : (modDom s d f).blkReset = s.blkReset := rfl
@[simp] theorem modDom_mtrmRaw (s : State) (d : Nat) (f : Dom → Dom) : (modDom s d f).mtrmRaw = s.mtrmRaw := rfl
@[simp] theorem modDom_dbg (s : State) (d : Nat) (f : Dom → Dom) : (modDom s d f).dbg = s.dbg := rfl
@[simp] theorem modDom_g (s : State) (d : Nat) (f : Dom → Dom) : (modDom s d f).g = s.g := rfl
@[simp] theorem modDom_peer (s : State) (d : Nat) (f : Dom → Dom) : (modDom s d f).peer = s.peer := rfl
@[simp] theorem modDom_mem (s : State) (d : Nat) (f : Dom → Dom) : (modDom s d f).mem = s.mem := rfl
@[simp] theorem modDom_bu (s : State) (d : Nat) (f : Dom → Dom) : (modDom s d f).bu = s.bu := rfl
@[simp] theorem modDom_rst (s : State) (d : Nat) (f : Dom → Dom) : (modDom s d f).rst = s.rst := rfl
@[simp] theorem modDom_meter (s : State) (d : Nat) (f : Dom → Dom) : (modDom s d f).meter = s.meter := rfl
@[simp] theorem modDom_mtrm (s : State) (d : Nat) (f : Dom → Dom) : (modDom s d f).mtrm = s.mtrm := rfl
@[simp] theorem modDom_pmb (s : State) (d : Nat) (f : Dom → Dom) : (modDom s d f).pmb = s.pmb := rfl
@[simp] theorem modDom_pins (s : State) (d : Nat) (f : Dom → Dom) : (modDom s d f).pins = s.pins := rfl
@[simp] theorem modDom_io (s : State) (d : Nat) (f : Dom → Dom) : (modDom s d f).io = s.io := rfl
@[simp] theorem modDom_seqr (s : State) (d : Nat) (f : Dom → Dom) : (modDom s d f).seqr = s.seqr := rfl
@[simp] theorem modDom_lane (s : State) (d : Nat) (f : Dom → Dom) : (modDom s d f).lane = s.lane := rfl
@[simp] theorem modDom_acts (s : State) (d : Nat) (f : Dom → Dom) : (modDom s d f).acts = s.acts := rfl
@[simp] theorem modDom_sends (s : State) (d : Nat) (f : Dom → Dom) : (modDom s d f).sends = s.sends := rfl
@[simp] theorem modDom_cmdw (s : State) (d : Nat) (f : Dom → Dom) : (modDom s d f).cmdw = s.cmdw := rfl
@[simp] theorem modDom_tally (s : State) (d : Nat) (f : Dom → Dom) : (modDom s d f).tally = s.tally := rfl
@[simp] theorem modDom_mt (s : State) (d : Nat) (f : Dom → Dom) : (modDom s d f).mt = s.mt := rfl
@[simp] theorem modDom_mts (s : State) (d : Nat) (f : Dom → Dom) : (modDom s d f).mts = s.mts := rfl
@[simp] theorem modDom_loop (s : State) (d : Nat) (f : Dom → Dom) : (modDom s d f).loop = s.loop := rfl
@[simp] theorem modDom_tel (s : State) (d : Nat) (f : Dom → Dom) : (modDom s d f).tel = s.tel := rfl
@[simp] theorem modDom_exa (s : State) (d : Nat) (f : Dom → Dom) : (modDom s d f).exa = s.exa := rfl
@[simp] theorem modDom_setrec (s : State) (d : Nat) (f : Dom → Dom) : (modDom s d f).setrec = s.setrec := rfl
@[simp] theorem modDom_side (s : State) (d : Nat) (f : Dom → Dom) : (modDom s d f).side = s.side := rfl
@[simp] theorem modDom_freeCtr (s : State) (d : Nat) (f : Dom → Dom) : (modDom s d f).freeCtr = s.freeCtr := rfl
@[simp] theorem modDom_classHold (s : State) (d : Nat) (f : Dom → Dom) : (modDom s d f).classHold = s.classHold := rfl
@[simp] theorem modDom_pending (s : State) (d : Nat) (f : Dom → Dom) : (modDom s d f).pending = s.pending := rfl

-- modFlt
@[simp] theorem modFlt_flt (s : State) (b : Fin 10) (f : Flt → Flt) : (modFlt s b f).flt = s.flt.mod b f := rfl
@[simp] theorem modFlt_inp (s : State) (b : Fin 10) (f : Flt → Flt) : (modFlt s b f).inp = s.inp := rfl
@[simp] theorem modFlt_bm (s : State) (b : Fin 10) (f : Flt → Flt) : (modFlt s b f).bm = s.bm := rfl
@[simp] theorem modFlt_epp (s : State) (b : Fin 10) (f : Flt → Flt) : (modFlt s b f).epp = s.epp := rfl
@[simp] theorem modFlt_la (s : State) (b : Fin 10) (f : Flt → Flt) : (modFlt s b f).la = s.la := rfl
@[simp] theorem modFlt_dom (s : State) (b : Fin 10) (f : Flt → Flt) : (modFlt s b f).dom = s.dom := rfl
@[simp] theorem modFlt_sns (s : State) (b : Fin 10) (f : Flt → Flt) : (modFlt s b f).sns = s.sns := rfl
@[simp] theorem modFlt_bond (s : State) (b : Fin 10) (f : Flt → Flt) : (modFlt s b f).bond = s.bond := rfl
@[simp] theorem modFlt_shf (s : State) (b : Fin 10) (f : Flt → Flt) : (modFlt s b f).shf = s.shf := rfl
@[simp] theorem modFlt_shw (s : State) (b : Fin 10) (f : Flt → Flt) : (modFlt s b f).shw = s.shw := rfl
@[simp] theorem modFlt_shr (s : State) (b : Fin 10) (f : Flt → Flt) : (modFlt s b f).shr = s.shr := rfl
@[simp] theorem modFlt_ph (s : State) (b : Fin 10) (f : Flt → Flt) : (modFlt s b f).ph = s.ph := rfl
@[simp] theorem modFlt_phw (s : State) (b : Fin 10) (f : Flt → Flt) : (modFlt s b f).phw = s.phw := rfl
@[simp] theorem modFlt_swref (s : State) (b : Fin 10) (f : Flt → Flt) : (modFlt s b f).swref = s.swref := rfl
@[simp] theorem modFlt_gln (s : State) (b : Fin 10) (f : Flt → Flt) : (modFlt s b f).gln = s.gln := rfl
@[simp] theorem modFlt_sp (s : State) (b : Fin 10) (f : Flt → Flt) : (modFlt s b f).sp = s.sp := rfl
@[simp] theorem modFlt_gw (s : State) (b : Fin 10) (f : Flt → Flt) : (modFlt s b f).gw = s.gw := rfl
@[simp] theorem modFlt_bank (s : State) (b : Fin 10) (f : Flt → Flt) : (modFlt s b f).bank = s.bank := rfl
@[simp] theorem modFlt_clk (s : State) (b : Fin 10) (f : Flt → Flt) : (modFlt s b f).clk = s.clk := rfl
@[simp] theorem modFlt_time (s : State) (b : Fin 10) (f : Flt → Flt) : (modFlt s b f).time = s.time := rfl
@[simp] theorem modFlt_seg (s : State) (b : Fin 10) (f : Flt → Flt) : (modFlt s b f).seg = s.seg := rfl
@[simp] theorem modFlt_ntc (s : State) (b : Fin 10) (f : Flt → Flt) : (modFlt s b f).ntc = s.ntc := rfl
@[simp] theorem modFlt_nd (s : State) (b : Fin 10) (f : Flt → Flt) : (modFlt s b f).nd = s.nd := rfl
@[simp] theorem modFlt_sg (s : State) (b : Fin 10) (f : Flt → Flt) : (modFlt s b f).sg = s.sg := rfl
@[simp] theorem modFlt_est (s : State) (b : Fin 10) (f : Flt → Flt) : (modFlt s b f).est = s.est := rfl
@[simp] theorem modFlt_estd (s : State) (b : Fin 10) (f : Flt → Flt) : (modFlt s b f).estd = s.estd := rfl
@[simp] theorem modFlt_plan (s : State) (b : Fin 10) (f : Flt → Flt) : (modFlt s b f).plan = s.plan := rfl
@[simp] theorem modFlt_pd (s : State) (b : Fin 10) (f : Flt → Flt) : (modFlt s b f).pd = s.pd := rfl
@[simp] theorem modFlt_prot (s : State) (b : Fin 10) (f : Flt → Flt) : (modFlt s b f).prot = s.prot := rfl
@[simp] theorem modFlt_fpin (s : State) (b : Fin 10) (f : Flt → Flt) : (modFlt s b f).fpin = s.fpin := rfl
@[simp] theorem modFlt_silo (s : State) (b : Fin 10) (f : Flt → Flt) : (modFlt s b f).silo = s.silo := rfl
@[simp] theorem modFlt_defer (s : State) (b : Fin 10) (f : Flt → Flt) : (modFlt s b f).defer = s.defer := rfl
@[simp] theorem modFlt_blkReset (s : State) (b : Fin 10) (f : Flt → Flt) : (modFlt s b f).blkReset = s.blkReset := rfl
@[simp] theorem modFlt_mtrmRaw (s : State) (b : Fin 10) (f : Flt → Flt) : (modFlt s b f).mtrmRaw = s.mtrmRaw := rfl
@[simp] theorem modFlt_dbg (s : State) (b : Fin 10) (f : Flt → Flt) : (modFlt s b f).dbg = s.dbg := rfl
@[simp] theorem modFlt_g (s : State) (b : Fin 10) (f : Flt → Flt) : (modFlt s b f).g = s.g := rfl
@[simp] theorem modFlt_peer (s : State) (b : Fin 10) (f : Flt → Flt) : (modFlt s b f).peer = s.peer := rfl
@[simp] theorem modFlt_mem (s : State) (b : Fin 10) (f : Flt → Flt) : (modFlt s b f).mem = s.mem := rfl
@[simp] theorem modFlt_bu (s : State) (b : Fin 10) (f : Flt → Flt) : (modFlt s b f).bu = s.bu := rfl
@[simp] theorem modFlt_rst (s : State) (b : Fin 10) (f : Flt → Flt) : (modFlt s b f).rst = s.rst := rfl
@[simp] theorem modFlt_meter (s : State) (b : Fin 10) (f : Flt → Flt) : (modFlt s b f).meter = s.meter := rfl
@[simp] theorem modFlt_mtrm (s : State) (b : Fin 10) (f : Flt → Flt) : (modFlt s b f).mtrm = s.mtrm := rfl
@[simp] theorem modFlt_pmb (s : State) (b : Fin 10) (f : Flt → Flt) : (modFlt s b f).pmb = s.pmb := rfl
@[simp] theorem modFlt_pins (s : State) (b : Fin 10) (f : Flt → Flt) : (modFlt s b f).pins = s.pins := rfl
@[simp] theorem modFlt_io (s : State) (b : Fin 10) (f : Flt → Flt) : (modFlt s b f).io = s.io := rfl
@[simp] theorem modFlt_seqr (s : State) (b : Fin 10) (f : Flt → Flt) : (modFlt s b f).seqr = s.seqr := rfl
@[simp] theorem modFlt_lane (s : State) (b : Fin 10) (f : Flt → Flt) : (modFlt s b f).lane = s.lane := rfl
@[simp] theorem modFlt_acts (s : State) (b : Fin 10) (f : Flt → Flt) : (modFlt s b f).acts = s.acts := rfl
@[simp] theorem modFlt_sends (s : State) (b : Fin 10) (f : Flt → Flt) : (modFlt s b f).sends = s.sends := rfl
@[simp] theorem modFlt_cmdw (s : State) (b : Fin 10) (f : Flt → Flt) : (modFlt s b f).cmdw = s.cmdw := rfl
@[simp] theorem modFlt_tally (s : State) (b : Fin 10) (f : Flt → Flt) : (modFlt s b f).tally = s.tally := rfl
@[simp] theorem modFlt_mt (s : State) (b : Fin 10) (f : Flt → Flt) : (modFlt s b f).mt = s.mt := rfl
@[simp] theorem modFlt_mts (s : State) (b : Fin 10) (f : Flt → Flt) : (modFlt s b f).mts = s.mts := rfl
@[simp] theorem modFlt_loop (s : State) (b : Fin 10) (f : Flt → Flt) : (modFlt s b f).loop = s.loop := rfl
@[simp] theorem modFlt_tel (s : State) (b : Fin 10) (f : Flt → Flt) : (modFlt s b f).tel = s.tel := rfl
@[simp] theorem modFlt_exa (s : State) (b : Fin 10) (f : Flt → Flt) : (modFlt s b f).exa = s.exa := rfl
@[simp] theorem modFlt_setrec (s : State) (b : Fin 10) (f : Flt → Flt) : (modFlt s b f).setrec = s.setrec := rfl
@[simp] theorem modFlt_side (s : State) (b : Fin 10) (f : Flt → Flt) : (modFlt s b f).side = s.side := rfl
@[simp] theorem modFlt_freeCtr (s : State) (b : Fin 10) (f : Flt → Flt) : (modFlt s b f).freeCtr = s.freeCtr := rfl
@[simp] theorem modFlt_classHold (s : State) (b : Fin 10) (f : Flt → Flt) : (modFlt s b f).classHold = s.classHold := rfl
@[simp] theorem modFlt_pending (s : State) (b : Fin 10) (f : Flt → Flt) : (modFlt s b f).pending = s.pending := rfl

-- modLane
@[simp] theorem modLane_lane (s : State) (l : Fin 8) (f : Lane → Lane) : (modLane s l f).lane = s.lane.mod l f := rfl
@[simp] theorem modLane_inp (s : State) (l : Fin 8) (f : Lane → Lane) : (modLane s l f).inp = s.inp := rfl
@[simp] theorem modLane_bm (s : State) (l : Fin 8) (f : Lane → Lane) : (modLane s l f).bm = s.bm := rfl
@[simp] theorem modLane_epp (s : State) (l : Fin 8) (f : Lane → Lane) : (modLane s l f).epp = s.epp := rfl
@[simp] theorem modLane_la (s : State) (l : Fin 8) (f : Lane → Lane) : (modLane s l f).la = s.la := rfl
@[simp] theorem modLane_dom (s : State) (l : Fin 8) (f : Lane → Lane) : (modLane s l f).dom = s.dom := rfl
@[simp] theorem modLane_sns (s : State) (l : Fin 8) (f : Lane → Lane) : (modLane s l f).sns = s.sns := rfl
@[simp] theorem modLane_bond (s : State) (l : Fin 8) (f : Lane → Lane) : (modLane s l f).bond = s.bond := rfl
@[simp] theorem modLane_shf (s : State) (l : Fin 8) (f : Lane → Lane) : (modLane s l f).shf = s.shf := rfl
@[simp] theorem modLane_shw (s : State) (l : Fin 8) (f : Lane → Lane) : (modLane s l f).shw = s.shw := rfl
@[simp] theorem modLane_shr (s : State) (l : Fin 8) (f : Lane → Lane) : (modLane s l f).shr = s.shr := rfl
@[simp] theorem modLane_ph (s : State) (l : Fin 8) (f : Lane → Lane) : (modLane s l f).ph = s.ph := rfl
@[simp] theorem modLane_phw (s : State) (l : Fin 8) (f : Lane → Lane) : (modLane s l f).phw = s.phw := rfl
@[simp] theorem modLane_swref (s : State) (l : Fin 8) (f : Lane → Lane) : (modLane s l f).swref = s.swref := rfl
@[simp] theorem modLane_gln (s : State) (l : Fin 8) (f : Lane → Lane) : (modLane s l f).gln = s.gln := rfl
@[simp] theorem modLane_sp (s : State) (l : Fin 8) (f : Lane → Lane) : (modLane s l f).sp = s.sp := rfl
@[simp] theorem modLane_gw (s : State) (l : Fin 8) (f : Lane → Lane) : (modLane s l f).gw = s.gw := rfl
@[simp] theorem modLane_bank (s : State) (l : Fin 8) (f : Lane → Lane) : (modLane s l f).bank = s.bank := rfl
@[simp] theorem modLane_clk (s : State) (l : Fin 8) (f : Lane → Lane) : (modLane s l f).clk = s.clk := rfl
@[simp] theorem modLane_time (s : State) (l : Fin 8) (f : Lane → Lane) : (modLane s l f).time = s.time := rfl
@[simp] theorem modLane_seg (s : State) (l : Fin 8) (f : Lane → Lane) : (modLane s l f).seg = s.seg := rfl
@[simp] theorem modLane_ntc (s : State) (l : Fin 8) (f : Lane → Lane) : (modLane s l f).ntc = s.ntc := rfl
@[simp] theorem modLane_nd (s : State) (l : Fin 8) (f : Lane → Lane) : (modLane s l f).nd = s.nd := rfl
@[simp] theorem modLane_sg (s : State) (l : Fin 8) (f : Lane → Lane) : (modLane s l f).sg = s.sg := rfl
@[simp] theorem modLane_est (s : State) (l : Fin 8) (f : Lane → Lane) : (modLane s l f).est = s.est := rfl
@[simp] theorem modLane_estd (s : State) (l : Fin 8) (f : Lane → Lane) : (modLane s l f).estd = s.estd := rfl
@[simp] theorem modLane_plan (s : State) (l : Fin 8) (f : Lane → Lane) : (modLane s l f).plan = s.plan := rfl
@[simp] theorem modLane_pd (s : State) (l : Fin 8) (f : Lane → Lane) : (modLane s l f).pd = s.pd := rfl
@[simp] theorem modLane_prot (s : State) (l : Fin 8) (f : Lane → Lane) : (modLane s l f).prot = s.prot := rfl
@[simp] theorem modLane_flt (s : State) (l : Fin 8) (f : Lane → Lane) : (modLane s l f).flt = s.flt := rfl
@[simp] theorem modLane_fpin (s : State) (l : Fin 8) (f : Lane → Lane) : (modLane s l f).fpin = s.fpin := rfl
@[simp] theorem modLane_silo (s : State) (l : Fin 8) (f : Lane → Lane) : (modLane s l f).silo = s.silo := rfl
@[simp] theorem modLane_defer (s : State) (l : Fin 8) (f : Lane → Lane) : (modLane s l f).defer = s.defer := rfl
@[simp] theorem modLane_blkReset (s : State) (l : Fin 8) (f : Lane → Lane) : (modLane s l f).blkReset = s.blkReset := rfl
@[simp] theorem modLane_mtrmRaw (s : State) (l : Fin 8) (f : Lane → Lane) : (modLane s l f).mtrmRaw = s.mtrmRaw := rfl
@[simp] theorem modLane_dbg (s : State) (l : Fin 8) (f : Lane → Lane) : (modLane s l f).dbg = s.dbg := rfl
@[simp] theorem modLane_g (s : State) (l : Fin 8) (f : Lane → Lane) : (modLane s l f).g = s.g := rfl
@[simp] theorem modLane_peer (s : State) (l : Fin 8) (f : Lane → Lane) : (modLane s l f).peer = s.peer := rfl
@[simp] theorem modLane_mem (s : State) (l : Fin 8) (f : Lane → Lane) : (modLane s l f).mem = s.mem := rfl
@[simp] theorem modLane_bu (s : State) (l : Fin 8) (f : Lane → Lane) : (modLane s l f).bu = s.bu := rfl
@[simp] theorem modLane_rst (s : State) (l : Fin 8) (f : Lane → Lane) : (modLane s l f).rst = s.rst := rfl
@[simp] theorem modLane_meter (s : State) (l : Fin 8) (f : Lane → Lane) : (modLane s l f).meter = s.meter := rfl
@[simp] theorem modLane_mtrm (s : State) (l : Fin 8) (f : Lane → Lane) : (modLane s l f).mtrm = s.mtrm := rfl
@[simp] theorem modLane_pmb (s : State) (l : Fin 8) (f : Lane → Lane) : (modLane s l f).pmb = s.pmb := rfl
@[simp] theorem modLane_pins (s : State) (l : Fin 8) (f : Lane → Lane) : (modLane s l f).pins = s.pins := rfl
@[simp] theorem modLane_io (s : State) (l : Fin 8) (f : Lane → Lane) : (modLane s l f).io = s.io := rfl
@[simp] theorem modLane_seqr (s : State) (l : Fin 8) (f : Lane → Lane) : (modLane s l f).seqr = s.seqr := rfl
@[simp] theorem modLane_acts (s : State) (l : Fin 8) (f : Lane → Lane) : (modLane s l f).acts = s.acts := rfl
@[simp] theorem modLane_sends (s : State) (l : Fin 8) (f : Lane → Lane) : (modLane s l f).sends = s.sends := rfl
@[simp] theorem modLane_cmdw (s : State) (l : Fin 8) (f : Lane → Lane) : (modLane s l f).cmdw = s.cmdw := rfl
@[simp] theorem modLane_tally (s : State) (l : Fin 8) (f : Lane → Lane) : (modLane s l f).tally = s.tally := rfl
@[simp] theorem modLane_mt (s : State) (l : Fin 8) (f : Lane → Lane) : (modLane s l f).mt = s.mt := rfl
@[simp] theorem modLane_mts (s : State) (l : Fin 8) (f : Lane → Lane) : (modLane s l f).mts = s.mts := rfl
@[simp] theorem modLane_loop (s : State) (l : Fin 8) (f : Lane → Lane) : (modLane s l f).loop = s.loop := rfl
@[simp] theorem modLane_tel (s : State) (l : Fin 8) (f : Lane → Lane) : (modLane s l f).tel = s.tel := rfl
@[simp] theorem modLane_exa (s : State) (l : Fin 8) (f : Lane → Lane) : (modLane s l f).exa = s.exa := rfl
@[simp] theorem modLane_setrec (s : State) (l : Fin 8) (f : Lane → Lane) : (modLane s l f).setrec = s.setrec := rfl
@[simp] theorem modLane_side (s : State) (l : Fin 8) (f : Lane → Lane) : (modLane s l f).side = s.side := rfl
@[simp] theorem modLane_freeCtr (s : State) (l : Fin 8) (f : Lane → Lane) : (modLane s l f).freeCtr = s.freeCtr := rfl
@[simp] theorem modLane_classHold (s : State) (l : Fin 8) (f : Lane → Lane) : (modLane s l f).classHold = s.classHold := rfl
@[simp] theorem modLane_pending (s : State) (l : Fin 8) (f : Lane → Lane) : (modLane s l f).pending = s.pending := rfl

-- modMt
@[simp] theorem modMt_mt (s : State) (d : Nat) (f : Mt → Mt) : (modMt s d f).mt = s.mt.modN d f := rfl
@[simp] theorem modMt_inp (s : State) (d : Nat) (f : Mt → Mt) : (modMt s d f).inp = s.inp := rfl
@[simp] theorem modMt_bm (s : State) (d : Nat) (f : Mt → Mt) : (modMt s d f).bm = s.bm := rfl
@[simp] theorem modMt_epp (s : State) (d : Nat) (f : Mt → Mt) : (modMt s d f).epp = s.epp := rfl
@[simp] theorem modMt_la (s : State) (d : Nat) (f : Mt → Mt) : (modMt s d f).la = s.la := rfl
@[simp] theorem modMt_dom (s : State) (d : Nat) (f : Mt → Mt) : (modMt s d f).dom = s.dom := rfl
@[simp] theorem modMt_sns (s : State) (d : Nat) (f : Mt → Mt) : (modMt s d f).sns = s.sns := rfl
@[simp] theorem modMt_bond (s : State) (d : Nat) (f : Mt → Mt) : (modMt s d f).bond = s.bond := rfl
@[simp] theorem modMt_shf (s : State) (d : Nat) (f : Mt → Mt) : (modMt s d f).shf = s.shf := rfl
@[simp] theorem modMt_shw (s : State) (d : Nat) (f : Mt → Mt) : (modMt s d f).shw = s.shw := rfl
@[simp] theorem modMt_shr (s : State) (d : Nat) (f : Mt → Mt) : (modMt s d f).shr = s.shr := rfl
@[simp] theorem modMt_ph (s : State) (d : Nat) (f : Mt → Mt) : (modMt s d f).ph = s.ph := rfl
@[simp] theorem modMt_phw (s : State) (d : Nat) (f : Mt → Mt) : (modMt s d f).phw = s.phw := rfl
@[simp] theorem modMt_swref (s : State) (d : Nat) (f : Mt → Mt) : (modMt s d f).swref = s.swref := rfl
@[simp] theorem modMt_gln (s : State) (d : Nat) (f : Mt → Mt) : (modMt s d f).gln = s.gln := rfl
@[simp] theorem modMt_sp (s : State) (d : Nat) (f : Mt → Mt) : (modMt s d f).sp = s.sp := rfl
@[simp] theorem modMt_gw (s : State) (d : Nat) (f : Mt → Mt) : (modMt s d f).gw = s.gw := rfl
@[simp] theorem modMt_bank (s : State) (d : Nat) (f : Mt → Mt) : (modMt s d f).bank = s.bank := rfl
@[simp] theorem modMt_clk (s : State) (d : Nat) (f : Mt → Mt) : (modMt s d f).clk = s.clk := rfl
@[simp] theorem modMt_time (s : State) (d : Nat) (f : Mt → Mt) : (modMt s d f).time = s.time := rfl
@[simp] theorem modMt_seg (s : State) (d : Nat) (f : Mt → Mt) : (modMt s d f).seg = s.seg := rfl
@[simp] theorem modMt_ntc (s : State) (d : Nat) (f : Mt → Mt) : (modMt s d f).ntc = s.ntc := rfl
@[simp] theorem modMt_nd (s : State) (d : Nat) (f : Mt → Mt) : (modMt s d f).nd = s.nd := rfl
@[simp] theorem modMt_sg (s : State) (d : Nat) (f : Mt → Mt) : (modMt s d f).sg = s.sg := rfl
@[simp] theorem modMt_est (s : State) (d : Nat) (f : Mt → Mt) : (modMt s d f).est = s.est := rfl
@[simp] theorem modMt_estd (s : State) (d : Nat) (f : Mt → Mt) : (modMt s d f).estd = s.estd := rfl
@[simp] theorem modMt_plan (s : State) (d : Nat) (f : Mt → Mt) : (modMt s d f).plan = s.plan := rfl
@[simp] theorem modMt_pd (s : State) (d : Nat) (f : Mt → Mt) : (modMt s d f).pd = s.pd := rfl
@[simp] theorem modMt_prot (s : State) (d : Nat) (f : Mt → Mt) : (modMt s d f).prot = s.prot := rfl
@[simp] theorem modMt_flt (s : State) (d : Nat) (f : Mt → Mt) : (modMt s d f).flt = s.flt := rfl
@[simp] theorem modMt_fpin (s : State) (d : Nat) (f : Mt → Mt) : (modMt s d f).fpin = s.fpin := rfl
@[simp] theorem modMt_silo (s : State) (d : Nat) (f : Mt → Mt) : (modMt s d f).silo = s.silo := rfl
@[simp] theorem modMt_defer (s : State) (d : Nat) (f : Mt → Mt) : (modMt s d f).defer = s.defer := rfl
@[simp] theorem modMt_blkReset (s : State) (d : Nat) (f : Mt → Mt) : (modMt s d f).blkReset = s.blkReset := rfl
@[simp] theorem modMt_mtrmRaw (s : State) (d : Nat) (f : Mt → Mt) : (modMt s d f).mtrmRaw = s.mtrmRaw := rfl
@[simp] theorem modMt_dbg (s : State) (d : Nat) (f : Mt → Mt) : (modMt s d f).dbg = s.dbg := rfl
@[simp] theorem modMt_g (s : State) (d : Nat) (f : Mt → Mt) : (modMt s d f).g = s.g := rfl
@[simp] theorem modMt_peer (s : State) (d : Nat) (f : Mt → Mt) : (modMt s d f).peer = s.peer := rfl
@[simp] theorem modMt_mem (s : State) (d : Nat) (f : Mt → Mt) : (modMt s d f).mem = s.mem := rfl
@[simp] theorem modMt_bu (s : State) (d : Nat) (f : Mt → Mt) : (modMt s d f).bu = s.bu := rfl
@[simp] theorem modMt_rst (s : State) (d : Nat) (f : Mt → Mt) : (modMt s d f).rst = s.rst := rfl
@[simp] theorem modMt_meter (s : State) (d : Nat) (f : Mt → Mt) : (modMt s d f).meter = s.meter := rfl
@[simp] theorem modMt_mtrm (s : State) (d : Nat) (f : Mt → Mt) : (modMt s d f).mtrm = s.mtrm := rfl
@[simp] theorem modMt_pmb (s : State) (d : Nat) (f : Mt → Mt) : (modMt s d f).pmb = s.pmb := rfl
@[simp] theorem modMt_pins (s : State) (d : Nat) (f : Mt → Mt) : (modMt s d f).pins = s.pins := rfl
@[simp] theorem modMt_io (s : State) (d : Nat) (f : Mt → Mt) : (modMt s d f).io = s.io := rfl
@[simp] theorem modMt_seqr (s : State) (d : Nat) (f : Mt → Mt) : (modMt s d f).seqr = s.seqr := rfl
@[simp] theorem modMt_lane (s : State) (d : Nat) (f : Mt → Mt) : (modMt s d f).lane = s.lane := rfl
@[simp] theorem modMt_acts (s : State) (d : Nat) (f : Mt → Mt) : (modMt s d f).acts = s.acts := rfl
@[simp] theorem modMt_sends (s : State) (d : Nat) (f : Mt → Mt) : (modMt s d f).sends = s.sends := rfl
@[simp] theorem modMt_cmdw (s : State) (d : Nat) (f : Mt → Mt) : (modMt s d f).cmdw = s.cmdw := rfl
@[simp] theorem modMt_tally (s : State) (d : Nat) (f : Mt → Mt) : (modMt s d f).tally = s.tally := rfl
@[simp] theorem modMt_mts (s : State) (d : Nat) (f : Mt → Mt) : (modMt s d f).mts = s.mts := rfl
@[simp] theorem modMt_loop (s : State) (d : Nat) (f : Mt → Mt) : (modMt s d f).loop = s.loop := rfl
@[simp] theorem modMt_tel (s : State) (d : Nat) (f : Mt → Mt) : (modMt s d f).tel = s.tel := rfl
@[simp] theorem modMt_exa (s : State) (d : Nat) (f : Mt → Mt) : (modMt s d f).exa = s.exa := rfl
@[simp] theorem modMt_setrec (s : State) (d : Nat) (f : Mt → Mt) : (modMt s d f).setrec = s.setrec := rfl
@[simp] theorem modMt_side (s : State) (d : Nat) (f : Mt → Mt) : (modMt s d f).side = s.side := rfl
@[simp] theorem modMt_freeCtr (s : State) (d : Nat) (f : Mt → Mt) : (modMt s d f).freeCtr = s.freeCtr := rfl
@[simp] theorem modMt_classHold (s : State) (d : Nat) (f : Mt → Mt) : (modMt s d f).classHold = s.classHold := rfl
@[simp] theorem modMt_pending (s : State) (d : Nat) (f : Mt → Mt) : (modMt s d f).pending = s.pending := rfl

-- modBu
@[simp] theorem modBu_bu (s : State) (f : Bu → Bu) : (modBu s f).bu = f s.bu := rfl
@[simp] theorem modBu_inp (s : State) (f : Bu → Bu) : (modBu s f).inp = s.inp := rfl
@[simp] theorem modBu_bm (s : State) (f : Bu → Bu) : (modBu s f).bm = s.bm := rfl
@[simp] theorem modBu_epp (s : State) (f : Bu → Bu) : (modBu s f).epp = s.epp := rfl
@[simp] theorem modBu_la (s : State) (f : Bu → Bu) : (modBu s f).la = s.la := rfl
@[simp] theorem modBu_dom (s : State) (f : Bu → Bu) : (modBu s f).dom = s.dom := rfl
@[simp] theorem modBu_sns (s : State) (f : Bu → Bu) : (modBu s f).sns = s.sns := rfl
@[simp] theorem modBu_bond (s : State) (f : Bu → Bu) : (modBu s f).bond = s.bond := rfl
@[simp] theorem modBu_shf (s : State) (f : Bu → Bu) : (modBu s f).shf = s.shf := rfl
@[simp] theorem modBu_shw (s : State) (f : Bu → Bu) : (modBu s f).shw = s.shw := rfl
@[simp] theorem modBu_shr (s : State) (f : Bu → Bu) : (modBu s f).shr = s.shr := rfl
@[simp] theorem modBu_ph (s : State) (f : Bu → Bu) : (modBu s f).ph = s.ph := rfl
@[simp] theorem modBu_phw (s : State) (f : Bu → Bu) : (modBu s f).phw = s.phw := rfl
@[simp] theorem modBu_swref (s : State) (f : Bu → Bu) : (modBu s f).swref = s.swref := rfl
@[simp] theorem modBu_gln (s : State) (f : Bu → Bu) : (modBu s f).gln = s.gln := rfl
@[simp] theorem modBu_sp (s : State) (f : Bu → Bu) : (modBu s f).sp = s.sp := rfl
@[simp] theorem modBu_gw (s : State) (f : Bu → Bu) : (modBu s f).gw = s.gw := rfl
@[simp] theorem modBu_bank (s : State) (f : Bu → Bu) : (modBu s f).bank = s.bank := rfl
@[simp] theorem modBu_clk (s : State) (f : Bu → Bu) : (modBu s f).clk = s.clk := rfl
@[simp] theorem modBu_time (s : State) (f : Bu → Bu) : (modBu s f).time = s.time := rfl
@[simp] theorem modBu_seg (s : State) (f : Bu → Bu) : (modBu s f).seg = s.seg := rfl
@[simp] theorem modBu_ntc (s : State) (f : Bu → Bu) : (modBu s f).ntc = s.ntc := rfl
@[simp] theorem modBu_nd (s : State) (f : Bu → Bu) : (modBu s f).nd = s.nd := rfl
@[simp] theorem modBu_sg (s : State) (f : Bu → Bu) : (modBu s f).sg = s.sg := rfl
@[simp] theorem modBu_est (s : State) (f : Bu → Bu) : (modBu s f).est = s.est := rfl
@[simp] theorem modBu_estd (s : State) (f : Bu → Bu) : (modBu s f).estd = s.estd := rfl
@[simp] theorem modBu_plan (s : State) (f : Bu → Bu) : (modBu s f).plan = s.plan := rfl
@[simp] theorem modBu_pd (s : State) (f : Bu → Bu) : (modBu s f).pd = s.pd := rfl
@[simp] theorem modBu_prot (s : State) (f : Bu → Bu) : (modBu s f).prot = s.prot := rfl
@[simp] theorem modBu_flt (s : State) (f : Bu → Bu) : (modBu s f).flt = s.flt := rfl
@[simp] theorem modBu_fpin (s : State) (f : Bu → Bu) : (modBu s f).fpin = s.fpin := rfl
@[simp] theorem modBu_silo (s : State) (f : Bu → Bu) : (modBu s f).silo = s.silo := rfl
@[simp] theorem modBu_defer (s : State) (f : Bu → Bu) : (modBu s f).defer = s.defer := rfl
@[simp] theorem modBu_blkReset (s : State) (f : Bu → Bu) : (modBu s f).blkReset = s.blkReset := rfl
@[simp] theorem modBu_mtrmRaw (s : State) (f : Bu → Bu) : (modBu s f).mtrmRaw = s.mtrmRaw := rfl
@[simp] theorem modBu_dbg (s : State) (f : Bu → Bu) : (modBu s f).dbg = s.dbg := rfl
@[simp] theorem modBu_g (s : State) (f : Bu → Bu) : (modBu s f).g = s.g := rfl
@[simp] theorem modBu_peer (s : State) (f : Bu → Bu) : (modBu s f).peer = s.peer := rfl
@[simp] theorem modBu_mem (s : State) (f : Bu → Bu) : (modBu s f).mem = s.mem := rfl
@[simp] theorem modBu_rst (s : State) (f : Bu → Bu) : (modBu s f).rst = s.rst := rfl
@[simp] theorem modBu_meter (s : State) (f : Bu → Bu) : (modBu s f).meter = s.meter := rfl
@[simp] theorem modBu_mtrm (s : State) (f : Bu → Bu) : (modBu s f).mtrm = s.mtrm := rfl
@[simp] theorem modBu_pmb (s : State) (f : Bu → Bu) : (modBu s f).pmb = s.pmb := rfl
@[simp] theorem modBu_pins (s : State) (f : Bu → Bu) : (modBu s f).pins = s.pins := rfl
@[simp] theorem modBu_io (s : State) (f : Bu → Bu) : (modBu s f).io = s.io := rfl
@[simp] theorem modBu_seqr (s : State) (f : Bu → Bu) : (modBu s f).seqr = s.seqr := rfl
@[simp] theorem modBu_lane (s : State) (f : Bu → Bu) : (modBu s f).lane = s.lane := rfl
@[simp] theorem modBu_acts (s : State) (f : Bu → Bu) : (modBu s f).acts = s.acts := rfl
@[simp] theorem modBu_sends (s : State) (f : Bu → Bu) : (modBu s f).sends = s.sends := rfl
@[simp] theorem modBu_cmdw (s : State) (f : Bu → Bu) : (modBu s f).cmdw = s.cmdw := rfl
@[simp] theorem modBu_tally (s : State) (f : Bu → Bu) : (modBu s f).tally = s.tally := rfl
@[simp] theorem modBu_mt (s : State) (f : Bu → Bu) : (modBu s f).mt = s.mt := rfl
@[simp] theorem modBu_mts (s : State) (f : Bu → Bu) : (modBu s f).mts = s.mts := rfl
@[simp] theorem modBu_loop (s : State) (f : Bu → Bu) : (modBu s f).loop = s.loop := rfl
@[simp] theorem modBu_tel (s : State) (f : Bu → Bu) : (modBu s f).tel = s.tel := rfl
@[simp] theorem modBu_exa (s : State) (f : Bu → Bu) : (modBu s f).exa = s.exa := rfl
@[simp] theorem modBu_setrec (s : State) (f : Bu → Bu) : (modBu s f).setrec = s.setrec := rfl
@[simp] theorem modBu_side (s : State) (f : Bu → Bu) : (modBu s f).side = s.side := rfl
@[simp] theorem modBu_freeCtr (s : State) (f : Bu → Bu) : (modBu s f).freeCtr = s.freeCtr := rfl
@[simp] theorem modBu_classHold (s : State) (f : Bu → Bu) : (modBu s f).classHold = s.classHold := rfl
@[simp] theorem modBu_pending (s : State) (f : Bu → Bu) : (modBu s f).pending = s.pending := rfl

-- modRst
@[simp] theorem modRst_rst (s : State) (f : Rst → Rst) : (modRst s f).rst = f s.rst := rfl
@[simp] theorem modRst_inp (s : State) (f : Rst → Rst) : (modRst s f).inp = s.inp := rfl
@[simp] theorem modRst_bm (s : State) (f : Rst → Rst) : (modRst s f).bm = s.bm := rfl
@[simp] theorem modRst_epp (s : State) (f : Rst → Rst) : (modRst s f).epp = s.epp := rfl
@[simp] theorem modRst_la (s : State) (f : Rst → Rst) : (modRst s f).la = s.la := rfl
@[simp] theorem modRst_dom (s : State) (f : Rst → Rst) : (modRst s f).dom = s.dom := rfl
@[simp] theorem modRst_sns (s : State) (f : Rst → Rst) : (modRst s f).sns = s.sns := rfl
@[simp] theorem modRst_bond (s : State) (f : Rst → Rst) : (modRst s f).bond = s.bond := rfl
@[simp] theorem modRst_shf (s : State) (f : Rst → Rst) : (modRst s f).shf = s.shf := rfl
@[simp] theorem modRst_shw (s : State) (f : Rst → Rst) : (modRst s f).shw = s.shw := rfl
@[simp] theorem modRst_shr (s : State) (f : Rst → Rst) : (modRst s f).shr = s.shr := rfl
@[simp] theorem modRst_ph (s : State) (f : Rst → Rst) : (modRst s f).ph = s.ph := rfl
@[simp] theorem modRst_phw (s : State) (f : Rst → Rst) : (modRst s f).phw = s.phw := rfl
@[simp] theorem modRst_swref (s : State) (f : Rst → Rst) : (modRst s f).swref = s.swref := rfl
@[simp] theorem modRst_gln (s : State) (f : Rst → Rst) : (modRst s f).gln = s.gln := rfl
@[simp] theorem modRst_sp (s : State) (f : Rst → Rst) : (modRst s f).sp = s.sp := rfl
@[simp] theorem modRst_gw (s : State) (f : Rst → Rst) : (modRst s f).gw = s.gw := rfl
@[simp] theorem modRst_bank (s : State) (f : Rst → Rst) : (modRst s f).bank = s.bank := rfl
@[simp] theorem modRst_clk (s : State) (f : Rst → Rst) : (modRst s f).clk = s.clk := rfl
@[simp] theorem modRst_time (s : State) (f : Rst → Rst) : (modRst s f).time = s.time := rfl
@[simp] theorem modRst_seg (s : State) (f : Rst → Rst) : (modRst s f).seg = s.seg := rfl
@[simp] theorem modRst_ntc (s : State) (f : Rst → Rst) : (modRst s f).ntc = s.ntc := rfl
@[simp] theorem modRst_nd (s : State) (f : Rst → Rst) : (modRst s f).nd = s.nd := rfl
@[simp] theorem modRst_sg (s : State) (f : Rst → Rst) : (modRst s f).sg = s.sg := rfl
@[simp] theorem modRst_est (s : State) (f : Rst → Rst) : (modRst s f).est = s.est := rfl
@[simp] theorem modRst_estd (s : State) (f : Rst → Rst) : (modRst s f).estd = s.estd := rfl
@[simp] theorem modRst_plan (s : State) (f : Rst → Rst) : (modRst s f).plan = s.plan := rfl
@[simp] theorem modRst_pd (s : State) (f : Rst → Rst) : (modRst s f).pd = s.pd := rfl
@[simp] theorem modRst_prot (s : State) (f : Rst → Rst) : (modRst s f).prot = s.prot := rfl
@[simp] theorem modRst_flt (s : State) (f : Rst → Rst) : (modRst s f).flt = s.flt := rfl
@[simp] theorem modRst_fpin (s : State) (f : Rst → Rst) : (modRst s f).fpin = s.fpin := rfl
@[simp] theorem modRst_silo (s : State) (f : Rst → Rst) : (modRst s f).silo = s.silo := rfl
@[simp] theorem modRst_defer (s : State) (f : Rst → Rst) : (modRst s f).defer = s.defer := rfl
@[simp] theorem modRst_blkReset (s : State) (f : Rst → Rst) : (modRst s f).blkReset = s.blkReset := rfl
@[simp] theorem modRst_mtrmRaw (s : State) (f : Rst → Rst) : (modRst s f).mtrmRaw = s.mtrmRaw := rfl
@[simp] theorem modRst_dbg (s : State) (f : Rst → Rst) : (modRst s f).dbg = s.dbg := rfl
@[simp] theorem modRst_g (s : State) (f : Rst → Rst) : (modRst s f).g = s.g := rfl
@[simp] theorem modRst_peer (s : State) (f : Rst → Rst) : (modRst s f).peer = s.peer := rfl
@[simp] theorem modRst_mem (s : State) (f : Rst → Rst) : (modRst s f).mem = s.mem := rfl
@[simp] theorem modRst_bu (s : State) (f : Rst → Rst) : (modRst s f).bu = s.bu := rfl
@[simp] theorem modRst_meter (s : State) (f : Rst → Rst) : (modRst s f).meter = s.meter := rfl
@[simp] theorem modRst_mtrm (s : State) (f : Rst → Rst) : (modRst s f).mtrm = s.mtrm := rfl
@[simp] theorem modRst_pmb (s : State) (f : Rst → Rst) : (modRst s f).pmb = s.pmb := rfl
@[simp] theorem modRst_pins (s : State) (f : Rst → Rst) : (modRst s f).pins = s.pins := rfl
@[simp] theorem modRst_io (s : State) (f : Rst → Rst) : (modRst s f).io = s.io := rfl
@[simp] theorem modRst_seqr (s : State) (f : Rst → Rst) : (modRst s f).seqr = s.seqr := rfl
@[simp] theorem modRst_lane (s : State) (f : Rst → Rst) : (modRst s f).lane = s.lane := rfl
@[simp] theorem modRst_acts (s : State) (f : Rst → Rst) : (modRst s f).acts = s.acts := rfl
@[simp] theorem modRst_sends (s : State) (f : Rst → Rst) : (modRst s f).sends = s.sends := rfl
@[simp] theorem modRst_cmdw (s : State) (f : Rst → Rst) : (modRst s f).cmdw = s.cmdw := rfl
@[simp] theorem modRst_tally (s : State) (f : Rst → Rst) : (modRst s f).tally = s.tally := rfl
@[simp] theorem modRst_mt (s : State) (f : Rst → Rst) : (modRst s f).mt = s.mt := rfl
@[simp] theorem modRst_mts (s : State) (f : Rst → Rst) : (modRst s f).mts = s.mts := rfl
@[simp] theorem modRst_loop (s : State) (f : Rst → Rst) : (modRst s f).loop = s.loop := rfl
@[simp] theorem modRst_tel (s : State) (f : Rst → Rst) : (modRst s f).tel = s.tel := rfl
@[simp] theorem modRst_exa (s : State) (f : Rst → Rst) : (modRst s f).exa = s.exa := rfl
@[simp] theorem modRst_setrec (s : State) (f : Rst → Rst) : (modRst s f).setrec = s.setrec := rfl
@[simp] theorem modRst_side (s : State) (f : Rst → Rst) : (modRst s f).side = s.side := rfl
@[simp] theorem modRst_freeCtr (s : State) (f : Rst → Rst) : (modRst s f).freeCtr = s.freeCtr := rfl
@[simp] theorem modRst_classHold (s : State) (f : Rst → Rst) : (modRst s f).classHold = s.classHold := rfl
@[simp] theorem modRst_pending (s : State) (f : Rst → Rst) : (modRst s f).pending = s.pending := rfl

-- modMtr
@[simp] theorem modMtr_meter (s : State) (f : Meter → Meter) : (modMtr s f).meter = f s.meter := rfl
@[simp] theorem modMtr_inp (s : State) (f : Meter → Meter) : (modMtr s f).inp = s.inp := rfl
@[simp] theorem modMtr_bm (s : State) (f : Meter → Meter) : (modMtr s f).bm = s.bm := rfl
@[simp] theorem modMtr_epp (s : State) (f : Meter → Meter) : (modMtr s f).epp = s.epp := rfl
@[simp] theorem modMtr_la (s : State) (f : Meter → Meter) : (modMtr s f).la = s.la := rfl
@[simp] theorem modMtr_dom (s : State) (f : Meter → Meter) : (modMtr s f).dom = s.dom := rfl
@[simp] theorem modMtr_sns (s : State) (f : Meter → Meter) : (modMtr s f).sns = s.sns := rfl
@[simp] theorem modMtr_bond (s : State) (f : Meter → Meter) : (modMtr s f).bond = s.bond := rfl
@[simp] theorem modMtr_shf (s : State) (f : Meter → Meter) : (modMtr s f).shf = s.shf := rfl
@[simp] theorem modMtr_shw (s : State) (f : Meter → Meter) : (modMtr s f).shw = s.shw := rfl
@[simp] theorem modMtr_shr (s : State) (f : Meter → Meter) : (modMtr s f).shr = s.shr := rfl
@[simp] theorem modMtr_ph (s : State) (f : Meter → Meter) : (modMtr s f).ph = s.ph := rfl
@[simp] theorem modMtr_phw (s : State) (f : Meter → Meter) : (modMtr s f).phw = s.phw := rfl
@[simp] theorem modMtr_swref (s : State) (f : Meter → Meter) : (modMtr s f).swref = s.swref := rfl
@[simp] theorem modMtr_gln (s : State) (f : Meter → Meter) : (modMtr s f).gln = s.gln := rfl
@[simp] theorem modMtr_sp (s : State) (f : Meter → Meter) : (modMtr s f).sp = s.sp := rfl
@[simp] theorem modMtr_gw (s : State) (f : Meter → Meter) : (modMtr s f).gw = s.gw := rfl
@[simp] theorem modMtr_bank (s : State) (f : Meter → Meter) : (modMtr s f).bank = s.bank := rfl
@[simp] theorem modMtr_clk (s : State) (f : Meter → Meter) : (modMtr s f).clk = s.clk := rfl
@[simp] theorem modMtr_time (s : State) (f : Meter → Meter) : (modMtr s f).time = s.time := rfl
@[simp] theorem modMtr_seg (s : State) (f : Meter → Meter) : (modMtr s f).seg = s.seg := rfl
@[simp] theorem modMtr_ntc (s : State) (f : Meter → Meter) : (modMtr s f).ntc = s.ntc := rfl
@[simp] theorem modMtr_nd (s : State) (f : Meter → Meter) : (modMtr s f).nd = s.nd := rfl
@[simp] theorem modMtr_sg (s : State) (f : Meter → Meter) : (modMtr s f).sg = s.sg := rfl
@[simp] theorem modMtr_est (s : State) (f : Meter → Meter) : (modMtr s f).est = s.est := rfl
@[simp] theorem modMtr_estd (s : State) (f : Meter → Meter) : (modMtr s f).estd = s.estd := rfl
@[simp] theorem modMtr_plan (s : State) (f : Meter → Meter) : (modMtr s f).plan = s.plan := rfl
@[simp] theorem modMtr_pd (s : State) (f : Meter → Meter) : (modMtr s f).pd = s.pd := rfl
@[simp] theorem modMtr_prot (s : State) (f : Meter → Meter) : (modMtr s f).prot = s.prot := rfl
@[simp] theorem modMtr_flt (s : State) (f : Meter → Meter) : (modMtr s f).flt = s.flt := rfl
@[simp] theorem modMtr_fpin (s : State) (f : Meter → Meter) : (modMtr s f).fpin = s.fpin := rfl
@[simp] theorem modMtr_silo (s : State) (f : Meter → Meter) : (modMtr s f).silo = s.silo := rfl
@[simp] theorem modMtr_defer (s : State) (f : Meter → Meter) : (modMtr s f).defer = s.defer := rfl
@[simp] theorem modMtr_blkReset (s : State) (f : Meter → Meter) : (modMtr s f).blkReset = s.blkReset := rfl
@[simp] theorem modMtr_mtrmRaw (s : State) (f : Meter → Meter) : (modMtr s f).mtrmRaw = s.mtrmRaw := rfl
@[simp] theorem modMtr_dbg (s : State) (f : Meter → Meter) : (modMtr s f).dbg = s.dbg := rfl
@[simp] theorem modMtr_g (s : State) (f : Meter → Meter) : (modMtr s f).g = s.g := rfl
@[simp] theorem modMtr_peer (s : State) (f : Meter → Meter) : (modMtr s f).peer = s.peer := rfl
@[simp] theorem modMtr_mem (s : State) (f : Meter → Meter) : (modMtr s f).mem = s.mem := rfl
@[simp] theorem modMtr_bu (s : State) (f : Meter → Meter) : (modMtr s f).bu = s.bu := rfl
@[simp] theorem modMtr_rst (s : State) (f : Meter → Meter) : (modMtr s f).rst = s.rst := rfl
@[simp] theorem modMtr_mtrm (s : State) (f : Meter → Meter) : (modMtr s f).mtrm = s.mtrm := rfl
@[simp] theorem modMtr_pmb (s : State) (f : Meter → Meter) : (modMtr s f).pmb = s.pmb := rfl
@[simp] theorem modMtr_pins (s : State) (f : Meter → Meter) : (modMtr s f).pins = s.pins := rfl
@[simp] theorem modMtr_io (s : State) (f : Meter → Meter) : (modMtr s f).io = s.io := rfl
@[simp] theorem modMtr_seqr (s : State) (f : Meter → Meter) : (modMtr s f).seqr = s.seqr := rfl
@[simp] theorem modMtr_lane (s : State) (f : Meter → Meter) : (modMtr s f).lane = s.lane := rfl
@[simp] theorem modMtr_acts (s : State) (f : Meter → Meter) : (modMtr s f).acts = s.acts := rfl
@[simp] theorem modMtr_sends (s : State) (f : Meter → Meter) : (modMtr s f).sends = s.sends := rfl
@[simp] theorem modMtr_cmdw (s : State) (f : Meter → Meter) : (modMtr s f).cmdw = s.cmdw := rfl
@[simp] theorem modMtr_tally (s : State) (f : Meter → Meter) : (modMtr s f).tally = s.tally := rfl
@[simp] theorem modMtr_mt (s : State) (f : Meter → Meter) : (modMtr s f).mt = s.mt := rfl
@[simp] theorem modMtr_mts (s : State) (f : Meter → Meter) : (modMtr s f).mts = s.mts := rfl
@[simp] theorem modMtr_loop (s : State) (f : Meter → Meter) : (modMtr s f).loop = s.loop := rfl
@[simp] theorem modMtr_tel (s : State) (f : Meter → Meter) : (modMtr s f).tel = s.tel := rfl
@[simp] theorem modMtr_exa (s : State) (f : Meter → Meter) : (modMtr s f).exa = s.exa := rfl
@[simp] theorem modMtr_setrec (s : State) (f : Meter → Meter) : (modMtr s f).setrec = s.setrec := rfl
@[simp] theorem modMtr_side (s : State) (f : Meter → Meter) : (modMtr s f).side = s.side := rfl
@[simp] theorem modMtr_freeCtr (s : State) (f : Meter → Meter) : (modMtr s f).freeCtr = s.freeCtr := rfl
@[simp] theorem modMtr_classHold (s : State) (f : Meter → Meter) : (modMtr s f).classHold = s.classHold := rfl
@[simp] theorem modMtr_pending (s : State) (f : Meter → Meter) : (modMtr s f).pending = s.pending := rfl

-- modMtrm
@[simp] theorem modMtrm_mtrm (s : State) (f : Mtrm → Mtrm) : (modMtrm s f).mtrm = f s.mtrm := rfl
@[simp] theorem modMtrm_inp (s : State) (f : Mtrm → Mtrm) : (modMtrm s f).inp = s.inp := rfl
@[simp] theorem modMtrm_bm (s : State) (f : Mtrm → Mtrm) : (modMtrm s f).bm = s.bm := rfl
@[simp] theorem modMtrm_epp (s : State) (f : Mtrm → Mtrm) : (modMtrm s f).epp = s.epp := rfl
@[simp] theorem modMtrm_la (s : State) (f : Mtrm → Mtrm) : (modMtrm s f).la = s.la := rfl
@[simp] theorem modMtrm_dom (s : State) (f : Mtrm → Mtrm) : (modMtrm s f).dom = s.dom := rfl
@[simp] theorem modMtrm_sns (s : State) (f : Mtrm → Mtrm) : (modMtrm s f).sns = s.sns := rfl
@[simp] theorem modMtrm_bond (s : State) (f : Mtrm → Mtrm) : (modMtrm s f).bond = s.bond := rfl
@[simp] theorem modMtrm_shf (s : State) (f : Mtrm → Mtrm) : (modMtrm s f).shf = s.shf := rfl
@[simp] theorem modMtrm_shw (s : State) (f : Mtrm → Mtrm) : (modMtrm s f).shw = s.shw := rfl
@[simp] theorem modMtrm_shr (s : State) (f : Mtrm → Mtrm) : (modMtrm s f).shr = s.shr := rfl
@[simp] theorem modMtrm_ph (s : State) (f : Mtrm → Mtrm) : (modMtrm s f).ph = s.ph := rfl
@[simp] theorem modMtrm_phw (s : State) (f : Mtrm → Mtrm) : (modMtrm s f).phw = s.phw := rfl
@[simp] theorem modMtrm_swref (s : State) (f : Mtrm → Mtrm) : (modMtrm s f).swref = s.swref := rfl
@[simp] theorem modMtrm_gln (s : State) (f : Mtrm → Mtrm) : (modMtrm s f).gln = s.gln := rfl
@[simp] theorem modMtrm_sp (s : State) (f : Mtrm → Mtrm) : (modMtrm s f).sp = s.sp := rfl
@[simp] theorem modMtrm_gw (s : State) (f : Mtrm → Mtrm) : (modMtrm s f).gw = s.gw := rfl
@[simp] theorem modMtrm_bank (s : State) (f : Mtrm → Mtrm) : (modMtrm s f).bank = s.bank := rfl
@[simp] theorem modMtrm_clk (s : State) (f : Mtrm → Mtrm) : (modMtrm s f).clk = s.clk := rfl
@[simp] theorem modMtrm_time (s : State) (f : Mtrm → Mtrm) : (modMtrm s f).time = s.time := rfl
@[simp] theorem modMtrm_seg (s : State) (f : Mtrm → Mtrm) : (modMtrm s f).seg = s.seg := rfl
@[simp] theorem modMtrm_ntc (s : State) (f : Mtrm → Mtrm) : (modMtrm s f).ntc = s.ntc := rfl
@[simp] theorem modMtrm_nd (s : State) (f : Mtrm → Mtrm) : (modMtrm s f).nd = s.nd := rfl
@[simp] theorem modMtrm_sg (s : State) (f : Mtrm → Mtrm) : (modMtrm s f).sg = s.sg := rfl
@[simp] theorem modMtrm_est (s : State) (f : Mtrm → Mtrm) : (modMtrm s f).est = s.est := rfl
@[simp] theorem modMtrm_estd (s : State) (f : Mtrm → Mtrm) : (modMtrm s f).estd = s.estd := rfl
@[simp] theorem modMtrm_plan (s : State) (f : Mtrm → Mtrm) : (modMtrm s f).plan = s.plan := rfl
@[simp] theorem modMtrm_pd (s : State) (f : Mtrm → Mtrm) : (modMtrm s f).pd = s.pd := rfl
@[simp] theorem modMtrm_prot (s : State) (f : Mtrm → Mtrm) : (modMtrm s f).prot = s.prot := rfl
@[simp] theorem modMtrm_flt (s : State) (f : Mtrm → Mtrm) : (modMtrm s f).flt = s.flt := rfl
@[simp] theorem modMtrm_fpin (s : State) (f : Mtrm → Mtrm) : (modMtrm s f).fpin = s.fpin := rfl
@[simp] theorem modMtrm_silo (s : State) (f : Mtrm → Mtrm) : (modMtrm s f).silo = s.silo := rfl
@[simp] theorem modMtrm_defer (s : State) (f : Mtrm → Mtrm) : (modMtrm s f).defer = s.defer := rfl
@[simp] theorem modMtrm_blkReset (s : State) (f : Mtrm → Mtrm) : (modMtrm s f).blkReset = s.blkReset := rfl
@[simp] theorem modMtrm_mtrmRaw (s : State) (f : Mtrm → Mtrm) : (modMtrm s f).mtrmRaw = s.mtrmRaw := rfl
@[simp] theorem modMtrm_dbg (s : State) (f : Mtrm → Mtrm) : (modMtrm s f).dbg = s.dbg := rfl
@[simp] theorem modMtrm_g (s : State) (f : Mtrm → Mtrm) : (modMtrm s f).g = s.g := rfl
@[simp] theorem modMtrm_peer (s : State) (f : Mtrm → Mtrm) : (modMtrm s f).peer = s.peer := rfl
@[simp] theorem modMtrm_mem (s : State) (f : Mtrm → Mtrm) : (modMtrm s f).mem = s.mem := rfl
@[simp] theorem modMtrm_bu (s : State) (f : Mtrm → Mtrm) : (modMtrm s f).bu = s.bu := rfl
@[simp] theorem modMtrm_rst (s : State) (f : Mtrm → Mtrm) : (modMtrm s f).rst = s.rst := rfl
@[simp] theorem modMtrm_meter (s : State) (f : Mtrm → Mtrm) : (modMtrm s f).meter = s.meter := rfl
@[simp] theorem modMtrm_pmb (s : State) (f : Mtrm → Mtrm) : (modMtrm s f).pmb = s.pmb := rfl
@[simp] theorem modMtrm_pins (s : State) (f : Mtrm → Mtrm) : (modMtrm s f).pins = s.pins := rfl
@[simp] theorem modMtrm_io (s : State) (f : Mtrm → Mtrm) : (modMtrm s f).io = s.io := rfl
@[simp] theorem modMtrm_seqr (s : State) (f : Mtrm → Mtrm) : (modMtrm s f).seqr = s.seqr := rfl
@[simp] theorem modMtrm_lane (s : State) (f : Mtrm → Mtrm) : (modMtrm s f).lane = s.lane := rfl
@[simp] theorem modMtrm_acts (s : State) (f : Mtrm → Mtrm) : (modMtrm s f).acts = s.acts := rfl
@[simp] theorem modMtrm_sends (s : State) (f : Mtrm → Mtrm) : (modMtrm s f).sends = s.sends := rfl
@[simp] theorem modMtrm_cmdw (s : State) (f : Mtrm → Mtrm) : (modMtrm s f).cmdw = s.cmdw := rfl
@[simp] theorem modMtrm_tally (s : State) (f : Mtrm → Mtrm) : (modMtrm s f).tally = s.tally := rfl
@[simp] theorem modMtrm_mt (s : State) (f : Mtrm → Mtrm) : (modMtrm s f).mt = s.mt := rfl
@[simp] theorem modMtrm_mts (s : State) (f : Mtrm → Mtrm) : (modMtrm s f).mts = s.mts := rfl
@[simp] theorem modMtrm_loop (s : State) (f : Mtrm → Mtrm) : (modMtrm s f).loop = s.loop := rfl
@[simp] theorem modMtrm_tel (s : State) (f : Mtrm → Mtrm) : (modMtrm s f).tel = s.tel := rfl
@[simp] theorem modMtrm_exa (s : State) (f : Mtrm → Mtrm) : (modMtrm s f).exa = s.exa := rfl
@[simp] theorem modMtrm_setrec (s : State) (f : Mtrm → Mtrm) : (modMtrm s f).setrec = s.setrec := rfl
@[simp] theorem modMtrm_side (s : State) (f : Mtrm → Mtrm) : (modMtrm s f).side = s.side := rfl
@[simp] theorem modMtrm_freeCtr (s : State) (f : Mtrm → Mtrm) : (modMtrm s f).freeCtr = s.freeCtr := rfl
@[simp] theorem modMtrm_classHold (s : State) (f : Mtrm → Mtrm) : (modMtrm s f).classHold = s.classHold := rfl
@[simp] theorem modMtrm_pending (s : State) (f : Mtrm → Mtrm) : (modMtrm s f).pending = s.pending := rfl

-- modPmb
@[simp] theorem modPmb_pmb (s : State) (f : Pmb → Pmb) : (modPmb s f).pmb = f s.pmb := rfl
@[simp] theorem modPmb_inp (s : State) (f : Pmb → Pmb) : (modPmb s f).inp = s.inp := rfl
@[simp] theorem modPmb_bm (s : State) (f : Pmb → Pmb) : (modPmb s f).bm = s.bm := rfl
@[simp] theorem modPmb_epp (s : State) (f : Pmb → Pmb) : (modPmb s f).epp = s.epp := rfl
@[simp] theorem modPmb_la (s : State) (f : Pmb → Pmb) : (modPmb s f).la = s.la := rfl
@[simp] theorem modPmb_dom (s : State) (f : Pmb → Pmb) : (modPmb s f).dom = s.dom := rfl
@[simp] theorem modPmb_sns (s : State) (f : Pmb → Pmb) : (modPmb s f).sns = s.sns := rfl
@[simp] theorem modPmb_bond (s : State) (f : Pmb → Pmb) : (modPmb s f).bond = s.bond := rfl
@[simp] theorem modPmb_shf (s : State) (f : Pmb → Pmb) : (modPmb s f).shf = s.shf := rfl
@[simp] theorem modPmb_shw (s : State) (f : Pmb → Pmb) : (modPmb s f).shw = s.shw := rfl
@[simp] theorem modPmb_shr (s : State) (f : Pmb → Pmb) : (modPmb s f).shr = s.shr := rfl
@[simp] theorem modPmb_ph (s : State) (f : Pmb → Pmb) : (modPmb s f).ph = s.ph := rfl
@[simp] theorem modPmb_phw (s : State) (f : Pmb → Pmb) : (modPmb s f).phw = s.phw := rfl
@[simp] theorem modPmb_swref (s : State) (f : Pmb → Pmb) : (modPmb s f).swref = s.swref := rfl
@[simp] theorem modPmb_gln (s : State) (f : Pmb → Pmb) : (modPmb s f).gln = s.gln := rfl
@[simp] theorem modPmb_sp (s : State) (f : Pmb → Pmb) : (modPmb s f).sp = s.sp := rfl
@[simp] theorem modPmb_gw (s : State) (f : Pmb → Pmb) : (modPmb s f).gw = s.gw := rfl
@[simp] theorem modPmb_bank (s : State) (f : Pmb → Pmb) : (modPmb s f).bank = s.bank := rfl
@[simp] theorem modPmb_clk (s : State) (f : Pmb → Pmb) : (modPmb s f).clk = s.clk := rfl
@[simp] theorem modPmb_time (s : State) (f : Pmb → Pmb) : (modPmb s f).time = s.time := rfl
@[simp] theorem modPmb_seg (s : State) (f : Pmb → Pmb) : (modPmb s f).seg = s.seg := rfl
@[simp] theorem modPmb_ntc (s : State) (f : Pmb → Pmb) : (modPmb s f).ntc = s.ntc := rfl
@[simp] theorem modPmb_nd (s : State) (f : Pmb → Pmb) : (modPmb s f).nd = s.nd := rfl
@[simp] theorem modPmb_sg (s : State) (f : Pmb → Pmb) : (modPmb s f).sg = s.sg := rfl
@[simp] theorem modPmb_est (s : State) (f : Pmb → Pmb) : (modPmb s f).est = s.est := rfl
@[simp] theorem modPmb_estd (s : State) (f : Pmb → Pmb) : (modPmb s f).estd = s.estd := rfl
@[simp] theorem modPmb_plan (s : State) (f : Pmb → Pmb) : (modPmb s f).plan = s.plan := rfl
@[simp] theorem modPmb_pd (s : State) (f : Pmb → Pmb) : (modPmb s f).pd = s.pd := rfl
@[simp] theorem modPmb_prot (s : State) (f : Pmb → Pmb) : (modPmb s f).prot = s.prot := rfl
@[simp] theorem modPmb_flt (s : State) (f : Pmb → Pmb) : (modPmb s f).flt = s.flt := rfl
@[simp] theorem modPmb_fpin (s : State) (f : Pmb → Pmb) : (modPmb s f).fpin = s.fpin := rfl
@[simp] theorem modPmb_silo (s : State) (f : Pmb → Pmb) : (modPmb s f).silo = s.silo := rfl
@[simp] theorem modPmb_defer (s : State) (f : Pmb → Pmb) : (modPmb s f).defer = s.defer := rfl
@[simp] theorem modPmb_blkReset (s : State) (f : Pmb → Pmb) : (modPmb s f).blkReset = s.blkReset := rfl
@[simp] theorem modPmb_mtrmRaw (s : State) (f : Pmb → Pmb) : (modPmb s f).mtrmRaw = s.mtrmRaw := rfl
@[simp] theorem modPmb_dbg (s : State) (f : Pmb → Pmb) : (modPmb s f).dbg = s.dbg := rfl
@[simp] theorem modPmb_g (s : State) (f : Pmb → Pmb) : (modPmb s f).g = s.g := rfl
@[simp] theorem modPmb_peer (s : State) (f : Pmb → Pmb) : (modPmb s f).peer = s.peer := rfl
@[simp] theorem modPmb_mem (s : State) (f : Pmb → Pmb) : (modPmb s f).mem = s.mem := rfl
@[simp] theorem modPmb_bu (s : State) (f : Pmb → Pmb) : (modPmb s f).bu = s.bu := rfl
@[simp] theorem modPmb_rst (s : State) (f : Pmb → Pmb) : (modPmb s f).rst = s.rst := rfl
@[simp] theorem modPmb_meter (s : State) (f : Pmb → Pmb) : (modPmb s f).meter = s.meter := rfl
@[simp] theorem modPmb_mtrm (s : State) (f : Pmb → Pmb) : (modPmb s f).mtrm = s.mtrm := rfl
@[simp] theorem modPmb_pins (s : State) (f : Pmb → Pmb) : (modPmb s f).pins = s.pins := rfl
@[simp] theorem modPmb_io (s : State) (f : Pmb → Pmb) : (modPmb s f).io = s.io := rfl
@[simp] theorem modPmb_seqr (s : State) (f : Pmb → Pmb) : (modPmb s f).seqr = s.seqr := rfl
@[simp] theorem modPmb_lane (s : State) (f : Pmb → Pmb) : (modPmb s f).lane = s.lane := rfl
@[simp] theorem modPmb_acts (s : State) (f : Pmb → Pmb) : (modPmb s f).acts = s.acts := rfl
@[simp] theorem modPmb_sends (s : State) (f : Pmb → Pmb) : (modPmb s f).sends = s.sends := rfl
@[simp] theorem modPmb_cmdw (s : State) (f : Pmb → Pmb) : (modPmb s f).cmdw = s.cmdw := rfl
@[simp] theorem modPmb_tally (s : State) (f : Pmb → Pmb) : (modPmb s f).tally = s.tally := rfl
@[simp] theorem modPmb_mt (s : State) (f : Pmb → Pmb) : (modPmb s f).mt = s.mt := rfl
@[simp] theorem modPmb_mts (s : State) (f : Pmb → Pmb) : (modPmb s f).mts = s.mts := rfl
@[simp] theorem modPmb_loop (s : State) (f : Pmb → Pmb) : (modPmb s f).loop = s.loop := rfl
@[simp] theorem modPmb_tel (s : State) (f : Pmb → Pmb) : (modPmb s f).tel = s.tel := rfl
@[simp] theorem modPmb_exa (s : State) (f : Pmb → Pmb) : (modPmb s f).exa = s.exa := rfl
@[simp] theorem modPmb_setrec (s : State) (f : Pmb → Pmb) : (modPmb s f).setrec = s.setrec := rfl
@[simp] theorem modPmb_side (s : State) (f : Pmb → Pmb) : (modPmb s f).side = s.side := rfl
@[simp] theorem modPmb_freeCtr (s : State) (f : Pmb → Pmb) : (modPmb s f).freeCtr = s.freeCtr := rfl
@[simp] theorem modPmb_classHold (s : State) (f : Pmb → Pmb) : (modPmb s f).classHold = s.classHold := rfl
@[simp] theorem modPmb_pending (s : State) (f : Pmb → Pmb) : (modPmb s f).pending = s.pending := rfl

-- modDl
@[simp] theorem modDl_loop (s : State) (d : Nat) (f : DLoop → DLoop) : (modDl s d f).loop = { s.loop with dl := s.loop.dl.modN d f } := rfl
@[simp] theorem modDl_inp (s : State) (d : Nat) (f : DLoop → DLoop) : (modDl s d f).inp = s.inp := rfl
@[simp] theorem modDl_bm (s : State) (d : Nat) (f : DLoop → DLoop) : (modDl s d f).bm = s.bm := rfl
@[simp] theorem modDl_epp (s : State) (d : Nat) (f : DLoop → DLoop) : (modDl s d f).epp = s.epp := rfl
@[simp] theorem modDl_la (s : State) (d : Nat) (f : DLoop → DLoop) : (modDl s d f).la = s.la := rfl
@[simp] theorem modDl_dom (s : State) (d : Nat) (f : DLoop → DLoop) : (modDl s d f).dom = s.dom := rfl
@[simp] theorem modDl_sns (s : State) (d : Nat) (f : DLoop → DLoop) : (modDl s d f).sns = s.sns := rfl
@[simp] theorem modDl_bond (s : State) (d : Nat) (f : DLoop → DLoop) : (modDl s d f).bond = s.bond := rfl
@[simp] theorem modDl_shf (s : State) (d : Nat) (f : DLoop → DLoop) : (modDl s d f).shf = s.shf := rfl
@[simp] theorem modDl_shw (s : State) (d : Nat) (f : DLoop → DLoop) : (modDl s d f).shw = s.shw := rfl
@[simp] theorem modDl_shr (s : State) (d : Nat) (f : DLoop → DLoop) : (modDl s d f).shr = s.shr := rfl
@[simp] theorem modDl_ph (s : State) (d : Nat) (f : DLoop → DLoop) : (modDl s d f).ph = s.ph := rfl
@[simp] theorem modDl_phw (s : State) (d : Nat) (f : DLoop → DLoop) : (modDl s d f).phw = s.phw := rfl
@[simp] theorem modDl_swref (s : State) (d : Nat) (f : DLoop → DLoop) : (modDl s d f).swref = s.swref := rfl
@[simp] theorem modDl_gln (s : State) (d : Nat) (f : DLoop → DLoop) : (modDl s d f).gln = s.gln := rfl
@[simp] theorem modDl_sp (s : State) (d : Nat) (f : DLoop → DLoop) : (modDl s d f).sp = s.sp := rfl
@[simp] theorem modDl_gw (s : State) (d : Nat) (f : DLoop → DLoop) : (modDl s d f).gw = s.gw := rfl
@[simp] theorem modDl_bank (s : State) (d : Nat) (f : DLoop → DLoop) : (modDl s d f).bank = s.bank := rfl
@[simp] theorem modDl_clk (s : State) (d : Nat) (f : DLoop → DLoop) : (modDl s d f).clk = s.clk := rfl
@[simp] theorem modDl_time (s : State) (d : Nat) (f : DLoop → DLoop) : (modDl s d f).time = s.time := rfl
@[simp] theorem modDl_seg (s : State) (d : Nat) (f : DLoop → DLoop) : (modDl s d f).seg = s.seg := rfl
@[simp] theorem modDl_ntc (s : State) (d : Nat) (f : DLoop → DLoop) : (modDl s d f).ntc = s.ntc := rfl
@[simp] theorem modDl_nd (s : State) (d : Nat) (f : DLoop → DLoop) : (modDl s d f).nd = s.nd := rfl
@[simp] theorem modDl_sg (s : State) (d : Nat) (f : DLoop → DLoop) : (modDl s d f).sg = s.sg := rfl
@[simp] theorem modDl_est (s : State) (d : Nat) (f : DLoop → DLoop) : (modDl s d f).est = s.est := rfl
@[simp] theorem modDl_estd (s : State) (d : Nat) (f : DLoop → DLoop) : (modDl s d f).estd = s.estd := rfl
@[simp] theorem modDl_plan (s : State) (d : Nat) (f : DLoop → DLoop) : (modDl s d f).plan = s.plan := rfl
@[simp] theorem modDl_pd (s : State) (d : Nat) (f : DLoop → DLoop) : (modDl s d f).pd = s.pd := rfl
@[simp] theorem modDl_prot (s : State) (d : Nat) (f : DLoop → DLoop) : (modDl s d f).prot = s.prot := rfl
@[simp] theorem modDl_flt (s : State) (d : Nat) (f : DLoop → DLoop) : (modDl s d f).flt = s.flt := rfl
@[simp] theorem modDl_fpin (s : State) (d : Nat) (f : DLoop → DLoop) : (modDl s d f).fpin = s.fpin := rfl
@[simp] theorem modDl_silo (s : State) (d : Nat) (f : DLoop → DLoop) : (modDl s d f).silo = s.silo := rfl
@[simp] theorem modDl_defer (s : State) (d : Nat) (f : DLoop → DLoop) : (modDl s d f).defer = s.defer := rfl
@[simp] theorem modDl_blkReset (s : State) (d : Nat) (f : DLoop → DLoop) : (modDl s d f).blkReset = s.blkReset := rfl
@[simp] theorem modDl_mtrmRaw (s : State) (d : Nat) (f : DLoop → DLoop) : (modDl s d f).mtrmRaw = s.mtrmRaw := rfl
@[simp] theorem modDl_dbg (s : State) (d : Nat) (f : DLoop → DLoop) : (modDl s d f).dbg = s.dbg := rfl
@[simp] theorem modDl_g (s : State) (d : Nat) (f : DLoop → DLoop) : (modDl s d f).g = s.g := rfl
@[simp] theorem modDl_peer (s : State) (d : Nat) (f : DLoop → DLoop) : (modDl s d f).peer = s.peer := rfl
@[simp] theorem modDl_mem (s : State) (d : Nat) (f : DLoop → DLoop) : (modDl s d f).mem = s.mem := rfl
@[simp] theorem modDl_bu (s : State) (d : Nat) (f : DLoop → DLoop) : (modDl s d f).bu = s.bu := rfl
@[simp] theorem modDl_rst (s : State) (d : Nat) (f : DLoop → DLoop) : (modDl s d f).rst = s.rst := rfl
@[simp] theorem modDl_meter (s : State) (d : Nat) (f : DLoop → DLoop) : (modDl s d f).meter = s.meter := rfl
@[simp] theorem modDl_mtrm (s : State) (d : Nat) (f : DLoop → DLoop) : (modDl s d f).mtrm = s.mtrm := rfl
@[simp] theorem modDl_pmb (s : State) (d : Nat) (f : DLoop → DLoop) : (modDl s d f).pmb = s.pmb := rfl
@[simp] theorem modDl_pins (s : State) (d : Nat) (f : DLoop → DLoop) : (modDl s d f).pins = s.pins := rfl
@[simp] theorem modDl_io (s : State) (d : Nat) (f : DLoop → DLoop) : (modDl s d f).io = s.io := rfl
@[simp] theorem modDl_seqr (s : State) (d : Nat) (f : DLoop → DLoop) : (modDl s d f).seqr = s.seqr := rfl
@[simp] theorem modDl_lane (s : State) (d : Nat) (f : DLoop → DLoop) : (modDl s d f).lane = s.lane := rfl
@[simp] theorem modDl_acts (s : State) (d : Nat) (f : DLoop → DLoop) : (modDl s d f).acts = s.acts := rfl
@[simp] theorem modDl_sends (s : State) (d : Nat) (f : DLoop → DLoop) : (modDl s d f).sends = s.sends := rfl
@[simp] theorem modDl_cmdw (s : State) (d : Nat) (f : DLoop → DLoop) : (modDl s d f).cmdw = s.cmdw := rfl
@[simp] theorem modDl_tally (s : State) (d : Nat) (f : DLoop → DLoop) : (modDl s d f).tally = s.tally := rfl
@[simp] theorem modDl_mt (s : State) (d : Nat) (f : DLoop → DLoop) : (modDl s d f).mt = s.mt := rfl
@[simp] theorem modDl_mts (s : State) (d : Nat) (f : DLoop → DLoop) : (modDl s d f).mts = s.mts := rfl
@[simp] theorem modDl_tel (s : State) (d : Nat) (f : DLoop → DLoop) : (modDl s d f).tel = s.tel := rfl
@[simp] theorem modDl_exa (s : State) (d : Nat) (f : DLoop → DLoop) : (modDl s d f).exa = s.exa := rfl
@[simp] theorem modDl_setrec (s : State) (d : Nat) (f : DLoop → DLoop) : (modDl s d f).setrec = s.setrec := rfl
@[simp] theorem modDl_side (s : State) (d : Nat) (f : DLoop → DLoop) : (modDl s d f).side = s.side := rfl
@[simp] theorem modDl_freeCtr (s : State) (d : Nat) (f : DLoop → DLoop) : (modDl s d f).freeCtr = s.freeCtr := rfl
@[simp] theorem modDl_classHold (s : State) (d : Nat) (f : DLoop → DLoop) : (modDl s d f).classHold = s.classHold := rfl
@[simp] theorem modDl_pending (s : State) (d : Nat) (f : DLoop → DLoop) : (modDl s d f).pending = s.pending := rfl

-- modGran
@[simp] theorem modGran_side (s : State) (f : Gran → Gran) : (modGran s f).side = { s.side with gran := f s.side.gran } := rfl
@[simp] theorem modGran_inp (s : State) (f : Gran → Gran) : (modGran s f).inp = s.inp := rfl
@[simp] theorem modGran_bm (s : State) (f : Gran → Gran) : (modGran s f).bm = s.bm := rfl
@[simp] theorem modGran_epp (s : State) (f : Gran → Gran) : (modGran s f).epp = s.epp := rfl
@[simp] theorem modGran_la (s : State) (f : Gran → Gran) : (modGran s f).la = s.la := rfl
@[simp] theorem modGran_dom (s : State) (f : Gran → Gran) : (modGran s f).dom = s.dom := rfl
@[simp] theorem modGran_sns (s : State) (f : Gran → Gran) : (modGran s f).sns = s.sns := rfl
@[simp] theorem modGran_bond (s : State) (f : Gran → Gran) : (modGran s f).bond = s.bond := rfl
@[simp] theorem modGran_shf (s : State) (f : Gran → Gran) : (modGran s f).shf = s.shf := rfl
@[simp] theorem modGran_shw (s : State) (f : Gran → Gran) : (modGran s f).shw = s.shw := rfl
@[simp] theorem modGran_shr (s : State) (f : Gran → Gran) : (modGran s f).shr = s.shr := rfl
@[simp] theorem modGran_ph (s : State) (f : Gran → Gran) : (modGran s f).ph = s.ph := rfl
@[simp] theorem modGran_phw (s : State) (f : Gran → Gran) : (modGran s f).phw = s.phw := rfl
@[simp] theorem modGran_swref (s : State) (f : Gran → Gran) : (modGran s f).swref = s.swref := rfl
@[simp] theorem modGran_gln (s : State) (f : Gran → Gran) : (modGran s f).gln = s.gln := rfl
@[simp] theorem modGran_sp (s : State) (f : Gran → Gran) : (modGran s f).sp = s.sp := rfl
@[simp] theorem modGran_gw (s : State) (f : Gran → Gran) : (modGran s f).gw = s.gw := rfl
@[simp] theorem modGran_bank (s : State) (f : Gran → Gran) : (modGran s f).bank = s.bank := rfl
@[simp] theorem modGran_clk (s : State) (f : Gran → Gran) : (modGran s f).clk = s.clk := rfl
@[simp] theorem modGran_time (s : State) (f : Gran → Gran) : (modGran s f).time = s.time := rfl
@[simp] theorem modGran_seg (s : State) (f : Gran → Gran) : (modGran s f).seg = s.seg := rfl
@[simp] theorem modGran_ntc (s : State) (f : Gran → Gran) : (modGran s f).ntc = s.ntc := rfl
@[simp] theorem modGran_nd (s : State) (f : Gran → Gran) : (modGran s f).nd = s.nd := rfl
@[simp] theorem modGran_sg (s : State) (f : Gran → Gran) : (modGran s f).sg = s.sg := rfl
@[simp] theorem modGran_est (s : State) (f : Gran → Gran) : (modGran s f).est = s.est := rfl
@[simp] theorem modGran_estd (s : State) (f : Gran → Gran) : (modGran s f).estd = s.estd := rfl
@[simp] theorem modGran_plan (s : State) (f : Gran → Gran) : (modGran s f).plan = s.plan := rfl
@[simp] theorem modGran_pd (s : State) (f : Gran → Gran) : (modGran s f).pd = s.pd := rfl
@[simp] theorem modGran_prot (s : State) (f : Gran → Gran) : (modGran s f).prot = s.prot := rfl
@[simp] theorem modGran_flt (s : State) (f : Gran → Gran) : (modGran s f).flt = s.flt := rfl
@[simp] theorem modGran_fpin (s : State) (f : Gran → Gran) : (modGran s f).fpin = s.fpin := rfl
@[simp] theorem modGran_silo (s : State) (f : Gran → Gran) : (modGran s f).silo = s.silo := rfl
@[simp] theorem modGran_defer (s : State) (f : Gran → Gran) : (modGran s f).defer = s.defer := rfl
@[simp] theorem modGran_blkReset (s : State) (f : Gran → Gran) : (modGran s f).blkReset = s.blkReset := rfl
@[simp] theorem modGran_mtrmRaw (s : State) (f : Gran → Gran) : (modGran s f).mtrmRaw = s.mtrmRaw := rfl
@[simp] theorem modGran_dbg (s : State) (f : Gran → Gran) : (modGran s f).dbg = s.dbg := rfl
@[simp] theorem modGran_g (s : State) (f : Gran → Gran) : (modGran s f).g = s.g := rfl
@[simp] theorem modGran_peer (s : State) (f : Gran → Gran) : (modGran s f).peer = s.peer := rfl
@[simp] theorem modGran_mem (s : State) (f : Gran → Gran) : (modGran s f).mem = s.mem := rfl
@[simp] theorem modGran_bu (s : State) (f : Gran → Gran) : (modGran s f).bu = s.bu := rfl
@[simp] theorem modGran_rst (s : State) (f : Gran → Gran) : (modGran s f).rst = s.rst := rfl
@[simp] theorem modGran_meter (s : State) (f : Gran → Gran) : (modGran s f).meter = s.meter := rfl
@[simp] theorem modGran_mtrm (s : State) (f : Gran → Gran) : (modGran s f).mtrm = s.mtrm := rfl
@[simp] theorem modGran_pmb (s : State) (f : Gran → Gran) : (modGran s f).pmb = s.pmb := rfl
@[simp] theorem modGran_pins (s : State) (f : Gran → Gran) : (modGran s f).pins = s.pins := rfl
@[simp] theorem modGran_io (s : State) (f : Gran → Gran) : (modGran s f).io = s.io := rfl
@[simp] theorem modGran_seqr (s : State) (f : Gran → Gran) : (modGran s f).seqr = s.seqr := rfl
@[simp] theorem modGran_lane (s : State) (f : Gran → Gran) : (modGran s f).lane = s.lane := rfl
@[simp] theorem modGran_acts (s : State) (f : Gran → Gran) : (modGran s f).acts = s.acts := rfl
@[simp] theorem modGran_sends (s : State) (f : Gran → Gran) : (modGran s f).sends = s.sends := rfl
@[simp] theorem modGran_cmdw (s : State) (f : Gran → Gran) : (modGran s f).cmdw = s.cmdw := rfl
@[simp] theorem modGran_tally (s : State) (f : Gran → Gran) : (modGran s f).tally = s.tally := rfl
@[simp] theorem modGran_mt (s : State) (f : Gran → Gran) : (modGran s f).mt = s.mt := rfl
@[simp] theorem modGran_mts (s : State) (f : Gran → Gran) : (modGran s f).mts = s.mts := rfl
@[simp] theorem modGran_loop (s : State) (f : Gran → Gran) : (modGran s f).loop = s.loop := rfl
@[simp] theorem modGran_tel (s : State) (f : Gran → Gran) : (modGran s f).tel = s.tel := rfl
@[simp] theorem modGran_exa (s : State) (f : Gran → Gran) : (modGran s f).exa = s.exa := rfl
@[simp] theorem modGran_setrec (s : State) (f : Gran → Gran) : (modGran s f).setrec = s.setrec := rfl
@[simp] theorem modGran_freeCtr (s : State) (f : Gran → Gran) : (modGran s f).freeCtr = s.freeCtr := rfl
@[simp] theorem modGran_classHold (s : State) (f : Gran → Gran) : (modGran s f).classHold = s.classHold := rfl
@[simp] theorem modGran_pending (s : State) (f : Gran → Gran) : (modGran s f).pending = s.pending := rfl

-- modDist
@[simp] theorem modDist_side (s : State) (f : Dist → Dist) : (modDist s f).side = { s.side with dist := f s.side.dist } := rfl
@[simp] theorem modDist_inp (s : State) (f : Dist → Dist) : (modDist s f).inp = s.inp := rfl
@[simp] theorem modDist_bm (s : State) (f : Dist → Dist) : (modDist s f).bm = s.bm := rfl
@[simp] theorem modDist_epp (s : State) (f : Dist → Dist) : (modDist s f).epp = s.epp := rfl
@[simp] theorem modDist_la (s : State) (f : Dist → Dist) : (modDist s f).la = s.la := rfl
@[simp] theorem modDist_dom (s : State) (f : Dist → Dist) : (modDist s f).dom = s.dom := rfl
@[simp] theorem modDist_sns (s : State) (f : Dist → Dist) : (modDist s f).sns = s.sns := rfl
@[simp] theorem modDist_bond (s : State) (f : Dist → Dist) : (modDist s f).bond = s.bond := rfl
@[simp] theorem modDist_shf (s : State) (f : Dist → Dist) : (modDist s f).shf = s.shf := rfl
@[simp] theorem modDist_shw (s : State) (f : Dist → Dist) : (modDist s f).shw = s.shw := rfl
@[simp] theorem modDist_shr (s : State) (f : Dist → Dist) : (modDist s f).shr = s.shr := rfl
@[simp] theorem modDist_ph (s : State) (f : Dist → Dist) : (modDist s f).ph = s.ph := rfl
@[simp] theorem modDist_phw (s : State) (f : Dist → Dist) : (modDist s f).phw = s.phw := rfl
@[simp] theorem modDist_swref (s : State) (f : Dist → Dist) : (modDist s f).swref = s.swref := rfl
@[simp] theorem modDist_gln (s : State) (f : Dist → Dist) : (modDist s f).gln = s.gln := rfl
@[simp] theorem modDist_sp (s : State) (f : Dist → Dist) : (modDist s f).sp = s.sp := rfl
@[simp] theorem modDist_gw (s : State) (f : Dist → Dist) : (modDist s f).gw = s.gw := rfl
@[simp] theorem modDist_bank (s : State) (f : Dist → Dist) : (modDist s f).bank = s.bank := rfl
@[simp] theorem modDist_clk (s : State) (f : Dist → Dist) : (modDist s f).clk = s.clk := rfl
@[simp] theorem modDist_time (s : State) (f : Dist → Dist) : (modDist s f).time = s.time := rfl
@[simp] theorem modDist_seg (s : State) (f : Dist → Dist) : (modDist s f).seg = s.seg := rfl
@[simp] theorem modDist_ntc (s : State) (f : Dist → Dist) : (modDist s f).ntc = s.ntc := rfl
@[simp] theorem modDist_nd (s : State) (f : Dist → Dist) : (modDist s f).nd = s.nd := rfl
@[simp] theorem modDist_sg (s : State) (f : Dist → Dist) : (modDist s f).sg = s.sg := rfl
@[simp] theorem modDist_est (s : State) (f : Dist → Dist) : (modDist s f).est = s.est := rfl
@[simp] theorem modDist_estd (s : State) (f : Dist → Dist) : (modDist s f).estd = s.estd := rfl
@[simp] theorem modDist_plan (s : State) (f : Dist → Dist) : (modDist s f).plan = s.plan := rfl
@[simp] theorem modDist_pd (s : State) (f : Dist → Dist) : (modDist s f).pd = s.pd := rfl
@[simp] theorem modDist_prot (s : State) (f : Dist → Dist) : (modDist s f).prot = s.prot := rfl
@[simp] theorem modDist_flt (s : State) (f : Dist → Dist) : (modDist s f).flt = s.flt := rfl
@[simp] theorem modDist_fpin (s : State) (f : Dist → Dist) : (modDist s f).fpin = s.fpin := rfl
@[simp] theorem modDist_silo (s : State) (f : Dist → Dist) : (modDist s f).silo = s.silo := rfl
@[simp] theorem modDist_defer (s : State) (f : Dist → Dist) : (modDist s f).defer = s.defer := rfl
@[simp] theorem modDist_blkReset (s : State) (f : Dist → Dist) : (modDist s f).blkReset = s.blkReset := rfl
@[simp] theorem modDist_mtrmRaw (s : State) (f : Dist → Dist) : (modDist s f).mtrmRaw = s.mtrmRaw := rfl
@[simp] theorem modDist_dbg (s : State) (f : Dist → Dist) : (modDist s f).dbg = s.dbg := rfl
@[simp] theorem modDist_g (s : State) (f : Dist → Dist) : (modDist s f).g = s.g := rfl
@[simp] theorem modDist_peer (s : State) (f : Dist → Dist) : (modDist s f).peer = s.peer := rfl
@[simp] theorem modDist_mem (s : State) (f : Dist → Dist) : (modDist s f).mem = s.mem := rfl
@[simp] theorem modDist_bu (s : State) (f : Dist → Dist) : (modDist s f).bu = s.bu := rfl
@[simp] theorem modDist_rst (s : State) (f : Dist → Dist) : (modDist s f).rst = s.rst := rfl
@[simp] theorem modDist_meter (s : State) (f : Dist → Dist) : (modDist s f).meter = s.meter := rfl
@[simp] theorem modDist_mtrm (s : State) (f : Dist → Dist) : (modDist s f).mtrm = s.mtrm := rfl
@[simp] theorem modDist_pmb (s : State) (f : Dist → Dist) : (modDist s f).pmb = s.pmb := rfl
@[simp] theorem modDist_pins (s : State) (f : Dist → Dist) : (modDist s f).pins = s.pins := rfl
@[simp] theorem modDist_io (s : State) (f : Dist → Dist) : (modDist s f).io = s.io := rfl
@[simp] theorem modDist_seqr (s : State) (f : Dist → Dist) : (modDist s f).seqr = s.seqr := rfl
@[simp] theorem modDist_lane (s : State) (f : Dist → Dist) : (modDist s f).lane = s.lane := rfl
@[simp] theorem modDist_acts (s : State) (f : Dist → Dist) : (modDist s f).acts = s.acts := rfl
@[simp] theorem modDist_sends (s : State) (f : Dist → Dist) : (modDist s f).sends = s.sends := rfl
@[simp] theorem modDist_cmdw (s : State) (f : Dist → Dist) : (modDist s f).cmdw = s.cmdw := rfl
@[simp] theorem modDist_tally (s : State) (f : Dist → Dist) : (modDist s f).tally = s.tally := rfl
@[simp] theorem modDist_mt (s : State) (f : Dist → Dist) : (modDist s f).mt = s.mt := rfl
@[simp] theorem modDist_mts (s : State) (f : Dist → Dist) : (modDist s f).mts = s.mts := rfl
@[simp] theorem modDist_loop (s : State) (f : Dist → Dist) : (modDist s f).loop = s.loop := rfl
@[simp] theorem modDist_tel (s : State) (f : Dist → Dist) : (modDist s f).tel = s.tel := rfl
@[simp] theorem modDist_exa (s : State) (f : Dist → Dist) : (modDist s f).exa = s.exa := rfl
@[simp] theorem modDist_setrec (s : State) (f : Dist → Dist) : (modDist s f).setrec = s.setrec := rfl
@[simp] theorem modDist_freeCtr (s : State) (f : Dist → Dist) : (modDist s f).freeCtr = s.freeCtr := rfl
@[simp] theorem modDist_classHold (s : State) (f : Dist → Dist) : (modDist s f).classHold = s.classHold := rfl
@[simp] theorem modDist_pending (s : State) (f : Dist → Dist) : (modDist s f).pending = s.pending := rfl

end Sys2Proof.Machine
end

