-- ==== Sys2Proof/Laws/Stores.lean ====
section
/-! SUPPORT. What every command leaves the byte stores with, and the operations that write them. -/

namespace Sys2Proof.Machine

/-- What every command leaves the stores and the queue with: the queue as it was, each byte memory canonical if it was, the
silo's records with at most records added, the fuse map as it was. -/
structure Tame (s t : State) : Prop where
  pending : t.pending = s.pending
  tmem : Memory.wf s.mem.tmem → Memory.wf t.mem.tmem
  mtimg : Memory.wf s.mem.mtimg → Memory.wf t.mem.mtimg
  estmem : Memory.wf s.mem.estmem → Memory.wf t.mem.estmem
  planmem : Memory.wf s.mem.planmem → Memory.wf t.mem.planmem
  hmem : Memory.wf s.mem.hmem → Memory.wf t.mem.hmem
  recs : s.mem.siloRecs <+: t.mem.siloRecs
  fuse : t.mem.fuse = s.mem.fuse

theorem Kept.tame {s t : State} (h : Kept s t) : Tame s t := by
  obtain ⟨hm, hp⟩ := h
  refine ⟨hp, ?_, ?_, ?_, ?_, ?_, ?_, ?_⟩ <;> rw [hm] <;> first | exact id | exact List.prefix_refl _

theorem Tame.refl (s : State) : Tame s s := Kept.tame ⟨rfl, rfl⟩

theorem Tame.trans {a b c : State} (h : Tame a b) (k : Tame b c) : Tame a c :=
  ⟨k.pending.trans h.pending, k.tmem ∘ h.tmem, k.mtimg ∘ h.mtimg, k.estmem ∘ h.estmem, k.planmem ∘ h.planmem,
    k.hmem ∘ h.hmem, h.recs.trans k.recs, k.fuse.trans h.fuse⟩

theorem tame_ite {s a b : State} {c : Prop} [Decidable c] (ha : c → Tame s a) (hb : ¬c → Tame s b) :
    Tame s (if c then a else b) := by
  split
  · exact ha ‹_›
  · exact hb ‹_›

theorem tame_foldl {α : Type} (g : State → α → State) (l : List α) (s : State) (h : ∀ s x, Tame s (g s x)) :
    Tame s (l.foldl g s) := by
  induction l generalizing s with
  | nil => exact Tame.refl s
  | cons x l ih => exact (h s x).trans (ih (g s x))

/-- A next state that the stores and the queue allow. -/
def Goes (s : State) (o : Out) : Prop := ∃ t, o = .next t ∧ Tame s t

theorem goes_next {s t : State} (h : Tame s t) : Goes s (.next t) := ⟨t, rfl, h⟩

theorem Answers.goes {s : State} {o : Out} (h : Answers s o) : Goes s o := by
  obtain ⟨t, e, k⟩ := h
  exact ⟨t, e, Kept.tame k⟩

theorem powered_goes (s : State) (f : State → State) (h : ∀ s, Tame s (f s)) : Goes s (powered s f) :=
  goes_next (tame_ite (fun _ => h s) fun _ => Tame.refl s)
theorem bus_goes (s : State) (f : State → State) (h : ∀ s, Tame s (f s)) : Goes s (bus s f) :=
  goes_next (tame_ite (fun _ => h s) fun _ => Tame.refl s)
theorem live_goes (s : State) (f : State → State) (h : ∀ s, Tame s (f s)) : Goes s (live s f) :=
  goes_next (tame_ite (fun _ => h s) fun _ => Tame.refl s)
theorem rstLive_goes (s : State) (f : State → State) (h : ∀ s, Tame s (f s)) : Goes s (rstLive s f) :=
  goes_next (tame_ite (fun _ => h s) fun _ => Tame.refl s)
theorem clocked_goes (s : State) (f : State → State) (h : ∀ s, Tame s (f s)) : Goes s (clocked s f) :=
  goes_next (tame_ite (fun _ => h s) fun _ => Tame.refl s)

theorem receive_tame (kind : Nat) (port : Fin 19) (h : Word64) (pay : List Word64) (f : Msg → State → State)
    (s : State) (hf : ∀ m s, Tame s (f m s)) : Tame s (receive kind port h pay f s) := by
  unfold receive
  extract_lets m
  exact tame_ite (fun _ => tame_ite (fun _ => hf m s) fun _ => Kept.tame (by unfold Kept; simp))
    fun _ => Tame.refl s

theorem fltAt_kept (s : State) (o v : Nat) :
    Kept s (if h : (o - 0x81000) / 0x200 < 10 then
      writeFlt s ⟨(o - 0x81000) / 0x200, h⟩ ((o - 0x81000) % 0x200) v else s) := by
  by_cases h : (o - 0x81000) / 0x200 < 10
  · rw [dif_pos h]; exact writeFlt_kept ..
  · rw [dif_neg h]; exact ⟨rfl, rfl⟩

theorem after_tame (s : State) (f : State → Out) (h : Goes s (f s)) : Tame s (after s f) := by
  obtain ⟨t, e, k⟩ := h
  simp only [after, e]
  exact k

theorem trackWrite_tame (s : State) (a : Nat) (bs : List Byte) : Tame s (trackWrite s a bs) := by
  unfold trackWrite
  refine tame_ite (fun _ => Kept.tame ⟨rfl, rfl⟩) fun _ => ?_
  exact ⟨rfl, Memory.writeBytes_wf _ _, id, id, id, id, List.prefix_refl _, rfl⟩

theorem telClose_tame (s : State) (ok : Bool) : Tame s (telClose s ok) := by
  have h1 : Kept s (telLose s) := telLose_kept s
  have h2 : ∀ a l (t : Tel), Tame s { s with mem.hmem := Memory.writeBytes s.mem.hmem a l, tel := t } := fun a l t =>
    ⟨rfl, id, id, id, id, Memory.writeBytes_wf a l, List.prefix_refl _, rfl⟩
  unfold telClose
  generalize telLose s = l at h1 ⊢
  generalize telRecord s = r
  extract_lets t mm ss
  have h3 := fun x : Tel => raise_kept { l with tel := x } bLOOP 6 subjDie
  refine tame_ite (fun _ => Kept.tame h1) fun _ => tame_ite (fun _ => Kept.tame (h1.trans (raise_kept l bLOOP 5 subjDie)))
    fun _ => tame_ite (fun _ => h2 _ _ _) fun _ => Kept.tame (h1.trans (h3 _))

theorem bufferFrame_tame (s : State) (bytes : List Byte) (lostBefore : Bool) (ok : Bool) : Tame s (bufferFrame s bytes lostBefore ok) :=
  by
  unfold bufferFrame
  extract_lets x gap r st t
  refine tame_ite (fun _ => tame_ite (fun _ => Kept.tame (by unfold Kept; simp)) fun _ => tame_ite (fun _ => ?_)
    fun _ => Kept.tame (by unfold Kept; simp [t])) fun _ => Kept.tame (by unfold Kept; simp)
  exact ⟨rfl, id, id, id, id, Memory.writeBytes_wf _ _, List.prefix_refl _, rfl⟩

theorem effSaveWriteDone_tame (ok : Bool) (s : State) : Tame s (effSaveWriteDone ok s) := by
  unfold effSaveWriteDone
  refine tame_ite (fun _ => tame_ite (fun _ => tame_ite (fun _ => Tame.refl s) fun _ => ?_) fun _ => ?_) fun _ => Tame.refl s
  · exact ⟨rfl, id, id, id, id, Memory.writeBytes_wf _ _, List.prefix_refl _, rfl⟩
  · exact Kept.tame (by unfold Kept; simp)

theorem effSiloProgram_tame (ok : Bool) (s : State) : Tame s (effSiloProgram ok s) := by
  have h : ∀ l (t : State), t.pending = s.pending → t.mem = { s.mem with siloRecs := s.mem.siloRecs ++ l } → Tame s t := by
    intro l t hp hm
    refine ⟨hp, ?_, ?_, ?_, ?_, ?_, ?_, ?_⟩ <;> rw [hm] <;> first | exact id | exact ⟨l, rfl⟩
  unfold effSiloProgram
  split
  · exact Tame.refl s
  · rename_i c rest hw
    extract_lets r full st si gc t1 t2
    have h2 : Tame s t2 := h [r.modify 18 (· ^^^ 0xFF)] _ rfl rfl
    have h1 : Tame s t1 := h [r] _ rfl rfl
    refine tame_ite (fun _ => tame_ite (fun _ => ?_) fun _ => ?_) fun _ => Kept.tame ⟨rfl, rfl⟩
    · exact tame_ite (fun _ => h1.trans (Kept.tame (raise_kept ..))) fun _ => h1
    · exact Tame.trans (tame_ite (fun _ => h2.trans (Kept.tame (raise_kept ..))) fun _ => h2) (Kept.tame (raise_kept ..))

theorem effTelemetryRecord_tame (ok : Bool) (s : State) : Tame s (effTelemetryRecord ok s) := by
  have h0 : ∀ n, Tame s (telLoseN n s) := fun n => Kept.tame (telLoseN_kept n s)
  have h1 : ∀ (c b : Bool) n, Tame s (if c then (if b then telClose (telLoseN n s) ok else telLose (telLoseN n s)) else s) :=
    fun c b n => tame_ite (fun _ => tame_ite (fun _ => (h0 n).trans (telClose_tame ..))
      fun _ => (h0 n).trans (Kept.tame (telLose_kept _))) fun _ => Tame.refl s
  unfold effTelemetryRecord
  extract_lets t now per ends turns s1 s2 tt s3
  refine tame_ite (fun _ => ?_) fun _ => Tame.refl s
  have hs2 : Tame s s2 := h1 _ _ _
  clear_value s2
  have hs3 : Tame s s3 := tame_ite (fun _ => hs2.trans (Kept.tame ⟨rfl, rfl⟩)) fun _ => hs2
  exact hs3.trans (Kept.tame (telRestart_kept ..))

theorem wholeChip_tame (s : State) : Tame s (wholeChip s) := by
  unfold wholeChip
  have h1 : Tame s (effTelemetryRecord true s) := effTelemetryRecord_tame true s
  generalize effTelemetryRecord true s = u at h1 ⊢
  extract_lets x t
  refine h1.trans (Tame.trans ?_ (Kept.tame (raiseStanding_kept _)))
  exact ⟨rfl, fun _ => rfl, fun _ => rfl, fun _ => rfl, fun _ => rfl, id, List.prefix_refl _, rfl⟩

theorem chipBeat_tame (s : State) : Tame s (chipBeat s) := tame_ite (fun _ => wholeChip_tame s) fun _ =>
  tame_ite (fun _ => Kept.tame (chipStart_kept s)) fun _ => Tame.refl s

theorem effSoftStartEnd_tame (s : State) : Tame s (effSoftStartEnd s) := by
  have h : Tame s (keepAround s (State.start (partOf s))) :=
    ⟨rfl, fun _ => rfl, fun _ => rfl, fun _ => rfl, fun _ => rfl, fun _ => rfl, List.prefix_refl _, rfl⟩
  unfold effSoftStartEnd
  extract_lets t
  refine h.trans (Kept.tame ?_)
  unfold Kept
  simp [t]

theorem writeEst_tame (s : State) (o : Nat) (v : Nat) : Tame s (writeEst s o v) := by
  unfold writeEst
  refine tame_ite (fun _ => Kept.tame (by unfold Kept; simp)) fun _ => ?_
  split
  · exact Kept.tame (by unfold Kept; simp)
  · refine tame_ite (fun _ => ?_) fun _ => Tame.refl s
    exact ⟨rfl, id, id, Memory.setWord_wf _ _, id, id, List.prefix_refl _, rfl⟩

theorem mirrorFrame_tame (s : State) (bytes : List Byte) (ok : Bool) : Tame s (mirrorFrame s bytes ok) := by
  unfold mirrorFrame
  extract_lets old f cch seq lostBefore raw nosync raw' s1 rise s2 s3 s4 s5
  have hr : ∀ t i, Kept t (rise t i) := fun t i => by unfold Kept; simp [rise]
  have h1 : Kept s s1 := ⟨rfl, rfl⟩
  have h2 : Kept s s2 := h1.trans (hr _ _)
  have h3 : Kept s s3 := h2.trans (kept_ite (fun _ => raise_kept ..) fun _ => ⟨rfl, rfl⟩)
  have h4 : Kept s s4 := h3.trans ((hr _ _).trans (hr _ _))
  have h5 : Kept s s5 := h4.trans (kept_ite (fun _ => raise_kept ..) fun _ => ⟨rfl, rfl⟩)
  exact Tame.trans (Kept.tame (h5.trans (hr _ _))) (bufferFrame_tame ..)

theorem effMeterFrame_tame (bytes : List Byte) (ok : Bool) (s : State) : Tame s (effMeterFrame bytes ok s) :=
  tame_ite (fun _ => Tame.refl s) fun _ => tame_ite
  (fun _ => tame_ite (fun _ => Tame.refl s) fun _ => mirrorFrame_tame ..) fun _ => Kept.tame (by unfold Kept; simp)

theorem takePacket_tame (m : Msg) (s : State) : Tame s (takePacket m s) := by
  unfold takePacket
  extract_lets a good n s1 s2 s3
  have h2 : Kept s s2 := Kept.trans (b := s1) (by unfold Kept; simp [s1]) (modDist_kept ..)
  clear_value s2
  have h3 : Tame s s3 := (Kept.tame h2).trans (trackWrite_tame ..)
  exact tame_ite (fun _ => Kept.tame (dropSide_kept s)) fun _ =>
    tame_ite (fun _ => (Kept.tame h2).trans (trackWrite_tame ..)) fun _ => h3.trans (Kept.tame (modDist_kept ..))

theorem onTrkpkt_tame (port : Fin 19) (m : Msg) (s : State) : Tame s (onTrkpkt port m s) := tame_ite
  (fun _ => (takePacket_tame m s).trans (Kept.tame (forward_kept ..))) fun _ => Tame.refl s

theorem onTrkres_tame (port : Fin 19) (m : Msg) (s : State) : Tame s (onTrkres port m s) :=
  tame_ite (fun _ => takePacket_tame m s)
  fun _ => tame_ite (fun _ => Kept.tame (forward_kept ..)) fun _ => Tame.refl s

theorem effRefclkEdge_tame (s : State) : Tame s (effRefclkEdge s) := by
  have h0 : Kept s (slewAll (if s.dbg.active then s else estBeat (portTake s))) :=
    Kept.trans (kept_ite (fun _ => ⟨rfl, rfl⟩) fun _ => Kept.trans (portTake_kept s) (estBeat_kept _)) (slewAll_kept _)
  unfold effRefclkEdge
  generalize slewAll (if s.dbg.active then s else estBeat (portTake s)) = u at h0 ⊢
  extract_lets s1 tm s2
  have h2 : Tame s s2 := Kept.tame (Kept.trans h0 ⟨rfl, rfl⟩)
  exact tame_ite (fun _ => h2) fun _ => (h2.trans (Kept.tame (centralBeat_kept _))).trans (chipBeat_tame _)

theorem writeWord_tame (s : State) (o : Nat) (v : Nat) : Tame s (writeWord s o v) := by
  have hm : ∀ a v, Tame s { s with mem.mtimg := Memory.setWord s.mem.mtimg a v } := fun a v =>
    ⟨rfl, id, Memory.setWord_wf _ _, id, id, id, List.prefix_refl _, rfl⟩
  have hp : ∀ a v, Tame s { s with mem.planmem := Memory.setWord s.mem.planmem a v } := fun a v =>
    ⟨rfl, id, id, id, Memory.setWord_wf _ _, id, List.prefix_refl _, rfl⟩
  have ht : ∀ a v, Tame s (after s (execTrackMemoryWrite a v)) := fun a v =>
    after_tame _ _ (bus_goes _ _ fun s => trackWrite_tame _ _ _)
  unfold writeWord
  refine tame_ite (fun _ => Tame.refl s) fun _ => tame_ite (fun _ => Tame.refl s) fun _ =>
    tame_ite (fun _ => Kept.tame (writeGlobal_kept ..)) fun _ => tame_ite (fun _ => Tame.refl s) fun _ =>
    tame_ite (fun _ => Kept.tame (writeCmd_kept ..)) fun _ => tame_ite (fun _ => Tame.refl s) fun _ =>
    tame_ite (fun _ => Kept.tame (writeDomReg_kept ..)) fun _ => tame_ite (fun _ => Kept.tame (writeShf_kept ..)) fun _ =>
    tame_ite (fun _ => Kept.tame (writeSwref_kept ..)) fun _ => tame_ite (fun _ => Kept.tame (writePh_kept ..)) fun _ =>
    tame_ite (fun _ => Tame.refl s) fun _ => tame_ite (fun _ => ht _ _) fun _ => tame_ite (fun _ => hm _ _) fun _ =>
    tame_ite (fun _ => Kept.tame (writeSeq_kept ..)) fun _ => tame_ite (fun _ => Kept.tame (writeTime_kept ..)) fun _ =>
    tame_ite (fun _ => Kept.tame (writeExact_kept ..)) fun _ => tame_ite (fun _ => Kept.tame (writeLoop_kept ..)) fun _ =>
    tame_ite (fun _ => writeEst_tame ..) fun _ => tame_ite (fun _ => Kept.tame (writeTel_kept ..)) fun _ =>
    tame_ite (fun _ => Kept.tame (writeProt_kept ..)) fun _ => tame_ite (fun _ => Kept.tame (fltAt_kept s o v)) fun _ =>
    tame_ite (fun _ => Kept.tame (writeSilo_kept ..)) fun _ => tame_ite (fun _ => Kept.tame (writeSide_kept ..)) fun _ =>
    tame_ite (fun _ => Kept.tame (writePower_kept ..)) fun _ => tame_ite (fun _ => Kept.tame (writeMtrm_kept ..)) fun _ =>
    tame_ite (fun _ => hp _ _) fun _ => tame_ite (fun _ => Kept.tame (writeDbg_kept ..)) fun _ => Tame.refl s

theorem busWord_tame (s : State) (o : Nat) (v : Nat) : Tame s (busWord s o v) :=
  tame_ite (fun _ => Tame.refl s) fun _ => writeWord_tame ..

theorem writeAt_tame (p : Path) (o : Nat) (v : Word32) (s : State) : Tame s (writeAt p o v s) :=
  tame_ite (fun _ => Kept.tame (writeLoAt_kept ..)) fun _ =>
  tame_ite (fun _ => Kept.tame (writeHiAt_kept ..)) fun _ => (busWord_tame s o v.toNat).trans (Kept.tame (modPath_kept ..))

theorem execSaveWriteDone_goes (ok : Bool) (s : State) : Goes s (execSaveWriteDone ok s) :=
  live_goes _ _ (effSaveWriteDone_tame ok)

theorem execTrackMemoryWrite_goes (off : Nat) (v : Word32) (s : State) : Goes s (execTrackMemoryWrite off v s) :=
  bus_goes _ _ fun s => trackWrite_tame ..

theorem execSiloProgram_goes (ok : Bool) (s : State) : Goes s (execSiloProgram ok s) :=
  powered_goes _ _ (effSiloProgram_tame ok)

theorem execTelemetryRecord_goes (ok : Bool) (s : State) : Goes s (execTelemetryRecord ok s) :=
  live_goes _ _ (effTelemetryRecord_tame ok)

theorem execTrkpkt_goes (port : Fin 19) (h : Word64) (pay : List Word64) (s : State) : Goes s (execTrkpkt port h pay s) :=
  live_goes _ _ fun s => receive_tame _ _ _ _ _ s (onTrkpkt_tame port)

theorem execTrkres_goes (port : Fin 19) (h : Word64) (pay : List Word64) (s : State) : Goes s (execTrkres port h pay s) :=
  live_goes _ _ fun s => receive_tame _ _ _ _ _ s (onTrkres_tame port)

theorem execRefclkEdge_goes (s : State) : Goes s (execRefclkEdge s) := clocked_goes _ _ effRefclkEdge_tame

theorem execMeterFrame_goes (bytes : List Byte) (ok : Bool) (s : State) : Goes s (execMeterFrame bytes ok s) :=
  live_goes _ _ (effMeterFrame_tame bytes ok)

theorem execSoftStartEnd_goes (s : State) : Goes s (execSoftStartEnd s) :=
  goes_next (tame_ite (fun _ => effSoftStartEnd_tame s) fun _ => Tame.refl s)

theorem execRegisterWrite_goes (p : Path) (off : Nat) (v : Word32) (s : State) : Goes s (execRegisterWrite p off v s) :=
  powered_goes _ _ fun s =>
  tame_ite (fun _ => writeAt_tame ..) fun _ => Kept.tame (answerErr_kept ..)

theorem execWriteLo_goes (p : Path) (off : Nat) (v : Word32) (s : State) : Goes s (execWriteLo p off v s) :=
  powered_goes _ _ fun s =>
  tame_ite (fun _ => tame_ite (fun _ => Kept.tame (writeLoAt_kept ..)) fun _ => writeAt_tame ..)
    fun _ => Kept.tame (answerErr_kept ..)

theorem execWriteHi_goes (p : Path) (off : Nat) (v : Word32) (s : State) : Goes s (execWriteHi p off v s) :=
  powered_goes _ _ fun s =>
  tame_ite (fun _ => tame_ite (fun _ => Kept.tame (writeHiAt_kept ..)) fun _ => writeAt_tame ..)
    fun _ => Kept.tame (answerErr_kept ..)

theorem execMsrAcc_goes (op : Nat) (inst : Nat) (adr : Nat) (v : Word32) (s : State) : Goes s (execMsrAcc op inst adr v s) :=
  by
  unfold execMsrAcc
  refine powered_goes _ _ (fun s => ?_)
  extract_lets s1 o fin
  have h1 : Kept s s1 := scanCapture_kept s
  clear_value s1
  have ho : ∀ t : State, Kept t (fin t) := fun t => modPath_kept ..
  refine tame_ite (fun _ => Kept.tame h1) fun _ => tame_ite (fun _ => Kept.tame (h1.trans (modPath_kept ..))) fun _ =>
    tame_ite (fun _ => Kept.tame ((h1.trans (ho _)).trans (answerErr_kept ..))) fun _ =>
    tame_ite (fun _ => Kept.tame ((h1.trans (ho _)).trans (readAt_kept ..))) fun _ =>
    (Kept.tame (h1.trans (ho _))).trans (writeAt_tame ..)

end Sys2Proof.Machine
end

