-- ==== Sys2Proof/Laws/Touch1.lean ====
section
/-! SUPPORT. Which groups of State the operations of Machine/Ops, Raise, SetpointOps, DomainOps, Power may touch:
each keeps every frame whose set holds its own. -/

namespace Sys2Proof.Machine

theorem powered_frame {M : Nat} {z0 : State} {s : State} {f : State → State} (hf : ∀ s, Frame M z0 s → Frame M z0
    (f s))
    (hz : Frame M z0 s) : Ends M z0 (powered s f) := by
  unfold powered
  repeat' first
    | with_reducible assumption
    | with_reducible refine frame_ite (fun _ => ?_) (fun _ => ?_)
    | with_reducible refine ends_next ?_
    | with_reducible refine hf _ ?_
theorem awake_frame {M : Nat} {z0 : State} {s : State} {f : State → State} (hf : ∀ s, Frame M z0 s → Frame M z0 (f s))
    (hz : Frame M z0 s) : Ends M z0 (awake s f) := by
  unfold awake
  repeat' first
    | with_reducible assumption
    | with_reducible refine frame_ite (fun _ => ?_) (fun _ => ?_)
    | with_reducible refine ends_next ?_
    | with_reducible refine hf _ ?_
    | split
theorem bus_frame {M : Nat} {z0 : State} {s : State} {f : State → State} (hf : ∀ s, Frame M z0 s → Frame M z0 (f s))
    (hz : Frame M z0 s) : Ends M z0 (bus s f) := by
  unfold bus
  repeat' first
    | with_reducible assumption
    | with_reducible refine frame_ite (fun _ => ?_) (fun _ => ?_)
    | with_reducible refine ends_next ?_
    | with_reducible refine hf _ ?_
theorem live_frame {M : Nat} {z0 : State} {s : State} {f : State → State} (hf : ∀ s, Frame M z0 s → Frame M z0 (f s))
    (hz : Frame M z0 s) : Ends M z0 (live s f) := by
  unfold live
  repeat' first
    | with_reducible assumption
    | with_reducible refine frame_ite (fun _ => ?_) (fun _ => ?_)
    | with_reducible refine ends_next ?_
    | with_reducible refine hf _ ?_
theorem sheafStep_frame {M : Nat} {z0 : State} {s : State} {f : State → State} (hf : ∀ s, Frame M z0 s → Frame M z0
    (f s))
    (hz : Frame M z0 s) : Ends M z0 (sheafStep s f) := by
  unfold sheafStep
  repeat' first
    | with_reducible assumption
    | with_reducible refine frame_ite (fun _ => ?_) (fun _ => ?_)
    | with_reducible refine ends_next ?_
    | with_reducible refine hf _ ?_
theorem setDomSt_frame {M : Nat} {z0 : State} {s : State} {d : Nat} {x : DomSt} (hm : 0x10 &&& M = 0x10)
    (hz : Frame M z0 s) : Frame M z0 (setDomSt s d x) := by
  unfold setDomSt
  repeat' first
    | with_reducible assumption
    | (with_reducible refine frame_lit ?_ ?_; rotate_left; (fail_if_success with_reducible exact Frame.refl _)
                      constructor <;> first | exact fun _ => rfl | exact fun h => absurd (bit_of_sub hm h) (by decide))
theorem raiseWith_frame {M : Nat} {z0 : State} {s : State} {b : Fin 10} {src : Nat} {subj : Nat} {inj : Bool}
    {noCap : Bool} {cap : Option (List Byte)} (hm : 0x40970000000 &&& M = 0x40970000000)
    (hz : Frame M z0 s) : Frame M z0 (raiseWith s b src subj inj noCap cap) := by
  unfold raiseWith
  repeat' first
    | with_reducible assumption
    | (with_reducible refine frame_lit ?_ ?_; rotate_left; (fail_if_success with_reducible exact Frame.refl _)
                      constructor <;> first | exact fun _ => rfl | exact fun h => absurd (bit_of_sub hm h) (by decide))
theorem raise_frame {M : Nat} {z0 : State} {s : State} {b : Fin 10} {src : Nat} {subj : Nat}
    (hm : 0x40970000000 &&& M = 0x40970000000)
    (hz : Frame M z0 s) : Frame M z0 (raise s b src subj) := by
  unfold raise
  repeat' first
    | with_reducible assumption
    | with_reducible refine raiseWith_frame hm ?_
theorem raiseShf_frame {M : Nat} {z0 : State} {s : State} {d : Nat} {b : Fin 10} {src : Nat} {subj : Nat}
    (hm : 0x409f0000000 &&& M = 0x409f0000000)
    (hz : Frame M z0 s) : Frame M z0 (raiseShf s d b src subj) := by
  unfold raiseShf
  repeat' first
    | with_reducible assumption
    | (with_reducible refine frame_lit ?_ ?_; rotate_left; (fail_if_success with_reducible exact Frame.refl _)
                      constructor <;> first | exact fun _ => rfl | exact fun h => absurd (bit_of_sub hm h) (by decide))
    | (with_reducible refine raise_frame (sub_trans ?_ hm) ?_; decide)
    | split
theorem raiseDeferred_frame {M : Nat} {z0 : State} {s : State} {d : Nat} (hm : 0x409f0000000 &&& M = 0x409f0000000)
    (hz : Frame M z0 s) : Frame M z0 (raiseDeferred s d) := by
  unfold raiseDeferred
  repeat' first
    | with_reducible assumption
    | (with_reducible refine frame_lit ?_ ?_; rotate_left; (fail_if_success with_reducible exact Frame.refl _)
                      constructor <;> first | exact fun _ => rfl | exact fun h => absurd (bit_of_sub hm h) (by decide))
    | with_reducible refine frame_foldl (fun _ _ _ => ?_) ?_
    | (with_reducible refine raiseWith_frame (sub_trans ?_ hm) ?_; decide)
theorem modSp_frame {M : Nat} {z0 : State} {s : State} {d : Nat} {f : Sp → Sp} (hm : 0x4000 &&& M = 0x4000)
    (hz : Frame M z0 s) : Frame M z0 (modSp s d f) := by
  unfold modSp
  repeat' first
    | with_reducible assumption
    | (with_reducible refine frame_lit ?_ ?_; rotate_left; (fail_if_success with_reducible exact Frame.refl _)
                      constructor <;> first | exact fun _ => rfl | exact fun h => absurd (bit_of_sub hm h) (by decide))
theorem modGw_frame {M : Nat} {z0 : State} {s : State} {d : Nat} {f : Gw → Gw} (hm : 0x8000 &&& M = 0x8000)
    (hz : Frame M z0 s) : Frame M z0 (modGw s d f) := by
  unfold modGw
  repeat' first
    | with_reducible assumption
    | (with_reducible refine frame_lit ?_ ?_; rotate_left; (fail_if_success with_reducible exact Frame.refl _)
                      constructor <;> first | exact fun _ => rfl | exact fun h => absurd (bit_of_sub hm h) (by decide))
theorem modShf_frame {M : Nat} {z0 : State} {s : State} {d : Nat} {f : Shf → Shf} (hm : 0x80 &&& M = 0x80)
    (hz : Frame M z0 s) : Frame M z0 (modShf s d f) := by
  unfold modShf
  repeat' first
    | with_reducible assumption
    | (with_reducible refine frame_lit ?_ ?_; rotate_left; (fail_if_success with_reducible exact Frame.refl _)
                      constructor <;> first | exact fun _ => rfl | exact fun h => absurd (bit_of_sub hm h) (by decide))
theorem modShw_frame {M : Nat} {z0 : State} {s : State} {d : Nat} {f : ShfW → ShfW} (hm : 0x100 &&& M = 0x100)
    (hz : Frame M z0 s) : Frame M z0 (modShw s d f) := by
  unfold modShw
  repeat' first
    | with_reducible assumption
    | (with_reducible refine frame_lit ?_ ?_; rotate_left; (fail_if_success with_reducible exact Frame.refl _)
                      constructor <;> first | exact fun _ => rfl | exact fun h => absurd (bit_of_sub hm h) (by decide))
theorem modShr_frame {M : Nat} {z0 : State} {s : State} {d : Nat} {f : Shr → Shr} (hm : 0x200 &&& M = 0x200)
    (hz : Frame M z0 s) : Frame M z0 (modShr s d f) := by
  unfold modShr
  repeat' first
    | with_reducible assumption
    | (with_reducible refine frame_lit ?_ ?_; rotate_left; (fail_if_success with_reducible exact Frame.refl _)
                      constructor <;> first | exact fun _ => rfl | exact fun h => absurd (bit_of_sub hm h) (by decide))
theorem modPh_frame {M : Nat} {z0 : State} {s : State} {p : Nat} {f : Ph → Ph} (hm : 0x400 &&& M = 0x400)
    (hz : Frame M z0 s) : Frame M z0 (modPh s p f) := by
  unfold modPh
  repeat' first
    | with_reducible assumption
    | (with_reducible refine frame_lit ?_ ?_; rotate_left; (fail_if_success with_reducible exact Frame.refl _)
                      constructor <;> first | exact fun _ => rfl | exact fun h => absurd (bit_of_sub hm h) (by decide))
theorem modPhw_frame {M : Nat} {z0 : State} {s : State} {p : Nat} {f : PhW → PhW} (hm : 0x800 &&& M = 0x800)
    (hz : Frame M z0 s) : Frame M z0 (modPhw s p f) := by
  unfold modPhw
  repeat' first
    | with_reducible assumption
    | (with_reducible refine frame_lit ?_ ?_; rotate_left; (fail_if_success with_reducible exact Frame.refl _)
                      constructor <;> first | exact fun _ => rfl | exact fun h => absurd (bit_of_sub hm h) (by decide))
theorem modPd_frame {M : Nat} {z0 : State} {s : State} {d : Nat} {f : PDom → PDom} (hm : 0x4000000 &&& M = 0x4000000)
    (hz : Frame M z0 s) : Frame M z0 (modPd s d f) := by
  unfold modPd
  repeat' first
    | with_reducible assumption
    | (with_reducible refine frame_lit ?_ ?_; rotate_left; (fail_if_success with_reducible exact Frame.refl _)
                      constructor <;> first | exact fun _ => rfl | exact fun h => absurd (bit_of_sub hm h) (by decide))
theorem modNd_frame {M : Nat} {z0 : State} {s : State} {d : Nat} {f : NDom → NDom} (hm : 0x200000 &&& M = 0x200000)
    (hz : Frame M z0 s) : Frame M z0 (modNd s d f) := by
  unfold modNd
  repeat' first
    | with_reducible assumption
    | (with_reducible refine frame_lit ?_ ?_; rotate_left; (fail_if_success with_reducible exact Frame.refl _)
                      constructor <;> first | exact fun _ => rfl | exact fun h => absurd (bit_of_sub hm h) (by decide))
theorem modEstd_frame {M : Nat} {z0 : State} {s : State} {d : Nat} {f : EstD → EstD}
    (hm : 0x1000000 &&& M = 0x1000000)
    (hz : Frame M z0 s) : Frame M z0 (modEstd s d f) := by
  unfold modEstd
  repeat' first
    | with_reducible assumption
    | (with_reducible refine frame_lit ?_ ?_; rotate_left; (fail_if_success with_reducible exact Frame.refl _)
                      constructor <;> first | exact fun _ => rfl | exact fun h => absurd (bit_of_sub hm h) (by decide))
theorem modDom_frame {M : Nat} {z0 : State} {s : State} {d : Nat} {f : Dom → Dom} (hm : 0x10 &&& M = 0x10)
    (hz : Frame M z0 s) : Frame M z0 (modDom s d f) := by
  unfold modDom
  repeat' first
    | with_reducible assumption
    | (with_reducible refine frame_lit ?_ ?_; rotate_left; (fail_if_success with_reducible exact Frame.refl _)
                      constructor <;> first | exact fun _ => rfl | exact fun h => absurd (bit_of_sub hm h) (by decide))
theorem reseedB_frame {M : Nat} {z0 : State} {s : State} {d : Nat} (hm : 0x80 &&& M = 0x80)
    (hz : Frame M z0 s) : Frame M z0 (reseedB s d) := by
  unfold reseedB
  repeat' first
    | with_reducible assumption
    | with_reducible refine modShf_frame hm ?_
theorem settleToken_frame {M : Nat} {z0 : State} {s : State} {d : Nat} (hm : 0x100 &&& M = 0x100)
    (hz : Frame M z0 s) : Frame M z0 (settleToken s d) := by
  unfold settleToken
  repeat' first
    | with_reducible assumption
    | with_reducible refine frame_ite (fun _ => ?_) (fun _ => ?_)
    | with_reducible refine modShw_frame hm ?_
theorem passToken_frame {M : Nat} {z0 : State} {s : State} {d : Nat} {k : Nat} (hm : 0x100 &&& M = 0x100)
    (hz : Frame M z0 s) : Frame M z0 (passToken s d k) := by
  unfold passToken
  repeat' first
    | with_reducible assumption
    | with_reducible refine frame_ite (fun _ => ?_) (fun _ => ?_)
    | with_reducible refine modShw_frame hm ?_
theorem restoreShed_frame {M : Nat} {z0 : State} {s : State} {d : Nat} (hm : 0xf80 &&& M = 0xf80)
    (hz : Frame M z0 s) : Frame M z0 (restoreShed s d) := by
  unfold restoreShed
  repeat' first
    | with_reducible assumption
    | (with_reducible refine frame_lit ?_ ?_; rotate_left; (fail_if_success with_reducible exact Frame.refl _)
                      constructor <;> first | exact fun _ => rfl | exact fun h => absurd (bit_of_sub hm h) (by decide))
    | with_reducible refine frame_ite (fun _ => ?_) (fun _ => ?_)
    | (with_reducible refine reseedB_frame (sub_trans ?_ hm) ?_; decide)
    | (with_reducible refine modShr_frame (sub_trans ?_ hm) ?_; decide)
    | (with_reducible refine modShw_frame (sub_trans ?_ hm) ?_; decide)
    | (with_reducible refine modShf_frame (sub_trans ?_ hm) ?_; decide)
theorem restoreFar_frame {M : Nat} {z0 : State} {s : State} {d : Nat} (hm : 0xf80 &&& M = 0xf80)
    (hz : Frame M z0 s) : Frame M z0 (restoreFar s d) := by
  unfold restoreFar
  repeat' first
    | with_reducible assumption
    | with_reducible refine frame_ite (fun _ => ?_) (fun _ => ?_)
    | with_reducible refine restoreShed_frame hm ?_
theorem retargetTo_frame {M : Nat} {z0 : State} {s : State} {d : Nat} {t : Int} {cmd : Bool}
    (hm : 0xcf80 &&& M = 0xcf80)
    (hz : Frame M z0 s) : Frame M z0 (retargetTo s d t cmd) := by
  unfold retargetTo
  repeat' first
    | with_reducible assumption
    | (with_reducible refine restoreFar_frame (sub_trans ?_ hm) ?_; decide)
    | (with_reducible refine modGw_frame (sub_trans ?_ hm) ?_; decide)
    | (with_reducible refine modSp_frame (sub_trans ?_ hm) ?_; decide)
theorem retarget_frame {M : Nat} {z0 : State} {s : State} {d : Nat} {cmd : Bool} (hm : 0xcf80 &&& M = 0xcf80)
    (hz : Frame M z0 s) : Frame M z0 (retarget s d cmd) := by
  unfold retarget
  repeat' first
    | with_reducible assumption
    | with_reducible refine retargetTo_frame hm ?_
    | split
theorem retargetAll_frame {M : Nat} {z0 : State} {s : State} (hm : 0xcf80 &&& M = 0xcf80)
    (hz : Frame M z0 s) : Frame M z0 (retargetAll s) := by
  unfold retargetAll
  repeat' first
    | with_reducible assumption
    | with_reducible refine frame_foldl (fun _ _ _ => ?_) ?_
    | with_reducible refine retarget_frame hm ?_
theorem setDeadline_frame {M : Nat} {z0 : State} {s : State} {d : Nat} {b : Nat} (hm : 0x4000 &&& M = 0x4000)
    (hz : Frame M z0 s) : Frame M z0 (setDeadline s d b) := by
  unfold setDeadline
  repeat' first
    | with_reducible assumption
    | (with_reducible refine frame_lit ?_ ?_; rotate_left; (fail_if_success with_reducible exact Frame.refl _)
                      constructor <;> first | exact fun _ => rfl | exact fun h => absurd (bit_of_sub hm h) (by decide))
    | with_reducible refine frame_ite (fun _ => ?_) (fun _ => ?_)
    | with_reducible refine modSp_frame hm ?_
    | split
theorem setVopCode_frame {M : Nat} {z0 : State} {s : State} {d : Nat} {v : Nat} {code : Nat} {cmd : Bool} {b : Nat}
    (hm : 0xcf80 &&& M = 0xcf80)
    (hz : Frame M z0 s) : Frame M z0 (setVopCode s d v code cmd b) := by
  unfold setVopCode
  repeat' first
    | with_reducible assumption
    | (with_reducible refine frame_lit ?_ ?_; rotate_left; (fail_if_success with_reducible exact Frame.refl _)
                      constructor <;> first | exact fun _ => rfl | exact fun h => absurd (bit_of_sub hm h) (by decide))
    | with_reducible refine frame_ite (fun _ => ?_) (fun _ => ?_)
    | (with_reducible refine setDeadline_frame (sub_trans ?_ hm) ?_; decide)
    | with_reducible refine retarget_frame hm ?_
    | (with_reducible refine modSp_frame (sub_trans ?_ hm) ?_; decide)
    | split
    | dsimp only
theorem setVop_frame {M : Nat} {z0 : State} {s : State} {d : Nat} {v : Nat} {cmd : Bool} (hm : 0xcf80 &&& M = 0xcf80)
    (hz : Frame M z0 s) : Frame M z0 (setVop s d v cmd) := by
  unfold setVop
  repeat' first
    | with_reducible assumption
    | with_reducible refine setVopCode_frame hm ?_
theorem askClock_frame {M : Nat} {z0 : State} {s : State} {d : Nat} {n : Nat} (hm : 0x20000 &&& M = 0x20000)
    (hz : Frame M z0 s) : Frame M z0 (askClock s d n) := by
  unfold askClock
  repeat' first
    | with_reducible assumption
    | (with_reducible refine frame_lit ?_ ?_; rotate_left; (fail_if_success with_reducible exact Frame.refl _)
                      constructor <;> first | exact fun _ => rfl | exact fun h => absurd (bit_of_sub hm h) (by decide))
theorem raiseWaits_frame {M : Nat} {z0 : State} {s : State} {d : Nat} (hm : 0x4000 &&& M = 0x4000)
    (hz : Frame M z0 s) : Frame M z0 (raiseWaits s d) := by
  unfold raiseWaits
  repeat' first
    | with_reducible assumption
    | with_reducible refine modSp_frame hm ?_
theorem followOp_frame {M : Nat} {z0 : State} {s : State} {d : Nat} {cmd : Bool} (hm : 0x2cf80 &&& M = 0x2cf80)
    (hz : Frame M z0 s) : Frame M z0 (followOp s d cmd) := by
  unfold followOp
  repeat' first
    | with_reducible assumption
    | with_reducible refine frame_ite (fun _ => ?_) (fun _ => ?_)
    | (with_reducible refine raiseWaits_frame (sub_trans ?_ hm) ?_; decide)
    | (with_reducible refine askClock_frame (sub_trans ?_ hm) ?_; decide)
    | (with_reducible refine setVop_frame (sub_trans ?_ hm) ?_; decide)
    | (with_reducible refine modSp_frame (sub_trans ?_ hm) ?_; decide)
theorem holdDom_frame {M : Nat} {z0 : State} {s : State} {d : Nat} (hm : 0x4010 &&& M = 0x4010)
    (hz : Frame M z0 s) : Frame M z0 (holdDom s d) := by
  unfold holdDom
  repeat' first
    | with_reducible assumption
    | (with_reducible refine modSp_frame (sub_trans ?_ hm) ?_; decide)
    | (with_reducible refine setDomSt_frame (sub_trans ?_ hm) ?_; decide)
theorem followHeld_frame {M : Nat} {z0 : State} {s : State} {d : Nat} (hm : 0x2cf80 &&& M = 0x2cf80)
    (hz : Frame M z0 s) : Frame M z0 (followHeld s d) := by
  unfold followHeld
  repeat' first
    | with_reducible assumption
    | with_reducible refine frame_ite (fun _ => ?_) (fun _ => ?_)
    | (with_reducible refine raiseWaits_frame (sub_trans ?_ hm) ?_; decide)
    | (with_reducible refine askClock_frame (sub_trans ?_ hm) ?_; decide)
    | (with_reducible refine setDeadline_frame (sub_trans ?_ hm) ?_; decide)
    | (with_reducible refine retarget_frame (sub_trans ?_ hm) ?_; decide)
    | (with_reducible refine modSp_frame (sub_trans ?_ hm) ?_; decide)
theorem protEvent_frame {M : Nat} {z0 : State} {s : State} (hm : 0x80040970000000 &&& M = 0x80040970000000)
    (hz : Frame M z0 s) : Frame M z0 (protEvent s) := by
  unfold protEvent
  repeat' first
    | with_reducible assumption
    | (with_reducible refine frame_lit ?_ ?_; rotate_left; (fail_if_success with_reducible exact Frame.refl _)
                      constructor <;> first | exact fun _ => rfl | exact fun h => absurd (bit_of_sub hm h) (by decide))
    | with_reducible refine frame_ite (fun _ => ?_) (fun _ => ?_)
    | (with_reducible refine raise_frame (sub_trans ?_ hm) ?_; decide)
    | split
theorem addDebt_frame {M : Nat} {z0 : State} {s : State} {d : Nat} {n : Nat}
    (hm : 0x80000000000000 &&& M = 0x80000000000000)
    (hz : Frame M z0 s) : Frame M z0 (addDebt s d n) := by
  unfold addDebt
  repeat' first
    | with_reducible assumption
    | (with_reducible refine frame_lit ?_ ?_; rotate_left; (fail_if_success with_reducible exact Frame.refl _)
                      constructor <;> first | exact fun _ => rfl | exact fun h => absurd (bit_of_sub hm h) (by decide))
    | with_reducible refine frame_ite (fun _ => ?_) (fun _ => ?_)
    | split
    | dsimp only
theorem lagAll_frame {M : Nat} {z0 : State} {s : State} (hm : 0x400000000000 &&& M = 0x400000000000)
    (hz : Frame M z0 s) : Frame M z0 (lagAll s) := by
  unfold lagAll
  repeat' first
    | with_reducible assumption
    | (with_reducible refine frame_lit ?_ ?_; rotate_left; (fail_if_success with_reducible exact Frame.refl _)
                      constructor <;> first | exact fun _ => rfl | exact fun h => absurd (bit_of_sub hm h) (by decide))
    | with_reducible refine frame_ite (fun _ => ?_) (fun _ => ?_)
    | split
theorem classP_frame {M : Nat} {z0 : State} {s : State} (hm : 0x800400000000000 &&& M = 0x800400000000000)
    (hz : Frame M z0 s) : Frame M z0 (classP s) := by
  unfold classP
  repeat' first
    | with_reducible assumption
    | (with_reducible refine frame_lit ?_ ?_; rotate_left; (fail_if_success with_reducible exact Frame.refl _)
                      constructor <;> first | exact fun _ => rfl | exact fun h => absurd (bit_of_sub hm h) (by decide))
    | with_reducible refine frame_ite (fun _ => ?_) (fun _ => ?_)
    | (with_reducible refine lagAll_frame (sub_trans ?_ hm) ?_; decide)
    | split
theorem assignRoles_frame {M : Nat} {z0 : State} {s : State} {d : Nat} (hm : 0xc00 &&& M = 0xc00)
    (hz : Frame M z0 s) : Frame M z0 (assignRoles s d) := by
  unfold assignRoles
  repeat' first
    | with_reducible assumption
    | (with_reducible refine frame_lit ?_ ?_; rotate_left; (fail_if_success with_reducible exact Frame.refl _)
                      constructor <;> first | exact fun _ => rfl | exact fun h => absurd (bit_of_sub hm h) (by decide))
theorem phasesOff_frame {M : Nat} {z0 : State} {s : State} {d : Nat} (hm : 0xd00 &&& M = 0xd00)
    (hz : Frame M z0 s) : Frame M z0 (phasesOff s d) := by
  unfold phasesOff
  repeat' first
    | with_reducible assumption
    | (with_reducible refine frame_lit ?_ ?_; rotate_left; (fail_if_success with_reducible exact Frame.refl _)
                      constructor <;> first | exact fun _ => rfl | exact fun h => absurd (bit_of_sub hm h) (by decide))
theorem startSheaf_frame {M : Nat} {z0 : State} {s : State} {d : Nat} (hm : 0xf80 &&& M = 0xf80)
    (hz : Frame M z0 s) : Frame M z0 (startSheaf s d) := by
  unfold startSheaf
  repeat' first
    | with_reducible assumption
    | (with_reducible refine frame_lit ?_ ?_; rotate_left; (fail_if_success with_reducible exact Frame.refl _)
                      constructor <;> first | exact fun _ => rfl | exact fun h => absurd (bit_of_sub hm h) (by decide))
    | with_reducible refine frame_ite (fun _ => ?_) (fun _ => ?_)
    | (with_reducible refine assignRoles_frame (sub_trans ?_ hm) ?_; decide)
    | (with_reducible refine settleToken_frame (sub_trans ?_ hm) ?_; decide)
    | (with_reducible refine reseedB_frame (sub_trans ?_ hm) ?_; decide)
    | (with_reducible refine modShr_frame (sub_trans ?_ hm) ?_; decide)
    | (with_reducible refine modShw_frame (sub_trans ?_ hm) ?_; decide)
    | (with_reducible refine modShf_frame (sub_trans ?_ hm) ?_; decide)
    | split
    | dsimp only
theorem restartSheaf_frame {M : Nat} {z0 : State} {s : State} {d : Nat} (hm : 0x80 &&& M = 0x80)
    (hz : Frame M z0 s) : Frame M z0 (restartSheaf s d) := by
  unfold restartSheaf
  repeat' first
    | with_reducible assumption
    | with_reducible refine reseedB_frame hm ?_
    | with_reducible refine modShf_frame hm ?_
theorem stopSheaf_frame {M : Nat} {z0 : State} {s : State} {d : Nat} (hm : 0xd80 &&& M = 0xd80)
    (hz : Frame M z0 s) : Frame M z0 (stopSheaf s d) := by
  unfold stopSheaf
  repeat' first
    | with_reducible assumption
    | (with_reducible refine phasesOff_frame (sub_trans ?_ hm) ?_; decide)
    | (with_reducible refine modShw_frame (sub_trans ?_ hm) ?_; decide)
    | (with_reducible refine modShf_frame (sub_trans ?_ hm) ?_; decide)
    | split
theorem fireOver_frame {M : Nat} {z0 : State} {s : State} {d : Nat} (hm : 0xf00 &&& M = 0xf00)
    (hz : Frame M z0 s) : Frame M z0 (fireOver s d) := by
  unfold fireOver
  repeat' first
    | with_reducible assumption
    | (with_reducible refine frame_lit ?_ ?_; rotate_left; (fail_if_success with_reducible exact Frame.refl _)
                      constructor <;> first | exact fun _ => rfl | exact fun h => absurd (bit_of_sub hm h) (by decide))
    | with_reducible refine frame_ite (fun _ => ?_) (fun _ => ?_)
    | (with_reducible refine settleToken_frame (sub_trans ?_ hm) ?_; decide)
    | (with_reducible refine modPhw_frame (sub_trans ?_ hm) ?_; decide)
    | (with_reducible refine modPh_frame (sub_trans ?_ hm) ?_; decide)
    | (with_reducible refine modShr_frame (sub_trans ?_ hm) ?_; decide)
    | (with_reducible refine modShw_frame (sub_trans ?_ hm) ?_; decide)
    | split
    | dsimp only
theorem leaveFire_frame {M : Nat} {z0 : State} {s : State} {d : Nat} {k : Nat} (hm : 0xf00 &&& M = 0xf00)
    (hz : Frame M z0 s) : Frame M z0 (leaveFire s d k) := by
  unfold leaveFire
  repeat' first
    | with_reducible assumption
    | (with_reducible refine frame_lit ?_ ?_; rotate_left; (fail_if_success with_reducible exact Frame.refl _)
                      constructor <;> first | exact fun _ => rfl | exact fun h => absurd (bit_of_sub hm h) (by decide))
    | with_reducible refine frame_ite (fun _ => ?_) (fun _ => ?_)
    | with_reducible refine fireOver_frame hm ?_
    | (with_reducible refine modShw_frame (sub_trans ?_ hm) ?_; decide)
    | split
    | dsimp only
theorem dropNotice_frame {M : Nat} {z0 : State} {s : State} {d : Nat} (hm : 0x200000 &&& M = 0x200000)
    (hz : Frame M z0 s) : Frame M z0 (dropNotice s d) := by
  unfold dropNotice
  repeat' first
    | with_reducible assumption
    | (with_reducible refine frame_lit ?_ ?_; rotate_left; (fail_if_success with_reducible exact Frame.refl _)
                      constructor <;> first | exact fun _ => rfl | exact fun h => absurd (bit_of_sub hm h) (by decide))
    | with_reducible refine modNd_frame hm ?_
theorem leaveOn_frame {M : Nat} {z0 : State} {s : State} {d : Nat} (hm : 0x520c000 &&& M = 0x520c000)
    (hz : Frame M z0 s) : Frame M z0 (leaveOn s d) := by
  unfold leaveOn
  repeat' first
    | with_reducible assumption
    | (with_reducible refine frame_lit ?_ ?_; rotate_left; (fail_if_success with_reducible exact Frame.refl _)
                      constructor <;> first | exact fun _ => rfl | exact fun h => absurd (bit_of_sub hm h) (by decide))
    | with_reducible refine frame_ite (fun _ => ?_) (fun _ => ?_)
    | (with_reducible refine dropNotice_frame (sub_trans ?_ hm) ?_; decide)
    | (with_reducible refine modEstd_frame (sub_trans ?_ hm) ?_; decide)
    | (with_reducible refine modPd_frame (sub_trans ?_ hm) ?_; decide)
    | (with_reducible refine modGw_frame (sub_trans ?_ hm) ?_; decide)
    | (with_reducible refine modSp_frame (sub_trans ?_ hm) ?_; decide)
    | split
    | dsimp only
theorem zeroVcmd_frame {M : Nat} {z0 : State} {s : State} {d : Nat} (hm : 0x4000 &&& M = 0x4000)
    (hz : Frame M z0 s) : Frame M z0 (zeroVcmd s d) := by
  unfold zeroVcmd
  repeat' first
    | with_reducible assumption
    | with_reducible refine modSp_frame hm ?_
theorem modLa_frame {M : Nat} {z0 : State} {s : State} {l : Nat} {f : LaLoop → LaLoop} (hm : 0x8 &&& M = 0x8)
    (hz : Frame M z0 s) : Frame M z0 (modLa s l f) := by
  unfold modLa
  repeat' first
    | with_reducible assumption
    | (with_reducible refine frame_lit ?_ ?_; rotate_left; (fail_if_success with_reducible exact Frame.refl _)
                      constructor <;> first | exact fun _ => rfl | exact fun h => absurd (bit_of_sub hm h) (by decide))
theorem goDark_frame {M : Nat} {z0 : State} {s : State} {d : Nat} (hm : 0x520cf98 &&& M = 0x520cf98)
    (hz : Frame M z0 s) : Frame M z0 (goDark s d) := by
  unfold goDark
  repeat' first
    | with_reducible assumption
    | (with_reducible refine frame_lit ?_ ?_; rotate_left; (fail_if_success with_reducible exact Frame.refl _)
                      constructor <;> first | exact fun _ => rfl | exact fun h => absurd (bit_of_sub hm h) (by decide))
    | with_reducible refine frame_ite (fun _ => ?_) (fun _ => ?_)
    | (with_reducible refine modLa_frame (sub_trans ?_ hm) ?_; decide)
    | (with_reducible refine zeroVcmd_frame (sub_trans ?_ hm) ?_; decide)
    | (with_reducible refine leaveOn_frame (sub_trans ?_ hm) ?_; decide)
    | (with_reducible refine stopSheaf_frame (sub_trans ?_ hm) ?_; decide)
    | (with_reducible refine modPd_frame (sub_trans ?_ hm) ?_; decide)
    | (with_reducible refine modShr_frame (sub_trans ?_ hm) ?_; decide)
    | (with_reducible refine modGw_frame (sub_trans ?_ hm) ?_; decide)
    | (with_reducible refine setDomSt_frame (sub_trans ?_ hm) ?_; decide)
    | split
    | dsimp only
theorem darkMove_frame {M : Nat} {z0 : State} {s : State} {d : Nat} (hm : 0x88044097520cf98 &&& M = 0x88044097520cf98)
    (hz : Frame M z0 s) : Frame M z0 (darkMove s d) := by
  unfold darkMove
  repeat' first
    | with_reducible assumption
    | (with_reducible refine frame_lit ?_ ?_; rotate_left; (fail_if_success with_reducible exact Frame.refl _)
                      constructor <;> first | exact fun _ => rfl | exact fun h => absurd (bit_of_sub hm h) (by decide))
    | with_reducible refine frame_ite (fun _ => ?_) (fun _ => ?_)
    | (with_reducible refine goDark_frame (sub_trans ?_ hm) ?_; decide)
    | (with_reducible refine phasesOff_frame (sub_trans ?_ hm) ?_; decide)
    | (with_reducible refine classP_frame (sub_trans ?_ hm) ?_; decide)
    | (with_reducible refine protEvent_frame (sub_trans ?_ hm) ?_; decide)
    | (with_reducible refine modShr_frame (sub_trans ?_ hm) ?_; decide)
    | split
theorem darken_frame {M : Nat} {z0 : State} {s : State} {d : Nat} (hm : 0x8804409f520cf98 &&& M = 0x8804409f520cf98)
    (hz : Frame M z0 s) : Frame M z0 (darken s d) := by
  unfold darken
  repeat' first
    | with_reducible assumption
    | with_reducible refine frame_ite (fun _ => ?_) (fun _ => ?_)
    | (with_reducible refine darkMove_frame (sub_trans ?_ hm) ?_; decide)
    | (with_reducible refine raiseShf_frame (sub_trans ?_ hm) ?_; decide)
    | (with_reducible refine raise_frame (sub_trans ?_ hm) ?_; decide)
    | split
theorem gateDom_frame {M : Nat} {z0 : State} {s : State} {d : Nat} {slow : Bool} {retain : Bool}
    (hm : 0x522cf90 &&& M = 0x522cf90)
    (hz : Frame M z0 s) : Frame M z0 (gateDom s d slow retain).1 := by
  unfold gateDom
  repeat' first
    | with_reducible assumption
    | (with_reducible refine frame_lit ?_ ?_; rotate_left; (fail_if_success with_reducible exact Frame.refl _)
                      constructor <;> first | exact fun _ => rfl | exact fun h => absurd (bit_of_sub hm h) (by decide))
    | with_reducible refine frame_ite (fun _ => ?_) (fun _ => ?_)
    | with_reducible refine after_frame (fun _ _ => ?_) ?_
    | (with_reducible refine leaveOn_frame (sub_trans ?_ hm) ?_; decide)
    | (with_reducible refine dropNotice_frame (sub_trans ?_ hm) ?_; decide)
    | (with_reducible refine startSheaf_frame (sub_trans ?_ hm) ?_; decide)
    | (with_reducible refine followOp_frame (sub_trans ?_ hm) ?_; decide)
    | (with_reducible refine retarget_frame (sub_trans ?_ hm) ?_; decide)
    | (with_reducible refine modShr_frame (sub_trans ?_ hm) ?_; decide)
    | (with_reducible refine modGw_frame (sub_trans ?_ hm) ?_; decide)
    | (with_reducible refine modSp_frame (sub_trans ?_ hm) ?_; decide)
    | (with_reducible refine setDomSt_frame (sub_trans ?_ hm) ?_; decide)
    | split
    | dsimp only
theorem laLadder_frame {M : Nat} {z0 : State} {s : State} {l : Nat} (hm : 0x8804409f520cf98 &&& M = 0x8804409f520cf98)
    (hz : Frame M z0 s) : Frame M z0 (laLadder s l) := by
  unfold laLadder
  repeat' first
    | with_reducible assumption
    | (with_reducible refine frame_lit ?_ ?_; rotate_left; (fail_if_success with_reducible exact Frame.refl _)
                      constructor <;> first | exact fun _ => rfl | exact fun h => absurd (bit_of_sub hm h) (by decide))
    | with_reducible refine frame_ite (fun _ => ?_) (fun _ => ?_)
    | with_reducible refine darken_frame hm ?_
    | (with_reducible refine modLa_frame (sub_trans ?_ hm) ?_; decide)
    | (with_reducible refine classP_frame (sub_trans ?_ hm) ?_; decide)
    | (with_reducible refine raise_frame (sub_trans ?_ hm) ?_; decide)
    | split
    | dsimp only
theorem zeroDuty_frame {M : Nat} {z0 : State} {s : State} {l : Nat} (hm : 0xc &&& M = 0xc)
    (hz : Frame M z0 s) : Frame M z0 (zeroDuty s l) := by
  unfold zeroDuty
  repeat' first
    | with_reducible assumption
    | (with_reducible refine frame_lit ?_ ?_; rotate_left; (fail_if_success with_reducible exact Frame.refl _)
                      constructor <;> first | exact fun _ => rfl | exact fun h => absurd (bit_of_sub hm h) (by decide))
theorem wakeRun_frame {M : Nat} {z0 : State} {s : State} {d : Nat} (hm : 0x8804409f520cf9c &&& M = 0x8804409f520cf9c)
    (hz : Frame M z0 s) : Frame M z0 (wakeRun s d) := by
  unfold wakeRun
  repeat' first
    | with_reducible assumption
    | (with_reducible refine frame_lit ?_ ?_; rotate_left; (fail_if_success with_reducible exact Frame.refl _)
                      constructor <;> first | exact fun _ => rfl | exact fun h => absurd (bit_of_sub hm h) (by decide))
    | with_reducible refine frame_ite (fun _ => ?_) (fun _ => ?_)
    | (with_reducible refine zeroDuty_frame (sub_trans ?_ hm) ?_; decide)
    | (with_reducible refine laLadder_frame (sub_trans ?_ hm) ?_; decide)
    | (with_reducible refine modLa_frame (sub_trans ?_ hm) ?_; decide)
    | (with_reducible refine restartSheaf_frame (sub_trans ?_ hm) ?_; decide)
    | (with_reducible refine startSheaf_frame (sub_trans ?_ hm) ?_; decide)
    | (with_reducible refine retarget_frame (sub_trans ?_ hm) ?_; decide)
    | (with_reducible refine modGw_frame (sub_trans ?_ hm) ?_; decide)
    | (with_reducible refine modSp_frame (sub_trans ?_ hm) ?_; decide)
    | split
    | dsimp only
theorem wakeRefuse_frame {M : Nat} {z0 : State} {s : State} {d : Nat} (hm : 0x40970008000 &&& M = 0x40970008000)
    (hz : Frame M z0 s) : Frame M z0 (wakeRefuse s d) := by
  unfold wakeRefuse
  repeat' first
    | with_reducible assumption
    | (with_reducible refine modGw_frame (sub_trans ?_ hm) ?_; decide)
    | (with_reducible refine raise_frame (sub_trans ?_ hm) ?_; decide)
theorem dropWake_frame {M : Nat} {z0 : State} {s : State} {d : Nat} (hm : 0x4097000cf90 &&& M = 0x4097000cf90)
    (hz : Frame M z0 s) : Frame M z0 (dropWake s d) := by
  unfold dropWake
  repeat' first
    | with_reducible assumption
    | (with_reducible refine frame_lit ?_ ?_; rotate_left; (fail_if_success with_reducible exact Frame.refl _)
                      constructor <;> first | exact fun _ => rfl | exact fun h => absurd (bit_of_sub hm h) (by decide))
    | with_reducible refine frame_ite (fun _ => ?_) (fun _ => ?_)
    | (with_reducible refine wakeRefuse_frame (sub_trans ?_ hm) ?_; decide)
    | (with_reducible refine retarget_frame (sub_trans ?_ hm) ?_; decide)
    | (with_reducible refine modGw_frame (sub_trans ?_ hm) ?_; decide)
    | (with_reducible refine setDomSt_frame (sub_trans ?_ hm) ?_; decide)
    | split
    | dsimp only
theorem wakeForce_frame {M : Nat} {z0 : State} {s : State} {d : Nat}
    (hm : 0x8804409f520cf9c &&& M = 0x8804409f520cf9c)
    (hz : Frame M z0 s) : Frame M z0 (wakeForce s d) := by
  unfold wakeForce
  repeat' first
    | with_reducible assumption
    | (with_reducible refine frame_lit ?_ ?_; rotate_left; (fail_if_success with_reducible exact Frame.refl _)
                      constructor <;> first | exact fun _ => rfl | exact fun h => absurd (bit_of_sub hm h) (by decide))
    | with_reducible refine wakeRun_frame hm ?_
    | (with_reducible refine modGw_frame (sub_trans ?_ hm) ?_; decide)
    | (with_reducible refine raise_frame (sub_trans ?_ hm) ?_; decide)
    | dsimp only
theorem wakeStart_frame {M : Nat} {z0 : State} {s : State} {d : Nat} {slow : Bool} {dl : Nat} {b : Nat}
    (hm : 0x8804409f520cf9c &&& M = 0x8804409f520cf9c)
    (hz : Frame M z0 s) : Frame M z0 (wakeStart s d slow dl b) := by
  unfold wakeStart
  repeat' first
    | with_reducible assumption
    | (with_reducible refine frame_lit ?_ ?_; rotate_left; (fail_if_success with_reducible exact Frame.refl _)
                      constructor <;> first | exact fun _ => rfl | exact fun h => absurd (bit_of_sub hm h) (by decide))
    | with_reducible refine frame_ite (fun _ => ?_) (fun _ => ?_)
    | with_reducible refine wakeForce_frame hm ?_
    | with_reducible refine wakeRun_frame hm ?_
    | (with_reducible refine modPd_frame (sub_trans ?_ hm) ?_; decide)
    | (with_reducible refine modGw_frame (sub_trans ?_ hm) ?_; decide)
    | (with_reducible refine modSp_frame (sub_trans ?_ hm) ?_; decide)
    | (with_reducible refine setDomSt_frame (sub_trans ?_ hm) ?_; decide)
    | split
    | dsimp only
theorem wakeDom_frame {M : Nat} {z0 : State} {s : State} {d : Nat} {slow : Bool} {dl : Nat} {b : Nat}
    (hm : 0x8804409f522cf9c &&& M = 0x8804409f522cf9c)
    (hz : Frame M z0 s) : Frame M z0 (wakeDom s d slow dl b).1 := by
  unfold wakeDom
  repeat' first
    | with_reducible assumption
    | (with_reducible refine frame_lit ?_ ?_; rotate_left; (fail_if_success with_reducible exact Frame.refl _)
                      constructor <;> first | exact fun _ => rfl | exact fun h => absurd (bit_of_sub hm h) (by decide))
    | with_reducible refine frame_ite (fun _ => ?_) (fun _ => ?_)
    | (with_reducible refine wakeStart_frame (sub_trans ?_ hm) ?_; decide)
    | (with_reducible refine wakeRefuse_frame (sub_trans ?_ hm) ?_; decide)
    | (with_reducible refine followOp_frame (sub_trans ?_ hm) ?_; decide)
    | (with_reducible refine modGw_frame (sub_trans ?_ hm) ?_; decide)
    | (with_reducible refine modSp_frame (sub_trans ?_ hm) ?_; decide)
    | split
    | dsimp only
theorem serviceStop_frame {M : Nat} {z0 : State} {s : State} (hm : 0x4097522cf90 &&& M = 0x4097522cf90)
    (hz : Frame M z0 s) : Frame M z0 (serviceStop s) := by
  unfold serviceStop
  repeat' first
    | with_reducible assumption
    | with_reducible refine frame_ite (fun _ => ?_) (fun _ => ?_)
    | with_reducible refine frame_foldl (fun _ _ _ => ?_) ?_
    | with_reducible refine frame_foldl_fst (fun _ _ _ => ?_) ?_
    | (with_reducible refine dropWake_frame (sub_trans ?_ hm) ?_; decide)
    | (with_reducible refine gateDom_frame (sub_trans ?_ hm) ?_; decide)
    | split
    | dsimp only
theorem supplyLost_frame {M : Nat} {z0 : State} {s : State} (hm : 0x800000000 &&& M = 0x800000000)
    (hz : Frame M z0 s) : Frame M z0 (supplyLost s) := by
  unfold supplyLost
  repeat' first
    | with_reducible assumption
    | (with_reducible refine frame_lit ?_ ?_; rotate_left; (fail_if_success with_reducible exact Frame.refl _)
                      constructor <;> first | exact fun _ => rfl | exact fun h => absurd (bit_of_sub hm h) (by decide))
    | with_reducible refine frame_ite (fun _ => ?_) (fun _ => ?_)
theorem ladderUpdate_frame {M : Nat} {z0 : State} {s : State} {d : Nat}
    (hm : 0x8804409f522cf98 &&& M = 0x8804409f522cf98)
    (hz : Frame M z0 s) : Frame M z0 (ladderUpdate s d) := by
  unfold ladderUpdate
  repeat' first
    | with_reducible assumption
    | (with_reducible refine frame_lit ?_ ?_; rotate_left; (fail_if_success with_reducible exact Frame.refl _)
                      constructor <;> first | exact fun _ => rfl | exact fun h => absurd (bit_of_sub hm h) (by decide))
    | with_reducible refine frame_ite (fun _ => ?_) (fun _ => ?_)
    | (with_reducible refine serviceStop_frame (sub_trans ?_ hm) ?_; decide)
    | (with_reducible refine darken_frame (sub_trans ?_ hm) ?_; decide)
    | (with_reducible refine classP_frame (sub_trans ?_ hm) ?_; decide)
    | (with_reducible refine modShr_frame (sub_trans ?_ hm) ?_; decide)
    | (with_reducible refine raiseShf_frame (sub_trans ?_ hm) ?_; decide)
    | split
    | dsimp only
theorem excludePh_frame {M : Nat} {z0 : State} {s : State} {p : Nat} {cause : Nat}
    (hm : 0x8804409f522cf98 &&& M = 0x8804409f522cf98)
    (hz : Frame M z0 s) : Frame M z0 (excludePh s p cause) := by
  unfold excludePh
  repeat' first
    | with_reducible assumption
    | (with_reducible refine frame_lit ?_ ?_; rotate_left; (fail_if_success with_reducible exact Frame.refl _)
                      constructor <;> first | exact fun _ => rfl | exact fun h => absurd (bit_of_sub hm h) (by decide))
    | with_reducible refine frame_ite (fun _ => ?_) (fun _ => ?_)
    | with_reducible refine ladderUpdate_frame hm ?_
    | (with_reducible refine supplyLost_frame (sub_trans ?_ hm) ?_; decide)
    | (with_reducible refine leaveFire_frame (sub_trans ?_ hm) ?_; decide)
    | (with_reducible refine passToken_frame (sub_trans ?_ hm) ?_; decide)
    | (with_reducible refine modPhw_frame (sub_trans ?_ hm) ?_; decide)
    | (with_reducible refine modPh_frame (sub_trans ?_ hm) ?_; decide)
    | (with_reducible refine modShr_frame (sub_trans ?_ hm) ?_; decide)
    | (with_reducible refine modShw_frame (sub_trans ?_ hm) ?_; decide)
    | (with_reducible refine raiseShf_frame (sub_trans ?_ hm) ?_; decide)
    | split
    | dsimp only
theorem heldAct_frame {M : Nat} {z0 : State} {s : State} {d : Nat} {a : HeldAct}
    (hm : 0x8804409f522cf9c &&& M = 0x8804409f522cf9c)
    (hz : Frame M z0 s) : Frame M z0 (heldAct s d a) := by
  unfold heldAct
  repeat' first
    | with_reducible assumption
    | with_reducible refine wakeDom_frame hm ?_
    | (with_reducible refine gateDom_frame (sub_trans ?_ hm) ?_; decide)
    | split
theorem modBm_frame {M : Nat} {z0 : State} {s : State} {m : Fin 4} {f : Bm → Bm} (hm : 0x2 &&& M = 0x2)
    (hz : Frame M z0 s) : Frame M z0 (modBm s m f) := by
  unfold modBm
  repeat' first
    | with_reducible assumption
    | (with_reducible refine frame_lit ?_ ?_; rotate_left; (fail_if_success with_reducible exact Frame.refl _)
                      constructor <;> first | exact fun _ => rfl | exact fun h => absurd (bit_of_sub hm h) (by decide))
theorem modEpp_frame {M : Nat} {z0 : State} {s : State} {c : Fin 16} {f : Epp → Epp} (hm : 0x4 &&& M = 0x4)
    (hz : Frame M z0 s) : Frame M z0 (modEpp s c f) := by
  unfold modEpp
  repeat' first
    | with_reducible assumption
    | (with_reducible refine frame_lit ?_ ?_; rotate_left; (fail_if_success with_reducible exact Frame.refl _)
                      constructor <;> first | exact fun _ => rfl | exact fun h => absurd (bit_of_sub hm h) (by decide))
theorem afterLeave_frame {M : Nat} {z0 : State} {s : State} {wasRun : Bool}
    (hm : 0x80044097522cf90 &&& M = 0x80044097522cf90)
    (hz : Frame M z0 s) : Frame M z0 (afterLeave s wasRun) := by
  unfold afterLeave
  repeat' first
    | with_reducible assumption
    | (with_reducible refine frame_lit ?_ ?_; rotate_left; (fail_if_success with_reducible exact Frame.refl _)
                      constructor <;> first | exact fun _ => rfl | exact fun h => absurd (bit_of_sub hm h) (by decide))
    | with_reducible refine frame_ite (fun _ => ?_) (fun _ => ?_)
    | (with_reducible refine serviceStop_frame (sub_trans ?_ hm) ?_; decide)
    | (with_reducible refine classP_frame (sub_trans ?_ hm) ?_; decide)
    | split
    | dsimp only
theorem aonRise_frame {M : Nat} {z0 : State} {s : State} (hm : 0x80000cf90 &&& M = 0x80000cf90)
    (hz : Frame M z0 s) : Frame M z0 (aonRise s) := by
  unfold aonRise
  extract_lets t g u
  have ht : Frame M z0 t := zeroVcmd_frame (sub_trans (by decide) hm) (startSheaf_frame (sub_trans (by decide) hm)
    (modShw_frame (sub_trans (by decide) hm) hz))
  clear_value t
  have hu : Frame M z0 u := setDomSt_frame (sub_trans (by decide) hm) (ht.trans (by
    constructor <;> first | exact fun h => absurd (bit_of_sub hm h) (by decide) | exact fun _ => rfl))
  exact retarget_frame (sub_trans (by decide) hm) hu
theorem bmStart_frame {M : Nat} {z0 : State} {s : State} {m : Fin 4} {mode : Nat} (hm : 0x2 &&& M = 0x2)
    (hz : Frame M z0 s) : Frame M z0 (bmStart s m mode) := by
  unfold bmStart
  repeat' first
    | with_reducible assumption
    | with_reducible refine modBm_frame hm ?_
theorem effBmModeRun_frame {M : Nat} {z0 : State} {m : Fin 4} {s : State} (hm : 0x2 &&& M = 0x2)
    (hz : Frame M z0 s) : Frame M z0 (effBmModeRun m s) := by
  unfold effBmModeRun
  repeat' first
    | with_reducible assumption
    | with_reducible refine frame_ite (fun _ => ?_) (fun _ => ?_)
    | with_reducible refine bmStart_frame hm ?_
    | with_reducible refine modBm_frame hm ?_
    | split
theorem execBmModeRun_frame {M : Nat} {z0 : State} {m : Fin 4} {s : State} (hm : 0x2 &&& M = 0x2)
    (hz : Frame M z0 s) : Ends M z0 (execBmModeRun m s) := bus_frame (fun _ h => effBmModeRun_frame hm h) hz
theorem effBmModePilot_frame {M : Nat} {z0 : State} {m : Fin 4} {s : State}
    (hm : 0x80044097522cf92 &&& M = 0x80044097522cf92)
    (hz : Frame M z0 s) : Frame M z0 (effBmModePilot m s) := by
  unfold effBmModePilot
  repeat' first
    | with_reducible assumption
    | (with_reducible refine frame_lit ?_ ?_; rotate_left; (fail_if_success with_reducible exact Frame.refl _)
                      constructor <;> first | exact fun _ => rfl | exact fun h => absurd (bit_of_sub hm h) (by decide))
    | with_reducible refine frame_ite (fun _ => ?_) (fun _ => ?_)
    | (with_reducible refine bmStart_frame (sub_trans ?_ hm) ?_; decide)
    | (with_reducible refine afterLeave_frame (sub_trans ?_ hm) ?_; decide)
    | (with_reducible refine modBm_frame (sub_trans ?_ hm) ?_; decide)
    | split
    | dsimp only
theorem execBmModePilot_frame {M : Nat} {z0 : State} {m : Fin 4} {s : State}
    (hm : 0x80044097522cf92 &&& M = 0x80044097522cf92)
    (hz : Frame M z0 s) : Ends M z0 (execBmModePilot m s) := by
  unfold execBmModePilot
  repeat' first
    | with_reducible assumption
    | with_reducible refine effBmModePilot_frame hm ?_
    | with_reducible refine bus_frame (fun _ _ => ?_) ?_
theorem effBmModeOff_frame {M : Nat} {z0 : State} {m : Fin 4} {s : State}
    (hm : 0x80044097522cf92 &&& M = 0x80044097522cf92)
    (hz : Frame M z0 s) : Frame M z0 (effBmModeOff m s) := by
  unfold effBmModeOff
  repeat' first
    | with_reducible assumption
    | (with_reducible refine frame_lit ?_ ?_; rotate_left; (fail_if_success with_reducible exact Frame.refl _)
                      constructor <;> first | exact fun _ => rfl | exact fun h => absurd (bit_of_sub hm h) (by decide))
    | (with_reducible refine afterLeave_frame (sub_trans ?_ hm) ?_; decide)
    | (with_reducible refine modBm_frame (sub_trans ?_ hm) ?_; decide)
    | split
    | dsimp only
theorem execBmModeOff_frame {M : Nat} {z0 : State} {m : Fin 4} {s : State}
    (hm : 0x80044097522cf92 &&& M = 0x80044097522cf92)
    (hz : Frame M z0 s) : Ends M z0 (execBmModeOff m s) := by
  unfold execBmModeOff
  repeat' first
    | with_reducible assumption
    | with_reducible refine effBmModeOff_frame hm ?_
    | with_reducible refine bus_frame (fun _ _ => ?_) ?_
theorem effBmStartingEnd_frame {M : Nat} {z0 : State} {m : Fin 4} {s : State} (hm : 0x80000cf92 &&& M = 0x80000cf92)
    (hz : Frame M z0 s) : Frame M z0 (effBmStartingEnd m s) := by
  unfold effBmStartingEnd
  repeat' first
    | with_reducible assumption
    | with_reducible refine frame_ite (fun _ => ?_) (fun _ => ?_)
    | (with_reducible refine aonRise_frame (sub_trans ?_ hm) ?_; decide)
    | (with_reducible refine modBm_frame (sub_trans ?_ hm) ?_; decide)
theorem execBmStartingEnd_frame {M : Nat} {z0 : State} {m : Fin 4} {s : State} (hm : 0x80000cf92 &&& M = 0x80000cf92)
    (hz : Frame M z0 s) : Ends M z0 (execBmStartingEnd m s) := by
  unfold execBmStartingEnd
  repeat' first
    | with_reducible assumption
    | with_reducible refine effBmStartingEnd_frame hm ?_
    | with_reducible refine awake_frame (fun _ _ => ?_) ?_
theorem bootNext_frame {M : Nat} {z0 : State} {s : State} {m : Fin 4} (hm : 0x800000002 &&& M = 0x800000002)
    (hz : Frame M z0 s) : Frame M z0 (bootNext s m) := by
  unfold bootNext
  repeat' first
    | with_reducible assumption
    | (with_reducible refine frame_lit ?_ ?_; rotate_left; (fail_if_success with_reducible exact Frame.refl _)
                      constructor <;> first | exact fun _ => rfl | exact fun h => absurd (bit_of_sub hm h) (by decide))
    | (with_reducible refine bmStart_frame (sub_trans ?_ hm) ?_; decide)
    | split
theorem effBmFault_frame {M : Nat} {z0 : State} {m : Fin 4} {cause : Nat} {iout : Int} {s : State}
    (hm : 0x80044097522cf92 &&& M = 0x80044097522cf92)
    (hz : Frame M z0 s) : Frame M z0 (effBmFault m cause iout s) := by
  unfold effBmFault
  repeat' first
    | with_reducible assumption
    | (with_reducible refine frame_lit ?_ ?_; rotate_left; (fail_if_success with_reducible exact Frame.refl _)
                      constructor <;> first | exact fun _ => rfl | exact fun h => absurd (bit_of_sub hm h) (by decide))
    | with_reducible refine frame_ite (fun _ => ?_) (fun _ => ?_)
    | (with_reducible refine bootNext_frame (sub_trans ?_ hm) ?_; decide)
    | (with_reducible refine afterLeave_frame (sub_trans ?_ hm) ?_; decide)
    | (with_reducible refine modBm_frame (sub_trans ?_ hm) ?_; decide)
    | (with_reducible refine raise_frame (sub_trans ?_ hm) ?_; decide)
    | split
    | dsimp only
theorem execBmFault_frame {M : Nat} {z0 : State} {m : Fin 4} {x : BmTrip} {s : State}
    (hm : 0x80044097522cf92 &&& M = 0x80044097522cf92)
    (hz : Frame M z0 s) : Ends M z0 (execBmFault m x s) := by
  unfold execBmFault
  repeat' first
    | with_reducible assumption
    | with_reducible refine effBmFault_frame hm ?_
    | with_reducible refine awake_frame (fun _ _ => ?_) ?_
theorem execBmClrcnt_frame {M : Nat} {z0 : State} {m : Fin 4} {s : State} (hm : 0x2 &&& M = 0x2)
    (hz : Frame M z0 s) : Ends M z0 (execBmClrcnt m s) := bus_frame (fun _ h => modBm_frame hm h) hz
theorem execClrmm_frame {M : Nat} {z0 : State} {s : State} (hm : 0x1 &&& M = 0x1)
    (hz : Frame M z0 s) : Ends M z0 (execClrmm s) := by
  unfold execClrmm
  repeat' first
    | with_reducible assumption
    | (with_reducible refine frame_lit ?_ ?_; rotate_left; (fail_if_success with_reducible exact Frame.refl _)
                      constructor <;> first | exact fun _ => rfl | exact fun h => absurd (bit_of_sub hm h) (by decide))
    | with_reducible refine frame_ite (fun _ => ?_) (fun _ => ?_)
    | with_reducible refine bus_frame (fun _ _ => ?_) ?_
theorem laReturn_frame {M : Nat} {z0 : State} {s : State} {d : Nat} (hm : 0x8804409f522cf9c &&& M = 0x8804409f522cf9c)
    (hz : Frame M z0 s) : Frame M z0 (laReturn s d) := by
  unfold laReturn
  repeat' first
    | with_reducible assumption
    | (with_reducible refine frame_lit ?_ ?_; rotate_left; (fail_if_success with_reducible exact Frame.refl _)
                      constructor <;> first | exact fun _ => rfl | exact fun h => absurd (bit_of_sub hm h) (by decide))
    | with_reducible refine frame_ite (fun _ => ?_) (fun _ => ?_)
    | with_reducible refine frame_foldl (fun _ _ _ => ?_) ?_
    | with_reducible refine heldAct_frame hm ?_
    | (with_reducible refine laLadder_frame (sub_trans ?_ hm) ?_; decide)
    | (with_reducible refine followHeld_frame (sub_trans ?_ hm) ?_; decide)
    | (with_reducible refine modGw_frame (sub_trans ?_ hm) ?_; decide)
    | (with_reducible refine setDomSt_frame (sub_trans ?_ hm) ?_; decide)
    | split
    | dsimp only
theorem effEppEnWrite_frame {M : Nat} {z0 : State} {c : Fin 16} {en : Bool} {s : State}
    (hm : 0x8804409f520cf9c &&& M = 0x8804409f520cf9c)
    (hz : Frame M z0 s) : Frame M z0 (effEppEnWrite c en s) := by
  unfold effEppEnWrite
  repeat' first
    | with_reducible assumption
    | (with_reducible refine frame_lit ?_ ?_; rotate_left; (fail_if_success with_reducible exact Frame.refl _)
                      constructor <;> first | exact fun _ => rfl | exact fun h => absurd (bit_of_sub hm h) (by decide))
    | with_reducible refine frame_ite (fun _ => ?_) (fun _ => ?_)
    | (with_reducible refine modEpp_frame (sub_trans ?_ hm) ?_; decide)
    | (with_reducible refine laLadder_frame (sub_trans ?_ hm) ?_; decide)
    | split
    | dsimp only
theorem execEppEnWrite_frame {M : Nat} {z0 : State} {c : Fin 16} {en : Bool} {s : State}
    (hm : 0x8804409f520cf9c &&& M = 0x8804409f520cf9c)
    (hz : Frame M z0 s) : Ends M z0 (execEppEnWrite c en s) := by
  unfold execEppEnWrite
  repeat' first
    | with_reducible assumption
    | with_reducible refine effEppEnWrite_frame hm ?_
    | with_reducible refine bus_frame (fun _ _ => ?_) ?_
theorem execEppClrcnt_frame {M : Nat} {z0 : State} {c : Fin 16} {s : State} (hm : 0x4 &&& M = 0x4)
    (hz : Frame M z0 s) : Ends M z0 (execEppClrcnt c s) := bus_frame (fun _ h => modEpp_frame hm h) hz
theorem effEppDutyUpdate_frame {M : Nat} {z0 : State} {l : Fin 4} {vsns : Int} {isns : List Int} {s : State}
    (hm : 0xc &&& M = 0xc)
    (hz : Frame M z0 s) : Frame M z0 (effEppDutyUpdate l vsns isns s) := by
  unfold effEppDutyUpdate
  repeat' first
    | with_reducible assumption
    | (with_reducible refine frame_lit ?_ ?_; rotate_left; (fail_if_success with_reducible exact Frame.refl _)
                      constructor <;> first | exact fun _ => rfl | exact fun h => absurd (bit_of_sub hm h) (by decide))
    | with_reducible refine zeroDuty_frame hm ?_
    | split
theorem execEppDutyUpdate_frame {M : Nat} {z0 : State} {l : Fin 4} {vsns : Int} {isns : List Int} {s : State}
    (hm : 0xc &&& M = 0xc)
    (hz : Frame M z0 s) : Ends M z0 (execEppDutyUpdate l vsns isns s) := live_frame
        (fun _ h => effEppDutyUpdate_frame hm h) hz
theorem effEppOutOfService_frame {M : Nat} {z0 : State} {c : Fin 16} {tflt : Bool} {s : State}
    (hm : 0x8804409f520cf9c &&& M = 0x8804409f520cf9c)
    (hz : Frame M z0 s) : Frame M z0 (effEppOutOfService c tflt s) := by
  unfold effEppOutOfService
  repeat' first
    | with_reducible assumption
    | (with_reducible refine frame_lit ?_ ?_; rotate_left; (fail_if_success with_reducible exact Frame.refl _)
                      constructor <;> first | exact fun _ => rfl | exact fun h => absurd (bit_of_sub hm h) (by decide))
    | with_reducible refine frame_ite (fun _ => ?_) (fun _ => ?_)
    | (with_reducible refine modEpp_frame (sub_trans ?_ hm) ?_; decide)
    | (with_reducible refine laLadder_frame (sub_trans ?_ hm) ?_; decide)
    | (with_reducible refine raise_frame (sub_trans ?_ hm) ?_; decide)
    | split
    | dsimp only
theorem execEppOutOfService_frame {M : Nat} {z0 : State} {c : Fin 16} {tflt : Bool} {s : State}
    (hm : 0x8804409f520cf9c &&& M = 0x8804409f520cf9c)
    (hz : Frame M z0 s) : Ends M z0 (execEppOutOfService c tflt s) := by
  unfold execEppOutOfService
  repeat' first
    | with_reducible assumption
    | with_reducible refine effEppOutOfService_frame hm ?_
    | with_reducible refine awake_frame (fun _ _ => ?_) ?_

end Sys2Proof.Machine
end

