-- ==== Sys2Proof/Laws/Touch2.lean ====
section
/-! SUPPORT. Which groups of State the operations of Machine/SheafLoop, Setpoint, Sharing may touch: each keeps every
frame whose set holds its own. -/

namespace Sys2Proof.Machine

theorem ripAll_frame {M : Nat} {z0 : State} {s : State} {d : Nat} {t : Nat} (hm : 0x800 &&& M = 0x800)
    (hz : Frame M z0 s) : Frame M z0 (ripAll s d t) := by
  unfold ripAll
  repeat' first
    | with_reducible assumption
    | (with_reducible refine frame_lit ?_ ?_; rotate_left; (fail_if_success with_reducible exact Frame.refl _)
                      constructor <;> first | exact fun _ => rfl | exact fun h => absurd (bit_of_sub hm h) (by decide))
theorem effVbSample_frame {M : Nat} {z0 : State} {i : Fin 93} {vb : Nat} {t : Nat} {s : State}
    (hm : 0x980 &&& M = 0x980)
    (hz : Frame M z0 s) : Frame M z0 (effVbSample i vb t s) := by
  unfold effVbSample
  repeat' first
    | with_reducible assumption
    | (with_reducible refine frame_lit ?_ ?_; rotate_left; (fail_if_success with_reducible exact Frame.refl _)
                      constructor <;> first | exact fun _ => rfl | exact fun h => absurd (bit_of_sub hm h) (by decide))
    | with_reducible refine frame_ite (fun _ => ?_) (fun _ => ?_)
    | (with_reducible refine ripAll_frame (sub_trans ?_ hm) ?_; decide)
    | (with_reducible refine modShw_frame (sub_trans ?_ hm) ?_; decide)
    | (with_reducible refine modShf_frame (sub_trans ?_ hm) ?_; decide)
    | split
    | dsimp only
theorem execVbSample_frame {M : Nat} {z0 : State} {i : Fin 93} {vb : Timed Nat} {s : State} (hm : 0x980 &&& M = 0x980)
    (hz : Frame M z0 s) : Ends M z0 (execVbSample i vb s) := by
  unfold execVbSample
  repeat' first
    | with_reducible assumption
    | with_reducible refine effVbSample_frame hm ?_
    | with_reducible refine sheafStep_frame (fun _ _ => ?_) ?_
theorem estCurrent_frame {M : Nat} {z0 : State} {s : State} {d : Nat} {isw : Int} (hm : 0x1000000 &&& M = 0x1000000)
    (hz : Frame M z0 s) : Frame M z0 (estCurrent s d isw) := by
  unfold estCurrent
  repeat' first
    | with_reducible assumption
    | (with_reducible refine frame_lit ?_ ?_; rotate_left; (fail_if_success with_reducible exact Frame.refl _)
                      constructor <;> first | exact fun _ => rfl | exact fun h => absurd (bit_of_sub hm h) (by decide))
    | with_reducible refine frame_ite (fun _ => ?_) (fun _ => ?_)
    | with_reducible refine modEstd_frame hm ?_
    | split
    | dsimp only
theorem effSwrefPeriod_frame {M : Nat} {z0 : State} {i : Fin 93} {cur : List Int} {vfly : List Nat}
    {tind : List Int} {t : Nat} {s : State} (hm : 0x1004b80 &&& M = 0x1004b80)
    (hz : Frame M z0 s) : Frame M z0 (effSwrefPeriod i cur vfly tind t s) := by
  unfold effSwrefPeriod
  repeat' first
    | with_reducible assumption
    | (with_reducible refine frame_lit ?_ ?_; rotate_left; (fail_if_success with_reducible exact Frame.refl _)
                      constructor <;> first | exact fun _ => rfl | exact fun h => absurd (bit_of_sub hm h) (by decide))
    | with_reducible refine frame_ite (fun _ => ?_) (fun _ => ?_)
    | with_reducible refine frame_foldl (fun _ _ _ => ?_) ?_
    | (with_reducible refine estCurrent_frame (sub_trans ?_ hm) ?_; decide)
    | (with_reducible refine ripAll_frame (sub_trans ?_ hm) ?_; decide)
    | (with_reducible refine settleToken_frame (sub_trans ?_ hm) ?_; decide)
    | (with_reducible refine reseedB_frame (sub_trans ?_ hm) ?_; decide)
    | (with_reducible refine modShr_frame (sub_trans ?_ hm) ?_; decide)
    | (with_reducible refine modShw_frame (sub_trans ?_ hm) ?_; decide)
    | (with_reducible refine modShf_frame (sub_trans ?_ hm) ?_; decide)
    | (with_reducible refine modSp_frame (sub_trans ?_ hm) ?_; decide)
    | split
    | dsimp only
theorem execSwrefPeriod_frame {M : Nat} {z0 : State} {i : Fin 93} {cur : Timed (List Int)} {vfly : List Nat}
    {tind : List Int} {s : State} (hm : 0x1004b80 &&& M = 0x1004b80)
    (hz : Frame M z0 s) : Ends M z0 (execSwrefPeriod i cur vfly tind s) := by
  unfold execSwrefPeriod
  repeat' first
    | with_reducible assumption
    | with_reducible refine effSwrefPeriod_frame hm ?_
    | with_reducible refine sheafStep_frame (fun _ _ => ?_) ?_
theorem effConductionIntervalStart_frame {M : Nat} {z0 : State} {i : Fin 93} {k : Fin 9} {node : Int} {t : Nat}
    {s : State} (hm : 0x900 &&& M = 0x900)
    (hz : Frame M z0 s) : Frame M z0 (effConductionIntervalStart i k node t s) := by
  unfold effConductionIntervalStart
  repeat' first
    | with_reducible assumption
    | (with_reducible refine frame_lit ?_ ?_; rotate_left; (fail_if_success with_reducible exact Frame.refl _)
                      constructor <;> first | exact fun _ => rfl | exact fun h => absurd (bit_of_sub hm h) (by decide))
    | with_reducible refine frame_ite (fun _ => ?_) (fun _ => ?_)
    | (with_reducible refine modPhw_frame (sub_trans ?_ hm) ?_; decide)
    | (with_reducible refine modShw_frame (sub_trans ?_ hm) ?_; decide)
    | split
    | dsimp only
theorem execConductionIntervalStart_frame {M : Nat} {z0 : State} {i : Fin 93} {k : Fin 9} {node : Timed Int}
    {s : State} (hm : 0x900 &&& M = 0x900)
    (hz : Frame M z0 s) : Ends M z0 (execConductionIntervalStart i k node s) := by
  unfold execConductionIntervalStart
  repeat' first
    | with_reducible assumption
    | with_reducible refine effConductionIntervalStart_frame hm ?_
    | with_reducible refine sheafStep_frame (fun _ _ => ?_) ?_
theorem effConductionIntervalEnd_frame {M : Nat} {z0 : State} {i : Fin 93} {k : Fin 9} {node : Int} {peak : Int}
    {t : Nat} {s : State} (hm : 0xf00 &&& M = 0xf00)
    (hz : Frame M z0 s) : Frame M z0 (effConductionIntervalEnd i k node peak t s) := by
  unfold effConductionIntervalEnd
  repeat' first
    | with_reducible assumption
    | (with_reducible refine frame_lit ?_ ?_; rotate_left; (fail_if_success with_reducible exact Frame.refl _)
                      constructor <;> first | exact fun _ => rfl | exact fun h => absurd (bit_of_sub hm h) (by decide))
    | with_reducible refine frame_ite (fun _ => ?_) (fun _ => ?_)
    | with_reducible refine leaveFire_frame hm ?_
    | (with_reducible refine modPhw_frame (sub_trans ?_ hm) ?_; decide)
    | split
    | dsimp only
theorem execConductionIntervalEnd_frame {M : Nat} {z0 : State} {i : Fin 93} {k : Fin 9} {node : Timed Int}
    {peak : Int} {s : State} (hm : 0xf00 &&& M = 0xf00)
    (hz : Frame M z0 s) : Ends M z0 (execConductionIntervalEnd i k node peak s) := by
  unfold execConductionIntervalEnd
  repeat' first
    | with_reducible assumption
    | with_reducible refine effConductionIntervalEnd_frame hm ?_
    | with_reducible refine sheafStep_frame (fun _ _ => ?_) ?_
theorem effLockWindowEnd_frame {M : Nat} {z0 : State} {i : Fin 93} {err : List Int} {s : State}
    (hm : 0x980 &&& M = 0x980)
    (hz : Frame M z0 s) : Frame M z0 (effLockWindowEnd i err s) := by
  unfold effLockWindowEnd
  repeat' first
    | with_reducible assumption
    | (with_reducible refine frame_lit ?_ ?_; rotate_left; (fail_if_success with_reducible exact Frame.refl _)
                      constructor <;> first | exact fun _ => rfl | exact fun h => absurd (bit_of_sub hm h) (by decide))
    | with_reducible refine frame_ite (fun _ => ?_) (fun _ => ?_)
    | with_reducible refine frame_foldl (fun _ _ _ => ?_) ?_
    | (with_reducible refine modShw_frame (sub_trans ?_ hm) ?_; decide)
    | (with_reducible refine modShf_frame (sub_trans ?_ hm) ?_; decide)
    | split
    | dsimp only
theorem execLockWindowEnd_frame {M : Nat} {z0 : State} {i : Fin 93} {err : List Int} {s : State}
    (hm : 0x980 &&& M = 0x980)
    (hz : Frame M z0 s) : Ends M z0 (execLockWindowEnd i err s) := by
  unfold execLockWindowEnd
  repeat' first
    | with_reducible assumption
    | with_reducible refine effLockWindowEnd_frame hm ?_
    | with_reducible refine sheafStep_frame (fun _ _ => ?_) ?_
theorem pilotSet_frame {M : Nat} {z0 : State} {s : State} {v : Int} (hm : 0x40800000000 &&& M = 0x40800000000)
    (hz : Frame M z0 s) : Frame M z0 (pilotSet s v) := by
  unfold pilotSet
  repeat' first
    | with_reducible assumption
    | (with_reducible refine frame_lit ?_ ?_; rotate_left; (fail_if_success with_reducible exact Frame.refl _)
                      constructor <;> first | exact fun _ => rfl | exact fun h => absurd (bit_of_sub hm h) (by decide))
    | with_reducible refine frame_ite (fun _ => ?_) (fun _ => ?_)
    | split
theorem effTrimCycleEnd_frame {M : Nat} {z0 : State} {i : Fin 93} {samp : List (Int × Int)} {idom : Int} {s : State}
    (hm : 0x40800000f80 &&& M = 0x40800000f80)
    (hz : Frame M z0 s) : Frame M z0 (effTrimCycleEnd i samp idom s) := by
  unfold effTrimCycleEnd
  repeat' first
    | with_reducible assumption
    | (with_reducible refine frame_lit ?_ ?_; rotate_left; (fail_if_success with_reducible exact Frame.refl _)
                      constructor <;> first | exact fun _ => rfl | exact fun h => absurd (bit_of_sub hm h) (by decide))
    | with_reducible refine frame_ite (fun _ => ?_) (fun _ => ?_)
    | (with_reducible refine pilotSet_frame (sub_trans ?_ hm) ?_; decide)
    | (with_reducible refine restoreShed_frame (sub_trans ?_ hm) ?_; decide)
    | (with_reducible refine reseedB_frame (sub_trans ?_ hm) ?_; decide)
    | (with_reducible refine modShw_frame (sub_trans ?_ hm) ?_; decide)
    | (with_reducible refine modShf_frame (sub_trans ?_ hm) ?_; decide)
    | split
    | dsimp only
theorem execTrimCycleEnd_frame {M : Nat} {z0 : State} {i : Fin 93} {samp : List (Int × Int)} {idom : Int}
    {s : State} (hm : 0x40800000f80 &&& M = 0x40800000f80)
    (hz : Frame M z0 s) : Ends M z0 (execTrimCycleEnd i samp idom s) := by
  unfold execTrimCycleEnd
  repeat' first
    | with_reducible assumption
    | with_reducible refine effTrimCycleEnd_frame hm ?_
    | with_reducible refine sheafStep_frame (fun _ _ => ?_) ?_
theorem effPulseSkipStart_frame {M : Nat} {z0 : State} {i : Fin 93} {s : State} (hm : 0x180 &&& M = 0x180)
    (hz : Frame M z0 s) : Frame M z0 (effPulseSkipStart i s) := by
  unfold effPulseSkipStart
  repeat' first
    | with_reducible assumption
    | (with_reducible refine frame_lit ?_ ?_; rotate_left; (fail_if_success with_reducible exact Frame.refl _)
                      constructor <;> first | exact fun _ => rfl | exact fun h => absurd (bit_of_sub hm h) (by decide))
    | with_reducible refine frame_ite (fun _ => ?_) (fun _ => ?_)
    | (with_reducible refine modShw_frame (sub_trans ?_ hm) ?_; decide)
    | (with_reducible refine modShf_frame (sub_trans ?_ hm) ?_; decide)
    | split
    | dsimp only
theorem execPulseSkipStart_frame {M : Nat} {z0 : State} {i : Fin 93} {s : State} (hm : 0x180 &&& M = 0x180)
    (hz : Frame M z0 s) : Ends M z0 (execPulseSkipStart i s) := by
  unfold execPulseSkipStart
  repeat' first
    | with_reducible assumption
    | with_reducible refine effPulseSkipStart_frame hm ?_
    | with_reducible refine sheafStep_frame (fun _ _ => ?_) ?_
theorem effPhaseShed_frame {M : Nat} {z0 : State} {i : Fin 93} {s : State} (hm : 0xf00 &&& M = 0xf00)
    (hz : Frame M z0 s) : Frame M z0 (effPhaseShed i s) := by
  unfold effPhaseShed
  repeat' first
    | with_reducible assumption
    | (with_reducible refine frame_lit ?_ ?_; rotate_left; (fail_if_success with_reducible exact Frame.refl _)
                      constructor <;> first | exact fun _ => rfl | exact fun h => absurd (bit_of_sub hm h) (by decide))
    | with_reducible refine frame_ite (fun _ => ?_) (fun _ => ?_)
    | (with_reducible refine passToken_frame (sub_trans ?_ hm) ?_; decide)
    | (with_reducible refine modPhw_frame (sub_trans ?_ hm) ?_; decide)
    | (with_reducible refine modPh_frame (sub_trans ?_ hm) ?_; decide)
    | (with_reducible refine modShr_frame (sub_trans ?_ hm) ?_; decide)
    | (with_reducible refine modShw_frame (sub_trans ?_ hm) ?_; decide)
    | split
    | dsimp only
theorem execPhaseShed_frame {M : Nat} {z0 : State} {i : Fin 93} {s : State} (hm : 0xf00 &&& M = 0xf00)
    (hz : Frame M z0 s) : Ends M z0 (execPhaseShed i s) := by
  unfold execPhaseShed
  repeat' first
    | with_reducible assumption
    | with_reducible refine effPhaseShed_frame hm ?_
    | with_reducible refine sheafStep_frame (fun _ _ => ?_) ?_
theorem effFireStart_frame {M : Nat} {z0 : State} {i : Fin 93} {node : Int} {gap : Nat} {s : State}
    (hm : 0xf80 &&& M = 0xf80)
    (hz : Frame M z0 s) : Frame M z0 (effFireStart i node gap s) := by
  unfold effFireStart
  repeat' first
    | with_reducible assumption
    | (with_reducible refine frame_lit ?_ ?_; rotate_left; (fail_if_success with_reducible exact Frame.refl _)
                      constructor <;> first | exact fun _ => rfl | exact fun h => absurd (bit_of_sub hm h) (by decide))
    | with_reducible refine frame_ite (fun _ => ?_) (fun _ => ?_)
    | with_reducible refine restoreShed_frame hm ?_
    | (with_reducible refine reseedB_frame (sub_trans ?_ hm) ?_; decide)
    | (with_reducible refine modShw_frame (sub_trans ?_ hm) ?_; decide)
    | (with_reducible refine modShf_frame (sub_trans ?_ hm) ?_; decide)
    | split
    | dsimp only
theorem execFireStart_frame {M : Nat} {z0 : State} {i : Fin 93} {node : Int} {gap : Nat} {s : State}
    (hm : 0xf80 &&& M = 0xf80)
    (hz : Frame M z0 s) : Ends M z0 (execFireStart i node gap s) := by
  unfold execFireStart
  repeat' first
    | with_reducible assumption
    | with_reducible refine effFireStart_frame hm ?_
    | with_reducible refine sheafStep_frame (fun _ _ => ?_) ?_
theorem execFirePulseLimit_frame {M : Nat} {z0 : State} {i : Fin 93} {k : Fin 9} {s : State}
    (hm : 0xf00 &&& M = 0xf00)
    (hz : Frame M z0 s) : Ends M z0 (execFirePulseLimit i k s) := by
  unfold execFirePulseLimit
  repeat' first
    | with_reducible assumption
    | with_reducible refine frame_ite (fun _ => ?_) (fun _ => ?_)
    | with_reducible refine leaveFire_frame hm ?_
    | with_reducible refine sheafStep_frame (fun _ _ => ?_) ?_
    | split
theorem effFireEnd_frame {M : Nat} {z0 : State} {i : Fin 93} {node : Int} {s : State} (hm : 0xf00 &&& M = 0xf00)
    (hz : Frame M z0 s) : Frame M z0 (effFireEnd i node s) := by
  unfold effFireEnd
  repeat' first
    | with_reducible assumption
    | (with_reducible refine frame_lit ?_ ?_; rotate_left; (fail_if_success with_reducible exact Frame.refl _)
                      constructor <;> first | exact fun _ => rfl | exact fun h => absurd (bit_of_sub hm h) (by decide))
    | with_reducible refine frame_ite (fun _ => ?_) (fun _ => ?_)
    | with_reducible refine fireOver_frame hm ?_
    | (with_reducible refine modShw_frame (sub_trans ?_ hm) ?_; decide)
    | split
theorem execFireEnd_frame {M : Nat} {z0 : State} {i : Fin 93} {node : Int} {s : State} (hm : 0xf00 &&& M = 0xf00)
    (hz : Frame M z0 s) : Ends M z0 (execFireEnd i node s) := by
  unfold execFireEnd
  repeat' first
    | with_reducible assumption
    | with_reducible refine effFireEnd_frame hm ?_
    | with_reducible refine sheafStep_frame (fun _ _ => ?_) ?_
theorem effShfCfgWrite_frame {M : Nat} {z0 : State} {i : Fin 93} {v : Word32} {s : State} (hm : 0x280 &&& M = 0x280)
    (hz : Frame M z0 s) : Frame M z0 (effShfCfgWrite i v s) := by
  unfold effShfCfgWrite
  repeat' first
    | with_reducible assumption
    | (with_reducible refine frame_lit ?_ ?_; rotate_left; (fail_if_success with_reducible exact Frame.refl _)
                      constructor <;> first | exact fun _ => rfl | exact fun h => absurd (bit_of_sub hm h) (by decide))
    | with_reducible refine frame_ite (fun _ => ?_) (fun _ => ?_)
    | (with_reducible refine modShr_frame (sub_trans ?_ hm) ?_; decide)
    | (with_reducible refine modShf_frame (sub_trans ?_ hm) ?_; decide)
    | split
    | dsimp only
theorem execShfCfgWrite_frame {M : Nat} {z0 : State} {i : Fin 93} {v : Word32} {s : State} (hm : 0x280 &&& M = 0x280)
    (hz : Frame M z0 s) : Ends M z0 (execShfCfgWrite i v s) := by
  unfold execShfCfgWrite
  repeat' first
    | with_reducible assumption
    | with_reducible refine effShfCfgWrite_frame hm ?_
    | with_reducible refine bus_frame (fun _ _ => ?_) ?_
theorem execShfClrcnt_frame {M : Nat} {z0 : State} {i : Fin 93} {s : State} (hm : 0x280 &&& M = 0x280)
    (hz : Frame M z0 s) : Ends M z0 (execShfClrcnt i s) := by
  unfold execShfClrcnt
  repeat' first
    | with_reducible assumption
    | (with_reducible refine frame_lit ?_ ?_; rotate_left; (fail_if_success with_reducible exact Frame.refl _)
                      constructor <;> first | exact fun _ => rfl | exact fun h => absurd (bit_of_sub hm h) (by decide))
    | (with_reducible refine modShr_frame (sub_trans ?_ hm) ?_; decide)
    | (with_reducible refine modShf_frame (sub_trans ?_ hm) ?_; decide)
    | with_reducible refine bus_frame (fun _ _ => ?_) ?_
theorem effSyncInLoss_frame {M : Nat} {z0 : State} {s : State} (hm : 0x40970001000 &&& M = 0x40970001000)
    (hz : Frame M z0 s) : Frame M z0 (effSyncInLoss s) := by
  unfold effSyncInLoss
  repeat' first
    | with_reducible assumption
    | (with_reducible refine frame_lit ?_ ?_; rotate_left; (fail_if_success with_reducible exact Frame.refl _)
                      constructor <;> first | exact fun _ => rfl | exact fun h => absurd (bit_of_sub hm h) (by decide))
    | with_reducible refine frame_ite (fun _ => ?_) (fun _ => ?_)
    | (with_reducible refine raise_frame (sub_trans ?_ hm) ?_; decide)
    | split
theorem execSyncInLoss_frame {M : Nat} {z0 : State} {s : State} (hm : 0x40970001000 &&& M = 0x40970001000)
    (hz : Frame M z0 s) : Ends M z0 (execSyncInLoss s) := by
  unfold execSyncInLoss
  repeat' first
    | with_reducible assumption
    | with_reducible refine effSyncInLoss_frame hm ?_
    | with_reducible refine live_frame (fun _ _ => ?_) ?_
theorem execFallbkClear_frame {M : Nat} {z0 : State} {s : State} (hm : 0x1000 &&& M = 0x1000)
    (hz : Frame M z0 s) : Ends M z0 (execFallbkClear s) := by
  unfold execFallbkClear
  repeat' first
    | with_reducible assumption
    | (with_reducible refine frame_lit ?_ ?_; rotate_left; (fail_if_success with_reducible exact Frame.refl _)
                      constructor <;> first | exact fun _ => rfl | exact fun h => absurd (bit_of_sub hm h) (by decide))
    | with_reducible refine frame_ite (fun _ => ?_) (fun _ => ?_)
    | with_reducible refine bus_frame (fun _ _ => ?_) ?_
    | split
theorem effSwrefSourceChange_frame {M : Nat} {z0 : State} {s : State} (hm : 0x1180 &&& M = 0x1180)
    (hz : Frame M z0 s) : Frame M z0 (effSwrefSourceChange s) := by
  unfold effSwrefSourceChange
  repeat' first
    | with_reducible assumption
    | (with_reducible refine frame_lit ?_ ?_; rotate_left; (fail_if_success with_reducible exact Frame.refl _)
                      constructor <;> first | exact fun _ => rfl | exact fun h => absurd (bit_of_sub hm h) (by decide))
    | with_reducible refine frame_ite (fun _ => ?_) (fun _ => ?_)
    | split
theorem execSwrefSourceChange_frame {M : Nat} {z0 : State} {s : State} (hm : 0x1180 &&& M = 0x1180)
    (hz : Frame M z0 s) : Ends M z0 (execSwrefSourceChange s) := by
  unfold execSwrefSourceChange
  repeat' first
    | with_reducible assumption
    | with_reducible refine effSwrefSourceChange_frame hm ?_
    | with_reducible refine live_frame (fun _ _ => ?_) ?_
theorem coolHeld_frame {M : Nat} {z0 : State} {s : State} {d : Nat} (hm : 0xcd00 &&& M = 0xcd00)
    (hz : Frame M z0 s) : Frame M z0 (coolHeld s d) := by
  unfold coolHeld
  repeat' first
    | with_reducible assumption
    | (with_reducible refine frame_lit ?_ ?_; rotate_left; (fail_if_success with_reducible exact Frame.refl _)
                      constructor <;> first | exact fun _ => rfl | exact fun h => absurd (bit_of_sub hm h) (by decide))
    | with_reducible refine frame_ite (fun _ => ?_) (fun _ => ?_)
    | (with_reducible refine phasesOff_frame (sub_trans ?_ hm) ?_; decide)
    | (with_reducible refine modGw_frame (sub_trans ?_ hm) ?_; decide)
    | (with_reducible refine modSp_frame (sub_trans ?_ hm) ?_; decide)
    | split
theorem holdSheaf_frame {M : Nat} {z0 : State} {s : State} {d : Nat} {frz : Bool} (hm : 0x120cf90 &&& M = 0x120cf90)
    (hz : Frame M z0 s) : Frame M z0 (holdSheaf s d frz) := by
  unfold holdSheaf
  repeat' first
    | with_reducible assumption
    | (with_reducible refine frame_lit ?_ ?_; rotate_left; (fail_if_success with_reducible exact Frame.refl _)
                      constructor <;> first | exact fun _ => rfl | exact fun h => absurd (bit_of_sub hm h) (by decide))
    | with_reducible refine frame_ite (fun _ => ?_) (fun _ => ?_)
    | (with_reducible refine coolHeld_frame (sub_trans ?_ hm) ?_; decide)
    | (with_reducible refine holdDom_frame (sub_trans ?_ hm) ?_; decide)
    | (with_reducible refine restoreShed_frame (sub_trans ?_ hm) ?_; decide)
    | (with_reducible refine modEstd_frame (sub_trans ?_ hm) ?_; decide)
    | (with_reducible refine modNd_frame (sub_trans ?_ hm) ?_; decide)
    | (with_reducible refine modShw_frame (sub_trans ?_ hm) ?_; decide)
    | (with_reducible refine modShf_frame (sub_trans ?_ hm) ?_; decide)
    | split
    | dsimp only
theorem execHoldEnter_frame {M : Nat} {z0 : State} {i : Fin 93} {s : State} (hm : 0x120cf90 &&& M = 0x120cf90)
    (hz : Frame M z0 s) : Ends M z0 (execHoldEnter i s) := by
  unfold execHoldEnter
  repeat' first
    | with_reducible assumption
    | (with_reducible refine frame_lit ?_ ?_; rotate_left; (fail_if_success with_reducible exact Frame.refl _)
                      constructor <;> first | exact fun _ => rfl | exact fun h => absurd (bit_of_sub hm h) (by decide))
    | with_reducible refine frame_ite (fun _ => ?_) (fun _ => ?_)
    | with_reducible refine holdSheaf_frame hm ?_
    | (with_reducible refine modShw_frame (sub_trans ?_ hm) ?_; decide)
    | with_reducible refine sheafStep_frame (fun _ _ => ?_) ?_
    | split
theorem unholdSheaf_frame {M : Nat} {z0 : State} {s : State} {d : Nat} (hm : 0x4000590 &&& M = 0x4000590)
    (hz : Frame M z0 s) : Frame M z0 (unholdSheaf s d) := by
  unfold unholdSheaf
  repeat' first
    | with_reducible assumption
    | (with_reducible refine frame_lit ?_ ?_; rotate_left; (fail_if_success with_reducible exact Frame.refl _)
                      constructor <;> first | exact fun _ => rfl | exact fun h => absurd (bit_of_sub hm h) (by decide))
    | with_reducible refine frame_ite (fun _ => ?_) (fun _ => ?_)
    | (with_reducible refine modPd_frame (sub_trans ?_ hm) ?_; decide)
    | (with_reducible refine modShw_frame (sub_trans ?_ hm) ?_; decide)
    | (with_reducible refine modShf_frame (sub_trans ?_ hm) ?_; decide)
    | (with_reducible refine setDomSt_frame (sub_trans ?_ hm) ?_; decide)
    | split
    | dsimp only
theorem modPend_frame {M : Nat} {z0 : State} {s : State} {d : Nat} {e : Nat} {f : Pend → Pend}
    (hm : 0x200000 &&& M = 0x200000)
    (hz : Frame M z0 s) : Frame M z0 (modPend s d e f) := by
  unfold modPend
  repeat' first
    | with_reducible assumption
    | (with_reducible refine frame_lit ?_ ?_; rotate_left; (fail_if_success with_reducible exact Frame.refl _)
                      constructor <;> first | exact fun _ => rfl | exact fun h => absurd (bit_of_sub hm h) (by decide))
    | with_reducible refine frame_ite (fun _ => ?_) (fun _ => ?_)
    | with_reducible refine modNd_frame hm ?_
    | split
theorem effNoticeRestore_frame {M : Nat} {z0 : State} {i : Fin 93} {e : Nat} {s : State}
    (hm : 0x200f80 &&& M = 0x200f80)
    (hz : Frame M z0 s) : Frame M z0 (effNoticeRestore i e s) := by
  unfold effNoticeRestore
  repeat' first
    | with_reducible assumption
    | (with_reducible refine frame_lit ?_ ?_; rotate_left; (fail_if_success with_reducible exact Frame.refl _)
                      constructor <;> first | exact fun _ => rfl | exact fun h => absurd (bit_of_sub hm h) (by decide))
    | with_reducible refine frame_ite (fun _ => ?_) (fun _ => ?_)
    | (with_reducible refine modPend_frame (sub_trans ?_ hm) ?_; decide)
    | (with_reducible refine restoreShed_frame (sub_trans ?_ hm) ?_; decide)
    | split
theorem execNoticeRestore_frame {M : Nat} {z0 : State} {i : Fin 93} {e : Nat} {s : State}
    (hm : 0x200f80 &&& M = 0x200f80)
    (hz : Frame M z0 s) : Ends M z0 (execNoticeRestore i e s) := by
  unfold execNoticeRestore
  repeat' first
    | with_reducible assumption
    | with_reducible refine effNoticeRestore_frame hm ?_
    | with_reducible refine live_frame (fun _ _ => ?_) ?_
theorem effNoticeRampStart_frame {M : Nat} {z0 : State} {i : Fin 93} {e : Nat} {t : Nat} {s : State}
    (hm : 0x200800 &&& M = 0x200800)
    (hz : Frame M z0 s) : Frame M z0 (effNoticeRampStart i e t s) := by
  unfold effNoticeRampStart
  repeat' first
    | with_reducible assumption
    | (with_reducible refine frame_lit ?_ ?_; rotate_left; (fail_if_success with_reducible exact Frame.refl _)
                      constructor <;> first | exact fun _ => rfl | exact fun h => absurd (bit_of_sub hm h) (by decide))
    | with_reducible refine frame_ite (fun _ => ?_) (fun _ => ?_)
    | (with_reducible refine modPend_frame (sub_trans ?_ hm) ?_; decide)
    | (with_reducible refine ripAll_frame (sub_trans ?_ hm) ?_; decide)
    | split
    | dsimp only
theorem execNoticeRampStart_frame {M : Nat} {z0 : State} {i : Fin 93} {e : Timed Nat} {s : State}
    (hm : 0x200800 &&& M = 0x200800)
    (hz : Frame M z0 s) : Ends M z0 (execNoticeRampStart i e s) := by
  unfold execNoticeRampStart
  repeat' first
    | with_reducible assumption
    | with_reducible refine effNoticeRampStart_frame hm ?_
    | with_reducible refine live_frame (fun _ _ => ?_) ?_
theorem effPreliftEnter_frame {M : Nat} {z0 : State} {d : Fin 128} {e : Nat} {s : State}
    (hm : 0x120cf80 &&& M = 0x120cf80)
    (hz : Frame M z0 s) : Frame M z0 (effPreliftEnter d e s) := by
  unfold effPreliftEnter
  repeat' first
    | with_reducible assumption
    | (with_reducible refine frame_lit ?_ ?_; rotate_left; (fail_if_success with_reducible exact Frame.refl _)
                      constructor <;> first | exact fun _ => rfl | exact fun h => absurd (bit_of_sub hm h) (by decide))
    | with_reducible refine frame_ite (fun _ => ?_) (fun _ => ?_)
    | (with_reducible refine modPend_frame (sub_trans ?_ hm) ?_; decide)
    | (with_reducible refine retarget_frame (sub_trans ?_ hm) ?_; decide)
    | (with_reducible refine modEstd_frame (sub_trans ?_ hm) ?_; decide)
    | split
    | dsimp only
theorem execPreliftEnter_frame {M : Nat} {z0 : State} {d : Fin 128} {e : Nat} {s : State}
    (hm : 0x120cf80 &&& M = 0x120cf80)
    (hz : Frame M z0 s) : Ends M z0 (execPreliftEnter d e s) := by
  unfold execPreliftEnter
  repeat' first
    | with_reducible assumption
    | with_reducible refine effPreliftEnter_frame hm ?_
    | with_reducible refine live_frame (fun _ _ => ?_) ?_
theorem effPreliftLeave_frame {M : Nat} {z0 : State} {d : Fin 128} {e : Nat} {s : State}
    (hm : 0x20cf80 &&& M = 0x20cf80)
    (hz : Frame M z0 s) : Frame M z0 (effPreliftLeave d e s) := by
  unfold effPreliftLeave
  repeat' first
    | with_reducible assumption
    | (with_reducible refine frame_lit ?_ ?_; rotate_left; (fail_if_success with_reducible exact Frame.refl _)
                      constructor <;> first | exact fun _ => rfl | exact fun h => absurd (bit_of_sub hm h) (by decide))
    | with_reducible refine frame_ite (fun _ => ?_) (fun _ => ?_)
    | (with_reducible refine retarget_frame (sub_trans ?_ hm) ?_; decide)
    | (with_reducible refine modNd_frame (sub_trans ?_ hm) ?_; decide)
    | split
theorem execPreliftLeave_frame {M : Nat} {z0 : State} {d : Fin 128} {e : Nat} {s : State}
    (hm : 0x20cf80 &&& M = 0x20cf80)
    (hz : Frame M z0 s) : Ends M z0 (execPreliftLeave d e s) := by
  unfold execPreliftLeave
  repeat' first
    | with_reducible assumption
    | with_reducible refine effPreliftLeave_frame hm ?_
    | with_reducible refine live_frame (fun _ _ => ?_) ?_
theorem execReversalHoldEnd_frame {M : Nat} {z0 : State} {d : Fin 128} {s : State} (hm : 0x4000 &&& M = 0x4000)
    (hz : Frame M z0 s) : Ends M z0 (execReversalHoldEnd d s) := by
  unfold execReversalHoldEnd
  repeat' first
    | with_reducible assumption
    | (with_reducible refine frame_lit ?_ ?_; rotate_left; (fail_if_success with_reducible exact Frame.refl _)
                      constructor <;> first | exact fun _ => rfl | exact fun h => absurd (bit_of_sub hm h) (by decide))
    | with_reducible refine modSp_frame hm ?_
    | with_reducible refine live_frame (fun _ _ => ?_) ?_
theorem feSettled_frame {M : Nat} {z0 : State} {s : State} {d : Nat} (hm : 0x4000 &&& M = 0x4000)
    (hz : Frame M z0 s) : Frame M z0 (feSettled s d) := by
  unfold feSettled
  repeat' first
    | with_reducible assumption
    | (with_reducible refine frame_lit ?_ ?_; rotate_left; (fail_if_success with_reducible exact Frame.refl _)
                      constructor <;> first | exact fun _ => rfl | exact fun h => absurd (bit_of_sub hm h) (by decide))
    | with_reducible refine modSp_frame hm ?_
theorem effFrequencyRaiseRequest_frame {M : Nat} {z0 : State} {d : Fin 128} {vlow : Int} {s : State}
    (hm : 0x80000000024000 &&& M = 0x80000000024000)
    (hz : Frame M z0 s) : Frame M z0 (effFrequencyRaiseRequest d vlow s) := by
  unfold effFrequencyRaiseRequest
  repeat' first
    | with_reducible assumption
    | (with_reducible refine frame_lit ?_ ?_; rotate_left; (fail_if_success with_reducible exact Frame.refl _)
                      constructor <;> first | exact fun _ => rfl | exact fun h => absurd (bit_of_sub hm h) (by decide))
    | with_reducible refine frame_ite (fun _ => ?_) (fun _ => ?_)
    | (with_reducible refine feSettled_frame (sub_trans ?_ hm) ?_; decide)
    | (with_reducible refine addDebt_frame (sub_trans ?_ hm) ?_; decide)
    | (with_reducible refine askClock_frame (sub_trans ?_ hm) ?_; decide)
    | (with_reducible refine modSp_frame (sub_trans ?_ hm) ?_; decide)
    | split
    | dsimp only
theorem execFrequencyRaiseRequest_frame {M : Nat} {z0 : State} {d : Fin 128} {vlow : Int} {s : State}
    (hm : 0x80000000024000 &&& M = 0x80000000024000)
    (hz : Frame M z0 s) : Ends M z0 (execFrequencyRaiseRequest d vlow s) := by
  unfold execFrequencyRaiseRequest
  repeat' first
    | with_reducible assumption
    | with_reducible refine effFrequencyRaiseRequest_frame hm ?_
    | with_reducible refine live_frame (fun _ _ => ?_) ?_
theorem effFrequencyLowerApplied_frame {M : Nat} {z0 : State} {d : Fin 128} {s : State} (hm : 0xcf80 &&& M = 0xcf80)
    (hz : Frame M z0 s) : Frame M z0 (effFrequencyLowerApplied d s) := by
  unfold effFrequencyLowerApplied
  repeat' first
    | with_reducible assumption
    | (with_reducible refine frame_lit ?_ ?_; rotate_left; (fail_if_success with_reducible exact Frame.refl _)
                      constructor <;> first | exact fun _ => rfl | exact fun h => absurd (bit_of_sub hm h) (by decide))
    | with_reducible refine frame_ite (fun _ => ?_) (fun _ => ?_)
    | with_reducible refine setVopCode_frame hm ?_
    | (with_reducible refine modSp_frame (sub_trans ?_ hm) ?_; decide)
    | split
    | dsimp only
theorem execFrequencyLowerApplied_frame {M : Nat} {z0 : State} {d : Fin 128} {s : State} (hm : 0xcf80 &&& M = 0xcf80)
    (hz : Frame M z0 s) : Ends M z0 (execFrequencyLowerApplied d s) := by
  unfold execFrequencyLowerApplied
  repeat' first
    | with_reducible assumption
    | with_reducible refine effFrequencyLowerApplied_frame hm ?_
    | with_reducible refine live_frame (fun _ _ => ?_) ?_
theorem effFeDeadline_frame {M : Nat} {z0 : State} {d : Fin 128} {vlow : Int} {s : State}
    (hm : 0x40970004000 &&& M = 0x40970004000)
    (hz : Frame M z0 s) : Frame M z0 (effFeDeadline d vlow s) := by
  unfold effFeDeadline
  repeat' first
    | with_reducible assumption
    | (with_reducible refine frame_lit ?_ ?_; rotate_left; (fail_if_success with_reducible exact Frame.refl _)
                      constructor <;> first | exact fun _ => rfl | exact fun h => absurd (bit_of_sub hm h) (by decide))
    | with_reducible refine frame_ite (fun _ => ?_) (fun _ => ?_)
    | (with_reducible refine feSettled_frame (sub_trans ?_ hm) ?_; decide)
    | (with_reducible refine modSp_frame (sub_trans ?_ hm) ?_; decide)
    | (with_reducible refine raise_frame (sub_trans ?_ hm) ?_; decide)
    | split
    | dsimp only
theorem execFeDeadline_frame {M : Nat} {z0 : State} {d : Fin 128} {vlow : Int} {s : State}
    (hm : 0x40970004000 &&& M = 0x40970004000)
    (hz : Frame M z0 s) : Ends M z0 (execFeDeadline d vlow s) := by
  unfold execFeDeadline
  repeat' first
    | with_reducible assumption
    | with_reducible refine effFeDeadline_frame hm ?_
    | with_reducible refine live_frame (fun _ _ => ?_) ?_
theorem effHeaderStageOpen_frame {M : Nat} {z0 : State} {d : Fin 128} {s : State} (hm : 0x8000 &&& M = 0x8000)
    (hz : Frame M z0 s) : Frame M z0 (effHeaderStageOpen d s) := by
  unfold effHeaderStageOpen
  repeat' first
    | with_reducible assumption
    | (with_reducible refine frame_lit ?_ ?_; rotate_left; (fail_if_success with_reducible exact Frame.refl _)
                      constructor <;> first | exact fun _ => rfl | exact fun h => absurd (bit_of_sub hm h) (by decide))
    | with_reducible refine frame_ite (fun _ => ?_) (fun _ => ?_)
    | with_reducible refine modGw_frame hm ?_
    | split
theorem execHeaderStageOpen_frame {M : Nat} {z0 : State} {d : Fin 128} {s : State} (hm : 0x8000 &&& M = 0x8000)
    (hz : Frame M z0 s) : Ends M z0 (execHeaderStageOpen d s) := by
  unfold execHeaderStageOpen
  repeat' first
    | with_reducible assumption
    | with_reducible refine effHeaderStageOpen_frame hm ?_
    | with_reducible refine live_frame (fun _ _ => ?_) ?_
theorem effHeaderStageClose_frame {M : Nat} {z0 : State} {d : Fin 128} {near : Bool} {ns : Nat} {s : State}
    (hm : 0x8000 &&& M = 0x8000)
    (hz : Frame M z0 s) : Frame M z0 (effHeaderStageClose d near ns s) := by
  unfold effHeaderStageClose
  repeat' first
    | with_reducible assumption
    | (with_reducible refine frame_lit ?_ ?_; rotate_left; (fail_if_success with_reducible exact Frame.refl _)
                      constructor <;> first | exact fun _ => rfl | exact fun h => absurd (bit_of_sub hm h) (by decide))
    | with_reducible refine frame_ite (fun _ => ?_) (fun _ => ?_)
    | with_reducible refine modGw_frame hm ?_
    | split
    | dsimp only
theorem execHeaderStageClose_frame {M : Nat} {z0 : State} {d : Fin 128} {near : Bool} {ns : Nat} {s : State}
    (hm : 0x8000 &&& M = 0x8000)
    (hz : Frame M z0 s) : Ends M z0 (execHeaderStageClose d near ns s) := by
  unfold execHeaderStageClose
  repeat' first
    | with_reducible assumption
    | with_reducible refine effHeaderStageClose_frame hm ?_
    | with_reducible refine live_frame (fun _ _ => ?_) ?_
theorem goOff_frame {M : Nat} {z0 : State} {s : State} {d : Nat} (hm : 0xcd98 &&& M = 0xcd98)
    (hz : Frame M z0 s) : Frame M z0 (goOff s d) := by
  unfold goOff
  repeat' first
    | with_reducible assumption
    | (with_reducible refine frame_lit ?_ ?_; rotate_left; (fail_if_success with_reducible exact Frame.refl _)
                      constructor <;> first | exact fun _ => rfl | exact fun h => absurd (bit_of_sub hm h) (by decide))
    | with_reducible refine frame_ite (fun _ => ?_) (fun _ => ?_)
    | (with_reducible refine modLa_frame (sub_trans ?_ hm) ?_; decide)
    | (with_reducible refine zeroVcmd_frame (sub_trans ?_ hm) ?_; decide)
    | (with_reducible refine stopSheaf_frame (sub_trans ?_ hm) ?_; decide)
    | (with_reducible refine modGw_frame (sub_trans ?_ hm) ?_; decide)
    | (with_reducible refine setDomSt_frame (sub_trans ?_ hm) ?_; decide)
    | split
    | dsimp only
theorem effGatingComplete_frame {M : Nat} {z0 : State} {d : Fin 128} {s : State} (hm : 0x520cf98 &&& M = 0x520cf98)
    (hz : Frame M z0 s) : Frame M z0 (effGatingComplete d s) := by
  unfold effGatingComplete
  repeat' first
    | with_reducible assumption
    | (with_reducible refine frame_lit ?_ ?_; rotate_left; (fail_if_success with_reducible exact Frame.refl _)
                      constructor <;> first | exact fun _ => rfl | exact fun h => absurd (bit_of_sub hm h) (by decide))
    | with_reducible refine frame_ite (fun _ => ?_) (fun _ => ?_)
    | (with_reducible refine goOff_frame (sub_trans ?_ hm) ?_; decide)
    | with_reducible refine goDark_frame hm ?_
    | (with_reducible refine modPd_frame (sub_trans ?_ hm) ?_; decide)
    | (with_reducible refine modGw_frame (sub_trans ?_ hm) ?_; decide)
    | (with_reducible refine setDomSt_frame (sub_trans ?_ hm) ?_; decide)
    | split
    | dsimp only
theorem enterOn_frame {M : Nat} {z0 : State} {s : State} {d : Nat} (hm : 0x402cf90 &&& M = 0x402cf90)
    (hz : Frame M z0 s) : Frame M z0 (enterOn s d) := by
  unfold enterOn
  repeat' first
    | with_reducible assumption
    | (with_reducible refine frame_lit ?_ ?_; rotate_left; (fail_if_success with_reducible exact Frame.refl _)
                      constructor <;> first | exact fun _ => rfl | exact fun h => absurd (bit_of_sub hm h) (by decide))
    | with_reducible refine frame_ite (fun _ => ?_) (fun _ => ?_)
    | (with_reducible refine retarget_frame (sub_trans ?_ hm) ?_; decide)
    | (with_reducible refine modPd_frame (sub_trans ?_ hm) ?_; decide)
    | (with_reducible refine modShr_frame (sub_trans ?_ hm) ?_; decide)
    | (with_reducible refine modGw_frame (sub_trans ?_ hm) ?_; decide)
    | (with_reducible refine modSp_frame (sub_trans ?_ hm) ?_; decide)
    | (with_reducible refine setDomSt_frame (sub_trans ?_ hm) ?_; decide)
    | split
    | dsimp only
theorem effWakeComplete_frame {M : Nat} {z0 : State} {d : Fin 128} {s : State} (hm : 0x402cf90 &&& M = 0x402cf90)
    (hz : Frame M z0 s) : Frame M z0 (effWakeComplete d s) := by
  unfold effWakeComplete
  repeat' first
    | with_reducible assumption
    | with_reducible refine frame_ite (fun _ => ?_) (fun _ => ?_)
    | with_reducible refine enterOn_frame hm ?_
    | split
    | dsimp only
theorem effReadyRise_frame {M : Nat} {z0 : State} {d : Fin 128} {s : State}
    (hm : 0x80040970008000 &&& M = 0x80040970008000)
    (hz : Frame M z0 s) : Frame M z0 (effReadyRise d s) := by
  unfold effReadyRise
  repeat' first
    | with_reducible assumption
    | (with_reducible refine frame_lit ?_ ?_; rotate_left; (fail_if_success with_reducible exact Frame.refl _)
                      constructor <;> first | exact fun _ => rfl | exact fun h => absurd (bit_of_sub hm h) (by decide))
    | with_reducible refine frame_ite (fun _ => ?_) (fun _ => ?_)
    | (with_reducible refine addDebt_frame (sub_trans ?_ hm) ?_; decide)
    | (with_reducible refine modGw_frame (sub_trans ?_ hm) ?_; decide)
    | (with_reducible refine raise_frame (sub_trans ?_ hm) ?_; decide)
    | split
    | dsimp only
theorem execReadyRise_frame {M : Nat} {z0 : State} {d : Fin 128} {s : State}
    (hm : 0x80040970008000 &&& M = 0x80040970008000)
    (hz : Frame M z0 s) : Ends M z0 (execReadyRise d s) := by
  unfold execReadyRise
  repeat' first
    | with_reducible assumption
    | with_reducible refine effReadyRise_frame hm ?_
    | with_reducible refine live_frame (fun _ _ => ?_) ?_
theorem effFirstWakeOn_frame {M : Nat} {z0 : State} {d : Fin 128} {vlow : Int} {s : State}
    (hm : 0x402cf90 &&& M = 0x402cf90)
    (hz : Frame M z0 s) : Frame M z0 (effFirstWakeOn d vlow s) := by
  unfold effFirstWakeOn
  repeat' first
    | with_reducible assumption
    | with_reducible refine frame_ite (fun _ => ?_) (fun _ => ?_)
    | with_reducible refine enterOn_frame hm ?_
    | split
theorem execFirstWakeOn_frame {M : Nat} {z0 : State} {d : Fin 128} {vlow : Int} {s : State}
    (hm : 0x402cf90 &&& M = 0x402cf90)
    (hz : Frame M z0 s) : Ends M z0 (execFirstWakeOn d vlow s) := by
  unfold execFirstWakeOn
  repeat' first
    | with_reducible assumption
    | with_reducible refine effFirstWakeOn_frame hm ?_
    | with_reducible refine live_frame (fun _ _ => ?_) ?_
theorem effWakeForced_frame {M : Nat} {z0 : State} {d : Fin 128} {s : State}
    (hm : 0x8804409f520cf9c &&& M = 0x8804409f520cf9c)
    (hz : Frame M z0 s) : Frame M z0 (effWakeForced d s) := by
  unfold effWakeForced
  repeat' first
    | with_reducible assumption
    | with_reducible refine frame_ite (fun _ => ?_) (fun _ => ?_)
    | with_reducible refine wakeForce_frame hm ?_
    | split
theorem execWakeForced_frame {M : Nat} {z0 : State} {d : Fin 128} {s : State}
    (hm : 0x8804409f520cf9c &&& M = 0x8804409f520cf9c)
    (hz : Frame M z0 s) : Ends M z0 (execWakeForced d s) := by
  unfold execWakeForced
  repeat' first
    | with_reducible assumption
    | with_reducible refine effWakeForced_frame hm ?_
    | with_reducible refine live_frame (fun _ _ => ?_) ?_
theorem wakeRetry_frame {M : Nat} {z0 : State} {s : State} {d : Nat}
    (hm : 0x8804409f520cf9c &&& M = 0x8804409f520cf9c)
    (hz : Frame M z0 s) : Frame M z0 (wakeRetry s d) := by
  unfold wakeRetry
  repeat' first
    | with_reducible assumption
    | (with_reducible refine frame_lit ?_ ?_; rotate_left; (fail_if_success with_reducible exact Frame.refl _)
                      constructor <;> first | exact fun _ => rfl | exact fun h => absurd (bit_of_sub hm h) (by decide))
    | with_reducible refine frame_ite (fun _ => ?_) (fun _ => ?_)
    | with_reducible refine wakeForce_frame hm ?_
    | with_reducible refine wakeRun_frame hm ?_
    | (with_reducible refine modGw_frame (sub_trans ?_ hm) ?_; decide)
    | split
    | dsimp only
theorem bankGate_frame {M : Nat} {z0 : State} {s : State} {m : Nat} {mask : Word64} (hm : 0x10000 &&& M = 0x10000)
    (hz : Frame M z0 s) : Frame M z0 (bankGate s m mask) := by
  unfold bankGate
  repeat' first
    | with_reducible assumption
    | (with_reducible refine frame_lit ?_ ?_; rotate_left; (fail_if_success with_reducible exact Frame.refl _)
                      constructor <;> first | exact fun _ => rfl | exact fun h => absurd (bit_of_sub hm h) (by decide))
    | with_reducible refine frame_ite (fun _ => ?_) (fun _ => ?_)
    | split
    | dsimp only
theorem execBankGateComplete_frame {M : Nat} {z0 : State} {m : Fin 16} {s : State} (hm : 0x10000 &&& M = 0x10000)
    (hz : Frame M z0 s) : Ends M z0 (execBankGateComplete m s) := by
  unfold execBankGateComplete
  repeat' first
    | with_reducible assumption
    | (with_reducible refine frame_lit ?_ ?_; rotate_left; (fail_if_success with_reducible exact Frame.refl _)
                      constructor <;> first | exact fun _ => rfl | exact fun h => absurd (bit_of_sub hm h) (by decide))
    | with_reducible refine live_frame (fun _ _ => ?_) ?_
theorem effBankWakeRequest_frame {M : Nat} {z0 : State} {m : Fin 16} {b : Fin 64} {s : State}
    (hm : 0x10000 &&& M = 0x10000)
    (hz : Frame M z0 s) : Frame M z0 (effBankWakeRequest m b s) := by
  unfold effBankWakeRequest
  repeat' first
    | with_reducible assumption
    | (with_reducible refine frame_lit ?_ ?_; rotate_left; (fail_if_success with_reducible exact Frame.refl _)
                      constructor <;> first | exact fun _ => rfl | exact fun h => absurd (bit_of_sub hm h) (by decide))
    | with_reducible refine frame_ite (fun _ => ?_) (fun _ => ?_)
    | split
    | dsimp only
theorem execBankWakeRequest_frame {M : Nat} {z0 : State} {m : Fin 16} {b : Fin 64} {s : State}
    (hm : 0x10000 &&& M = 0x10000)
    (hz : Frame M z0 s) : Ends M z0 (execBankWakeRequest m b s) := by
  unfold execBankWakeRequest
  repeat' first
    | with_reducible assumption
    | with_reducible refine effBankWakeRequest_frame hm ?_
    | with_reducible refine live_frame (fun _ _ => ?_) ?_
theorem effBankWakeReady_frame {M : Nat} {z0 : State} {m : Fin 16} {b : Fin 64} {s : State}
    (hm : 0x10000 &&& M = 0x10000)
    (hz : Frame M z0 s) : Frame M z0 (effBankWakeReady m b s) := by
  unfold effBankWakeReady
  repeat' first
    | with_reducible assumption
    | (with_reducible refine frame_lit ?_ ?_; rotate_left; (fail_if_success with_reducible exact Frame.refl _)
                      constructor <;> first | exact fun _ => rfl | exact fun h => absurd (bit_of_sub hm h) (by decide))
    | with_reducible refine frame_ite (fun _ => ?_) (fun _ => ?_)
    | split
theorem execBankWakeReady_frame {M : Nat} {z0 : State} {m : Fin 16} {b : Fin 64} {s : State}
    (hm : 0x10000 &&& M = 0x10000)
    (hz : Frame M z0 s) : Ends M z0 (execBankWakeReady m b s) := by
  unfold execBankWakeReady
  repeat' first
    | with_reducible assumption
    | with_reducible refine effBankWakeReady_frame hm ?_
    | with_reducible refine live_frame (fun _ _ => ?_) ?_
theorem execDomSpstatClrcnt_frame {M : Nat} {z0 : State} {d : Fin 128} {s : State} (hm : 0x8000 &&& M = 0x8000)
    (hz : Frame M z0 s) : Ends M z0 (execDomSpstatClrcnt d s) := by
  unfold execDomSpstatClrcnt
  repeat' first
    | with_reducible assumption
    | (with_reducible refine frame_lit ?_ ?_; rotate_left; (fail_if_success with_reducible exact Frame.refl _)
                      constructor <;> first | exact fun _ => rfl | exact fun h => absurd (bit_of_sub hm h) (by decide))
    | with_reducible refine modGw_frame hm ?_
    | with_reducible refine bus_frame (fun _ _ => ?_) ?_
theorem opselDom_frame {M : Nat} {z0 : State} {s : State} {d : Nat} {op : Nat} (hm : 0x2cf80 &&& M = 0x2cf80)
    (hz : Frame M z0 s) : Frame M z0 (opselDom s d op) := by
  unfold opselDom
  repeat' first
    | with_reducible assumption
    | (with_reducible refine frame_lit ?_ ?_; rotate_left; (fail_if_success with_reducible exact Frame.refl _)
                      constructor <;> first | exact fun _ => rfl | exact fun h => absurd (bit_of_sub hm h) (by decide))
    | with_reducible refine frame_ite (fun _ => ?_) (fun _ => ?_)
    | with_reducible refine followOp_frame hm ?_
    | (with_reducible refine modSp_frame (sub_trans ?_ hm) ?_; decide)
    | split
    | dsimp only
theorem vsetDom_frame {M : Nat} {z0 : State} {s : State} {d : Nat} {v : Nat} {code : Nat} (hm : 0xcf80 &&& M = 0xcf80)
    (hz : Frame M z0 s) : Frame M z0 (vsetDom s d v code) := by
  unfold vsetDom
  repeat' first
    | with_reducible assumption
    | (with_reducible refine frame_lit ?_ ?_; rotate_left; (fail_if_success with_reducible exact Frame.refl _)
                      constructor <;> first | exact fun _ => rfl | exact fun h => absurd (bit_of_sub hm h) (by decide))
    | with_reducible refine setVopCode_frame hm ?_
    | (with_reducible refine modSp_frame (sub_trans ?_ hm) ?_; decide)
    | dsimp only
theorem llineDom_frame {M : Nat} {z0 : State} {s : State} {d : Nat} {z : Nat} (hm : 0x4000 &&& M = 0x4000)
    (hz : Frame M z0 s) : Frame M z0 (llineDom s d z) := by
  unfold llineDom
  repeat' first
    | with_reducible assumption
    | (with_reducible refine frame_lit ?_ ?_; rotate_left; (fail_if_success with_reducible exact Frame.refl _)
                      constructor <;> first | exact fun _ => rfl | exact fun h => absurd (bit_of_sub hm h) (by decide))
    | with_reducible refine modSp_frame hm ?_
theorem execPhaseOpenDetect_frame {M : Nat} {z0 : State} {p : Fin 720} {s : State}
    (hm : 0x8804409f522cf98 &&& M = 0x8804409f522cf98)
    (hz : Frame M z0 s) : Ends M z0 (execPhaseOpenDetect p s) := by
  unfold execPhaseOpenDetect
  repeat' first
    | with_reducible assumption
    | with_reducible refine frame_ite (fun _ => ?_) (fun _ => ?_)
    | with_reducible refine excludePh_frame hm ?_
    | with_reducible refine sheafStep_frame (fun _ _ => ?_) ?_
    | split
theorem execPhaseShortDetect_frame {M : Nat} {z0 : State} {p : Fin 720} {high : Bool} {s : State}
    (hm : 0x8804409f522cf98 &&& M = 0x8804409f522cf98)
    (hz : Frame M z0 s) : Ends M z0 (execPhaseShortDetect p high s) := by
  unfold execPhaseShortDetect
  repeat' first
    | with_reducible assumption
    | with_reducible refine frame_ite (fun _ => ?_) (fun _ => ?_)
    | with_reducible refine excludePh_frame hm ?_
    | with_reducible refine sheafStep_frame (fun _ _ => ?_) ?_
    | split
theorem joinActive_frame {M : Nat} {z0 : State} {s : State} {p : Nat} (hm : 0xf00 &&& M = 0xf00)
    (hz : Frame M z0 s) : Frame M z0 (joinActive s p) := by
  unfold joinActive
  repeat' first
    | with_reducible assumption
    | (with_reducible refine frame_lit ?_ ?_; rotate_left; (fail_if_success with_reducible exact Frame.refl _)
                      constructor <;> first | exact fun _ => rfl | exact fun h => absurd (bit_of_sub hm h) (by decide))
    | with_reducible refine frame_ite (fun _ => ?_) (fun _ => ?_)
    | (with_reducible refine modPhw_frame (sub_trans ?_ hm) ?_; decide)
    | (with_reducible refine modPh_frame (sub_trans ?_ hm) ?_; decide)
    | (with_reducible refine modShr_frame (sub_trans ?_ hm) ?_; decide)
    | (with_reducible refine modShw_frame (sub_trans ?_ hm) ?_; decide)
    | split
    | dsimp only
theorem effSpareActive_frame {M : Nat} {z0 : State} {i : Fin 93} {s : State} (hm : 0xf00 &&& M = 0xf00)
    (hz : Frame M z0 s) : Frame M z0 (effSpareActive i s) := by
  unfold effSpareActive
  repeat' first
    | with_reducible assumption
    | (with_reducible refine frame_lit ?_ ?_; rotate_left; (fail_if_success with_reducible exact Frame.refl _)
                      constructor <;> first | exact fun _ => rfl | exact fun h => absurd (bit_of_sub hm h) (by decide))
    | with_reducible refine frame_ite (fun _ => ?_) (fun _ => ?_)
    | with_reducible refine joinActive_frame hm ?_
    | (with_reducible refine modShr_frame (sub_trans ?_ hm) ?_; decide)
    | split
    | dsimp only
theorem execSpareActive_frame {M : Nat} {z0 : State} {i : Fin 93} {s : State} (hm : 0xf00 &&& M = 0xf00)
    (hz : Frame M z0 s) : Ends M z0 (execSpareActive i s) := by
  unfold execSpareActive
  repeat' first
    | with_reducible assumption
    | with_reducible refine effSpareActive_frame hm ?_
    | with_reducible refine sheafStep_frame (fun _ _ => ?_) ?_
theorem execPhExclude_frame {M : Nat} {z0 : State} {p : Fin 720} {s : State}
    (hm : 0x8804409f522cf98 &&& M = 0x8804409f522cf98)
    (hz : Frame M z0 s) : Ends M z0 (execPhExclude p s) := by
  unfold execPhExclude
  repeat' first
    | with_reducible assumption
    | with_reducible refine excludePh_frame hm ?_
    | with_reducible refine bus_frame (fun _ _ => ?_) ?_
theorem effReadmit_frame {M : Nat} {z0 : State} {p : Fin 720} {s : State}
    (hm : 0x8804409f522cf98 &&& M = 0x8804409f522cf98)
    (hz : Frame M z0 s) : Frame M z0 (effReadmit p s) := by
  unfold effReadmit
  repeat' first
    | with_reducible assumption
    | (with_reducible refine frame_lit ?_ ?_; rotate_left; (fail_if_success with_reducible exact Frame.refl _)
                      constructor <;> first | exact fun _ => rfl | exact fun h => absurd (bit_of_sub hm h) (by decide))
    | with_reducible refine frame_ite (fun _ => ?_) (fun _ => ?_)
    | with_reducible refine ladderUpdate_frame hm ?_
    | (with_reducible refine modPhw_frame (sub_trans ?_ hm) ?_; decide)
    | (with_reducible refine modPh_frame (sub_trans ?_ hm) ?_; decide)
    | split
    | dsimp only
theorem execReadmit_frame {M : Nat} {z0 : State} {p : Fin 720} {s : State}
    (hm : 0x8804409f522cf98 &&& M = 0x8804409f522cf98)
    (hz : Frame M z0 s) : Ends M z0 (execReadmit p s) := by
  unfold execReadmit
  repeat' first
    | with_reducible assumption
    | with_reducible refine effReadmit_frame hm ?_
    | with_reducible refine bus_frame (fun _ _ => ?_) ?_
theorem execPhClrcnt_frame {M : Nat} {z0 : State} {p : Fin 720} {s : State} (hm : 0x400 &&& M = 0x400)
    (hz : Frame M z0 s) : Ends M z0 (execPhClrcnt p s) := by
  unfold execPhClrcnt
  repeat' first
    | with_reducible assumption
    | (with_reducible refine frame_lit ?_ ?_; rotate_left; (fail_if_success with_reducible exact Frame.refl _)
                      constructor <;> first | exact fun _ => rfl | exact fun h => absurd (bit_of_sub hm h) (by decide))
    | with_reducible refine modPh_frame hm ?_
    | with_reducible refine bus_frame (fun _ _ => ?_) ?_
theorem hiccupOff_frame {M : Nat} {z0 : State} {s : State} {p : Nat} {at' : Nat} (hm : 0xf00 &&& M = 0xf00)
    (hz : Frame M z0 s) : Frame M z0 (hiccupOff s p at') := by
  unfold hiccupOff
  repeat' first
    | with_reducible assumption
    | (with_reducible refine frame_lit ?_ ?_; rotate_left; (fail_if_success with_reducible exact Frame.refl _)
                      constructor <;> first | exact fun _ => rfl | exact fun h => absurd (bit_of_sub hm h) (by decide))
    | with_reducible refine leaveFire_frame hm ?_
    | (with_reducible refine passToken_frame (sub_trans ?_ hm) ?_; decide)
    | (with_reducible refine modPhw_frame (sub_trans ?_ hm) ?_; decide)
    | (with_reducible refine modPh_frame (sub_trans ?_ hm) ?_; decide)
    | (with_reducible refine modShr_frame (sub_trans ?_ hm) ?_; decide)
    | (with_reducible refine modShw_frame (sub_trans ?_ hm) ?_; decide)
    | dsimp only
theorem effPhaseHiccupEnter_frame {M : Nat} {z0 : State} {p : Fin 720} {s : State}
    (hm : 0x8804409f522cf98 &&& M = 0x8804409f522cf98)
    (hz : Frame M z0 s) : Frame M z0 (effPhaseHiccupEnter p s) := by
  unfold effPhaseHiccupEnter
  repeat' first
    | with_reducible assumption
    | (with_reducible refine frame_lit ?_ ?_; rotate_left; (fail_if_success with_reducible exact Frame.refl _)
                      constructor <;> first | exact fun _ => rfl | exact fun h => absurd (bit_of_sub hm h) (by decide))
    | with_reducible refine frame_ite (fun _ => ?_) (fun _ => ?_)
    | (with_reducible refine hiccupOff_frame (sub_trans ?_ hm) ?_; decide)
    | with_reducible refine excludePh_frame hm ?_
    | (with_reducible refine modPhw_frame (sub_trans ?_ hm) ?_; decide)
    | (with_reducible refine modPh_frame (sub_trans ?_ hm) ?_; decide)
    | split
    | dsimp only
theorem execPhaseHiccupEnter_frame {M : Nat} {z0 : State} {p : Fin 720} {s : State}
    (hm : 0x8804409f522cf98 &&& M = 0x8804409f522cf98)
    (hz : Frame M z0 s) : Ends M z0 (execPhaseHiccupEnter p s) := by
  unfold execPhaseHiccupEnter
  repeat' first
    | with_reducible assumption
    | with_reducible refine effPhaseHiccupEnter_frame hm ?_
    | with_reducible refine sheafStep_frame (fun _ _ => ?_) ?_
theorem effPhaseHiccupRetry_frame {M : Nat} {z0 : State} {p : Fin 720} {s : State} (hm : 0xf00 &&& M = 0xf00)
    (hz : Frame M z0 s) : Frame M z0 (effPhaseHiccupRetry p s) := by
  unfold effPhaseHiccupRetry
  repeat' first
    | with_reducible assumption
    | (with_reducible refine frame_lit ?_ ?_; rotate_left; (fail_if_success with_reducible exact Frame.refl _)
                      constructor <;> first | exact fun _ => rfl | exact fun h => absurd (bit_of_sub hm h) (by decide))
    | with_reducible refine frame_ite (fun _ => ?_) (fun _ => ?_)
    | with_reducible refine joinActive_frame hm ?_
    | (with_reducible refine modPhw_frame (sub_trans ?_ hm) ?_; decide)
    | split
    | dsimp only
theorem execPhaseHiccupRetry_frame {M : Nat} {z0 : State} {p : Fin 720} {s : State} (hm : 0xf00 &&& M = 0xf00)
    (hz : Frame M z0 s) : Ends M z0 (execPhaseHiccupRetry p s) := by
  unfold execPhaseHiccupRetry
  repeat' first
    | with_reducible assumption
    | with_reducible refine effPhaseHiccupRetry_frame hm ?_
    | with_reducible refine sheafStep_frame (fun _ _ => ?_) ?_
theorem execPhaseRetrySuccess_frame {M : Nat} {z0 : State} {p : Fin 720} {s : State} (hm : 0x800 &&& M = 0x800)
    (hz : Frame M z0 s) : Ends M z0 (execPhaseRetrySuccess p s) := by
  unfold execPhaseRetrySuccess
  repeat' first
    | with_reducible assumption
    | (with_reducible refine frame_lit ?_ ?_; rotate_left; (fail_if_success with_reducible exact Frame.refl _)
                      constructor <;> first | exact fun _ => rfl | exact fun h => absurd (bit_of_sub hm h) (by decide))
    | with_reducible refine frame_ite (fun _ => ?_) (fun _ => ?_)
    | with_reducible refine modPhw_frame hm ?_
    | with_reducible refine sheafStep_frame (fun _ _ => ?_) ?_
    | split
theorem effDomainHiccup_frame {M : Nat} {z0 : State} {i : Fin 93} {s : State}
    (hm : 0x8804409f522cf98 &&& M = 0x8804409f522cf98)
    (hz : Frame M z0 s) : Frame M z0 (effDomainHiccup i s) := by
  unfold effDomainHiccup
  repeat' first
    | with_reducible assumption
    | (with_reducible refine frame_lit ?_ ?_; rotate_left; (fail_if_success with_reducible exact Frame.refl _)
                      constructor <;> first | exact fun _ => rfl | exact fun h => absurd (bit_of_sub hm h) (by decide))
    | with_reducible refine frame_ite (fun _ => ?_) (fun _ => ?_)
    | (with_reducible refine gateDom_frame (sub_trans ?_ hm) ?_; decide)
    | (with_reducible refine darkMove_frame (sub_trans ?_ hm) ?_; decide)
    | (with_reducible refine zeroVcmd_frame (sub_trans ?_ hm) ?_; decide)
    | (with_reducible refine leaveOn_frame (sub_trans ?_ hm) ?_; decide)
    | (with_reducible refine stopSheaf_frame (sub_trans ?_ hm) ?_; decide)
    | (with_reducible refine classP_frame (sub_trans ?_ hm) ?_; decide)
    | (with_reducible refine protEvent_frame (sub_trans ?_ hm) ?_; decide)
    | (with_reducible refine modShr_frame (sub_trans ?_ hm) ?_; decide)
    | (with_reducible refine modGw_frame (sub_trans ?_ hm) ?_; decide)
    | (with_reducible refine raiseShf_frame (sub_trans ?_ hm) ?_; decide)
    | (with_reducible refine setDomSt_frame (sub_trans ?_ hm) ?_; decide)
    | split
    | dsimp only
theorem execDomainHiccup_frame {M : Nat} {z0 : State} {i : Fin 93} {s : State}
    (hm : 0x8804409f522cf98 &&& M = 0x8804409f522cf98)
    (hz : Frame M z0 s) : Ends M z0 (execDomainHiccup i s) := by
  unfold execDomainHiccup
  repeat' first
    | with_reducible assumption
    | with_reducible refine effDomainHiccup_frame hm ?_
    | with_reducible refine sheafStep_frame (fun _ _ => ?_) ?_
theorem effDomainHiccupRestart_frame {M : Nat} {z0 : State} {i : Fin 93} {s : State} (hm : 0xcf80 &&& M = 0xcf80)
    (hz : Frame M z0 s) : Frame M z0 (effDomainHiccupRestart i s) := by
  unfold effDomainHiccupRestart
  repeat' first
    | with_reducible assumption
    | (with_reducible refine frame_lit ?_ ?_; rotate_left; (fail_if_success with_reducible exact Frame.refl _)
                      constructor <;> first | exact fun _ => rfl | exact fun h => absurd (bit_of_sub hm h) (by decide))
    | with_reducible refine frame_ite (fun _ => ?_) (fun _ => ?_)
    | (with_reducible refine startSheaf_frame (sub_trans ?_ hm) ?_; decide)
    | (with_reducible refine retarget_frame (sub_trans ?_ hm) ?_; decide)
    | (with_reducible refine modShr_frame (sub_trans ?_ hm) ?_; decide)
    | (with_reducible refine modGw_frame (sub_trans ?_ hm) ?_; decide)
    | (with_reducible refine modSp_frame (sub_trans ?_ hm) ?_; decide)
    | split
    | dsimp only
theorem execDomainHiccupRestart_frame {M : Nat} {z0 : State} {i : Fin 93} {s : State} (hm : 0xcf80 &&& M = 0xcf80)
    (hz : Frame M z0 s) : Ends M z0 (execDomainHiccupRestart i s) := by
  unfold execDomainHiccupRestart
  repeat' first
    | with_reducible assumption
    | with_reducible refine effDomainHiccupRestart_frame hm ?_
    | with_reducible refine sheafStep_frame (fun _ _ => ?_) ?_
theorem execDomainRetrySuccess_frame {M : Nat} {z0 : State} {i : Fin 93} {s : State} (hm : 0x200 &&& M = 0x200)
    (hz : Frame M z0 s) : Ends M z0 (execDomainRetrySuccess i s) := by
  unfold execDomainRetrySuccess
  repeat' first
    | with_reducible assumption
    | (with_reducible refine frame_lit ?_ ?_; rotate_left; (fail_if_success with_reducible exact Frame.refl _)
                      constructor <;> first | exact fun _ => rfl | exact fun h => absurd (bit_of_sub hm h) (by decide))
    | with_reducible refine frame_ite (fun _ => ?_) (fun _ => ?_)
    | with_reducible refine modShr_frame hm ?_
    | with_reducible refine sheafStep_frame (fun _ _ => ?_) ?_
    | split
theorem execLatchClear_frame {M : Nat} {z0 : State} {i : Fin 93} {s : State} (hm : 0x200 &&& M = 0x200)
    (hz : Frame M z0 s) : Ends M z0 (execLatchClear i s) := by
  unfold execLatchClear
  repeat' first
    | with_reducible assumption
    | (with_reducible refine frame_lit ?_ ?_; rotate_left; (fail_if_success with_reducible exact Frame.refl _)
                      constructor <;> first | exact fun _ => rfl | exact fun h => absurd (bit_of_sub hm h) (by decide))
    | with_reducible refine modShr_frame hm ?_
    | with_reducible refine bus_frame (fun _ _ => ?_) ?_
theorem effGleanerSweepStart_frame {M : Nat} {z0 : State} {i : Fin 93} {s : State} (hm : 0x200 &&& M = 0x200)
    (hz : Frame M z0 s) : Frame M z0 (effGleanerSweepStart i s) := by
  unfold effGleanerSweepStart
  repeat' first
    | with_reducible assumption
    | (with_reducible refine frame_lit ?_ ?_; rotate_left; (fail_if_success with_reducible exact Frame.refl _)
                      constructor <;> first | exact fun _ => rfl | exact fun h => absurd (bit_of_sub hm h) (by decide))
    | with_reducible refine frame_ite (fun _ => ?_) (fun _ => ?_)
    | with_reducible refine modShr_frame hm ?_
    | split
    | dsimp only
theorem execGleanerSweepStart_frame {M : Nat} {z0 : State} {i : Fin 93} {s : State} (hm : 0x200 &&& M = 0x200)
    (hz : Frame M z0 s) : Ends M z0 (execGleanerSweepStart i s) := by
  unfold execGleanerSweepStart
  repeat' first
    | with_reducible assumption
    | with_reducible refine effGleanerSweepStart_frame hm ?_
    | with_reducible refine live_frame (fun _ _ => ?_) ?_
theorem effPhaseHealthSweep_frame {M : Nat} {z0 : State} {i : Fin 93} {m : HealthMeas} {s : State}
    (hm : 0x8804409f522ef98 &&& M = 0x8804409f522ef98)
    (hz : Frame M z0 s) : Frame M z0 (effPhaseHealthSweep i m s) := by
  unfold effPhaseHealthSweep
  repeat' first
    | with_reducible assumption
    | (with_reducible refine frame_lit ?_ ?_; rotate_left; (fail_if_success with_reducible exact Frame.refl _)
                      constructor <;> first | exact fun _ => rfl | exact fun h => absurd (bit_of_sub hm h) (by decide))
    | with_reducible refine frame_ite (fun _ => ?_) (fun _ => ?_)
    | with_reducible refine frame_foldl (fun _ _ _ => ?_) ?_
    | with_reducible refine frame_foldl_fst (fun _ _ _ => ?_) ?_
    | (with_reducible refine excludePh_frame (sub_trans ?_ hm) ?_; decide)
    | (with_reducible refine modShr_frame (sub_trans ?_ hm) ?_; decide)
    | split
    | dsimp only
theorem execPhaseHealthSweep_frame {M : Nat} {z0 : State} {i : Fin 93} {m : HealthMeas} {s : State}
    (hm : 0x8804409f522ef98 &&& M = 0x8804409f522ef98)
    (hz : Frame M z0 s) : Ends M z0 (execPhaseHealthSweep i m s) := by
  unfold execPhaseHealthSweep
  repeat' first
    | with_reducible assumption
    | with_reducible refine effPhaseHealthSweep_frame hm ?_
    | with_reducible refine live_frame (fun _ _ => ?_) ?_
theorem effPlausibilitySweep_frame {M : Nat} {z0 : State} {i : Fin 93} {low : List Int} {node : Int} {s : State}
    (hm : 0x40970000220 &&& M = 0x40970000220)
    (hz : Frame M z0 s) : Frame M z0 (effPlausibilitySweep i low node s) := by
  unfold effPlausibilitySweep
  repeat' first
    | with_reducible assumption
    | (with_reducible refine frame_lit ?_ ?_; rotate_left; (fail_if_success with_reducible exact Frame.refl _)
                      constructor <;> first | exact fun _ => rfl | exact fun h => absurd (bit_of_sub hm h) (by decide))
    | with_reducible refine frame_ite (fun _ => ?_) (fun _ => ?_)
    | with_reducible refine frame_foldl (fun _ _ _ => ?_) ?_
    | (with_reducible refine modShr_frame (sub_trans ?_ hm) ?_; decide)
    | (with_reducible refine raise_frame (sub_trans ?_ hm) ?_; decide)
    | split
    | dsimp only
theorem execPlausibilitySweep_frame {M : Nat} {z0 : State} {i : Fin 93} {low : List Int} {node : Int} {s : State}
    (hm : 0x40970000220 &&& M = 0x40970000220)
    (hz : Frame M z0 s) : Ends M z0 (execPlausibilitySweep i low node s) := by
  unfold execPlausibilitySweep
  repeat' first
    | with_reducible assumption
    | with_reducible refine effPlausibilitySweep_frame hm ?_
    | with_reducible refine live_frame (fun _ _ => ?_) ?_
theorem effBondMeasurement_frame {M : Nat} {z0 : State} {g : Fin 1232} {dv : Int} {i : Int} {s : State}
    (hm : 0x40970000240 &&& M = 0x40970000240)
    (hz : Frame M z0 s) : Frame M z0 (effBondMeasurement g dv i s) := by
  unfold effBondMeasurement
  repeat' first
    | with_reducible assumption
    | (with_reducible refine frame_lit ?_ ?_; rotate_left; (fail_if_success with_reducible exact Frame.refl _)
                      constructor <;> first | exact fun _ => rfl | exact fun h => absurd (bit_of_sub hm h) (by decide))
    | with_reducible refine frame_ite (fun _ => ?_) (fun _ => ?_)
    | (with_reducible refine modShr_frame (sub_trans ?_ hm) ?_; decide)
    | (with_reducible refine raise_frame (sub_trans ?_ hm) ?_; decide)
    | split
    | dsimp only
theorem execBondMeasurement_frame {M : Nat} {z0 : State} {g : Fin 1232} {dv : Int} {i : Int} {s : State}
    (hm : 0x40970000240 &&& M = 0x40970000240)
    (hz : Frame M z0 s) : Ends M z0 (execBondMeasurement g dv i s) := by
  unfold execBondMeasurement
  repeat' first
    | with_reducible assumption
    | with_reducible refine effBondMeasurement_frame hm ?_
    | with_reducible refine live_frame (fun _ _ => ?_) ?_

end Sys2Proof.Machine
end

