-- ==== Sys2Proof/Laws/Touch3.lean ====
section
/-! SUPPORT. Which groups of State the operations of Machine/Notice, Estimator, Track may touch: each keeps every
frame whose set holds its own. -/

namespace Sys2Proof.Machine

theorem dropFull_frame {M : Nat} {z0 : State} {s : State} (hm : 0x40970100000 &&& M = 0x40970100000)
    (hz : Frame M z0 s) : Frame M z0 (dropFull s) := by
  unfold dropFull
  repeat' first
    | with_reducible assumption
    | (with_reducible refine frame_lit ?_ ?_; rotate_left; (fail_if_success with_reducible exact Frame.refl _)
                      constructor <;> first | exact fun _ => rfl | exact fun h => absurd (bit_of_sub hm h) (by decide))
    | (with_reducible refine raise_frame (sub_trans ?_ hm) ?_; decide)
theorem dropBad_frame {M : Nat} {z0 : State} {s : State} (hm : 0x100000 &&& M = 0x100000)
    (hz : Frame M z0 s) : Frame M z0 (dropBad s) := by
  unfold dropBad
  repeat' first
    | with_reducible assumption
    | (with_reducible refine frame_lit ?_ ?_; rotate_left; (fail_if_success with_reducible exact Frame.refl _)
                      constructor <;> first | exact fun _ => rfl | exact fun h => absurd (bit_of_sub hm h) (by decide))
theorem portTakeOne_frame {M : Nat} {z0 : State} {s : State} {x : Nat × Word64}
    (hm : 0x40970100000 &&& M = 0x40970100000)
    (hz : Frame M z0 s) : Frame M z0 (portTakeOne s x) := by
  unfold portTakeOne
  repeat' first
    | with_reducible assumption
    | (with_reducible refine frame_lit ?_ ?_; rotate_left; (fail_if_success with_reducible exact Frame.refl _)
                      constructor <;> first | exact fun _ => rfl | exact fun h => absurd (bit_of_sub hm h) (by decide))
    | with_reducible refine frame_ite (fun _ => ?_) (fun _ => ?_)
    | (with_reducible refine dropBad_frame (sub_trans ?_ hm) ?_; decide)
    | with_reducible refine dropFull_frame hm ?_
    | split
theorem portTake_frame {M : Nat} {z0 : State} {s : State} (hm : 0x40970100000 &&& M = 0x40970100000)
    (hz : Frame M z0 s) : Frame M z0 (portTake s) := by
  unfold portTake
  repeat' first
    | with_reducible assumption
    | (with_reducible refine frame_lit ?_ ?_; rotate_left; (fail_if_success with_reducible exact Frame.refl _)
                      constructor <;> first | exact fun _ => rfl | exact fun h => absurd (bit_of_sub hm h) (by decide))
    | with_reducible refine frame_foldl (fun _ _ _ => ?_) ?_
    | with_reducible refine portTakeOne_frame hm ?_
    | with_reducible refine dropFull_frame hm ?_
    | dsimp only
theorem portIn_frame {M : Nat} {z0 : State} {kind : Nat} {w : Word64} {s : State} (hm : 0x100000 &&& M = 0x100000)
    (hz : Frame M z0 s) : Frame M z0 (portIn kind w s) := by
  unfold portIn
  repeat' first
    | with_reducible assumption
    | (with_reducible refine frame_lit ?_ ?_; rotate_left; (fail_if_success with_reducible exact Frame.refl _)
                      constructor <;> first | exact fun _ => rfl | exact fun h => absurd (bit_of_sub hm h) (by decide))
theorem execStep_frame {M : Nat} {z0 : State} {w : Word64} {s : State} (hm : 0x100000 &&& M = 0x100000)
    (hz : Frame M z0 s) : Ends M z0 (execStep w s) := by
  unfold execStep
  repeat' first
    | with_reducible assumption
    | with_reducible refine portIn_frame hm ?_
    | with_reducible refine live_frame (fun _ _ => ?_) ?_
theorem execCancel_frame {M : Nat} {z0 : State} {w : Word64} {s : State} (hm : 0x100000 &&& M = 0x100000)
    (hz : Frame M z0 s) : Ends M z0 (execCancel w s) := by
  unfold execCancel
  repeat' first
    | with_reducible assumption
    | with_reducible refine portIn_frame hm ?_
    | with_reducible refine live_frame (fun _ _ => ?_) ?_
theorem execArrive_frame {M : Nat} {z0 : State} {w : Word64} {s : State} (hm : 0x100000 &&& M = 0x100000)
    (hz : Frame M z0 s) : Ends M z0 (execArrive w s) := by
  unfold execArrive
  repeat' first
    | with_reducible assumption
    | with_reducible refine portIn_frame hm ?_
    | with_reducible refine live_frame (fun _ _ => ?_) ?_
theorem arriveAt_frame {M : Nat} {z0 : State} {s : State} {core : Nat} {id : Nat} (hm : 0x180000 &&& M = 0x180000)
    (hz : Frame M z0 s) : Frame M z0 (arriveAt s core id) := by
  unfold arriveAt
  repeat' first
    | with_reducible assumption
    | (with_reducible refine frame_lit ?_ ?_; rotate_left; (fail_if_success with_reducible exact Frame.refl _)
                      constructor <;> first | exact fun _ => rfl | exact fun h => absurd (bit_of_sub hm h) (by decide))
    | with_reducible refine frame_ite (fun _ => ?_) (fun _ => ?_)
    | (with_reducible refine dropBad_frame (sub_trans ?_ hm) ?_; decide)
    | split
    | dsimp only
theorem effNoticeQueueRelease_frame {M : Nat} {z0 : State} {s : State} (hm : 0x180000 &&& M = 0x180000)
    (hz : Frame M z0 s) : Frame M z0 (effNoticeQueueRelease s) := by
  unfold effNoticeQueueRelease
  repeat' first
    | with_reducible assumption
    | (with_reducible refine frame_lit ?_ ?_; rotate_left; (fail_if_success with_reducible exact Frame.refl _)
                      constructor <;> first | exact fun _ => rfl | exact fun h => absurd (bit_of_sub hm h) (by decide))
    | with_reducible refine frame_ite (fun _ => ?_) (fun _ => ?_)
    | with_reducible refine arriveAt_frame hm ?_
    | split
    | dsimp only
theorem execNoticeQueueRelease_frame {M : Nat} {z0 : State} {s : State} (hm : 0x180000 &&& M = 0x180000)
    (hz : Frame M z0 s) : Ends M z0 (execNoticeQueueRelease s) := by
  unfold execNoticeQueueRelease
  repeat' first
    | with_reducible assumption
    | with_reducible refine effNoticeQueueRelease_frame hm ?_
    | with_reducible refine live_frame (fun _ _ => ?_) ?_
theorem pendAdd_frame {M : Nat} {z0 : State} {s : State} {d : Nat} {e : Nat} {r : Nat} {c : Contr}
    (hm : 0x20cf80 &&& M = 0x20cf80)
    (hz : Frame M z0 s) : Frame M z0 (pendAdd s d e r c) := by
  unfold pendAdd
  repeat' first
    | with_reducible assumption
    | (with_reducible refine frame_lit ?_ ?_; rotate_left; (fail_if_success with_reducible exact Frame.refl _)
                      constructor <;> first | exact fun _ => rfl | exact fun h => absurd (bit_of_sub hm h) (by decide))
    | with_reducible refine frame_ite (fun _ => ?_) (fun _ => ?_)
    | (with_reducible refine modPend_frame (sub_trans ?_ hm) ?_; decide)
    | (with_reducible refine retarget_frame (sub_trans ?_ hm) ?_; decide)
    | (with_reducible refine modNd_frame (sub_trans ?_ hm) ?_; decide)
    | split
    | dsimp only
theorem stepArrive_frame {M : Nat} {z0 : State} {s : State} {src : Option Nat} {d : Nat} {dI : Int} {e : Nat}
    {r : Nat} {exempt : Bool} (hm : 0x30cf80 &&& M = 0x30cf80)
    (hz : Frame M z0 s) : Frame M z0 (stepArrive s src d dI e r exempt) := by
  unfold stepArrive
  repeat' first
    | with_reducible assumption
    | (with_reducible refine frame_lit ?_ ?_; rotate_left; (fail_if_success with_reducible exact Frame.refl _)
                      constructor <;> first | exact fun _ => rfl | exact fun h => absurd (bit_of_sub hm h) (by decide))
    | with_reducible refine frame_ite (fun _ => ?_) (fun _ => ?_)
    | (with_reducible refine pendAdd_frame (sub_trans ?_ hm) ?_; decide)
    | (with_reducible refine dropBad_frame (sub_trans ?_ hm) ?_; decide)
    | (with_reducible refine modNd_frame (sub_trans ?_ hm) ?_; decide)
    | split
    | dsimp only
theorem cancelArrive_frame {M : Nat} {z0 : State} {s : State} {src : Nat} {d : Nat} {e : Nat} {r : Nat}
    (hm : 0x30cf80 &&& M = 0x30cf80)
    (hz : Frame M z0 s) : Frame M z0 (cancelArrive s src d e r) := by
  unfold cancelArrive
  repeat' first
    | with_reducible assumption
    | (with_reducible refine frame_lit ?_ ?_; rotate_left; (fail_if_success with_reducible exact Frame.refl _)
                      constructor <;> first | exact fun _ => rfl | exact fun h => absurd (bit_of_sub hm h) (by decide))
    | with_reducible refine frame_ite (fun _ => ?_) (fun _ => ?_)
    | (with_reducible refine dropBad_frame (sub_trans ?_ hm) ?_; decide)
    | (with_reducible refine modPend_frame (sub_trans ?_ hm) ?_; decide)
    | (with_reducible refine retarget_frame (sub_trans ?_ hm) ?_; decide)
    | (with_reducible refine modNd_frame (sub_trans ?_ hm) ?_; decide)
    | split
    | dsimp only
theorem effNoticeArrival_frame {M : Nat} {z0 : State} {s : State} (hm : 0x30cf80 &&& M = 0x30cf80)
    (hz : Frame M z0 s) : Frame M z0 (effNoticeArrival s) := by
  unfold effNoticeArrival
  repeat' first
    | with_reducible assumption
    | (with_reducible refine frame_lit ?_ ?_; rotate_left; (fail_if_success with_reducible exact Frame.refl _)
                      constructor <;> first | exact fun _ => rfl | exact fun h => absurd (bit_of_sub hm h) (by decide))
    | with_reducible refine frame_ite (fun _ => ?_) (fun _ => ?_)
    | with_reducible refine cancelArrive_frame hm ?_
    | with_reducible refine stepArrive_frame hm ?_
    | split
    | dsimp only
theorem execNoticeArrival_frame {M : Nat} {z0 : State} {s : State} (hm : 0x30cf80 &&& M = 0x30cf80)
    (hz : Frame M z0 s) : Ends M z0 (execNoticeArrival s) := by
  unfold execNoticeArrival
  repeat' first
    | with_reducible assumption
    | with_reducible refine effNoticeArrival_frame hm ?_
    | with_reducible refine live_frame (fun _ _ => ?_) ?_
theorem discardNotice_frame {M : Nat} {z0 : State} {s : State} {pending : Bool} (hm : 0x30cf80 &&& M = 0x30cf80)
    (hz : Frame M z0 s) : Frame M z0 (discardNotice s pending) := by
  unfold discardNotice
  repeat' first
    | with_reducible assumption
    | (with_reducible refine frame_lit ?_ ?_; rotate_left; (fail_if_success with_reducible exact Frame.refl _)
                      constructor <;> first | exact fun _ => rfl | exact fun h => absurd (bit_of_sub hm h) (by decide))
    | with_reducible refine frame_ite (fun _ => ?_) (fun _ => ?_)
    | (with_reducible refine retargetAll_frame (sub_trans ?_ hm) ?_; decide)
    | split
    | dsimp only
theorem covEval_frame {M : Nat} {z0 : State} {s : State} {d : Nat} (hm : 0x40970200000 &&& M = 0x40970200000)
    (hz : Frame M z0 s) : Frame M z0 (covEval s d) := by
  unfold covEval
  repeat' first
    | with_reducible assumption
    | (with_reducible refine frame_lit ?_ ?_; rotate_left; (fail_if_success with_reducible exact Frame.refl _)
                      constructor <;> first | exact fun _ => rfl | exact fun h => absurd (bit_of_sub hm h) (by decide))
    | with_reducible refine frame_ite (fun _ => ?_) (fun _ => ?_)
    | (with_reducible refine modNd_frame (sub_trans ?_ hm) ?_; decide)
    | (with_reducible refine raise_frame (sub_trans ?_ hm) ?_; decide)
    | split
    | dsimp only
theorem effBarrierRelease_frame {M : Nat} {z0 : State} {s : State} (hm : 0x400000 &&& M = 0x400000)
    (hz : Frame M z0 s) : Frame M z0 (effBarrierRelease s) := by
  unfold effBarrierRelease
  repeat' first
    | with_reducible assumption
    | (with_reducible refine frame_lit ?_ ?_; rotate_left; (fail_if_success with_reducible exact Frame.refl _)
                      constructor <;> first | exact fun _ => rfl | exact fun h => absurd (bit_of_sub hm h) (by decide))
    | with_reducible refine frame_foldl (fun _ _ _ => ?_) ?_
    | dsimp only
theorem execBarrierRelease_frame {M : Nat} {z0 : State} {s : State} (hm : 0x400000 &&& M = 0x400000)
    (hz : Frame M z0 s) : Ends M z0 (execBarrierRelease s) := by
  unfold execBarrierRelease
  repeat' first
    | with_reducible assumption
    | with_reducible refine effBarrierRelease_frame hm ?_
    | with_reducible refine live_frame (fun _ _ => ?_) ?_
theorem execEngineStartRequest_frame {M : Nat} {z0 : State} {c : Fin 64} {e : Fin 4} {s : State}
    (hm : 0x400000 &&& M = 0x400000)
    (hz : Frame M z0 s) : Ends M z0 (execEngineStartRequest c e s) := by
  unfold execEngineStartRequest
  repeat' first
    | with_reducible assumption
    | (with_reducible refine frame_lit ?_ ?_; rotate_left; (fail_if_success with_reducible exact Frame.refl _)
                      constructor <;> first | exact fun _ => rfl | exact fun h => absurd (bit_of_sub hm h) (by decide))
    | with_reducible refine live_frame (fun _ _ => ?_) ?_
theorem effEngineStartGrant_frame {M : Nat} {z0 : State} {c : Fin 64} {e : Fin 4} {s : State}
    (hm : 0x400000 &&& M = 0x400000)
    (hz : Frame M z0 s) : Frame M z0 (effEngineStartGrant c e s) := by
  unfold effEngineStartGrant
  repeat' first
    | with_reducible assumption
    | (with_reducible refine frame_lit ?_ ?_; rotate_left; (fail_if_success with_reducible exact Frame.refl _)
                      constructor <;> first | exact fun _ => rfl | exact fun h => absurd (bit_of_sub hm h) (by decide))
    | with_reducible refine frame_ite (fun _ => ?_) (fun _ => ?_)
    | split
    | dsimp only
theorem execEngineStartGrant_frame {M : Nat} {z0 : State} {c : Fin 64} {e : Fin 4} {s : State}
    (hm : 0x400000 &&& M = 0x400000)
    (hz : Frame M z0 s) : Ends M z0 (execEngineStartGrant c e s) := by
  unfold execEngineStartGrant
  repeat' first
    | with_reducible assumption
    | with_reducible refine effEngineStartGrant_frame hm ?_
    | with_reducible refine live_frame (fun _ _ => ?_) ?_
theorem execSeqTstatClrcnt_frame {M : Nat} {z0 : State} {s : State} (hm : 0x40000 &&& M = 0x40000)
    (hz : Frame M z0 s) : Ends M z0 (execSeqTstatClrcnt s) := by
  unfold execSeqTstatClrcnt
  repeat' first
    | with_reducible assumption
    | (with_reducible refine frame_lit ?_ ?_; rotate_left; (fail_if_success with_reducible exact Frame.refl _)
                      constructor <;> first | exact fun _ => rfl | exact fun h => absurd (bit_of_sub hm h) (by decide))
    | with_reducible refine bus_frame (fun _ _ => ?_) ?_
theorem execSeqNstatClrcnt_frame {M : Nat} {z0 : State} {s : State} (hm : 0x100000 &&& M = 0x100000)
    (hz : Frame M z0 s) : Ends M z0 (execSeqNstatClrcnt s) := by
  unfold execSeqNstatClrcnt
  repeat' first
    | with_reducible assumption
    | (with_reducible refine frame_lit ?_ ?_; rotate_left; (fail_if_success with_reducible exact Frame.refl _)
                      constructor <;> first | exact fun _ => rfl | exact fun h => absurd (bit_of_sub hm h) (by decide))
    | with_reducible refine bus_frame (fun _ _ => ?_) ?_
theorem execSeqNdomClrcnt_frame {M : Nat} {z0 : State} {d : Fin 128} {s : State} (hm : 0x200000 &&& M = 0x200000)
    (hz : Frame M z0 s) : Ends M z0 (execSeqNdomClrcnt d s) := by
  unfold execSeqNdomClrcnt
  repeat' first
    | with_reducible assumption
    | (with_reducible refine frame_lit ?_ ?_; rotate_left; (fail_if_success with_reducible exact Frame.refl _)
                      constructor <;> first | exact fun _ => rfl | exact fun h => absurd (bit_of_sub hm h) (by decide))
    | with_reducible refine modNd_frame hm ?_
    | with_reducible refine bus_frame (fun _ _ => ?_) ?_
theorem distrustDom_frame {M : Nat} {z0 : State} {s : State} {d : Nat} (hm : 0x4097180cf80 &&& M = 0x4097180cf80)
    (hz : Frame M z0 s) : Frame M z0 (distrustDom s d) := by
  unfold distrustDom
  repeat' first
    | with_reducible assumption
    | (with_reducible refine frame_lit ?_ ?_; rotate_left; (fail_if_success with_reducible exact Frame.refl _)
                      constructor <;> first | exact fun _ => rfl | exact fun h => absurd (bit_of_sub hm h) (by decide))
    | with_reducible refine frame_ite (fun _ => ?_) (fun _ => ?_)
    | (with_reducible refine retarget_frame (sub_trans ?_ hm) ?_; decide)
    | (with_reducible refine modEstd_frame (sub_trans ?_ hm) ?_; decide)
    | (with_reducible refine raise_frame (sub_trans ?_ hm) ?_; decide)
    | split
    | dsimp only
theorem trustDom_frame {M : Nat} {z0 : State} {s : State} {d : Nat} (hm : 0x100cf80 &&& M = 0x100cf80)
    (hz : Frame M z0 s) : Frame M z0 (trustDom s d) := by
  unfold trustDom
  repeat' first
    | with_reducible assumption
    | (with_reducible refine frame_lit ?_ ?_; rotate_left; (fail_if_success with_reducible exact Frame.refl _)
                      constructor <;> first | exact fun _ => rfl | exact fun h => absurd (bit_of_sub hm h) (by decide))
    | (with_reducible refine retarget_frame (sub_trans ?_ hm) ?_; decide)
    | (with_reducible refine modEstd_frame (sub_trans ?_ hm) ?_; decide)
theorem switchWeights_frame {M : Nat} {z0 : State} {s : State} (hm : 0x10004097180cf80 &&& M = 0x10004097180cf80)
    (hz : Frame M z0 s) : Frame M z0 (switchWeights s) := by
  unfold switchWeights
  repeat' first
    | with_reducible assumption
    | (with_reducible refine frame_lit ?_ ?_; rotate_left; (fail_if_success with_reducible exact Frame.refl _)
                      constructor <;> first | exact fun _ => rfl | exact fun h => absurd (bit_of_sub hm h) (by decide))
    | with_reducible refine frame_foldl (fun _ _ _ => ?_) ?_
    | (with_reducible refine distrustDom_frame (sub_trans ?_ hm) ?_; decide)
    | split
theorem countDistrust_frame {M : Nat} {z0 : State} {s : State} (hm : 0x800000 &&& M = 0x800000)
    (hz : Frame M z0 s) : Frame M z0 (countDistrust s) := by
  unfold countDistrust
  repeat' first
    | with_reducible assumption
    | (with_reducible refine frame_lit ?_ ?_; rotate_left; (fail_if_success with_reducible exact Frame.refl _)
                      constructor <;> first | exact fun _ => rfl | exact fun h => absurd (bit_of_sub hm h) (by decide))
theorem effEstimatorLatch_frame {M : Nat} {z0 : State} {raw : List (List Nat)} {lines : List (Nat × Nat)}
    {s : State} (hm : 0x10004097180cf80 &&& M = 0x10004097180cf80)
    (hz : Frame M z0 s) : Frame M z0 (effEstimatorLatch raw lines s) := by
  unfold effEstimatorLatch
  repeat' first
    | with_reducible assumption
    | (with_reducible refine frame_lit ?_ ?_; rotate_left; (fail_if_success with_reducible exact Frame.refl _)
                      constructor <;> first | exact fun _ => rfl | exact fun h => absurd (bit_of_sub hm h) (by decide))
    | with_reducible refine frame_ite (fun _ => ?_) (fun _ => ?_)
    | with_reducible refine frame_foldl (fun _ _ _ => ?_) ?_
    | with_reducible refine frame_foldl_fst (fun _ _ _ => ?_) ?_
    | (with_reducible refine countDistrust_frame (sub_trans ?_ hm) ?_; decide)
    | with_reducible refine switchWeights_frame hm ?_
    | (with_reducible refine raise_frame (sub_trans ?_ hm) ?_; decide)
    | split
    | dsimp only
theorem execEstimatorLatch_frame {M : Nat} {z0 : State} {raw : List (List Nat)} {lines : List (Nat × Nat)}
    {s : State} (hm : 0x10004097180cf80 &&& M = 0x10004097180cf80)
    (hz : Frame M z0 s) : Ends M z0 (execEstimatorLatch raw lines s) := by
  unfold execEstimatorLatch
  repeat' first
    | with_reducible assumption
    | with_reducible refine effEstimatorLatch_frame hm ?_
    | with_reducible refine live_frame (fun _ _ => ?_) ?_
theorem compareDom_frame {M : Nat} {z0 : State} {w : EWin} {s : State} {d : Nat}
    (hm : 0x4097180cf80 &&& M = 0x4097180cf80)
    (hz : Frame M z0 s) : Frame M z0 (compareDom w s d) := by
  unfold compareDom
  repeat' first
    | with_reducible assumption
    | (with_reducible refine frame_lit ?_ ?_; rotate_left; (fail_if_success with_reducible exact Frame.refl _)
                      constructor <;> first | exact fun _ => rfl | exact fun h => absurd (bit_of_sub hm h) (by decide))
    | with_reducible refine frame_ite (fun _ => ?_) (fun _ => ?_)
    | (with_reducible refine trustDom_frame (sub_trans ?_ hm) ?_; decide)
    | with_reducible refine distrustDom_frame hm ?_
    | (with_reducible refine modEstd_frame (sub_trans ?_ hm) ?_; decide)
    | split
    | dsimp only
theorem effEstimatorCompare_frame {M : Nat} {z0 : State} {s : State}
    (hm : 0x10004097180cf80 &&& M = 0x10004097180cf80)
    (hz : Frame M z0 s) : Frame M z0 (effEstimatorCompare s) := by
  unfold effEstimatorCompare
  repeat' first
    | with_reducible assumption
    | (with_reducible refine frame_lit ?_ ?_; rotate_left; (fail_if_success with_reducible exact Frame.refl _)
                      constructor <;> first | exact fun _ => rfl | exact fun h => absurd (bit_of_sub hm h) (by decide))
    | with_reducible refine frame_ite (fun _ => ?_) (fun _ => ?_)
    | with_reducible refine frame_foldl (fun _ _ _ => ?_) ?_
    | (with_reducible refine compareDom_frame (sub_trans ?_ hm) ?_; decide)
    | (with_reducible refine countDistrust_frame (sub_trans ?_ hm) ?_; decide)
    | with_reducible refine switchWeights_frame hm ?_
    | split
    | dsimp only
theorem execEstimatorCompare_frame {M : Nat} {z0 : State} {s : State}
    (hm : 0x10004097180cf80 &&& M = 0x10004097180cf80)
    (hz : Frame M z0 s) : Ends M z0 (execEstimatorCompare s) := by
  unfold execEstimatorCompare
  repeat' first
    | with_reducible assumption
    | with_reducible refine effEstimatorCompare_frame hm ?_
    | with_reducible refine live_frame (fun _ _ => ?_) ?_
theorem applyDom_frame {M : Nat} {z0 : State} {a : Nat} {w : Option EWin} {s : State} {d : Nat}
    (hm : 0x180cf80 &&& M = 0x180cf80)
    (hz : Frame M z0 s) : Frame M z0 (applyDom a w s d) := by
  unfold applyDom
  repeat' first
    | with_reducible assumption
    | (with_reducible refine frame_lit ?_ ?_; rotate_left; (fail_if_success with_reducible exact Frame.refl _)
                      constructor <;> first | exact fun _ => rfl | exact fun h => absurd (bit_of_sub hm h) (by decide))
    | with_reducible refine frame_ite (fun _ => ?_) (fun _ => ?_)
    | (with_reducible refine retarget_frame (sub_trans ?_ hm) ?_; decide)
    | (with_reducible refine restoreShed_frame (sub_trans ?_ hm) ?_; decide)
    | (with_reducible refine modEstd_frame (sub_trans ?_ hm) ?_; decide)
    | split
    | dsimp only
theorem effEstimatorApply_frame {M : Nat} {z0 : State} {s : State} (hm : 0x10004097180cf80 &&& M = 0x10004097180cf80)
    (hz : Frame M z0 s) : Frame M z0 (effEstimatorApply s) := by
  unfold effEstimatorApply
  repeat' first
    | with_reducible assumption
    | (with_reducible refine frame_lit ?_ ?_; rotate_left; (fail_if_success with_reducible exact Frame.refl _)
                      constructor <;> first | exact fun _ => rfl | exact fun h => absurd (bit_of_sub hm h) (by decide))
    | with_reducible refine frame_ite (fun _ => ?_) (fun _ => ?_)
    | with_reducible refine frame_foldl (fun _ _ _ => ?_) ?_
    | (with_reducible refine applyDom_frame (sub_trans ?_ hm) ?_; decide)
    | with_reducible refine effEstimatorCompare_frame hm ?_
    | split
    | dsimp only
theorem execEstimatorApply_frame {M : Nat} {z0 : State} {s : State} (hm : 0x10004097180cf80 &&& M = 0x10004097180cf80)
    (hz : Frame M z0 s) : Ends M z0 (execEstimatorApply s) := by
  unfold execEstimatorApply
  repeat' first
    | with_reducible assumption
    | with_reducible refine effEstimatorApply_frame hm ?_
    | with_reducible refine live_frame (fun _ _ => ?_) ?_
theorem estBeat_frame {M : Nat} {z0 : State} {s : State} (hm : 0x1000000 &&& M = 0x1000000)
    (hz : Frame M z0 s) : Frame M z0 (estBeat s) := by
  unfold estBeat
  repeat' first
    | with_reducible assumption
    | (with_reducible refine frame_lit ?_ ?_; rotate_left; (fail_if_success with_reducible exact Frame.refl _)
                      constructor <;> first | exact fun _ => rfl | exact fun h => absurd (bit_of_sub hm h) (by decide))
    | with_reducible refine frame_ite (fun _ => ?_) (fun _ => ?_)
    | split
    | dsimp only
theorem estRestart_frame {M : Nat} {z0 : State} {s : State} (hm : 0x1000000 &&& M = 0x1000000)
    (hz : Frame M z0 s) : Frame M z0 (estRestart s) := by
  unfold estRestart
  repeat' first
    | with_reducible assumption
    | (with_reducible refine frame_lit ?_ ?_; rotate_left; (fail_if_success with_reducible exact Frame.refl _)
                      constructor <;> first | exact fun _ => rfl | exact fun h => absurd (bit_of_sub hm h) (by decide))
theorem endEstTerms_frame {M : Nat} {z0 : State} {s : State} (hm : 0x100cf80 &&& M = 0x100cf80)
    (hz : Frame M z0 s) : Frame M z0 (endEstTerms s) := by
  unfold endEstTerms
  repeat' first
    | with_reducible assumption
    | (with_reducible refine frame_lit ?_ ?_; rotate_left; (fail_if_success with_reducible exact Frame.refl _)
                      constructor <;> first | exact fun _ => rfl | exact fun h => absurd (bit_of_sub hm h) (by decide))
    | with_reducible refine frame_ite (fun _ => ?_) (fun _ => ?_)
    | with_reducible refine frame_foldl (fun _ _ _ => ?_) ?_
    | (with_reducible refine retarget_frame (sub_trans ?_ hm) ?_; decide)
    | (with_reducible refine modEstd_frame (sub_trans ?_ hm) ?_; decide)
    | split
theorem execEstClrcnt_frame {M : Nat} {z0 : State} {s : State} (hm : 0x800000 &&& M = 0x800000)
    (hz : Frame M z0 s) : Ends M z0 (execEstClrcnt s) := by
  unfold execEstClrcnt
  repeat' first
    | with_reducible assumption
    | (with_reducible refine frame_lit ?_ ?_; rotate_left; (fail_if_success with_reducible exact Frame.refl _)
                      constructor <;> first | exact fun _ => rfl | exact fun h => absurd (bit_of_sub hm h) (by decide))
    | with_reducible refine bus_frame (fun _ _ => ?_) ?_
theorem loadWeights_frame {M : Nat} {z0 : State} {s : State} {img : List Byte}
    (hm : 0x40970800000 &&& M = 0x40970800000)
    (hz : Frame M z0 s) : Frame M z0 (loadWeights s img).1 := by
  unfold loadWeights
  repeat' first
    | with_reducible assumption
    | (with_reducible refine frame_lit ?_ ?_; rotate_left; (fail_if_success with_reducible exact Frame.refl _)
                      constructor <;> first | exact fun _ => rfl | exact fun h => absurd (bit_of_sub hm h) (by decide))
    | with_reducible refine frame_ite (fun _ => ?_) (fun _ => ?_)
    | (with_reducible refine raise_frame (sub_trans ?_ hm) ?_; decide)
    | split
    | dsimp only
theorem tallyAdd_frame {M : Nat} {z0 : State} {s : State} {beat : Nat} {iword : Nat} {result : Nat} {source : Nat}
    {detail : Nat} {lanes : Nat} {aux : Nat} {cseq : Nat} (hm : 0x4000000000000 &&& M = 0x4000000000000)
    (hz : Frame M z0 s) : Frame M z0 (tallyAdd s beat iword result source detail lanes aux cseq) := by
  unfold tallyAdd
  repeat' first
    | with_reducible assumption
    | (with_reducible refine frame_lit ?_ ?_; rotate_left; (fail_if_success with_reducible exact Frame.refl _)
                      constructor <;> first | exact fun _ => rfl | exact fun h => absurd (bit_of_sub hm h) (by decide))
theorem tallyEvent_frame {M : Nat} {z0 : State} {s : State} {beat : Nat} {source : Nat} {detail : Nat} {lanes : Nat}
    {aux : Nat} (hm : 0x4000000000000 &&& M = 0x4000000000000)
    (hz : Frame M z0 s) : Frame M z0 (tallyEvent s beat source detail lanes aux) := by
  unfold tallyEvent
  repeat' first
    | with_reducible assumption
    | with_reducible refine tallyAdd_frame hm ?_
theorem tallyResult_frame {M : Nat} {z0 : State} {s : State} {t : Nat} {result : Nat} {detail : Nat}
    (hm : 0x4000000000000 &&& M = 0x4000000000000)
    (hz : Frame M z0 s) : Frame M z0 (tallyResult s t result detail) := by
  unfold tallyResult
  repeat' first
    | with_reducible assumption
    | (with_reducible refine frame_lit ?_ ?_; rotate_left; (fail_if_success with_reducible exact Frame.refl _)
                      constructor <;> first | exact fun _ => rfl | exact fun h => absurd (bit_of_sub hm h) (by decide))
    | with_reducible refine frame_ite (fun _ => ?_) (fun _ => ?_)
    | split
theorem portPut_frame {M : Nat} {z0 : State} {s : State} {k : Nat} {m : Msg}
    (hm : 0x200040970000000 &&& M = 0x200040970000000)
    (hz : Frame M z0 s) : Frame M z0 (portPut s k m) := by
  unfold portPut
  repeat' first
    | with_reducible assumption
    | (with_reducible refine frame_lit ?_ ?_; rotate_left; (fail_if_success with_reducible exact Frame.refl _)
                      constructor <;> first | exact fun _ => rfl | exact fun h => absurd (bit_of_sub hm h) (by decide))
    | with_reducible refine frame_ite (fun _ => ?_) (fun _ => ?_)
    | (with_reducible refine raise_frame (sub_trans ?_ hm) ?_; decide)
    | split
    | dsimp only
theorem sendOn_frame {M : Nat} {z0 : State} {s : State} {f : Nat → Port → Bool} {m : Msg}
    (hm : 0x200040970000000 &&& M = 0x200040970000000)
    (hz : Frame M z0 s) : Frame M z0 (sendOn s f m) := by
  unfold sendOn
  repeat' first
    | with_reducible assumption
    | with_reducible refine frame_ite (fun _ => ?_) (fun _ => ?_)
    | with_reducible refine frame_foldl (fun _ _ _ => ?_) ?_
    | with_reducible refine portPut_frame hm ?_
    | split
theorem bumpSeq_frame {M : Nat} {z0 : State} {s : State} {kind : Nat}
    (hm : 0x200000000000000 &&& M = 0x200000000000000)
    (hz : Frame M z0 s) : Frame M z0 (bumpSeq s kind) := by
  unfold bumpSeq
  repeat' first
    | with_reducible assumption
    | (with_reducible refine frame_lit ?_ ?_; rotate_left; (fail_if_success with_reducible exact Frame.refl _)
                      constructor <;> first | exact fun _ => rfl | exact fun h => absurd (bit_of_sub hm h) (by decide))
theorem sendArmrpt_frame {M : Nat} {z0 : State} {s : State} {isArmed : Bool} {b : Nat}
    (hm : 0x200040970000000 &&& M = 0x200040970000000)
    (hz : Frame M z0 s) : Frame M z0 (sendArmrpt s isArmed b) := by
  unfold sendArmrpt
  repeat' first
    | with_reducible assumption
    | (with_reducible refine frame_lit ?_ ?_; rotate_left; (fail_if_success with_reducible exact Frame.refl _)
                      constructor <;> first | exact fun _ => rfl | exact fun h => absurd (bit_of_sub hm h) (by decide))
    | with_reducible refine frame_ite (fun _ => ?_) (fun _ => ?_)
    | (with_reducible refine bumpSeq_frame (sub_trans ?_ hm) ?_; decide)
    | with_reducible refine sendOn_frame hm ?_
    | split
    | dsimp only
theorem endTrack_frame {M : Nat} {z0 : State} {s : State} (hm : 0x280040970080000 &&& M = 0x280040970080000)
    (hz : Frame M z0 s) : Frame M z0 (endTrack s) := by
  unfold endTrack
  repeat' first
    | with_reducible assumption
    | (with_reducible refine frame_lit ?_ ?_; rotate_left; (fail_if_success with_reducible exact Frame.refl _)
                      constructor <;> first | exact fun _ => rfl | exact fun h => absurd (bit_of_sub hm h) (by decide))
    | with_reducible refine frame_ite (fun _ => ?_) (fun _ => ?_)
    | (with_reducible refine sendArmrpt_frame (sub_trans ?_ hm) ?_; decide)
    | split
    | dsimp only
theorem afterStop_frame {M : Nat} {z0 : State} {s : State} {was : Bool} {journal : Bool}
    (hm : 0x284040970080000 &&& M = 0x284040970080000)
    (hz : Frame M z0 s) : Frame M z0 (afterStop s was journal) := by
  unfold afterStop
  repeat' first
    | with_reducible assumption
    | with_reducible refine frame_ite (fun _ => ?_) (fun _ => ?_)
    | (with_reducible refine endTrack_frame (sub_trans ?_ hm) ?_; decide)
    | (with_reducible refine tallyEvent_frame (sub_trans ?_ hm) ?_; decide)
    | split
    | dsimp only
theorem haltLanes_frame {M : Nat} {z0 : State} {s : State} {mask : Nat}
    (hm : 0x284440970080000 &&& M = 0x284440970080000)
    (hz : Frame M z0 s) : Frame M z0 (haltLanes s mask) := by
  unfold haltLanes
  repeat' first
    | with_reducible assumption
    | (with_reducible refine frame_lit ?_ ?_; rotate_left; (fail_if_success with_reducible exact Frame.refl _)
                      constructor <;> first | exact fun _ => rfl | exact fun h => absurd (bit_of_sub hm h) (by decide))
    | with_reducible refine frame_ite (fun _ => ?_) (fun _ => ?_)
    | (with_reducible refine afterStop_frame (sub_trans ?_ hm) ?_; decide)
    | split
    | dsimp only
theorem abortLane_frame {M : Nat} {z0 : State} {s : State} {i : Fin 8} {cause : Nat}
    (hm : 0x284440970080000 &&& M = 0x284440970080000)
    (hz : Frame M z0 s) : Frame M z0 (abortLane s i cause) := by
  unfold abortLane
  repeat' first
    | with_reducible assumption
    | (with_reducible refine frame_lit ?_ ?_; rotate_left; (fail_if_success with_reducible exact Frame.refl _)
                      constructor <;> first | exact fun _ => rfl | exact fun h => absurd (bit_of_sub hm h) (by decide))
    | with_reducible refine frame_ite (fun _ => ?_) (fun _ => ?_)
    | (with_reducible refine afterStop_frame (sub_trans ?_ hm) ?_; decide)
    | (with_reducible refine tallyEvent_frame (sub_trans ?_ hm) ?_; decide)
    | (with_reducible refine raise_frame (sub_trans ?_ hm) ?_; decide)
    | split
    | dsimp only
theorem modRf_frame {M : Nat} {z0 : State} {s : State} {c : Ctx} {f : RegFile → RegFile}
    (hm : 0x2400000000000 &&& M = 0x2400000000000)
    (hz : Frame M z0 s) : Frame M z0 (modRf s c f) := by
  unfold modRf
  repeat' first
    | with_reducible assumption
    | (with_reducible refine frame_lit ?_ ?_; rotate_left; (fail_if_success with_reducible exact Frame.refl _)
                      constructor <;> first | exact fun _ => rfl | exact fun h => absurd (bit_of_sub hm h) (by decide))
    | split
theorem cmdDone_frame {M : Nat} {z0 : State} {s : State} {result : Nat} {detail : Nat} {due : Nat}
    (hm : 0x2000000000000 &&& M = 0x2000000000000)
    (hz : Frame M z0 s) : Frame M z0 (cmdDone s result detail due) := by
  unfold cmdDone
  repeat' first
    | with_reducible assumption
    | (with_reducible refine frame_lit ?_ ?_; rotate_left; (fail_if_success with_reducible exact Frame.refl _)
                      constructor <;> first | exact fun _ => rfl | exact fun h => absurd (bit_of_sub hm h) (by decide))
theorem stepLane_frame {M : Nat} {z0 : State} {s : State} {l : Fin 8} {actuation : Bool}
    (hm : 0x400000000000 &&& M = 0x400000000000)
    (hz : Frame M z0 s) : Frame M z0 (stepLane s l actuation) := by
  unfold stepLane
  repeat' first
    | with_reducible assumption
    | (with_reducible refine frame_lit ?_ ?_; rotate_left; (fail_if_success with_reducible exact Frame.refl _)
                      constructor <;> first | exact fun _ => rfl | exact fun h => absurd (bit_of_sub hm h) (by decide))
    | with_reducible refine frame_ite (fun _ => ?_) (fun _ => ?_)
    | split
    | dsimp only
theorem stepCmd_frame {M : Nat} {z0 : State} {s : State} (hm : 0x2000000000000 &&& M = 0x2000000000000)
    (hz : Frame M z0 s) : Frame M z0 (stepCmd s) := by
  unfold stepCmd
  repeat' first
    | with_reducible assumption
    | (with_reducible refine frame_lit ?_ ?_; rotate_left; (fail_if_success with_reducible exact Frame.refl _)
                      constructor <;> first | exact fun _ => rfl | exact fun h => absurd (bit_of_sub hm h) (by decide))
theorem deferAct_frame {M : Nat} {z0 : State} {s : State} {l : Fin 8} (hm : 0x440970000000 &&& M = 0x440970000000)
    (hz : Frame M z0 s) : Frame M z0 (deferAct s l) := by
  unfold deferAct
  repeat' first
    | with_reducible assumption
    | (with_reducible refine frame_lit ?_ ?_; rotate_left; (fail_if_success with_reducible exact Frame.refl _)
                      constructor <;> first | exact fun _ => rfl | exact fun h => absurd (bit_of_sub hm h) (by decide))
    | with_reducible refine frame_ite (fun _ => ?_) (fun _ => ?_)
    | (with_reducible refine raise_frame (sub_trans ?_ hm) ?_; decide)
    | split
    | dsimp only
theorem issueLane_frame {M : Nat} {z0 : State} {s : State} {l : Fin 8} {want : Nat → Bool} {f : Nat → State → State}
    (hm : 0x284440970080000 &&& M = 0x284440970080000) (hf : ∀ w s, Frame M z0 s → Frame M z0 (f w s))
    (hz : Frame M z0 s) : Frame M z0 (issueLane s l want f) := by
  unfold issueLane
  repeat' first
    | with_reducible assumption
    | with_reducible refine frame_ite (fun _ => ?_) (fun _ => ?_)
    | with_reducible refine hf _ _ ?_
    | (with_reducible refine deferAct_frame (sub_trans ?_ hm) ?_; decide)
    | (with_reducible refine stepLane_frame (sub_trans ?_ hm) ?_; decide)
    | with_reducible refine abortLane_frame hm ?_
    | split
    | dsimp only
theorem issueCmd_frame {M : Nat} {z0 : State} {s : State} {want : Nat → Bool} {f : Nat → State → State}
    (hm : 0x2000000000000 &&& M = 0x2000000000000) (hf : ∀ w s, Frame M z0 s → Frame M z0 (f w s))
    (hz : Frame M z0 s) : Frame M z0 (issueCmd s want f) := by
  unfold issueCmd
  repeat' first
    | with_reducible assumption
    | with_reducible refine frame_ite (fun _ => ?_) (fun _ => ?_)
    | with_reducible refine hf _ _ ?_
    | with_reducible refine stepCmd_frame hm ?_
    | with_reducible refine cmdDone_frame hm ?_
    | split
    | dsimp only
theorem issue_frame {M : Nat} {z0 : State} {c : Ctx} {want : Nat → Bool} {f : Nat → State → State} {s : State}
    (hm : 0x286440970080000 &&& M = 0x286440970080000) (hf : ∀ w s, Frame M z0 s → Frame M z0 (f w s))
    (hz : Frame M z0 s) : Frame M z0 (issue c want f s) := by
  unfold issue
  repeat' first
    | with_reducible assumption
    | with_reducible refine hf _ _ ?_
    | (with_reducible refine issueCmd_frame (sub_trans ?_ hm) (fun _ _ _ => ?_) ?_; decide)
    | (with_reducible refine issueLane_frame (sub_trans ?_ hm) (fun _ _ _ => ?_) ?_; decide)
    | split
theorem lateBy_frame {M : Nat} {z0 : State} {s : State} {l : Fin 8} {n : Nat}
    (hm : 0x240970000000 &&& M = 0x240970000000)
    (hz : Frame M z0 s) : Frame M z0 (lateBy s l n) := by
  unfold lateBy
  repeat' first
    | with_reducible assumption
    | (with_reducible refine frame_lit ?_ ?_; rotate_left; (fail_if_success with_reducible exact Frame.refl _)
                      constructor <;> first | exact fun _ => rfl | exact fun h => absurd (bit_of_sub hm h) (by decide))
    | (with_reducible refine raise_frame (sub_trans ?_ hm) ?_; decide)
    | split
theorem countLate_frame {M : Nat} {z0 : State} {s : State} {c : Ctx} (hm : 0x240970000000 &&& M = 0x240970000000)
    (hz : Frame M z0 s) : Frame M z0 (countLate s c) := by
  unfold countLate
  repeat' first
    | with_reducible assumption
    | with_reducible refine lateBy_frame hm ?_
    | split
theorem enqueue_frame {M : Nat} {z0 : State} {c : Ctx} {w : Nat} {s : State}
    (hm : 0xe40970000000 &&& M = 0xe40970000000)
    (hz : Frame M z0 s) : Frame M z0 (enqueue c w s) := by
  unfold enqueue
  repeat' first
    | with_reducible assumption
    | (with_reducible refine frame_lit ?_ ?_; rotate_left; (fail_if_success with_reducible exact Frame.refl _)
                      constructor <;> first | exact fun _ => rfl | exact fun h => absurd (bit_of_sub hm h) (by decide))
    | with_reducible refine frame_ite (fun _ => ?_) (fun _ => ?_)
    | (with_reducible refine countLate_frame (sub_trans ?_ hm) ?_; decide)
    | split
    | dsimp only
theorem atOnce_frame {M : Nat} {z0 : State} {c : Ctx} {f : State → State} {s : State}
    (hm : 0x2000000000000 &&& M = 0x2000000000000) (hf : ∀ s, Frame M z0 s → Frame M z0 (f s))
    (hz : Frame M z0 s) : Frame M z0 (atOnce c f s) := by
  unfold atOnce
  repeat' first
    | with_reducible assumption
    | with_reducible refine hf _ ?_
    | with_reducible refine cmdDone_frame hm ?_
    | split

end Sys2Proof.Machine
end

