-- ==== Sys2Proof/Laws/Touch4.lean ====
section
/-! SUPPORT. Which groups of State the operations of Machine/Issue, Plans may touch: each keeps every frame whose set
holds its own. -/

namespace Sys2Proof.Machine

theorem effCommandGo_frame {M : Nat} {z0 : State} {s : State} (hm : 0x2000000000000 &&& M = 0x2000000000000)
    (hz : Frame M z0 s) : Frame M z0 (effCommandGo s) := by
  unfold effCommandGo
  repeat' first
    | with_reducible assumption
    | (with_reducible refine frame_lit ?_ ?_; rotate_left; (fail_if_success with_reducible exact Frame.refl _)
                      constructor <;> first | exact fun _ => rfl | exact fun h => absurd (bit_of_sub hm h) (by decide))
    | with_reducible refine frame_ite (fun _ => ?_) (fun _ => ?_)
    | split
    | dsimp only
theorem execCommandGo_frame {M : Nat} {z0 : State} {s : State} (hm : 0x2000000000000 &&& M = 0x2000000000000)
    (hz : Frame M z0 s) : Ends M z0 (execCommandGo s) := by
  unfold execCommandGo
  repeat' first
    | with_reducible assumption
    | with_reducible refine effCommandGo_frame hm ?_
    | with_reducible refine bus_frame (fun _ _ => ?_) ?_
theorem effCommandAccept_frame {M : Nat} {z0 : State} {s : State} (hm : 0x6000000000000 &&& M = 0x6000000000000)
    (hz : Frame M z0 s) : Frame M z0 (effCommandAccept s) := by
  unfold effCommandAccept
  repeat' first
    | with_reducible assumption
    | (with_reducible refine frame_lit ?_ ?_; rotate_left; (fail_if_success with_reducible exact Frame.refl _)
                      constructor <;> first | exact fun _ => rfl | exact fun h => absurd (bit_of_sub hm h) (by decide))
    | with_reducible refine frame_ite (fun _ => ?_) (fun _ => ?_)
    | (with_reducible refine cmdDone_frame (sub_trans ?_ hm) ?_; decide)
    | (with_reducible refine tallyAdd_frame (sub_trans ?_ hm) ?_; decide)
    | split
    | dsimp only
theorem execCommandAccept_frame {M : Nat} {z0 : State} {s : State} (hm : 0x6000000000000 &&& M = 0x6000000000000)
    (hz : Frame M z0 s) : Ends M z0 (execCommandAccept s) := by
  unfold execCommandAccept
  repeat' first
    | with_reducible assumption
    | with_reducible refine effCommandAccept_frame hm ?_
    | with_reducible refine live_frame (fun _ _ => ?_) ?_
theorem effCommandComplete_frame {M : Nat} {z0 : State} {s : State} (hm : 0x6000000000000 &&& M = 0x6000000000000)
    (hz : Frame M z0 s) : Frame M z0 (effCommandComplete s) := by
  unfold effCommandComplete
  repeat' first
    | with_reducible assumption
    | (with_reducible refine frame_lit ?_ ?_; rotate_left; (fail_if_success with_reducible exact Frame.refl _)
                      constructor <;> first | exact fun _ => rfl | exact fun h => absurd (bit_of_sub hm h) (by decide))
    | with_reducible refine frame_ite (fun _ => ?_) (fun _ => ?_)
    | (with_reducible refine tallyResult_frame (sub_trans ?_ hm) ?_; decide)
    | split
theorem execCommandComplete_frame {M : Nat} {z0 : State} {s : State} (hm : 0x6000000000000 &&& M = 0x6000000000000)
    (hz : Frame M z0 s) : Ends M z0 (execCommandComplete s) := by
  unfold execCommandComplete
  repeat' first
    | with_reducible assumption
    | with_reducible refine effCommandComplete_frame hm ?_
    | with_reducible refine live_frame (fun _ _ => ?_) ?_
theorem execCmdwClrcnt_frame {M : Nat} {z0 : State} {s : State} (hm : 0x2000000000000 &&& M = 0x2000000000000)
    (hz : Frame M z0 s) : Ends M z0 (execCmdwClrcnt s) := by
  unfold execCmdwClrcnt
  repeat' first
    | with_reducible assumption
    | (with_reducible refine frame_lit ?_ ?_; rotate_left; (fail_if_success with_reducible exact Frame.refl _)
                      constructor <;> first | exact fun _ => rfl | exact fun h => absurd (bit_of_sub hm h) (by decide))
    | with_reducible refine bus_frame (fun _ _ => ?_) ?_
theorem execSeqTrkClrcnt_frame {M : Nat} {z0 : State} {s : State} (hm : 0x200000000000 &&& M = 0x200000000000)
    (hz : Frame M z0 s) : Ends M z0 (execSeqTrkClrcnt s) := by
  unfold execSeqTrkClrcnt
  repeat' first
    | with_reducible assumption
    | (with_reducible refine frame_lit ?_ ?_; rotate_left; (fail_if_success with_reducible exact Frame.refl _)
                      constructor <;> first | exact fun _ => rfl | exact fun h => absurd (bit_of_sub hm h) (by decide))
    | with_reducible refine bus_frame (fun _ _ => ?_) ?_
theorem execSeqLaneOvrClear_frame {M : Nat} {z0 : State} {l : Fin 8} {s : State}
    (hm : 0x400000000000 &&& M = 0x400000000000)
    (hz : Frame M z0 s) : Ends M z0 (execSeqLaneOvrClear l s) := by
  unfold execSeqLaneOvrClear
  repeat' first
    | with_reducible assumption
    | (with_reducible refine frame_lit ?_ ?_; rotate_left; (fail_if_success with_reducible exact Frame.refl _)
                      constructor <;> first | exact fun _ => rfl | exact fun h => absurd (bit_of_sub hm h) (by decide))
    | with_reducible refine bus_frame (fun _ _ => ?_) ?_
theorem modLane_frame {M : Nat} {z0 : State} {s : State} {l : Fin 8} {f : Lane → Lane}
    (hm : 0x400000000000 &&& M = 0x400000000000)
    (hz : Frame M z0 s) : Frame M z0 (modLane s l f) := by
  unfold modLane
  repeat' first
    | with_reducible assumption
    | (with_reducible refine frame_lit ?_ ?_; rotate_left; (fail_if_success with_reducible exact Frame.refl _)
                      constructor <;> first | exact fun _ => rfl | exact fun h => absurd (bit_of_sub hm h) (by decide))
theorem effLaneStart_frame {M : Nat} {z0 : State} {s : State} (hm : 0x284600000000000 &&& M = 0x284600000000000)
    (hz : Frame M z0 s) : Frame M z0 (effLaneStart s) := by
  unfold effLaneStart
  repeat' first
    | with_reducible assumption
    | (with_reducible refine frame_lit ?_ ?_; rotate_left; (fail_if_success with_reducible exact Frame.refl _)
                      constructor <;> first | exact fun _ => rfl | exact fun h => absurd (bit_of_sub hm h) (by decide))
    | with_reducible refine frame_ite (fun _ => ?_) (fun _ => ?_)
    | (with_reducible refine tallyEvent_frame (sub_trans ?_ hm) ?_; decide)
    | split
    | dsimp only
theorem execLaneStart_frame {M : Nat} {z0 : State} {s : State} (hm : 0x284600000000000 &&& M = 0x284600000000000)
    (hz : Frame M z0 s) : Ends M z0 (execLaneStart s) := by
  unfold execLaneStart
  repeat' first
    | with_reducible assumption
    | with_reducible refine effLaneStart_frame hm ?_
    | with_reducible refine live_frame (fun _ _ => ?_) ?_
theorem effLaneResume_frame {M : Nat} {z0 : State} {l : Fin 8} {s : State}
    (hm : 0x400000000000 &&& M = 0x400000000000)
    (hz : Frame M z0 s) : Frame M z0 (effLaneResume l s) := by
  unfold effLaneResume
  repeat' first
    | with_reducible assumption
    | (with_reducible refine frame_lit ?_ ?_; rotate_left; (fail_if_success with_reducible exact Frame.refl _)
                      constructor <;> first | exact fun _ => rfl | exact fun h => absurd (bit_of_sub hm h) (by decide))
    | with_reducible refine frame_ite (fun _ => ?_) (fun _ => ?_)
    | with_reducible refine modLane_frame hm ?_
    | split
    | dsimp only
theorem execLaneResume_frame {M : Nat} {z0 : State} {l : Fin 8} {s : State}
    (hm : 0x400000000000 &&& M = 0x400000000000)
    (hz : Frame M z0 s) : Ends M z0 (execLaneResume l s) := by
  unfold execLaneResume
  repeat' first
    | with_reducible assumption
    | with_reducible refine effLaneResume_frame hm ?_
    | with_reducible refine live_frame (fun _ _ => ?_) ?_
theorem effBarComplete_frame {M : Nat} {z0 : State} {l : Fin 8} {s : State}
    (hm : 0x400000000000 &&& M = 0x400000000000)
    (hz : Frame M z0 s) : Frame M z0 (effBarComplete l s) := by
  unfold effBarComplete
  repeat' first
    | with_reducible assumption
    | (with_reducible refine frame_lit ?_ ?_; rotate_left; (fail_if_success with_reducible exact Frame.refl _)
                      constructor <;> first | exact fun _ => rfl | exact fun h => absurd (bit_of_sub hm h) (by decide))
    | with_reducible refine frame_ite (fun _ => ?_) (fun _ => ?_)
    | split
    | dsimp only
theorem execBarComplete_frame {M : Nat} {z0 : State} {l : Fin 8} {s : State}
    (hm : 0x400000000000 &&& M = 0x400000000000)
    (hz : Frame M z0 s) : Ends M z0 (execBarComplete l s) := by
  unfold execBarComplete
  repeat' first
    | with_reducible assumption
    | with_reducible refine effBarComplete_frame hm ?_
    | with_reducible refine live_frame (fun _ _ => ?_) ?_
theorem execNop_frame {M : Nat} {z0 : State} {c : Ctx} {s : State} (hm : 0x286440970080000 &&& M = 0x286440970080000)
    (hz : Frame M z0 s) : Ends M z0 (execNop c s) := by
  unfold execNop
  repeat' first
    | with_reducible assumption
    | (with_reducible refine atOnce_frame (sub_trans ?_ hm) (fun _ _ => ?_) ?_; decide)
    | with_reducible refine issue_frame hm (fun _ _ _ => ?_) ?_
    | with_reducible refine live_frame (fun _ _ => ?_) ?_
theorem execHalt_frame {M : Nat} {z0 : State} {c : Ctx} {s : State} (hm : 0x286440970080000 &&& M = 0x286440970080000)
    (hz : Frame M z0 s) : Ends M z0 (execHalt c s) := by
  unfold execHalt
  repeat' first
    | with_reducible assumption
    | with_reducible refine issue_frame hm (fun _ _ _ => ?_) ?_
    | (with_reducible refine haltLanes_frame (sub_trans ?_ hm) ?_; decide)
    | with_reducible refine live_frame (fun _ _ => ?_) ?_
    | split
theorem waitBeat_frame {M : Nat} {z0 : State} {l : Fin 8} {t : Nat} {setB : Option Nat} {s : State}
    (hm : 0x400000000000 &&& M = 0x400000000000)
    (hz : Frame M z0 s) : Frame M z0 (waitBeat l t setB s) := by
  unfold waitBeat
  repeat' first
    | with_reducible assumption
    | (with_reducible refine frame_lit ?_ ?_; rotate_left; (fail_if_success with_reducible exact Frame.refl _)
                      constructor <;> first | exact fun _ => rfl | exact fun h => absurd (bit_of_sub hm h) (by decide))
    | with_reducible refine frame_ite (fun _ => ?_) (fun _ => ?_)
    | with_reducible refine modLane_frame hm ?_
    | split
    | dsimp only
theorem execAt_frame {M : Nat} {z0 : State} {c : Ctx} {s : State} (hm : 0x286440970080000 &&& M = 0x286440970080000)
    (hz : Frame M z0 s) : Ends M z0 (execAt c s) := by
  unfold execAt
  repeat' first
    | with_reducible assumption
    | (with_reducible refine waitBeat_frame (sub_trans ?_ hm) ?_; decide)
    | with_reducible refine issue_frame hm (fun _ _ _ => ?_) ?_
    | with_reducible refine live_frame (fun _ _ => ?_) ?_
    | split
theorem execWait_frame {M : Nat} {z0 : State} {c : Ctx} {s : State} (hm : 0x286440970080000 &&& M = 0x286440970080000)
    (hz : Frame M z0 s) : Ends M z0 (execWait c s) := by
  unfold execWait
  repeat' first
    | with_reducible assumption
    | (with_reducible refine waitBeat_frame (sub_trans ?_ hm) ?_; decide)
    | with_reducible refine issue_frame hm (fun _ _ _ => ?_) ?_
    | with_reducible refine live_frame (fun _ _ => ?_) ?_
    | split
theorem execSeg_frame {M : Nat} {z0 : State} {c : Ctx} {s : State} (hm : 0x286e40970080000 &&& M = 0x286e40970080000)
    (hz : Frame M z0 s) : Ends M z0 (execSeg c s) := by
  unfold execSeg
  repeat' first
    | with_reducible assumption
    | (with_reducible refine enqueue_frame (sub_trans ?_ hm) ?_; decide)
    | (with_reducible refine issue_frame (sub_trans ?_ hm) (fun _ _ _ => ?_) ?_; decide)
    | with_reducible refine live_frame (fun _ _ => ?_) ?_
theorem execMark_frame {M : Nat} {z0 : State} {c : Ctx} {s : State} (hm : 0x286440970080000 &&& M = 0x286440970080000)
    (hz : Frame M z0 s) : Ends M z0 (execMark c s) := by
  unfold execMark
  repeat' first
    | with_reducible assumption
    | (with_reducible refine frame_lit ?_ ?_; rotate_left; (fail_if_success with_reducible exact Frame.refl _)
                      constructor <;> first | exact fun _ => rfl | exact fun h => absurd (bit_of_sub hm h) (by decide))
    | (with_reducible refine atOnce_frame (sub_trans ?_ hm) (fun _ _ => ?_) ?_; decide)
    | with_reducible refine issue_frame hm (fun _ _ _ => ?_) ?_
    | (with_reducible refine modRf_frame (sub_trans ?_ hm) ?_; decide)
    | with_reducible refine live_frame (fun _ _ => ?_) ?_
    | dsimp only
theorem execVset_frame {M : Nat} {z0 : State} {c : Ctx} {s : State} (hm : 0x286e40970080000 &&& M = 0x286e40970080000)
    (hz : Frame M z0 s) : Ends M z0 (execVset c s) := by
  unfold execVset
  repeat' first
    | with_reducible assumption
    | (with_reducible refine enqueue_frame (sub_trans ?_ hm) ?_; decide)
    | (with_reducible refine issue_frame (sub_trans ?_ hm) (fun _ _ _ => ?_) ?_; decide)
    | with_reducible refine live_frame (fun _ _ => ?_) ?_
theorem execLline_frame {M : Nat} {z0 : State} {c : Ctx} {s : State}
    (hm : 0x286e40970080000 &&& M = 0x286e40970080000)
    (hz : Frame M z0 s) : Ends M z0 (execLline c s) := by
  unfold execLline
  repeat' first
    | with_reducible assumption
    | (with_reducible refine enqueue_frame (sub_trans ?_ hm) ?_; decide)
    | (with_reducible refine issue_frame (sub_trans ?_ hm) (fun _ _ _ => ?_) ?_; decide)
    | with_reducible refine live_frame (fun _ _ => ?_) ?_
theorem execNote_frame {M : Nat} {z0 : State} {c : Ctx} {s : State} (hm : 0x286e40970080000 &&& M = 0x286e40970080000)
    (hz : Frame M z0 s) : Ends M z0 (execNote c s) := by
  unfold execNote
  repeat' first
    | with_reducible assumption
    | (with_reducible refine enqueue_frame (sub_trans ?_ hm) ?_; decide)
    | (with_reducible refine issue_frame (sub_trans ?_ hm) (fun _ _ _ => ?_) ?_; decide)
    | with_reducible refine live_frame (fun _ _ => ?_) ?_
theorem execOpsel_frame {M : Nat} {z0 : State} {c : Ctx} {s : State}
    (hm : 0x286e40970080000 &&& M = 0x286e40970080000)
    (hz : Frame M z0 s) : Ends M z0 (execOpsel c s) := by
  unfold execOpsel
  repeat' first
    | with_reducible assumption
    | (with_reducible refine enqueue_frame (sub_trans ?_ hm) ?_; decide)
    | (with_reducible refine issue_frame (sub_trans ?_ hm) (fun _ _ _ => ?_) ?_; decide)
    | with_reducible refine live_frame (fun _ _ => ?_) ?_
theorem execGate_frame {M : Nat} {z0 : State} {c : Ctx} {s : State} (hm : 0x286e40970080000 &&& M = 0x286e40970080000)
    (hz : Frame M z0 s) : Ends M z0 (execGate c s) := by
  unfold execGate
  repeat' first
    | with_reducible assumption
    | (with_reducible refine enqueue_frame (sub_trans ?_ hm) ?_; decide)
    | (with_reducible refine issue_frame (sub_trans ?_ hm) (fun _ _ _ => ?_) ?_; decide)
    | with_reducible refine live_frame (fun _ _ => ?_) ?_
theorem execWake_frame {M : Nat} {z0 : State} {c : Ctx} {s : State} (hm : 0x286e40970080000 &&& M = 0x286e40970080000)
    (hz : Frame M z0 s) : Ends M z0 (execWake c s) := by
  unfold execWake
  repeat' first
    | with_reducible assumption
    | (with_reducible refine enqueue_frame (sub_trans ?_ hm) ?_; decide)
    | (with_reducible refine issue_frame (sub_trans ?_ hm) (fun _ _ _ => ?_) ?_; decide)
    | with_reducible refine live_frame (fun _ _ => ?_) ?_
theorem execBank_frame {M : Nat} {z0 : State} {c : Ctx} {s : State} (hm : 0x286e40970080000 &&& M = 0x286e40970080000)
    (hz : Frame M z0 s) : Ends M z0 (execBank c s) := by
  unfold execBank
  repeat' first
    | with_reducible assumption
    | (with_reducible refine enqueue_frame (sub_trans ?_ hm) ?_; decide)
    | (with_reducible refine issue_frame (sub_trans ?_ hm) (fun _ _ _ => ?_) ?_; decide)
    | with_reducible refine live_frame (fun _ _ => ?_) ?_
theorem execStartg_frame {M : Nat} {z0 : State} {c : Ctx} {s : State}
    (hm : 0x286e40970080000 &&& M = 0x286e40970080000)
    (hz : Frame M z0 s) : Ends M z0 (execStartg c s) := by
  unfold execStartg
  repeat' first
    | with_reducible assumption
    | (with_reducible refine enqueue_frame (sub_trans ?_ hm) ?_; decide)
    | (with_reducible refine issue_frame (sub_trans ?_ hm) (fun _ _ _ => ?_) ?_; decide)
    | with_reducible refine live_frame (fun _ _ => ?_) ?_
theorem execCapDomainIlim_frame {M : Nat} {z0 : State} {c : Ctx} {s : State}
    (hm : 0x286e40970080000 &&& M = 0x286e40970080000)
    (hz : Frame M z0 s) : Ends M z0 (execCapDomainIlim c s) := by
  unfold execCapDomainIlim
  repeat' first
    | with_reducible assumption
    | (with_reducible refine enqueue_frame (sub_trans ?_ hm) ?_; decide)
    | (with_reducible refine issue_frame (sub_trans ?_ hm) (fun _ _ _ => ?_) ?_; decide)
    | with_reducible refine live_frame (fun _ _ => ?_) ?_
theorem execCapDieLimit_frame {M : Nat} {z0 : State} {c : Ctx} {s : State}
    (hm : 0x286e40970080000 &&& M = 0x286e40970080000)
    (hz : Frame M z0 s) : Ends M z0 (execCapDieLimit c s) := by
  unfold execCapDieLimit
  repeat' first
    | with_reducible assumption
    | (with_reducible refine enqueue_frame (sub_trans ?_ hm) ?_; decide)
    | (with_reducible refine issue_frame (sub_trans ?_ hm) (fun _ _ _ => ?_) ?_; decide)
    | with_reducible refine live_frame (fun _ _ => ?_) ?_
theorem execCapPackagePower_frame {M : Nat} {z0 : State} {c : Ctx} {s : State}
    (hm : 0x286e40970080000 &&& M = 0x286e40970080000)
    (hz : Frame M z0 s) : Ends M z0 (execCapPackagePower c s) := by
  unfold execCapPackagePower
  repeat' first
    | with_reducible assumption
    | (with_reducible refine enqueue_frame (sub_trans ?_ hm) ?_; decide)
    | (with_reducible refine issue_frame (sub_trans ?_ hm) (fun _ _ _ => ?_) ?_; decide)
    | with_reducible refine live_frame (fun _ _ => ?_) ?_
theorem execCapAveragingPeriod_frame {M : Nat} {z0 : State} {c : Ctx} {s : State}
    (hm : 0x286e40970080000 &&& M = 0x286e40970080000)
    (hz : Frame M z0 s) : Ends M z0 (execCapAveragingPeriod c s) := by
  unfold execCapAveragingPeriod
  repeat' first
    | with_reducible assumption
    | (with_reducible refine enqueue_frame (sub_trans ?_ hm) ?_; decide)
    | (with_reducible refine issue_frame (sub_trans ?_ hm) (fun _ _ _ => ?_) ?_; decide)
    | with_reducible refine live_frame (fun _ _ => ?_) ?_
theorem execOvly_frame {M : Nat} {z0 : State} {c : Ctx} {s : State} (hm : 0x286e40970080000 &&& M = 0x286e40970080000)
    (hz : Frame M z0 s) : Ends M z0 (execOvly c s) := by
  unfold execOvly
  repeat' first
    | with_reducible assumption
    | (with_reducible refine enqueue_frame (sub_trans ?_ hm) ?_; decide)
    | (with_reducible refine issue_frame (sub_trans ?_ hm) (fun _ _ _ => ?_) ?_; decide)
    | with_reducible refine live_frame (fun _ _ => ?_) ?_
theorem execPrio_frame {M : Nat} {z0 : State} {c : Ctx} {s : State} (hm : 0x286e40970080000 &&& M = 0x286e40970080000)
    (hz : Frame M z0 s) : Ends M z0 (execPrio c s) := by
  unfold execPrio
  repeat' first
    | with_reducible assumption
    | (with_reducible refine enqueue_frame (sub_trans ?_ hm) ?_; decide)
    | (with_reducible refine issue_frame (sub_trans ?_ hm) (fun _ _ _ => ?_) ?_; decide)
    | with_reducible refine live_frame (fun _ _ => ?_) ?_
theorem execTelNormal_frame {M : Nat} {z0 : State} {c : Ctx} {s : State}
    (hm : 0x286e40970080000 &&& M = 0x286e40970080000)
    (hz : Frame M z0 s) : Ends M z0 (execTelNormal c s) := by
  unfold execTelNormal
  repeat' first
    | with_reducible assumption
    | (with_reducible refine enqueue_frame (sub_trans ?_ hm) ?_; decide)
    | (with_reducible refine issue_frame (sub_trans ?_ hm) (fun _ _ _ => ?_) ?_; decide)
    | with_reducible refine live_frame (fun _ _ => ?_) ?_
theorem execTelFine_frame {M : Nat} {z0 : State} {c : Ctx} {s : State}
    (hm : 0x286e40970080000 &&& M = 0x286e40970080000)
    (hz : Frame M z0 s) : Ends M z0 (execTelFine c s) := by
  unfold execTelFine
  repeat' first
    | with_reducible assumption
    | (with_reducible refine enqueue_frame (sub_trans ?_ hm) ?_; decide)
    | (with_reducible refine issue_frame (sub_trans ?_ hm) (fun _ _ _ => ?_) ?_; decide)
    | with_reducible refine live_frame (fun _ _ => ?_) ?_
theorem execTelTag_frame {M : Nat} {z0 : State} {c : Ctx} {s : State}
    (hm : 0x286e40970080000 &&& M = 0x286e40970080000)
    (hz : Frame M z0 s) : Ends M z0 (execTelTag c s) := by
  unfold execTelTag
  repeat' first
    | with_reducible assumption
    | (with_reducible refine enqueue_frame (sub_trans ?_ hm) ?_; decide)
    | (with_reducible refine issue_frame (sub_trans ?_ hm) (fun _ _ _ => ?_) ?_; decide)
    | with_reducible refine live_frame (fun _ _ => ?_) ?_
theorem execGran_frame {M : Nat} {z0 : State} {c : Ctx} {s : State} (hm : 0x286e40970080000 &&& M = 0x286e40970080000)
    (hz : Frame M z0 s) : Ends M z0 (execGran c s) := by
  unfold execGran
  repeat' first
    | with_reducible assumption
    | (with_reducible refine enqueue_frame (sub_trans ?_ hm) ?_; decide)
    | (with_reducible refine issue_frame (sub_trans ?_ hm) (fun _ _ _ => ?_) ?_; decide)
    | with_reducible refine live_frame (fun _ _ => ?_) ?_
theorem execSave_frame {M : Nat} {z0 : State} {c : Ctx} {s : State} (hm : 0x286e40970080000 &&& M = 0x286e40970080000)
    (hz : Frame M z0 s) : Ends M z0 (execSave c s) := by
  unfold execSave
  repeat' first
    | with_reducible assumption
    | (with_reducible refine enqueue_frame (sub_trans ?_ hm) ?_; decide)
    | (with_reducible refine issue_frame (sub_trans ?_ hm) (fun _ _ _ => ?_) ?_; decide)
    | with_reducible refine live_frame (fun _ _ => ?_) ?_
theorem execLi_frame {M : Nat} {z0 : State} {c : Ctx} {s : State} (hm : 0x286440970080000 &&& M = 0x286440970080000)
    (hz : Frame M z0 s) : Ends M z0 (execLi c s) := by
  unfold execLi
  repeat' first
    | with_reducible assumption
    | (with_reducible refine atOnce_frame (sub_trans ?_ hm) (fun _ _ => ?_) ?_; decide)
    | with_reducible refine issue_frame hm (fun _ _ _ => ?_) ?_
    | (with_reducible refine modRf_frame (sub_trans ?_ hm) ?_; decide)
    | with_reducible refine live_frame (fun _ _ => ?_) ?_
theorem execAdd_frame {M : Nat} {z0 : State} {c : Ctx} {s : State} (hm : 0x286440970080000 &&& M = 0x286440970080000)
    (hz : Frame M z0 s) : Ends M z0 (execAdd c s) := by
  unfold execAdd
  repeat' first
    | with_reducible assumption
    | (with_reducible refine atOnce_frame (sub_trans ?_ hm) (fun _ _ => ?_) ?_; decide)
    | with_reducible refine issue_frame hm (fun _ _ _ => ?_) ?_
    | (with_reducible refine modRf_frame (sub_trans ?_ hm) ?_; decide)
    | with_reducible refine live_frame (fun _ _ => ?_) ?_
theorem execSub_frame {M : Nat} {z0 : State} {c : Ctx} {s : State} (hm : 0x286440970080000 &&& M = 0x286440970080000)
    (hz : Frame M z0 s) : Ends M z0 (execSub c s) := by
  unfold execSub
  repeat' first
    | with_reducible assumption
    | (with_reducible refine atOnce_frame (sub_trans ?_ hm) (fun _ _ => ?_) ?_; decide)
    | with_reducible refine issue_frame hm (fun _ _ _ => ?_) ?_
    | (with_reducible refine modRf_frame (sub_trans ?_ hm) ?_; decide)
    | with_reducible refine live_frame (fun _ _ => ?_) ?_
theorem execMin_frame {M : Nat} {z0 : State} {c : Ctx} {s : State} (hm : 0x286440970080000 &&& M = 0x286440970080000)
    (hz : Frame M z0 s) : Ends M z0 (execMin c s) := by
  unfold execMin
  repeat' first
    | with_reducible assumption
    | (with_reducible refine atOnce_frame (sub_trans ?_ hm) (fun _ _ => ?_) ?_; decide)
    | with_reducible refine issue_frame hm (fun _ _ _ => ?_) ?_
    | (with_reducible refine modRf_frame (sub_trans ?_ hm) ?_; decide)
    | with_reducible refine live_frame (fun _ _ => ?_) ?_
theorem execMax_frame {M : Nat} {z0 : State} {c : Ctx} {s : State} (hm : 0x286440970080000 &&& M = 0x286440970080000)
    (hz : Frame M z0 s) : Ends M z0 (execMax c s) := by
  unfold execMax
  repeat' first
    | with_reducible assumption
    | (with_reducible refine atOnce_frame (sub_trans ?_ hm) (fun _ _ => ?_) ?_; decide)
    | with_reducible refine issue_frame hm (fun _ _ _ => ?_) ?_
    | (with_reducible refine modRf_frame (sub_trans ?_ hm) ?_; decide)
    | with_reducible refine live_frame (fun _ _ => ?_) ?_
theorem execMulq_frame {M : Nat} {z0 : State} {c : Ctx} {s : State} (hm : 0x286440970080000 &&& M = 0x286440970080000)
    (hz : Frame M z0 s) : Ends M z0 (execMulq c s) := by
  unfold execMulq
  repeat' first
    | with_reducible assumption
    | (with_reducible refine atOnce_frame (sub_trans ?_ hm) (fun _ _ => ?_) ?_; decide)
    | with_reducible refine issue_frame hm (fun _ _ _ => ?_) ?_
    | (with_reducible refine modRf_frame (sub_trans ?_ hm) ?_; decide)
    | with_reducible refine live_frame (fun _ _ => ?_) ?_
theorem execCmp_frame {M : Nat} {z0 : State} {c : Ctx} {s : State} (hm : 0x286440970080000 &&& M = 0x286440970080000)
    (hz : Frame M z0 s) : Ends M z0 (execCmp c s) := by
  unfold execCmp
  repeat' first
    | with_reducible assumption
    | (with_reducible refine atOnce_frame (sub_trans ?_ hm) (fun _ _ => ?_) ?_; decide)
    | with_reducible refine issue_frame hm (fun _ _ _ => ?_) ?_
    | (with_reducible refine modRf_frame (sub_trans ?_ hm) ?_; decide)
    | with_reducible refine live_frame (fun _ _ => ?_) ?_
theorem onLane_frame {M : Nat} {z0 : State} {c : Ctx} {f : Fin 8 → State → State} {s : State}
    (hf : ∀ w s, Frame M z0 s → Frame M z0 (f w s))
    (hz : Frame M z0 s) : Frame M z0 (onLane c f s) := by
  unfold onLane
  repeat' first
    | with_reducible assumption
    | with_reducible refine hf _ _ ?_
    | split
theorem execBr_frame {M : Nat} {z0 : State} {c : Ctx} {s : State} (hm : 0x286440970080000 &&& M = 0x286440970080000)
    (hz : Frame M z0 s) : Ends M z0 (execBr c s) := by
  unfold execBr
  repeat' first
    | with_reducible assumption
    | (with_reducible refine frame_lit ?_ ?_; rotate_left; (fail_if_success with_reducible exact Frame.refl _)
                      constructor <;> first | exact fun _ => rfl | exact fun h => absurd (bit_of_sub hm h) (by decide))
    | with_reducible refine onLane_frame (fun _ _ _ => ?_) ?_
    | (with_reducible refine modLane_frame (sub_trans ?_ hm) ?_; decide)
    | with_reducible refine issue_frame hm (fun _ _ _ => ?_) ?_
    | with_reducible refine live_frame (fun _ _ => ?_) ?_
theorem execCall_frame {M : Nat} {z0 : State} {c : Ctx} {s : State} (hm : 0x286440970080000 &&& M = 0x286440970080000)
    (hz : Frame M z0 s) : Ends M z0 (execCall c s) := by
  unfold execCall
  repeat' first
    | with_reducible assumption
    | (with_reducible refine frame_lit ?_ ?_; rotate_left; (fail_if_success with_reducible exact Frame.refl _)
                      constructor <;> first | exact fun _ => rfl | exact fun h => absurd (bit_of_sub hm h) (by decide))
    | with_reducible refine frame_ite (fun _ => ?_) (fun _ => ?_)
    | with_reducible refine onLane_frame (fun _ _ _ => ?_) ?_
    | (with_reducible refine modLane_frame (sub_trans ?_ hm) ?_; decide)
    | with_reducible refine issue_frame hm (fun _ _ _ => ?_) ?_
    | (with_reducible refine abortLane_frame (sub_trans ?_ hm) ?_; decide)
    | with_reducible refine live_frame (fun _ _ => ?_) ?_
    | split
theorem execRet_frame {M : Nat} {z0 : State} {c : Ctx} {s : State} (hm : 0x286440970080000 &&& M = 0x286440970080000)
    (hz : Frame M z0 s) : Ends M z0 (execRet c s) := by
  unfold execRet
  repeat' first
    | with_reducible assumption
    | (with_reducible refine frame_lit ?_ ?_; rotate_left; (fail_if_success with_reducible exact Frame.refl _)
                      constructor <;> first | exact fun _ => rfl | exact fun h => absurd (bit_of_sub hm h) (by decide))
    | with_reducible refine onLane_frame (fun _ _ _ => ?_) ?_
    | (with_reducible refine modLane_frame (sub_trans ?_ hm) ?_; decide)
    | with_reducible refine issue_frame hm (fun _ _ _ => ?_) ?_
    | (with_reducible refine abortLane_frame (sub_trans ?_ hm) ?_; decide)
    | with_reducible refine live_frame (fun _ _ => ?_) ?_
    | split
theorem execLoop_frame {M : Nat} {z0 : State} {c : Ctx} {s : State} (hm : 0x286440970080000 &&& M = 0x286440970080000)
    (hz : Frame M z0 s) : Ends M z0 (execLoop c s) := by
  unfold execLoop
  repeat' first
    | with_reducible assumption
    | (with_reducible refine frame_lit ?_ ?_; rotate_left; (fail_if_success with_reducible exact Frame.refl _)
                      constructor <;> first | exact fun _ => rfl | exact fun h => absurd (bit_of_sub hm h) (by decide))
    | with_reducible refine frame_ite (fun _ => ?_) (fun _ => ?_)
    | with_reducible refine onLane_frame (fun _ _ _ => ?_) ?_
    | (with_reducible refine modLane_frame (sub_trans ?_ hm) ?_; decide)
    | with_reducible refine issue_frame hm (fun _ _ _ => ?_) ?_
    | with_reducible refine live_frame (fun _ _ => ?_) ?_
    | split
    | dsimp only
theorem execSend_frame {M : Nat} {z0 : State} {c : Ctx} {s : State} (hm : 0x287440970080000 &&& M = 0x287440970080000)
    (hz : Frame M z0 s) : Ends M z0 (execSend c s) := by
  unfold execSend
  repeat' first
    | with_reducible assumption
    | (with_reducible refine frame_lit ?_ ?_; rotate_left; (fail_if_success with_reducible exact Frame.refl _)
                      constructor <;> first | exact fun _ => rfl | exact fun h => absurd (bit_of_sub hm h) (by decide))
    | (with_reducible refine atOnce_frame (sub_trans ?_ hm) (fun _ _ => ?_) ?_; decide)
    | (with_reducible refine issue_frame (sub_trans ?_ hm) (fun _ _ _ => ?_) ?_; decide)
    | with_reducible refine live_frame (fun _ _ => ?_) ?_
    | split
    | dsimp only
theorem execBar_frame {M : Nat} {z0 : State} {c : Ctx} {s : State} (hm : 0x286440970080000 &&& M = 0x286440970080000)
    (hz : Frame M z0 s) : Ends M z0 (execBar c s) := by
  unfold execBar
  repeat' first
    | with_reducible assumption
    | (with_reducible refine frame_lit ?_ ?_; rotate_left; (fail_if_success with_reducible exact Frame.refl _)
                      constructor <;> first | exact fun _ => rfl | exact fun h => absurd (bit_of_sub hm h) (by decide))
    | with_reducible refine onLane_frame (fun _ _ _ => ?_) ?_
    | (with_reducible refine modLane_frame (sub_trans ?_ hm) ?_; decide)
    | with_reducible refine issue_frame hm (fun _ _ _ => ?_) ?_
    | with_reducible refine live_frame (fun _ _ => ?_) ?_
theorem execFence_frame {M : Nat} {z0 : State} {c : Ctx} {s : State}
    (hm : 0x286440970080000 &&& M = 0x286440970080000)
    (hz : Frame M z0 s) : Ends M z0 (execFence c s) := by
  unfold execFence
  repeat' first
    | with_reducible assumption
    | (with_reducible refine frame_lit ?_ ?_; rotate_left; (fail_if_success with_reducible exact Frame.refl _)
                      constructor <;> first | exact fun _ => rfl | exact fun h => absurd (bit_of_sub hm h) (by decide))
    | with_reducible refine frame_ite (fun _ => ?_) (fun _ => ?_)
    | (with_reducible refine modLane_frame (sub_trans ?_ hm) ?_; decide)
    | with_reducible refine issue_frame hm (fun _ _ _ => ?_) ?_
    | (with_reducible refine cmdDone_frame (sub_trans ?_ hm) ?_; decide)
    | with_reducible refine live_frame (fun _ _ => ?_) ?_
    | split
    | dsimp only
theorem execClrfFaultBlock_frame {M : Nat} {z0 : State} {s : State} (hm : 0x286e40970080000 &&& M = 0x286e40970080000)
    (hz : Frame M z0 s) : Ends M z0 (execClrfFaultBlock s) := by
  unfold execClrfFaultBlock
  repeat' first
    | with_reducible assumption
    | (with_reducible refine enqueue_frame (sub_trans ?_ hm) ?_; decide)
    | (with_reducible refine issue_frame (sub_trans ?_ hm) (fun _ _ _ => ?_) ?_; decide)
    | with_reducible refine live_frame (fun _ _ => ?_) ?_
theorem execClrfSat_frame {M : Nat} {z0 : State} {s : State} (hm : 0x286e40970080000 &&& M = 0x286e40970080000)
    (hz : Frame M z0 s) : Ends M z0 (execClrfSat s) := by
  unfold execClrfSat
  repeat' first
    | with_reducible assumption
    | (with_reducible refine enqueue_frame (sub_trans ?_ hm) ?_; decide)
    | (with_reducible refine issue_frame (sub_trans ?_ hm) (fun _ _ _ => ?_) ?_; decide)
    | with_reducible refine live_frame (fun _ _ => ?_) ?_
theorem execLoadplanTrack_frame {M : Nat} {z0 : State} {s : State} (hm : 0x286e40970080000 &&& M = 0x286e40970080000)
    (hz : Frame M z0 s) : Ends M z0 (execLoadplanTrack s) := by
  unfold execLoadplanTrack
  repeat' first
    | with_reducible assumption
    | (with_reducible refine enqueue_frame (sub_trans ?_ hm) ?_; decide)
    | (with_reducible refine issue_frame (sub_trans ?_ hm) (fun _ _ _ => ?_) ?_; decide)
    | with_reducible refine live_frame (fun _ _ => ?_) ?_
theorem execLoadplanMicrotable_frame {M : Nat} {z0 : State} {s : State}
    (hm : 0x286e40970080000 &&& M = 0x286e40970080000)
    (hz : Frame M z0 s) : Ends M z0 (execLoadplanMicrotable s) := by
  unfold execLoadplanMicrotable
  repeat' first
    | with_reducible assumption
    | (with_reducible refine enqueue_frame (sub_trans ?_ hm) ?_; decide)
    | (with_reducible refine issue_frame (sub_trans ?_ hm) (fun _ _ _ => ?_) ?_; decide)
    | with_reducible refine live_frame (fun _ _ => ?_) ?_
theorem execLoadplanWeights_frame {M : Nat} {z0 : State} {s : State}
    (hm : 0x286e40970080000 &&& M = 0x286e40970080000)
    (hz : Frame M z0 s) : Ends M z0 (execLoadplanWeights s) := by
  unfold execLoadplanWeights
  repeat' first
    | with_reducible assumption
    | (with_reducible refine enqueue_frame (sub_trans ?_ hm) ?_; decide)
    | (with_reducible refine issue_frame (sub_trans ?_ hm) (fun _ _ _ => ?_) ?_; decide)
    | with_reducible refine live_frame (fun _ _ => ?_) ?_
theorem execLoadplanPlan_frame {M : Nat} {z0 : State} {s : State} (hm : 0x286e40970080000 &&& M = 0x286e40970080000)
    (hz : Frame M z0 s) : Ends M z0 (execLoadplanPlan s) := by
  unfold execLoadplanPlan
  repeat' first
    | with_reducible assumption
    | (with_reducible refine enqueue_frame (sub_trans ?_ hm) ?_; decide)
    | (with_reducible refine issue_frame (sub_trans ?_ hm) (fun _ _ _ => ?_) ?_; decide)
    | with_reducible refine live_frame (fun _ _ => ?_) ?_
theorem execLoadplanOverlay_frame {M : Nat} {z0 : State} {s : State}
    (hm : 0x286e40970080000 &&& M = 0x286e40970080000)
    (hz : Frame M z0 s) : Ends M z0 (execLoadplanOverlay s) := by
  unfold execLoadplanOverlay
  repeat' first
    | with_reducible assumption
    | (with_reducible refine enqueue_frame (sub_trans ?_ hm) ?_; decide)
    | (with_reducible refine issue_frame (sub_trans ?_ hm) (fun _ _ _ => ?_) ?_; decide)
    | with_reducible refine live_frame (fun _ _ => ?_) ?_
theorem execLoadplanMode_frame {M : Nat} {z0 : State} {s : State} (hm : 0x286e40970080000 &&& M = 0x286e40970080000)
    (hz : Frame M z0 s) : Ends M z0 (execLoadplanMode s) := by
  unfold execLoadplanMode
  repeat' first
    | with_reducible assumption
    | (with_reducible refine enqueue_frame (sub_trans ?_ hm) ?_; decide)
    | (with_reducible refine issue_frame (sub_trans ?_ hm) (fun _ _ _ => ?_) ?_; decide)
    | with_reducible refine live_frame (fun _ _ => ?_) ?_
theorem execArm_frame {M : Nat} {z0 : State} {s : State} (hm : 0x286e40970080000 &&& M = 0x286e40970080000)
    (hz : Frame M z0 s) : Ends M z0 (execArm s) := by
  unfold execArm
  repeat' first
    | with_reducible assumption
    | (with_reducible refine enqueue_frame (sub_trans ?_ hm) ?_; decide)
    | (with_reducible refine issue_frame (sub_trans ?_ hm) (fun _ _ _ => ?_) ?_; decide)
    | with_reducible refine live_frame (fun _ _ => ?_) ?_
theorem execArmResume_frame {M : Nat} {z0 : State} {s : State} (hm : 0x286e40970080000 &&& M = 0x286e40970080000)
    (hz : Frame M z0 s) : Ends M z0 (execArmResume s) := by
  unfold execArmResume
  repeat' first
    | with_reducible assumption
    | (with_reducible refine enqueue_frame (sub_trans ?_ hm) ?_; decide)
    | (with_reducible refine issue_frame (sub_trans ?_ hm) (fun _ _ _ => ?_) ?_; decide)
    | with_reducible refine live_frame (fun _ _ => ?_) ?_
theorem execDisarm_frame {M : Nat} {z0 : State} {s : State} (hm : 0x286e40970080000 &&& M = 0x286e40970080000)
    (hz : Frame M z0 s) : Ends M z0 (execDisarm s) := by
  unfold execDisarm
  repeat' first
    | with_reducible assumption
    | (with_reducible refine enqueue_frame (sub_trans ?_ hm) ?_; decide)
    | (with_reducible refine issue_frame (sub_trans ?_ hm) (fun _ _ _ => ?_) ?_; decide)
    | with_reducible refine live_frame (fun _ _ => ?_) ?_
theorem execLcreq_frame {M : Nat} {z0 : State} {s : State} (hm : 0x286e40970080000 &&& M = 0x286e40970080000)
    (hz : Frame M z0 s) : Ends M z0 (execLcreq s) := by
  unfold execLcreq
  repeat' first
    | with_reducible assumption
    | (with_reducible refine enqueue_frame (sub_trans ?_ hm) ?_; decide)
    | (with_reducible refine issue_frame (sub_trans ?_ hm) (fun _ _ _ => ?_) ?_; decide)
    | with_reducible refine live_frame (fun _ _ => ?_) ?_
theorem planReject_frame {M : Nat} {z0 : State} {s : State} {c : Nat} (hm : 0x2040972000000 &&& M = 0x2040972000000)
    (hz : Frame M z0 s) : Frame M z0 (planReject s c) := by
  unfold planReject
  repeat' first
    | with_reducible assumption
    | (with_reducible refine frame_lit ?_ ?_; rotate_left; (fail_if_success with_reducible exact Frame.refl _)
                      constructor <;> first | exact fun _ => rfl | exact fun h => absurd (bit_of_sub hm h) (by decide))
    | (with_reducible refine cmdDone_frame (sub_trans ?_ hm) ?_; decide)
    | (with_reducible refine raise_frame (sub_trans ?_ hm) ?_; decide)
theorem loadPlan_frame {M : Nat} {z0 : State} {s : State} (hm : 0x2040972000000 &&& M = 0x2040972000000)
    (hz : Frame M z0 s) : Frame M z0 (loadPlan s) := by
  unfold loadPlan
  repeat' first
    | with_reducible assumption
    | (with_reducible refine frame_lit ?_ ?_; rotate_left; (fail_if_success with_reducible exact Frame.refl _)
                      constructor <;> first | exact fun _ => rfl | exact fun h => absurd (bit_of_sub hm h) (by decide))
    | with_reducible refine frame_ite (fun _ => ?_) (fun _ => ?_)
    | with_reducible refine planReject_frame hm ?_
    | (with_reducible refine cmdDone_frame (sub_trans ?_ hm) ?_; decide)
    | split
    | dsimp only
theorem loadOverlay_frame {M : Nat} {z0 : State} {s : State} {k : Nat} (hm : 0x2040972000000 &&& M = 0x2040972000000)
    (hz : Frame M z0 s) : Frame M z0 (loadOverlay s k) := by
  unfold loadOverlay
  repeat' first
    | with_reducible assumption
    | (with_reducible refine frame_lit ?_ ?_; rotate_left; (fail_if_success with_reducible exact Frame.refl _)
                      constructor <;> first | exact fun _ => rfl | exact fun h => absurd (bit_of_sub hm h) (by decide))
    | with_reducible refine frame_ite (fun _ => ?_) (fun _ => ?_)
    | with_reducible refine planReject_frame hm ?_
    | (with_reducible refine cmdDone_frame (sub_trans ?_ hm) ?_; decide)
    | split
    | dsimp only
theorem vfChanged_frame {M : Nat} {z0 : State} {s : State} {s0 : State} {d : Nat} (hm : 0x2cf80 &&& M = 0x2cf80)
    (hz : Frame M z0 s) : Frame M z0 (vfChanged s s0 d) := by
  unfold vfChanged
  repeat' first
    | with_reducible assumption
    | (with_reducible refine frame_lit ?_ ?_; rotate_left; (fail_if_success with_reducible exact Frame.refl _)
                      constructor <;> first | exact fun _ => rfl | exact fun h => absurd (bit_of_sub hm h) (by decide))
    | with_reducible refine frame_ite (fun _ => ?_) (fun _ => ?_)
    | (with_reducible refine raiseWaits_frame (sub_trans ?_ hm) ?_; decide)
    | (with_reducible refine askClock_frame (sub_trans ?_ hm) ?_; decide)
    | (with_reducible refine setVop_frame (sub_trans ?_ hm) ?_; decide)
    | (with_reducible refine modSp_frame (sub_trans ?_ hm) ?_; decide)
    | split
    | dsimp only
theorem writeDom_frame {M : Nat} {z0 : State} {ch : Nat → Nat → Bool} {s0 : State} {s : State} {d : Nat}
    (hm : 0x2000000002cf80 &&& M = 0x2000000002cf80)
    (hz : Frame M z0 s) : Frame M z0 (writeDom ch s0 s d) := by
  unfold writeDom
  repeat' first
    | with_reducible assumption
    | (with_reducible refine frame_lit ?_ ?_; rotate_left; (fail_if_success with_reducible exact Frame.refl _)
                      constructor <;> first | exact fun _ => rfl | exact fun h => absurd (bit_of_sub hm h) (by decide))
    | with_reducible refine frame_ite (fun _ => ?_) (fun _ => ?_)
    | (with_reducible refine vfChanged_frame (sub_trans ?_ hm) ?_; decide)
    | (with_reducible refine modSp_frame (sub_trans ?_ hm) ?_; decide)
    | split
    | dsimp only
theorem setTavg_frame {M : Nat} {z0 : State} {s : State} {v : Nat} (hm : 0x20000000000000 &&& M = 0x20000000000000)
    (hz : Frame M z0 s) : Frame M z0 (setTavg s v) := by
  unfold setTavg
  repeat' first
    | with_reducible assumption
    | (with_reducible refine frame_lit ?_ ?_; rotate_left; (fail_if_success with_reducible exact Frame.refl _)
                      constructor <;> first | exact fun _ => rfl | exact fun h => absurd (bit_of_sub hm h) (by decide))
    | with_reducible refine frame_ite (fun _ => ?_) (fun _ => ?_)
    | split
theorem writeFields_frame {M : Nat} {z0 : State} {ch : Nat → Nat → Bool} {s0 : State} {s : State}
    (hm : 0x2000000002cf80 &&& M = 0x2000000002cf80)
    (hz : Frame M z0 s) : Frame M z0 (writeFields ch s0 s) := by
  unfold writeFields
  repeat' first
    | with_reducible assumption
    | (with_reducible refine frame_lit ?_ ?_; rotate_left; (fail_if_success with_reducible exact Frame.refl _)
                      constructor <;> first | exact fun _ => rfl | exact fun h => absurd (bit_of_sub hm h) (by decide))
    | with_reducible refine frame_ite (fun _ => ?_) (fun _ => ?_)
    | with_reducible refine frame_foldl (fun _ _ _ => ?_) ?_
    | (with_reducible refine setTavg_frame (sub_trans ?_ hm) ?_; decide)
    | with_reducible refine writeDom_frame hm ?_
    | (with_reducible refine retargetAll_frame (sub_trans ?_ hm) ?_; decide)
    | split
    | dsimp only
theorem switchOverlay_frame {M : Nat} {z0 : State} {s : State} {k : Option (Fin 16)}
    (hm : 0x2000000202cf80 &&& M = 0x2000000202cf80)
    (hz : Frame M z0 s) : Frame M z0 (switchOverlay s k) := by
  unfold switchOverlay
  repeat' first
    | with_reducible assumption
    | (with_reducible refine frame_lit ?_ ?_; rotate_left; (fail_if_success with_reducible exact Frame.refl _)
                      constructor <;> first | exact fun _ => rfl | exact fun h => absurd (bit_of_sub hm h) (by decide))
    | (with_reducible refine writeFields_frame (sub_trans ?_ hm) ?_; decide)
    | dsimp only
theorem setrecDirty_frame {M : Nat} {z0 : State} {s : State} (hm : 0x100000000000000 &&& M = 0x100000000000000)
    (hz : Frame M z0 s) : Frame M z0 (setrecDirty s) := by
  unfold setrecDirty
  repeat' first
    | with_reducible assumption
    | (with_reducible refine frame_lit ?_ ?_; rotate_left; (fail_if_success with_reducible exact Frame.refl _)
                      constructor <;> first | exact fun _ => rfl | exact fun h => absurd (bit_of_sub hm h) (by decide))
theorem effPlanTakeEffect_frame {M : Nat} {z0 : State} {s : State} (hm : 0x12200000202cf80 &&& M = 0x12200000202cf80)
    (hz : Frame M z0 s) : Frame M z0 (effPlanTakeEffect s) := by
  unfold effPlanTakeEffect
  repeat' first
    | with_reducible assumption
    | (with_reducible refine frame_lit ?_ ?_; rotate_left; (fail_if_success with_reducible exact Frame.refl _)
                      constructor <;> first | exact fun _ => rfl | exact fun h => absurd (bit_of_sub hm h) (by decide))
    | with_reducible refine frame_ite (fun _ => ?_) (fun _ => ?_)
    | (with_reducible refine setrecDirty_frame (sub_trans ?_ hm) ?_; decide)
    | (with_reducible refine writeFields_frame (sub_trans ?_ hm) ?_; decide)
    | (with_reducible refine cmdDone_frame (sub_trans ?_ hm) ?_; decide)
    | split
    | dsimp only
theorem execPlanTakeEffect_frame {M : Nat} {z0 : State} {s : State} (hm : 0x12200000202cf80 &&& M = 0x12200000202cf80)
    (hz : Frame M z0 s) : Ends M z0 (execPlanTakeEffect s) := by
  unfold execPlanTakeEffect
  repeat' first
    | with_reducible assumption
    | with_reducible refine effPlanTakeEffect_frame hm ?_
    | with_reducible refine live_frame (fun _ _ => ?_) ?_
theorem effOverlayValid_frame {M : Nat} {z0 : State} {s : State} (hm : 0x102000002000000 &&& M = 0x102000002000000)
    (hz : Frame M z0 s) : Frame M z0 (effOverlayValid s) := by
  unfold effOverlayValid
  repeat' first
    | with_reducible assumption
    | (with_reducible refine frame_lit ?_ ?_; rotate_left; (fail_if_success with_reducible exact Frame.refl _)
                      constructor <;> first | exact fun _ => rfl | exact fun h => absurd (bit_of_sub hm h) (by decide))
    | (with_reducible refine setrecDirty_frame (sub_trans ?_ hm) ?_; decide)
    | (with_reducible refine cmdDone_frame (sub_trans ?_ hm) ?_; decide)
    | split
theorem execOverlayValid_frame {M : Nat} {z0 : State} {s : State} (hm : 0x102000002000000 &&& M = 0x102000002000000)
    (hz : Frame M z0 s) : Ends M z0 (execOverlayValid s) := by
  unfold execOverlayValid
  repeat' first
    | with_reducible assumption
    | with_reducible refine effOverlayValid_frame hm ?_
    | with_reducible refine live_frame (fun _ _ => ?_) ?_

end Sys2Proof.Machine
end

