-- ==== Sys2Proof/Laws/Touch5.lean ====
section
/-! SUPPORT. Which groups of State the operations of Machine/Exact, Save, Commands, Faults may touch: each keeps
every frame whose set holds its own. -/

namespace Sys2Proof.Machine

theorem setVoid_frame {M : Nat} {z0 : State} {s : State} (hm : 0x80000000000000 &&& M = 0x80000000000000)
    (hz : Frame M z0 s) : Frame M z0 (setVoid s) := by
  unfold setVoid
  repeat' first
    | with_reducible assumption
    | (with_reducible refine frame_lit ?_ ?_; rotate_left; (fail_if_success with_reducible exact Frame.refl _)
                      constructor <;> first | exact fun _ => rfl | exact fun h => absurd (bit_of_sub hm h) (by decide))
    | with_reducible refine frame_ite (fun _ => ?_) (fun _ => ?_)
    | split
theorem closeDebt_frame {M : Nat} {z0 : State} {s : State} (hm : 0x80040970000000 &&& M = 0x80040970000000)
    (hz : Frame M z0 s) : Frame M z0 (closeDebt s) := by
  unfold closeDebt
  repeat' first
    | with_reducible assumption
    | (with_reducible refine frame_lit ?_ ?_; rotate_left; (fail_if_success with_reducible exact Frame.refl _)
                      constructor <;> first | exact fun _ => rfl | exact fun h => absurd (bit_of_sub hm h) (by decide))
    | with_reducible refine frame_ite (fun _ => ?_) (fun _ => ?_)
    | (with_reducible refine setVoid_frame (sub_trans ?_ hm) ?_; decide)
    | (with_reducible refine raise_frame (sub_trans ?_ hm) ?_; decide)
    | split
    | dsimp only
theorem keepSlack_frame {M : Nat} {z0 : State} {s : State} (hm : 0x200000000000000 &&& M = 0x200000000000000)
    (hz : Frame M z0 s) : Frame M z0 (keepSlack s) := by
  unfold keepSlack
  repeat' first
    | with_reducible assumption
    | (with_reducible refine frame_lit ?_ ?_; rotate_left; (fail_if_success with_reducible exact Frame.refl _)
                      constructor <;> first | exact fun _ => rfl | exact fun h => absurd (bit_of_sub hm h) (by decide))
    | with_reducible refine frame_ite (fun _ => ?_) (fun _ => ?_)
    | split
    | dsimp only
theorem closeSeg_frame {M : Nat} {z0 : State} {s : State} (hm : 0x280040970080000 &&& M = 0x280040970080000)
    (hz : Frame M z0 s) : Frame M z0 (closeSeg s) := by
  unfold closeSeg
  repeat' first
    | with_reducible assumption
    | (with_reducible refine frame_lit ?_ ?_; rotate_left; (fail_if_success with_reducible exact Frame.refl _)
                      constructor <;> first | exact fun _ => rfl | exact fun h => absurd (bit_of_sub hm h) (by decide))
    | with_reducible refine frame_ite (fun _ => ?_) (fun _ => ?_)
    | with_reducible refine frame_foldl (fun _ _ _ => ?_) ?_
    | with_reducible refine frame_foldl_fst (fun _ _ _ => ?_) ?_
    | (with_reducible refine keepSlack_frame (sub_trans ?_ hm) ?_; decide)
    | (with_reducible refine closeDebt_frame (sub_trans ?_ hm) ?_; decide)
    | split
    | dsimp only
theorem segAction_frame {M : Nat} {z0 : State} {s : State} {id : Nat} {slack : Nat} {gran : Bool}
    (hm : 0x280040970080000 &&& M = 0x280040970080000)
    (hz : Frame M z0 s) : Frame M z0 (segAction s id slack gran) := by
  unfold segAction
  repeat' first
    | with_reducible assumption
    | (with_reducible refine frame_lit ?_ ?_; rotate_left; (fail_if_success with_reducible exact Frame.refl _)
                      constructor <;> first | exact fun _ => rfl | exact fun h => absurd (bit_of_sub hm h) (by decide))
    | with_reducible refine frame_ite (fun _ => ?_) (fun _ => ?_)
    | with_reducible refine closeSeg_frame hm ?_
    | split
    | dsimp only
theorem moveTime_frame {M : Nat} {z0 : State} {s : State} {a : Nat} {n : Nat}
    (hm : 0x82c00000200000 &&& M = 0x82c00000200000)
    (hz : Frame M z0 s) : Frame M z0 (moveTime s a n) := by
  unfold moveTime
  repeat' first
    | with_reducible assumption
    | (with_reducible refine frame_lit ?_ ?_; rotate_left; (fail_if_success with_reducible exact Frame.refl _)
                      constructor <;> first | exact fun _ => rfl | exact fun h => absurd (bit_of_sub hm h) (by decide))
    | with_reducible refine frame_ite (fun _ => ?_) (fun _ => ?_)
    | split
    | dsimp only
theorem applyStall_frame {M : Nat} {z0 : State} {s : State} {t : Nat} {n : Nat}
    (hm : 0x82c00000200000 &&& M = 0x82c00000200000)
    (hz : Frame M z0 s) : Frame M z0 (applyStall s t n) := by
  unfold applyStall
  repeat' first
    | with_reducible assumption
    | (with_reducible refine frame_lit ?_ ?_; rotate_left; (fail_if_success with_reducible exact Frame.refl _)
                      constructor <;> first | exact fun _ => rfl | exact fun h => absurd (bit_of_sub hm h) (by decide))
    | with_reducible refine frame_ite (fun _ => ?_) (fun _ => ?_)
    | with_reducible refine moveTime_frame hm ?_
    | split
    | dsimp only
theorem lateStall_frame {M : Nat} {z0 : State} {s : State} {t : Nat} {n : Nat} {all : Nat}
    (hm : 0x82c40970200000 &&& M = 0x82c40970200000)
    (hz : Frame M z0 s) : Frame M z0 (lateStall s t n all) := by
  unfold lateStall
  repeat' first
    | with_reducible assumption
    | (with_reducible refine frame_lit ?_ ?_; rotate_left; (fail_if_success with_reducible exact Frame.refl _)
                      constructor <;> first | exact fun _ => rfl | exact fun h => absurd (bit_of_sub hm h) (by decide))
    | with_reducible refine frame_ite (fun _ => ?_) (fun _ => ?_)
    | (with_reducible refine applyStall_frame (sub_trans ?_ hm) ?_; decide)
    | (with_reducible refine setVoid_frame (sub_trans ?_ hm) ?_; decide)
    | (with_reducible refine raise_frame (sub_trans ?_ hm) ?_; decide)
    | split
    | dsimp only
theorem takeStall_frame {M : Nat} {z0 : State} {s : State} {t : Nat} {n : Nat}
    (hm : 0x82c40970200000 &&& M = 0x82c40970200000)
    (hz : Frame M z0 s) : Frame M z0 (takeStall s t n) := by
  unfold takeStall
  repeat' first
    | with_reducible assumption
    | (with_reducible refine frame_lit ?_ ?_; rotate_left; (fail_if_success with_reducible exact Frame.refl _)
                      constructor <;> first | exact fun _ => rfl | exact fun h => absurd (bit_of_sub hm h) (by decide))
    | with_reducible refine frame_ite (fun _ => ?_) (fun _ => ?_)
    | with_reducible refine lateStall_frame hm ?_
    | split
theorem effStallApply_frame {M : Nat} {z0 : State} {s : State} (hm : 0x82c00000200000 &&& M = 0x82c00000200000)
    (hz : Frame M z0 s) : Frame M z0 (effStallApply s) := by
  unfold effStallApply
  repeat' first
    | with_reducible assumption
    | (with_reducible refine frame_lit ?_ ?_; rotate_left; (fail_if_success with_reducible exact Frame.refl _)
                      constructor <;> first | exact fun _ => rfl | exact fun h => absurd (bit_of_sub hm h) (by decide))
    | with_reducible refine frame_ite (fun _ => ?_) (fun _ => ?_)
    | with_reducible refine applyStall_frame hm ?_
    | split
    | dsimp only
theorem execStallApply_frame {M : Nat} {z0 : State} {s : State} (hm : 0x82c00000200000 &&& M = 0x82c00000200000)
    (hz : Frame M z0 s) : Ends M z0 (execStallApply s) := by
  unfold execStallApply
  repeat' first
    | with_reducible assumption
    | with_reducible refine effStallApply_frame hm ?_
    | with_reducible refine live_frame (fun _ _ => ?_) ?_
theorem execStallHoldEnd_frame {M : Nat} {z0 : State} {s : State} (hm : 0x80000000000000 &&& M = 0x80000000000000)
    (hz : Frame M z0 s) : Ends M z0 (execStallHoldEnd s) := by
  unfold execStallHoldEnd
  repeat' first
    | with_reducible assumption
    | (with_reducible refine frame_lit ?_ ?_; rotate_left; (fail_if_success with_reducible exact Frame.refl _)
                      constructor <;> first | exact fun _ => rfl | exact fun h => absurd (bit_of_sub hm h) (by decide))
    | with_reducible refine frame_ite (fun _ => ?_) (fun _ => ?_)
    | with_reducible refine live_frame (fun _ _ => ?_) ?_
    | split
theorem requestStall_frame {M : Nat} {z0 : State} {s : State} (hm : 0x282c40970200000 &&& M = 0x282c40970200000)
    (hz : Frame M z0 s) : Frame M z0 (requestStall s) := by
  unfold requestStall
  repeat' first
    | with_reducible assumption
    | (with_reducible refine frame_lit ?_ ?_; rotate_left; (fail_if_success with_reducible exact Frame.refl _)
                      constructor <;> first | exact fun _ => rfl | exact fun h => absurd (bit_of_sub hm h) (by decide))
    | with_reducible refine frame_ite (fun _ => ?_) (fun _ => ?_)
    | (with_reducible refine takeStall_frame (sub_trans ?_ hm) ?_; decide)
    | (with_reducible refine bumpSeq_frame (sub_trans ?_ hm) ?_; decide)
    | (with_reducible refine sendOn_frame (sub_trans ?_ hm) ?_; decide)
    | (with_reducible refine raise_frame (sub_trans ?_ hm) ?_; decide)
    | split
    | dsimp only
theorem cutPeriods_frame {M : Nat} {z0 : State} {s : State} (hm : 0x40000000000200 &&& M = 0x40000000000200)
    (hz : Frame M z0 s) : Frame M z0 (cutPeriods s) := by
  unfold cutPeriods
  repeat' first
    | with_reducible assumption
    | (with_reducible refine frame_lit ?_ ?_; rotate_left; (fail_if_success with_reducible exact Frame.refl _)
                      constructor <;> first | exact fun _ => rfl | exact fun h => absurd (bit_of_sub hm h) (by decide))
    | with_reducible refine frame_ite (fun _ => ?_) (fun _ => ?_)
    | split
    | dsimp only
theorem loadMode_frame {M : Nat} {z0 : State} {s : State} {ex : Bool}
    (hm : 0x9e64409f524cf9c &&& M = 0x9e64409f524cf9c)
    (hz : Frame M z0 s) : Frame M z0 (loadMode s ex) := by
  unfold loadMode
  repeat' first
    | with_reducible assumption
    | (with_reducible refine frame_lit ?_ ?_; rotate_left; (fail_if_success with_reducible exact Frame.refl _)
                      constructor <;> first | exact fun _ => rfl | exact fun h => absurd (bit_of_sub hm h) (by decide))
    | with_reducible refine frame_ite (fun _ => ?_) (fun _ => ?_)
    | with_reducible refine frame_foldl (fun _ _ _ => ?_) ?_
    | (with_reducible refine cutPeriods_frame (sub_trans ?_ hm) ?_; decide)
    | (with_reducible refine setrecDirty_frame (sub_trans ?_ hm) ?_; decide)
    | (with_reducible refine cmdDone_frame (sub_trans ?_ hm) ?_; decide)
    | (with_reducible refine tallyEvent_frame (sub_trans ?_ hm) ?_; decide)
    | (with_reducible refine wakeRetry_frame (sub_trans ?_ hm) ?_; decide)
    | (with_reducible refine retargetAll_frame (sub_trans ?_ hm) ?_; decide)
    | split
    | dsimp only
theorem pkgDigest_frame {M : Nat} {z0 : State} {others : List (List Byte)} {s : State}
    (hm : 0x100000000000000 &&& M = 0x100000000000000)
    (hz : Frame M z0 s) : Frame M z0 (pkgDigest others s) := by
  unfold pkgDigest
  repeat' first
    | with_reducible assumption
    | (with_reducible refine frame_lit ?_ ?_; rotate_left; (fail_if_success with_reducible exact Frame.refl _)
                      constructor <;> first | exact fun _ => rfl | exact fun h => absurd (bit_of_sub hm h) (by decide))
    | with_reducible refine frame_ite (fun _ => ?_) (fun _ => ?_)
    | split
    | dsimp only
theorem effSetrecRecompute_frame {M : Nat} {z0 : State} {others : List (List Byte)} {s : State}
    (hm : 0x100040970000000 &&& M = 0x100040970000000)
    (hz : Frame M z0 s) : Frame M z0 (effSetrecRecompute others s) := by
  unfold effSetrecRecompute
  repeat' first
    | with_reducible assumption
    | (with_reducible refine frame_lit ?_ ?_; rotate_left; (fail_if_success with_reducible exact Frame.refl _)
                      constructor <;> first | exact fun _ => rfl | exact fun h => absurd (bit_of_sub hm h) (by decide))
    | with_reducible refine frame_ite (fun _ => ?_) (fun _ => ?_)
    | (with_reducible refine pkgDigest_frame (sub_trans ?_ hm) ?_; decide)
    | (with_reducible refine raise_frame (sub_trans ?_ hm) ?_; decide)
    | split
    | dsimp only
theorem execSetrecRecompute_frame {M : Nat} {z0 : State} {others : List (List Byte)} {s : State}
    (hm : 0x100040970000000 &&& M = 0x100040970000000)
    (hz : Frame M z0 s) : Ends M z0 (execSetrecRecompute others s) := by
  unfold execSetrecRecompute
  repeat' first
    | with_reducible assumption
    | with_reducible refine effSetrecRecompute_frame hm ?_
    | with_reducible refine live_frame (fun _ _ => ?_) ?_
theorem execSeqXstatClrcnt_frame {M : Nat} {z0 : State} {s : State} (hm : 0x80000000000000 &&& M = 0x80000000000000)
    (hz : Frame M z0 s) : Ends M z0 (execSeqXstatClrcnt s) := by
  unfold execSeqXstatClrcnt
  repeat' first
    | with_reducible assumption
    | (with_reducible refine frame_lit ?_ ?_; rotate_left; (fail_if_success with_reducible exact Frame.refl _)
                      constructor <;> first | exact fun _ => rfl | exact fun h => absurd (bit_of_sub hm h) (by decide))
    | with_reducible refine bus_frame (fun _ _ => ?_) ?_
theorem saveBoundary_frame {M : Nat} {z0 : State} {s : State} (hm : 0x284440970080000 &&& M = 0x284440970080000)
    (hz : Frame M z0 s) : Frame M z0 (saveBoundary s) := by
  unfold saveBoundary
  repeat' first
    | with_reducible assumption
    | (with_reducible refine frame_lit ?_ ?_; rotate_left; (fail_if_success with_reducible exact Frame.refl _)
                      constructor <;> first | exact fun _ => rfl | exact fun h => absurd (bit_of_sub hm h) (by decide))
    | with_reducible refine frame_ite (fun _ => ?_) (fun _ => ?_)
    | with_reducible refine haltLanes_frame hm ?_
    | split
    | dsimp only
theorem effSaveCapture_frame {M : Nat} {z0 : State} {s : State} (hm : 0x80000000000000 &&& M = 0x80000000000000)
    (hz : Frame M z0 s) : Frame M z0 (effSaveCapture s) := by
  unfold effSaveCapture
  repeat' first
    | with_reducible assumption
    | (with_reducible refine frame_lit ?_ ?_; rotate_left; (fail_if_success with_reducible exact Frame.refl _)
                      constructor <;> first | exact fun _ => rfl | exact fun h => absurd (bit_of_sub hm h) (by decide))
    | with_reducible refine frame_ite (fun _ => ?_) (fun _ => ?_)
    | split
    | dsimp only
theorem execSaveCapture_frame {M : Nat} {z0 : State} {s : State} (hm : 0x80000000000000 &&& M = 0x80000000000000)
    (hz : Frame M z0 s) : Ends M z0 (execSaveCapture s) := by
  unfold execSaveCapture
  repeat' first
    | with_reducible assumption
    | with_reducible refine effSaveCapture_frame hm ?_
    | with_reducible refine live_frame (fun _ _ => ?_) ?_
theorem saveMeans_frame {M : Nat} {z0 : State} {s : State} (hm : 0x80000000000000 &&& M = 0x80000000000000)
    (hz : Frame M z0 s) : Frame M z0 (saveMeans s) := by
  unfold saveMeans
  repeat' first
    | with_reducible assumption
    | (with_reducible refine frame_lit ?_ ?_; rotate_left; (fail_if_success with_reducible exact Frame.refl _)
                      constructor <;> first | exact fun h => absurd (bit_of_sub hm h) (by decide) | exact fun _ => rfl)
    | with_reducible refine frame_ite (fun _ => ?_) (fun _ => ?_)
    | with_reducible refine frame_foldl (fun _ _ _ => ?_) ?_
    | split
    | dsimp only
theorem effSaveWriteDone_frame {M : Nat} {z0 : State} {ok : Bool} {s : State}
    (hm : 0x80042970000000 &&& M = 0x80042970000000)
    (hz : Frame M z0 s) : Frame M z0 (effSaveWriteDone ok s) := by
  unfold effSaveWriteDone
  repeat' first
    | with_reducible assumption
    | (with_reducible refine frame_lit ?_ ?_; rotate_left; (fail_if_success with_reducible exact Frame.refl _)
                      constructor <;> first | exact fun _ => rfl | exact fun h => absurd (bit_of_sub hm h) (by decide))
    | with_reducible refine frame_ite (fun _ => ?_) (fun _ => ?_)
    | (with_reducible refine raise_frame (sub_trans ?_ hm) ?_; decide)
    | split
theorem execSaveWriteDone_frame {M : Nat} {z0 : State} {ok : Bool} {s : State}
    (hm : 0x80042970000000 &&& M = 0x80042970000000)
    (hz : Frame M z0 s) : Ends M z0 (execSaveWriteDone ok s) := by
  unfold execSaveWriteDone
  repeat' first
    | with_reducible assumption
    | with_reducible refine effSaveWriteDone_frame hm ?_
    | with_reducible refine live_frame (fun _ _ => ?_) ?_
theorem restoreDom_frame {M : Nat} {z0 : State} {img : List Byte} {b' : Nat} {s : State} {d : Nat}
    (hm : 0xa000000003cf80 &&& M = 0xa000000003cf80)
    (hz : Frame M z0 s) : Frame M z0 (restoreDom img b' s d) := by
  unfold restoreDom
  repeat' first
    | with_reducible assumption
    | (with_reducible refine frame_lit ?_ ?_; rotate_left; (fail_if_success with_reducible exact Frame.refl _)
                      constructor <;> first | exact fun _ => rfl | exact fun h => absurd (bit_of_sub hm h) (by decide))
    | with_reducible refine frame_ite (fun _ => ?_) (fun _ => ?_)
    | (with_reducible refine bankGate_frame (sub_trans ?_ hm) ?_; decide)
    | (with_reducible refine followHeld_frame (sub_trans ?_ hm) ?_; decide)
    | (with_reducible refine modSp_frame (sub_trans ?_ hm) ?_; decide)
    | split
    | dsimp only
theorem restoreLoops_frame {M : Nat} {z0 : State} {img : List Byte} {s : State}
    (hm : 0x20000000000000 &&& M = 0x20000000000000)
    (hz : Frame M z0 s) : Frame M z0 (restoreLoops img s) := by
  unfold restoreLoops
  repeat' first
    | with_reducible assumption
    | (with_reducible refine frame_lit ?_ ?_; rotate_left; (fail_if_success with_reducible exact Frame.refl _)
                      constructor <;> first | exact fun _ => rfl | exact fun h => absurd (bit_of_sub hm h) (by decide))
    | with_reducible refine frame_ite (fun _ => ?_) (fun _ => ?_)
    | split
    | dsimp only
theorem setHiccup_frame {M : Nat} {z0 : State} {s : State} {p : Nat} {hic : Bool} {at' : Nat}
    (hm : 0xf00 &&& M = 0xf00)
    (hz : Frame M z0 s) : Frame M z0 (setHiccup s p hic at') := by
  unfold setHiccup
  repeat' first
    | with_reducible assumption
    | (with_reducible refine frame_lit ?_ ?_; rotate_left; (fail_if_success with_reducible exact Frame.refl _)
                      constructor <;> first | exact fun _ => rfl | exact fun h => absurd (bit_of_sub hm h) (by decide))
    | with_reducible refine frame_ite (fun _ => ?_) (fun _ => ?_)
    | with_reducible refine hiccupOff_frame hm ?_
    | with_reducible refine joinActive_frame hm ?_
    | (with_reducible refine modPhw_frame (sub_trans ?_ hm) ?_; decide)
    | split
theorem restoreHic_frame {M : Nat} {z0 : State} {img : List Byte} {same : Bool} {s : State} {d : Nat}
    (hm : 0xf00 &&& M = 0xf00)
    (hz : Frame M z0 s) : Frame M z0 (restoreHic img same s d) := by
  unfold restoreHic
  repeat' first
    | with_reducible assumption
    | (with_reducible refine frame_lit ?_ ?_; rotate_left; (fail_if_success with_reducible exact Frame.refl _)
                      constructor <;> first | exact fun _ => rfl | exact fun h => absurd (bit_of_sub hm h) (by decide))
    | with_reducible refine frame_ite (fun _ => ?_) (fun _ => ?_)
    | with_reducible refine frame_foldl (fun _ _ _ => ?_) ?_
    | with_reducible refine setHiccup_frame hm ?_
    | (with_reducible refine modShr_frame (sub_trans ?_ hm) ?_; decide)
    | split
    | dsimp only
theorem restoreAll_frame {M : Nat} {z0 : State} {s : State} {img : List Byte} {b' : Nat}
    (hm : 0x2e2e000024bcf80 &&& M = 0x2e2e000024bcf80)
    (hz : Frame M z0 s) : Frame M z0 (restoreAll s img b') := by
  have key : ∀ (t : State) a b c d f g i j k l, Frame M t { t with
      lane := a, cmdw := b, seg := c, acts := d, sg := f, tel := g, side := i, exa := j, loop := k, seqr := l } := by
    intros
    constructor <;> first | exact fun h => absurd (bit_of_sub hm h) (by decide) | exact fun _ => rfl
  unfold restoreAll
  extract_lets c same ov pick s0 s1 s2
  have h0 : Frame M z0 s0 := frame_ite (fun _ => hz) fun _ => switchOverlay_frame (sub_trans (by decide) hm) hz
  have h1 : Frame M z0 s1 := frame_foldl (fun _ _ k => restoreDom_frame (sub_trans (by decide) hm) k)
    (restoreLoops_frame (sub_trans (by decide) hm) h0)
  have h2 : Frame M z0 s2 := frame_foldl (fun _ _ k => restoreHic_frame (sub_trans (by decide) hm) k) h1
  exact h2.trans (key ..)
theorem trackWrite_frame {M : Nat} {z0 : State} {s : State} {a : Nat} {bs : List Byte}
    (hm : 0x202000000000 &&& M = 0x202000000000)
    (hz : Frame M z0 s) : Frame M z0 (trackWrite s a bs) := by
  unfold trackWrite
  repeat' first
    | with_reducible assumption
    | (with_reducible refine frame_lit ?_ ?_; rotate_left; (fail_if_success with_reducible exact Frame.refl _)
                      constructor <;> first | exact fun _ => rfl | exact fun h => absurd (bit_of_sub hm h) (by decide))
    | with_reducible refine frame_ite (fun _ => ?_) (fun _ => ?_)
    | split
theorem execTrackMemoryWrite_frame {M : Nat} {z0 : State} {off : Nat} {v : Word32} {s : State}
    (hm : 0x202000000000 &&& M = 0x202000000000)
    (hz : Frame M z0 s) : Ends M z0 (execTrackMemoryWrite off v s) := by
  unfold execTrackMemoryWrite
  repeat' first
    | with_reducible assumption
    | with_reducible refine trackWrite_frame hm ?_
    | with_reducible refine bus_frame (fun _ _ => ?_) ?_
theorem seqReject_frame {M : Nat} {z0 : State} {s : State} {c : Nat} (hm : 0x2240970000000 &&& M = 0x2240970000000)
    (hz : Frame M z0 s) : Frame M z0 (seqReject s c) := by
  unfold seqReject
  repeat' first
    | with_reducible assumption
    | (with_reducible refine frame_lit ?_ ?_; rotate_left; (fail_if_success with_reducible exact Frame.refl _)
                      constructor <;> first | exact fun _ => rfl | exact fun h => absurd (bit_of_sub hm h) (by decide))
    | (with_reducible refine cmdDone_frame (sub_trans ?_ hm) ?_; decide)
    | (with_reducible refine raise_frame (sub_trans ?_ hm) ?_; decide)
theorem loadTrack_frame {M : Nat} {z0 : State} {s : State} (hm : 0x2240970000000 &&& M = 0x2240970000000)
    (hz : Frame M z0 s) : Frame M z0 (loadTrack s) := by
  unfold loadTrack
  repeat' first
    | with_reducible assumption
    | (with_reducible refine frame_lit ?_ ?_; rotate_left; (fail_if_success with_reducible exact Frame.refl _)
                      constructor <;> first | exact fun _ => rfl | exact fun h => absurd (bit_of_sub hm h) (by decide))
    | with_reducible refine frame_ite (fun _ => ?_) (fun _ => ?_)
    | with_reducible refine seqReject_frame hm ?_
    | split
theorem effTrackAdmissionDone_frame {M : Nat} {z0 : State} {s : State} (hm : 0x2640970000000 &&& M = 0x2640970000000)
    (hz : Frame M z0 s) : Frame M z0 (effTrackAdmissionDone s) := by
  unfold effTrackAdmissionDone
  repeat' first
    | with_reducible assumption
    | (with_reducible refine frame_lit ?_ ?_; rotate_left; (fail_if_success with_reducible exact Frame.refl _)
                      constructor <;> first | exact fun _ => rfl | exact fun h => absurd (bit_of_sub hm h) (by decide))
    | with_reducible refine frame_ite (fun _ => ?_) (fun _ => ?_)
    | (with_reducible refine seqReject_frame (sub_trans ?_ hm) ?_; decide)
    | (with_reducible refine cmdDone_frame (sub_trans ?_ hm) ?_; decide)
    | split
    | dsimp only
theorem execTrackAdmissionDone_frame {M : Nat} {z0 : State} {s : State} (hm : 0x2640970000000 &&& M = 0x2640970000000)
    (hz : Frame M z0 s) : Ends M z0 (execTrackAdmissionDone s) := by
  unfold execTrackAdmissionDone
  repeat' first
    | with_reducible assumption
    | with_reducible refine effTrackAdmissionDone_frame hm ?_
    | with_reducible refine live_frame (fun _ _ => ?_) ?_
theorem modMt_frame {M : Nat} {z0 : State} {s : State} {d : Nat} {f : Mt → Mt}
    (hm : 0x8000000000000 &&& M = 0x8000000000000)
    (hz : Frame M z0 s) : Frame M z0 (modMt s d f) := by
  unfold modMt
  repeat' first
    | with_reducible assumption
    | (with_reducible refine frame_lit ?_ ?_; rotate_left; (fail_if_success with_reducible exact Frame.refl _)
                      constructor <;> first | exact fun _ => rfl | exact fun h => absurd (bit_of_sub hm h) (by decide))
theorem loadMicrotable_frame {M : Nat} {z0 : State} {s : State} (hm : 0x1a240970000000 &&& M = 0x1a240970000000)
    (hz : Frame M z0 s) : Frame M z0 (loadMicrotable s) := by
  unfold loadMicrotable
  repeat' first
    | with_reducible assumption
    | (with_reducible refine frame_lit ?_ ?_; rotate_left; (fail_if_success with_reducible exact Frame.refl _)
                      constructor <;> first | exact fun _ => rfl | exact fun h => absurd (bit_of_sub hm h) (by decide))
    | with_reducible refine frame_ite (fun _ => ?_) (fun _ => ?_)
    | (with_reducible refine seqReject_frame (sub_trans ?_ hm) ?_; decide)
    | split
    | dsimp only
theorem effMicrotablePacket_frame {M : Nat} {z0 : State} {i : Fin 93} {n : Nat} {npkt : Nat} {data : List Byte}
    {crc : Word32} {s : State} (hm : 0x8000000000000 &&& M = 0x8000000000000)
    (hz : Frame M z0 s) : Frame M z0 (effMicrotablePacket i n npkt data crc s) := by
  unfold effMicrotablePacket
  repeat' first
    | with_reducible assumption
    | (with_reducible refine frame_lit ?_ ?_; rotate_left; (fail_if_success with_reducible exact Frame.refl _)
                      constructor <;> first | exact fun _ => rfl | exact fun h => absurd (bit_of_sub hm h) (by decide))
    | with_reducible refine frame_ite (fun _ => ?_) (fun _ => ?_)
    | with_reducible refine modMt_frame hm ?_
    | split
    | dsimp only
theorem execMicrotablePacket_frame {M : Nat} {z0 : State} {i : Fin 93} {n : Nat} {npkt : Nat} {data : List Byte}
    {crc : Word32} {s : State} (hm : 0x8000000000000 &&& M = 0x8000000000000)
    (hz : Frame M z0 s) : Ends M z0 (execMicrotablePacket i n npkt data crc s) := by
  unfold execMicrotablePacket
  repeat' first
    | with_reducible assumption
    | with_reducible refine effMicrotablePacket_frame hm ?_
    | with_reducible refine live_frame (fun _ _ => ?_) ?_
theorem effMicrotableEnd_frame {M : Nat} {z0 : State} {i : Fin 93} {dig : List Byte} {s : State}
    (hm : 0x8000000000000 &&& M = 0x8000000000000)
    (hz : Frame M z0 s) : Frame M z0 (effMicrotableEnd i dig s) := by
  unfold effMicrotableEnd
  repeat' first
    | with_reducible assumption
    | (with_reducible refine frame_lit ?_ ?_; rotate_left; (fail_if_success with_reducible exact Frame.refl _)
                      constructor <;> first | exact fun _ => rfl | exact fun h => absurd (bit_of_sub hm h) (by decide))
    | with_reducible refine frame_ite (fun _ => ?_) (fun _ => ?_)
    | with_reducible refine modMt_frame hm ?_
    | split
    | dsimp only
theorem execMicrotableEnd_frame {M : Nat} {z0 : State} {i : Fin 93} {dig : List Byte} {s : State}
    (hm : 0x8000000000000 &&& M = 0x8000000000000)
    (hz : Frame M z0 s) : Ends M z0 (execMicrotableEnd i dig s) := by
  unfold execMicrotableEnd
  repeat' first
    | with_reducible assumption
    | with_reducible refine effMicrotableEnd_frame hm ?_
    | with_reducible refine live_frame (fun _ _ => ?_) ?_
theorem mtMaybeCommit_frame {M : Nat} {z0 : State} {s : State} (hm : 0x10000000000000 &&& M = 0x10000000000000)
    (hz : Frame M z0 s) : Frame M z0 (mtMaybeCommit s) := by
  unfold mtMaybeCommit
  repeat' first
    | with_reducible assumption
    | (with_reducible refine frame_lit ?_ ?_; rotate_left; (fail_if_success with_reducible exact Frame.refl _)
                      constructor <;> first | exact fun _ => rfl | exact fun h => absurd (bit_of_sub hm h) (by decide))
    | with_reducible refine frame_ite (fun _ => ?_) (fun _ => ?_)
    | split
theorem effMicrotableAck_frame {M : Nat} {z0 : State} {i : Fin 93} {s : State}
    (hm : 0x18000000000000 &&& M = 0x18000000000000)
    (hz : Frame M z0 s) : Frame M z0 (effMicrotableAck i s) := by
  unfold effMicrotableAck
  repeat' first
    | with_reducible assumption
    | (with_reducible refine frame_lit ?_ ?_; rotate_left; (fail_if_success with_reducible exact Frame.refl _)
                      constructor <;> first | exact fun _ => rfl | exact fun h => absurd (bit_of_sub hm h) (by decide))
    | with_reducible refine frame_ite (fun _ => ?_) (fun _ => ?_)
    | (with_reducible refine mtMaybeCommit_frame (sub_trans ?_ hm) ?_; decide)
    | (with_reducible refine modMt_frame (sub_trans ?_ hm) ?_; decide)
    | split
theorem execMicrotableAck_frame {M : Nat} {z0 : State} {i : Fin 93} {s : State}
    (hm : 0x18000000000000 &&& M = 0x18000000000000)
    (hz : Frame M z0 s) : Ends M z0 (execMicrotableAck i s) := by
  unfold execMicrotableAck
  repeat' first
    | with_reducible assumption
    | with_reducible refine effMicrotableAck_frame hm ?_
    | with_reducible refine live_frame (fun _ _ => ?_) ?_
theorem effMicrotableNack_frame {M : Nat} {z0 : State} {i : Fin 93} {s : State}
    (hm : 0x18000000000000 &&& M = 0x18000000000000)
    (hz : Frame M z0 s) : Frame M z0 (effMicrotableNack i s) := by
  unfold effMicrotableNack
  repeat' first
    | with_reducible assumption
    | (with_reducible refine frame_lit ?_ ?_; rotate_left; (fail_if_success with_reducible exact Frame.refl _)
                      constructor <;> first | exact fun _ => rfl | exact fun h => absurd (bit_of_sub hm h) (by decide))
    | with_reducible refine frame_ite (fun _ => ?_) (fun _ => ?_)
    | (with_reducible refine mtMaybeCommit_frame (sub_trans ?_ hm) ?_; decide)
    | (with_reducible refine modMt_frame (sub_trans ?_ hm) ?_; decide)
    | split
    | dsimp only
theorem execMicrotableNack_frame {M : Nat} {z0 : State} {i : Fin 93} {s : State}
    (hm : 0x18000000000000 &&& M = 0x18000000000000)
    (hz : Frame M z0 s) : Ends M z0 (execMicrotableNack i s) := by
  unfold execMicrotableNack
  repeat' first
    | with_reducible assumption
    | with_reducible refine effMicrotableNack_frame hm ?_
    | with_reducible refine live_frame (fun _ _ => ?_) ?_
theorem effMicrotableCommit_frame {M : Nat} {z0 : State} {s : State} (hm : 0x1a240970000000 &&& M = 0x1a240970000000)
    (hz : Frame M z0 s) : Frame M z0 (effMicrotableCommit s) := by
  unfold effMicrotableCommit
  repeat' first
    | with_reducible assumption
    | (with_reducible refine frame_lit ?_ ?_; rotate_left; (fail_if_success with_reducible exact Frame.refl _)
                      constructor <;> first | exact fun _ => rfl | exact fun h => absurd (bit_of_sub hm h) (by decide))
    | with_reducible refine frame_ite (fun _ => ?_) (fun _ => ?_)
    | with_reducible refine frame_foldl (fun _ _ _ => ?_) ?_
    | (with_reducible refine mtMaybeCommit_frame (sub_trans ?_ hm) ?_; decide)
    | (with_reducible refine cmdDone_frame (sub_trans ?_ hm) ?_; decide)
    | (with_reducible refine raise_frame (sub_trans ?_ hm) ?_; decide)
    | split
    | dsimp only
theorem execMicrotableCommit_frame {M : Nat} {z0 : State} {s : State} (hm : 0x1a240970000000 &&& M = 0x1a240970000000)
    (hz : Frame M z0 s) : Ends M z0 (execMicrotableCommit s) := by
  unfold execMicrotableCommit
  repeat' first
    | with_reducible assumption
    | with_reducible refine effMicrotableCommit_frame hm ?_
    | with_reducible refine live_frame (fun _ _ => ?_) ?_
theorem execShfMtstatClrcnt_frame {M : Nat} {z0 : State} {i : Fin 93} {s : State}
    (hm : 0x8000000000000 &&& M = 0x8000000000000)
    (hz : Frame M z0 s) : Ends M z0 (execShfMtstatClrcnt i s) := by
  unfold execShfMtstatClrcnt
  repeat' first
    | with_reducible assumption
    | (with_reducible refine frame_lit ?_ ?_; rotate_left; (fail_if_success with_reducible exact Frame.refl _)
                      constructor <;> first | exact fun _ => rfl | exact fun h => absurd (bit_of_sub hm h) (by decide))
    | with_reducible refine modMt_frame hm ?_
    | with_reducible refine bus_frame (fun _ _ => ?_) ?_
theorem armLanes_frame {M : Nat} {z0 : State} {s : State} {b : Nat} (hm : 0x80600000000000 &&& M = 0x80600000000000)
    (hz : Frame M z0 s) : Frame M z0 (armLanes s b) := by
  unfold armLanes
  repeat' first
    | with_reducible assumption
    | (with_reducible refine frame_lit ?_ ?_; rotate_left; (fail_if_success with_reducible exact Frame.refl _)
                      constructor <;> first | exact fun _ => rfl | exact fun h => absurd (bit_of_sub hm h) (by decide))
    | with_reducible refine frame_ite (fun _ => ?_) (fun _ => ?_)
    | split
    | dsimp only
theorem armReport_frame {M : Nat} {z0 : State} {s : State} (hm : 0x200040970000000 &&& M = 0x200040970000000)
    (hz : Frame M z0 s) : Frame M z0 (armReport s) := by
  unfold armReport
  repeat' first
    | with_reducible assumption
    | (with_reducible refine frame_lit ?_ ?_; rotate_left; (fail_if_success with_reducible exact Frame.refl _)
                      constructor <;> first | exact fun _ => rfl | exact fun h => absurd (bit_of_sub hm h) (by decide))
    | with_reducible refine sendArmrpt_frame hm ?_
    | dsimp only
theorem armAction_frame {M : Nat} {z0 : State} {s : State} {a : Act}
    (hm : 0x2e2e409724bcf80 &&& M = 0x2e2e409724bcf80)
    (hz : Frame M z0 s) : Frame M z0 (armAction s a) := by
  unfold armAction
  repeat' first
    | with_reducible assumption
    | with_reducible refine frame_ite (fun _ => ?_) (fun _ => ?_)
    | (with_reducible refine armReport_frame (sub_trans ?_ hm) ?_; decide)
    | (with_reducible refine armLanes_frame (sub_trans ?_ hm) ?_; decide)
    | (with_reducible refine seqReject_frame (sub_trans ?_ hm) ?_; decide)
    | (with_reducible refine restoreAll_frame (sub_trans ?_ hm) ?_; decide)
    | (with_reducible refine cmdDone_frame (sub_trans ?_ hm) ?_; decide)
    | (with_reducible refine sendArmrpt_frame (sub_trans ?_ hm) ?_; decide)
    | split
    | dsimp only
theorem lcreqAction_frame {M : Nat} {z0 : State} {s : State} {a : Act}
    (hm : 0x402000800000000 &&& M = 0x402000800000000)
    (hz : Frame M z0 s) : Frame M z0 (lcreqAction s a) := by
  unfold lcreqAction
  repeat' first
    | with_reducible assumption
    | (with_reducible refine frame_lit ?_ ?_; rotate_left; (fail_if_success with_reducible exact Frame.refl _)
                      constructor <;> first | exact fun _ => rfl | exact fun h => absurd (bit_of_sub hm h) (by decide))
    | with_reducible refine frame_ite (fun _ => ?_) (fun _ => ?_)
    | (with_reducible refine cmdDone_frame (sub_trans ?_ hm) ?_; decide)
    | split
    | dsimp only
theorem effLcProgramDone_frame {M : Nat} {z0 : State} {s : State} (hm : 0x2000800000000 &&& M = 0x2000800000000)
    (hz : Frame M z0 s) : Frame M z0 (effLcProgramDone s) := by
  unfold effLcProgramDone
  repeat' first
    | with_reducible assumption
    | (with_reducible refine frame_lit ?_ ?_; rotate_left; (fail_if_success with_reducible exact Frame.refl _)
                      constructor <;> first | exact fun _ => rfl | exact fun h => absurd (bit_of_sub hm h) (by decide))
    | with_reducible refine frame_ite (fun _ => ?_) (fun _ => ?_)
    | (with_reducible refine cmdDone_frame (sub_trans ?_ hm) ?_; decide)
    | split
    | dsimp only
theorem execLcProgramDone_frame {M : Nat} {z0 : State} {s : State} (hm : 0x2000800000000 &&& M = 0x2000800000000)
    (hz : Frame M z0 s) : Ends M z0 (execLcProgramDone s) := by
  unfold execLcProgramDone
  repeat' first
    | with_reducible assumption
    | with_reducible refine effLcProgramDone_frame hm ?_
    | with_reducible refine powered_frame (fun _ _ => ?_) ?_
theorem modFlt_frame {M : Nat} {z0 : State} {s : State} {b : Fin 10} {f : Flt → Flt}
    (hm : 0x10000000 &&& M = 0x10000000)
    (hz : Frame M z0 s) : Frame M z0 (modFlt s b f) := by
  unfold modFlt
  repeat' first
    | with_reducible assumption
    | (with_reducible refine frame_lit ?_ ?_; rotate_left; (fail_if_success with_reducible exact Frame.refl _)
                      constructor <;> first | exact fun _ => rfl | exact fun h => absurd (bit_of_sub hm h) (by decide))
theorem triskBeat_frame {M : Nat} {z0 : State} {s : State} (hm : 0x80040970000000 &&& M = 0x80040970000000)
    (hz : Frame M z0 s) : Frame M z0 (triskBeat s) := by
  unfold triskBeat
  repeat' first
    | with_reducible assumption
    | (with_reducible refine frame_lit ?_ ?_; rotate_left; (fail_if_success with_reducible exact Frame.refl _)
                      constructor <;> first | exact fun _ => rfl | exact fun h => absurd (bit_of_sub hm h) (by decide))
    | with_reducible refine frame_ite (fun _ => ?_) (fun _ => ?_)
    | (with_reducible refine raise_frame (sub_trans ?_ hm) ?_; decide)
    | split
    | dsimp only
theorem statClear_frame {M : Nat} {z0 : State} {s : State} {b : Fin 10} {bits : Word32}
    (hm : 0x10000000 &&& M = 0x10000000)
    (hz : Frame M z0 s) : Frame M z0 (statClear s b bits) := by
  unfold statClear
  repeat' first
    | with_reducible assumption
    | (with_reducible refine frame_lit ?_ ?_; rotate_left; (fail_if_success with_reducible exact Frame.refl _)
                      constructor <;> first | exact fun _ => rfl | exact fun h => absurd (bit_of_sub hm h) (by decide))
    | with_reducible refine modFlt_frame hm ?_
    | dsimp only
theorem execFaultStatClear_frame {M : Nat} {z0 : State} {b : Fin 10} {bits : Word32} {s : State}
    (hm : 0x10000000 &&& M = 0x10000000)
    (hz : Frame M z0 s) : Ends M z0 (execFaultStatClear b bits s) := by
  unfold execFaultStatClear
  repeat' first
    | with_reducible assumption
    | with_reducible refine statClear_frame hm ?_
    | with_reducible refine bus_frame (fun _ _ => ?_) ?_
theorem execHandlingClear_frame {M : Nat} {z0 : State} {b : Fin 10} {s : State} (hm : 0x10000000 &&& M = 0x10000000)
    (hz : Frame M z0 s) : Ends M z0 (execHandlingClear b s) := by
  unfold execHandlingClear
  repeat' first
    | with_reducible assumption
    | (with_reducible refine frame_lit ?_ ?_; rotate_left; (fail_if_success with_reducible exact Frame.refl _)
                      constructor <;> first | exact fun _ => rfl | exact fun h => absurd (bit_of_sub hm h) (by decide))
    | with_reducible refine modFlt_frame hm ?_
    | with_reducible refine bus_frame (fun _ _ => ?_) ?_
theorem execHset_frame {M : Nat} {z0 : State} {b : Fin 10} {s : State} (hm : 0x10000000 &&& M = 0x10000000)
    (hz : Frame M z0 s) : Ends M z0 (execHset b s) := by
  unfold execHset
  repeat' first
    | with_reducible assumption
    | (with_reducible refine frame_lit ?_ ?_; rotate_left; (fail_if_success with_reducible exact Frame.refl _)
                      constructor <;> first | exact fun _ => rfl | exact fun h => absurd (bit_of_sub hm h) (by decide))
    | with_reducible refine frame_ite (fun _ => ?_) (fun _ => ?_)
    | with_reducible refine modFlt_frame hm ?_
    | with_reducible refine bus_frame (fun _ _ => ?_) ?_
    | split
theorem execHclr_frame {M : Nat} {z0 : State} {b : Fin 10} {s : State} (hm : 0x10000000 &&& M = 0x10000000)
    (hz : Frame M z0 s) : Ends M z0 (execHclr b s) := by
  unfold execHclr
  repeat' first
    | with_reducible assumption
    | (with_reducible refine frame_lit ?_ ?_; rotate_left; (fail_if_success with_reducible exact Frame.refl _)
                      constructor <;> first | exact fun _ => rfl | exact fun h => absurd (bit_of_sub hm h) (by decide))
    | with_reducible refine modFlt_frame hm ?_
    | with_reducible refine bus_frame (fun _ _ => ?_) ?_
theorem execErrPinPulseEnd_frame {M : Nat} {z0 : State} {s : State} (hm : 0x20000000 &&& M = 0x20000000)
    (hz : Frame M z0 s) : Ends M z0 (execErrPinPulseEnd s) := by
  unfold execErrPinPulseEnd
  repeat' first
    | with_reducible assumption
    | (with_reducible refine frame_lit ?_ ?_; rotate_left; (fail_if_success with_reducible exact Frame.refl _)
                      constructor <;> first | exact fun _ => rfl | exact fun h => absurd (bit_of_sub hm h) (by decide))
    | with_reducible refine frame_ite (fun _ => ?_) (fun _ => ?_)
    | with_reducible refine powered_frame (fun _ _ => ?_) ?_
    | split
theorem execSiloClrcnt_frame {M : Nat} {z0 : State} {s : State} (hm : 0x40000000 &&& M = 0x40000000)
    (hz : Frame M z0 s) : Ends M z0 (execSiloClrcnt s) := by
  unfold execSiloClrcnt
  repeat' first
    | with_reducible assumption
    | (with_reducible refine frame_lit ?_ ?_; rotate_left; (fail_if_success with_reducible exact Frame.refl _)
                      constructor <;> first | exact fun _ => rfl | exact fun h => absurd (bit_of_sub hm h) (by decide))
    | with_reducible refine bus_frame (fun _ _ => ?_) ?_
theorem effSiloProgram_frame {M : Nat} {z0 : State} {ok : Bool} {s : State} (hm : 0x42970000000 &&& M = 0x42970000000)
    (hz : Frame M z0 s) : Frame M z0 (effSiloProgram ok s) := by
  unfold effSiloProgram
  repeat' first
    | with_reducible assumption
    | (with_reducible refine frame_lit ?_ ?_; rotate_left; (fail_if_success with_reducible exact Frame.refl _)
                      constructor <;> first | exact fun _ => rfl | exact fun h => absurd (bit_of_sub hm h) (by decide))
    | with_reducible refine frame_ite (fun _ => ?_) (fun _ => ?_)
    | (with_reducible refine raise_frame (sub_trans ?_ hm) ?_; decide)
    | split
    | dsimp only
theorem execSiloProgram_frame {M : Nat} {z0 : State} {ok : Bool} {s : State}
    (hm : 0x42970000000 &&& M = 0x42970000000)
    (hz : Frame M z0 s) : Ends M z0 (execSiloProgram ok s) := by
  unfold execSiloProgram
  repeat' first
    | with_reducible assumption
    | with_reducible refine effSiloProgram_frame hm ?_
    | with_reducible refine powered_frame (fun _ _ => ?_) ?_
theorem holdRaw_frame {M : Nat} {z0 : State} {s : State} {blk : Nat} {src : Nat} {due : Nat}
    (hm : 0x400000000 &&& M = 0x400000000)
    (hz : Frame M z0 s) : Frame M z0 (holdRaw s blk src due) := by
  unfold holdRaw
  repeat' first
    | with_reducible assumption
    | (with_reducible refine frame_lit ?_ ?_; rotate_left; (fail_if_success with_reducible exact Frame.refl _)
                      constructor <;> first | exact fun _ => rfl | exact fun h => absurd (bit_of_sub hm h) (by decide))
theorem effInjectGo_frame {M : Nat} {z0 : State} {s : State} (hm : 0x40d70000000 &&& M = 0x40d70000000)
    (hz : Frame M z0 s) : Frame M z0 (effInjectGo s) := by
  unfold effInjectGo
  repeat' first
    | with_reducible assumption
    | (with_reducible refine frame_lit ?_ ?_; rotate_left; (fail_if_success with_reducible exact Frame.refl _)
                      constructor <;> first | exact fun _ => rfl | exact fun h => absurd (bit_of_sub hm h) (by decide))
    | with_reducible refine frame_ite (fun _ => ?_) (fun _ => ?_)
    | (with_reducible refine holdRaw_frame (sub_trans ?_ hm) ?_; decide)
    | (with_reducible refine raise_frame (sub_trans ?_ hm) ?_; decide)
    | (with_reducible refine raiseWith_frame (sub_trans ?_ hm) ?_; decide)
    | split
    | dsimp only
theorem execInjectGo_frame {M : Nat} {z0 : State} {s : State} (hm : 0x40d70000000 &&& M = 0x40d70000000)
    (hz : Frame M z0 s) : Ends M z0 (execInjectGo s) := by
  unfold execInjectGo
  repeat' first
    | with_reducible assumption
    | with_reducible refine effInjectGo_frame hm ?_
    | with_reducible refine powered_frame (fun _ _ => ?_) ?_
theorem execInjectStop_frame {M : Nat} {z0 : State} {s : State} (hm : 0x400000000 &&& M = 0x400000000)
    (hz : Frame M z0 s) : Ends M z0 (execInjectStop s) := by
  unfold execInjectStop
  repeat' first
    | with_reducible assumption
    | (with_reducible refine frame_lit ?_ ?_; rotate_left; (fail_if_success with_reducible exact Frame.refl _)
                      constructor <;> first | exact fun _ => rfl | exact fun h => absurd (bit_of_sub hm h) (by decide))
    | with_reducible refine frame_ite (fun _ => ?_) (fun _ => ?_)
    | with_reducible refine powered_frame (fun _ _ => ?_) ?_
    | split
theorem execInjectHoldEnd_frame {M : Nat} {z0 : State} {blk : Nat} {src : Nat} {s : State}
    (hm : 0x400000000 &&& M = 0x400000000)
    (hz : Frame M z0 s) : Ends M z0 (execInjectHoldEnd blk src s) := by
  unfold execInjectHoldEnd
  repeat' first
    | with_reducible assumption
    | (with_reducible refine frame_lit ?_ ?_; rotate_left; (fail_if_success with_reducible exact Frame.refl _)
                      constructor <;> first | exact fun _ => rfl | exact fun h => absurd (bit_of_sub hm h) (by decide))
    | with_reducible refine powered_frame (fun _ _ => ?_) ?_
theorem samplePin_frame {M : Nat} {z0 : State} {s : State} {low : Bool} (hm : 0x400000000 &&& M = 0x400000000)
    (hz : Frame M z0 s) : Frame M z0 (samplePin s low) := by
  unfold samplePin
  repeat' first
    | with_reducible assumption
    | (with_reducible refine frame_lit ?_ ?_; rotate_left; (fail_if_success with_reducible exact Frame.refl _)
                      constructor <;> first | exact fun _ => rfl | exact fun h => absurd (bit_of_sub hm h) (by decide))
theorem effFreezeEnter_frame {M : Nat} {z0 : State} {low : Bool} {s : State}
    (hm : 0x40000401a0cf90 &&& M = 0x40000401a0cf90)
    (hz : Frame M z0 s) : Frame M z0 (effFreezeEnter low s) := by
  unfold effFreezeEnter
  repeat' first
    | with_reducible assumption
    | (with_reducible refine frame_lit ?_ ?_; rotate_left; (fail_if_success with_reducible exact Frame.refl _)
                      constructor <;> first | exact fun h => absurd (bit_of_sub hm h) (by decide) | exact fun _ => rfl)
    | with_reducible refine frame_ite (fun _ => ?_) (fun _ => ?_)
    | with_reducible refine frame_foldl (fun _ _ _ => ?_) ?_
    | (with_reducible refine samplePin_frame (sub_trans ?_ hm) ?_; decide)
    | (with_reducible refine holdSheaf_frame (sub_trans ?_ hm) ?_; decide)
    | (with_reducible refine holdDom_frame (sub_trans ?_ hm) ?_; decide)
    | split
    | dsimp only
theorem execFreezeEnter_frame {M : Nat} {z0 : State} {low : Bool} {s : State}
    (hm : 0x40000401a0cf90 &&& M = 0x40000401a0cf90)
    (hz : Frame M z0 s) : Ends M z0 (execFreezeEnter low s) := by
  unfold execFreezeEnter
  repeat' first
    | with_reducible assumption
    | with_reducible refine frame_ite (fun _ => ?_) (fun _ => ?_)
    | with_reducible refine effFreezeEnter_frame hm ?_
    | (with_reducible refine samplePin_frame (sub_trans ?_ hm) ?_; decide)
    | with_reducible refine powered_frame (fun _ _ => ?_) ?_
    | split
theorem effFreezeImageDone_frame {M : Nat} {z0 : State} {nodes : List Nat} {s : State}
    (hm : 0x400000000 &&& M = 0x400000000)
    (hz : Frame M z0 s) : Frame M z0 (effFreezeImageDone nodes s) := by
  unfold effFreezeImageDone
  repeat' first
    | with_reducible assumption
    | (with_reducible refine frame_lit ?_ ?_; rotate_left; (fail_if_success with_reducible exact Frame.refl _)
                      constructor <;> first | exact fun _ => rfl | exact fun h => absurd (bit_of_sub hm h) (by decide))
    | with_reducible refine frame_ite (fun _ => ?_) (fun _ => ?_)
    | split
    | dsimp only
theorem execFreezeImageDone_frame {M : Nat} {z0 : State} {nodes : List Nat} {s : State}
    (hm : 0x400000000 &&& M = 0x400000000)
    (hz : Frame M z0 s) : Ends M z0 (execFreezeImageDone nodes s) := by
  unfold execFreezeImageDone
  repeat' first
    | with_reducible assumption
    | with_reducible refine effFreezeImageDone_frame hm ?_
    | with_reducible refine powered_frame (fun _ _ => ?_) ?_
theorem effFreezeExit_frame {M : Nat} {z0 : State} {s : State} (hm : 0x880440df526cf9c &&& M = 0x880440df526cf9c)
    (hz : Frame M z0 s) : Frame M z0 (effFreezeExit s) := by
  unfold effFreezeExit
  repeat' first
    | with_reducible assumption
    | (with_reducible refine frame_lit ?_ ?_; rotate_left; (fail_if_success with_reducible exact Frame.refl _)
                      constructor <;> first | exact fun _ => rfl | exact fun h => absurd (bit_of_sub hm h) (by decide))
    | with_reducible refine frame_ite (fun _ => ?_) (fun _ => ?_)
    | with_reducible refine frame_foldl (fun _ _ _ => ?_) ?_
    | (with_reducible refine samplePin_frame (sub_trans ?_ hm) ?_; decide)
    | (with_reducible refine estRestart_frame (sub_trans ?_ hm) ?_; decide)
    | (with_reducible refine laReturn_frame (sub_trans ?_ hm) ?_; decide)
    | (with_reducible refine protEvent_frame (sub_trans ?_ hm) ?_; decide)
    | (with_reducible refine raise_frame (sub_trans ?_ hm) ?_; decide)
    | (with_reducible refine raiseWith_frame (sub_trans ?_ hm) ?_; decide)
    | split
    | dsimp only

end Sys2Proof.Machine
end

