-- ==== Sys2Proof/Laws/Touch6.lean ====
section
/-! SUPPORT. Which groups of State the operations of Machine/Actions, Loops may touch: each keeps every frame whose
set holds its own. -/

namespace Sys2Proof.Machine

theorem lagDebt_frame {M : Nat} {z0 : State} {s : State} {a : Act} {m : BitVec 128}
    (hm : 0x80000000000000 &&& M = 0x80000000000000)
    (hz : Frame M z0 s) : Frame M z0 (lagDebt s a m) := by
  unfold lagDebt
  repeat' first
    | with_reducible assumption
    | with_reducible refine frame_ite (fun _ => ?_) (fun _ => ?_)
    | with_reducible refine frame_foldl (fun _ _ _ => ?_) ?_
    | with_reducible refine addDebt_frame hm ?_
    | split
theorem resolveAct_frame {M : Nat} {z0 : State} {s : State} {a : Act}
    (hm : 0x286c40970080000 &&& M = 0x286c40970080000)
    (hz : Frame M z0 s) : Frame M z0 (resolveAct s a) := by
  unfold resolveAct
  repeat' first
    | with_reducible assumption
    | (with_reducible refine frame_lit ?_ ?_; rotate_left; (fail_if_success with_reducible exact Frame.refl _)
                      constructor <;> first | exact fun _ => rfl | exact fun h => absurd (bit_of_sub hm h) (by decide))
    | with_reducible refine frame_ite (fun _ => ?_) (fun _ => ?_)
    | (with_reducible refine lagDebt_frame (sub_trans ?_ hm) ?_; decide)
    | (with_reducible refine cmdDone_frame (sub_trans ?_ hm) ?_; decide)
    | (with_reducible refine abortLane_frame (sub_trans ?_ hm) ?_; decide)
    | split
    | dsimp only
theorem stageOne_frame {M : Nat} {z0 : State} {s : State} (hm : 0x286c40970080000 &&& M = 0x286c40970080000)
    (hz : Frame M z0 s) : Frame M z0 (stageOne s) := by
  unfold stageOne
  repeat' first
    | with_reducible assumption
    | (with_reducible refine frame_lit ?_ ?_; rotate_left; (fail_if_success with_reducible exact Frame.refl _)
                      constructor <;> first | exact fun _ => rfl | exact fun h => absurd (bit_of_sub hm h) (by decide))
    | with_reducible refine frame_ite (fun _ => ?_) (fun _ => ?_)
    | with_reducible refine frame_foldl (fun _ _ _ => ?_) ?_
    | with_reducible refine resolveAct_frame hm ?_
    | split
theorem actDom_frame {M : Nat} {z0 : State} {a : Act} {v : Nat} {s : State} {d : Nat}
    (hm : 0x8a04409f533cf9c &&& M = 0x8a04409f533cf9c)
    (hz : Frame M z0 s) : Frame M z0 (actDom a v s d).1 := by
  unfold actDom
  repeat' first
    | with_reducible assumption
    | (with_reducible refine frame_lit ?_ ?_; rotate_left; (fail_if_success with_reducible exact Frame.refl _)
                      constructor <;> first | exact fun _ => rfl | exact fun h => absurd (bit_of_sub hm h) (by decide))
    | with_reducible refine frame_ite (fun _ => ?_) (fun _ => ?_)
    | (with_reducible refine stepArrive_frame (sub_trans ?_ hm) ?_; decide)
    | (with_reducible refine llineDom_frame (sub_trans ?_ hm) ?_; decide)
    | (with_reducible refine vsetDom_frame (sub_trans ?_ hm) ?_; decide)
    | (with_reducible refine opselDom_frame (sub_trans ?_ hm) ?_; decide)
    | (with_reducible refine bankGate_frame (sub_trans ?_ hm) ?_; decide)
    | (with_reducible refine wakeDom_frame (sub_trans ?_ hm) ?_; decide)
    | (with_reducible refine gateDom_frame (sub_trans ?_ hm) ?_; decide)
    | split
    | dsimp only
theorem spacing_frame {M : Nat} {z0 : State} {lane : Bool} {s : State} {due : Nat} {d : Nat}
    (hm : 0x200000000000 &&& M = 0x200000000000)
    (hz : Frame M z0 s) : Frame M z0 (spacing lane s due d) := by
  unfold spacing
  repeat' first
    | with_reducible assumption
    | (with_reducible refine frame_lit ?_ ?_; rotate_left; (fail_if_success with_reducible exact Frame.refl _)
                      constructor <;> first | exact fun _ => rfl | exact fun h => absurd (bit_of_sub hm h) (by decide))
    | with_reducible refine frame_ite (fun _ => ?_) (fun _ => ?_)
    | split
    | dsimp only
theorem finish_frame {M : Nat} {z0 : State} {s : State} {a : Act} {result : Nat}
    (hm : 0x2000000000000 &&& M = 0x2000000000000)
    (hz : Frame M z0 s) : Frame M z0 (finish s a result) := by
  unfold finish
  repeat' first
    | with_reducible assumption
    | with_reducible refine cmdDone_frame hm ?_
    | split
theorem actTargets_frame {M : Nat} {z0 : State} {s : State} {a : Act} {v : Nat} {m : BitVec 128}
    (hm : 0x8a26409f533cf9c &&& M = 0x8a26409f533cf9c)
    (hz : Frame M z0 s) : Frame M z0 (actTargets s a v m) := by
  unfold actTargets
  repeat' first
    | with_reducible assumption
    | (with_reducible refine frame_lit ?_ ?_; rotate_left; (fail_if_success with_reducible exact Frame.refl _)
                      constructor <;> first | exact fun _ => rfl | exact fun h => absurd (bit_of_sub hm h) (by decide))
    | with_reducible refine frame_ite (fun _ => ?_) (fun _ => ?_)
    | with_reducible refine frame_foldl (fun _ _ _ => ?_) ?_
    | with_reducible refine frame_foldl_fst (fun _ _ _ => ?_) ?_
    | (with_reducible refine finish_frame (sub_trans ?_ hm) ?_; decide)
    | (with_reducible refine spacing_frame (sub_trans ?_ hm) ?_; decide)
    | (with_reducible refine actDom_frame (sub_trans ?_ hm) ?_; decide)
    | (with_reducible refine cmdDone_frame (sub_trans ?_ hm) ?_; decide)
    | split
    | dsimp only
theorem granStart_frame {M : Nat} {z0 : State} {s : State} (hm : 0x200000000000000 &&& M = 0x200000000000000)
    (hz : Frame M z0 s) : Frame M z0 (granStart s) := by
  unfold granStart
  repeat' first
    | with_reducible assumption
    | (with_reducible refine frame_lit ?_ ?_; rotate_left; (fail_if_success with_reducible exact Frame.refl _)
                      constructor <;> first | exact fun _ => rfl | exact fun h => absurd (bit_of_sub hm h) (by decide))
    | with_reducible refine frame_ite (fun _ => ?_) (fun _ => ?_)
    | split
    | dsimp only
theorem segEffect_frame {M : Nat} {z0 : State} {s : State} {w : Nat}
    (hm : 0x280040970080000 &&& M = 0x280040970080000)
    (hz : Frame M z0 s) : Frame M z0 (segEffect s w) := by
  unfold segEffect
  repeat' first
    | with_reducible assumption
    | with_reducible refine frame_ite (fun _ => ?_) (fun _ => ?_)
    | (with_reducible refine granStart_frame (sub_trans ?_ hm) ?_; decide)
    | with_reducible refine segAction_frame hm ?_
    | split
    | dsimp only
theorem telAction_frame {M : Nat} {z0 : State} {s : State} {w : Nat} (hm : 0x40000000000000 &&& M = 0x40000000000000)
    (hz : Frame M z0 s) : Frame M z0 (telAction s w) := by
  unfold telAction
  repeat' first
    | with_reducible assumption
    | (with_reducible refine frame_lit ?_ ?_; rotate_left; (fail_if_success with_reducible exact Frame.refl _)
                      constructor <;> first | exact fun _ => rfl | exact fun h => absurd (bit_of_sub hm h) (by decide))
    | split
theorem granAction_frame {M : Nat} {z0 : State} {s : State} {v : Nat}
    (hm : 0x200000000000000 &&& M = 0x200000000000000)
    (hz : Frame M z0 s) : Frame M z0 (granAction s v) := by
  unfold granAction
  repeat' first
    | with_reducible assumption
    | (with_reducible refine frame_lit ?_ ?_; rotate_left; (fail_if_success with_reducible exact Frame.refl _)
                      constructor <;> first | exact fun _ => rfl | exact fun h => absurd (bit_of_sub hm h) (by decide))
    | with_reducible refine frame_ite (fun _ => ?_) (fun _ => ?_)
    | split
    | dsimp only
theorem saveAction_frame {M : Nat} {z0 : State} {s : State} {a : Act} (hm : 0x82000000000000 &&& M = 0x82000000000000)
    (hz : Frame M z0 s) : Frame M z0 (saveAction s a) := by
  unfold saveAction
  repeat' first
    | with_reducible assumption
    | (with_reducible refine frame_lit ?_ ?_; rotate_left; (fail_if_success with_reducible exact Frame.refl _)
                      constructor <;> first | exact fun _ => rfl | exact fun h => absurd (bit_of_sub hm h) (by decide))
    | with_reducible refine frame_ite (fun _ => ?_) (fun _ => ?_)
    | (with_reducible refine finish_frame (sub_trans ?_ hm) ?_; decide)
    | split
theorem clearSat_frame {M : Nat} {z0 : State} {s : State} {m : Nat} (hm : 0x20000000000000 &&& M = 0x20000000000000)
    (hz : Frame M z0 s) : Frame M z0 (clearSat s m) := by
  unfold clearSat
  repeat' first
    | with_reducible assumption
    | (with_reducible refine frame_lit ?_ ?_; rotate_left; (fail_if_success with_reducible exact Frame.refl _)
                      constructor <;> first | exact fun _ => rfl | exact fun h => absurd (bit_of_sub hm h) (by decide))
    | with_reducible refine frame_ite (fun _ => ?_) (fun _ => ?_)
    | split
    | dsimp only
theorem dropSave_frame {M : Nat} {z0 : State} {s : State} (hm : 0x80000000000000 &&& M = 0x80000000000000)
    (hz : Frame M z0 s) : Frame M z0 (dropSave s) := by
  unfold dropSave
  repeat' first
    | with_reducible assumption
    | (with_reducible refine frame_lit ?_ ?_; rotate_left; (fail_if_success with_reducible exact Frame.refl _)
                      constructor <;> first | exact fun _ => rfl | exact fun h => absurd (bit_of_sub hm h) (by decide))
    | with_reducible refine frame_ite (fun _ => ?_) (fun _ => ?_)
    | split
theorem clrfAction_frame {M : Nat} {z0 : State} {s : State} {a : Act} (hm : 0x22000010000000 &&& M = 0x22000010000000)
    (hz : Frame M z0 s) : Frame M z0 (clrfAction s a) := by
  unfold clrfAction
  repeat' first
    | with_reducible assumption
    | with_reducible refine frame_ite (fun _ => ?_) (fun _ => ?_)
    | (with_reducible refine clearSat_frame (sub_trans ?_ hm) ?_; decide)
    | (with_reducible refine finish_frame (sub_trans ?_ hm) ?_; decide)
    | (with_reducible refine statClear_frame (sub_trans ?_ hm) ?_; decide)
    | split
    | dsimp only
theorem loadplanAction_frame {M : Nat} {z0 : State} {s : State} {a : Act}
    (hm : 0x9fe6409f7a4cf9c &&& M = 0x9fe6409f7a4cf9c)
    (hz : Frame M z0 s) : Frame M z0 (loadplanAction s a) := by
  unfold loadplanAction
  repeat' first
    | with_reducible assumption
    | with_reducible refine frame_ite (fun _ => ?_) (fun _ => ?_)
    | (with_reducible refine loadMicrotable_frame (sub_trans ?_ hm) ?_; decide)
    | (with_reducible refine loadTrack_frame (sub_trans ?_ hm) ?_; decide)
    | (with_reducible refine loadMode_frame (sub_trans ?_ hm) ?_; decide)
    | (with_reducible refine loadOverlay_frame (sub_trans ?_ hm) ?_; decide)
    | (with_reducible refine loadPlan_frame (sub_trans ?_ hm) ?_; decide)
    | (with_reducible refine cmdDone_frame (sub_trans ?_ hm) ?_; decide)
    | (with_reducible refine loadWeights_frame (sub_trans ?_ hm) ?_; decide)
    | split
    | dsimp only
theorem actDie_frame {M : Nat} {z0 : State} {s : State} {a : Act} {v : Nat}
    (hm : 0xffee409f7efcf9c &&& M = 0xffee409f7efcf9c)
    (hz : Frame M z0 s) : Frame M z0 (actDie s a v) := by
  unfold actDie
  repeat' first
    | with_reducible assumption
    | (with_reducible refine frame_lit ?_ ?_; rotate_left; (fail_if_success with_reducible exact Frame.refl _)
                      constructor <;> first | exact fun _ => rfl | exact fun h => absurd (bit_of_sub hm h) (by decide))
    | with_reducible refine frame_ite (fun _ => ?_) (fun _ => ?_)
    | (with_reducible refine loadplanAction_frame (sub_trans ?_ hm) ?_; decide)
    | (with_reducible refine clrfAction_frame (sub_trans ?_ hm) ?_; decide)
    | (with_reducible refine dropSave_frame (sub_trans ?_ hm) ?_; decide)
    | (with_reducible refine saveAction_frame (sub_trans ?_ hm) ?_; decide)
    | (with_reducible refine granAction_frame (sub_trans ?_ hm) ?_; decide)
    | (with_reducible refine telAction_frame (sub_trans ?_ hm) ?_; decide)
    | (with_reducible refine segEffect_frame (sub_trans ?_ hm) ?_; decide)
    | (with_reducible refine finish_frame (sub_trans ?_ hm) ?_; decide)
    | (with_reducible refine lcreqAction_frame (sub_trans ?_ hm) ?_; decide)
    | (with_reducible refine armAction_frame (sub_trans ?_ hm) ?_; decide)
    | (with_reducible refine switchOverlay_frame (sub_trans ?_ hm) ?_; decide)
    | (with_reducible refine setTavg_frame (sub_trans ?_ hm) ?_; decide)
    | (with_reducible refine cmdDone_frame (sub_trans ?_ hm) ?_; decide)
    | (with_reducible refine haltLanes_frame (sub_trans ?_ hm) ?_; decide)
    | split
    | dsimp only
theorem actDue_frame {M : Nat} {z0 : State} {s : State} {a : Act} (hm : 0xffee409f7ffcf9c &&& M = 0xffee409f7ffcf9c)
    (hz : Frame M z0 s) : Frame M z0 (actDue s a) := by
  unfold actDue
  repeat' first
    | with_reducible assumption
    | with_reducible refine frame_ite (fun _ => ?_) (fun _ => ?_)
    | (with_reducible refine actDie_frame (sub_trans ?_ hm) ?_; decide)
    | (with_reducible refine actTargets_frame (sub_trans ?_ hm) ?_; decide)
    | (with_reducible refine cmdDone_frame (sub_trans ?_ hm) ?_; decide)
    | split
theorem actOne_frame {M : Nat} {z0 : State} {s : State} {a : Act} (hm : 0xffee409f7ffcf9c &&& M = 0xffee409f7ffcf9c)
    (hz : Frame M z0 s) : Frame M z0 (actOne s a) := by
  unfold actOne
  repeat' first
    | with_reducible assumption
    | (with_reducible refine frame_lit ?_ ?_; rotate_left; (fail_if_success with_reducible exact Frame.refl _)
                      constructor <;> first | exact fun _ => rfl | exact fun h => absurd (bit_of_sub hm h) (by decide))
    | with_reducible refine frame_ite (fun _ => ?_) (fun _ => ?_)
    | with_reducible refine actDue_frame hm ?_
    | split
theorem effActionTakesEffect_frame {M : Nat} {z0 : State} {s : State}
    (hm : 0xffee409f7ffcf9c &&& M = 0xffee409f7ffcf9c)
    (hz : Frame M z0 s) : Frame M z0 (effActionTakesEffect s) := by
  unfold effActionTakesEffect
  repeat' first
    | with_reducible assumption
    | (with_reducible refine frame_lit ?_ ?_; rotate_left; (fail_if_success with_reducible exact Frame.refl _)
                      constructor <;> first | exact fun _ => rfl | exact fun h => absurd (bit_of_sub hm h) (by decide))
    | with_reducible refine frame_foldl (fun _ _ _ => ?_) ?_
    | with_reducible refine actOne_frame hm ?_
    | (with_reducible refine stageOne_frame (sub_trans ?_ hm) ?_; decide)
    | (with_reducible refine saveBoundary_frame (sub_trans ?_ hm) ?_; decide)
    | (with_reducible refine effStallApply_frame (sub_trans ?_ hm) ?_; decide)
    | dsimp only
theorem execActionTakesEffect_frame {M : Nat} {z0 : State} {s : State}
    (hm : 0xffee409f7ffcf9c &&& M = 0xffee409f7ffcf9c)
    (hz : Frame M z0 s) : Ends M z0 (execActionTakesEffect s) := by
  unfold execActionTakesEffect
  repeat' first
    | with_reducible assumption
    | with_reducible refine effActionTakesEffect_frame hm ?_
    | with_reducible refine live_frame (fun _ _ => ?_) ?_
theorem effEstImageCopyDone_frame {M : Nat} {z0 : State} {s : State} (hm : 0x2000000800000 &&& M = 0x2000000800000)
    (hz : Frame M z0 s) : Frame M z0 (effEstImageCopyDone s) := by
  unfold effEstImageCopyDone
  repeat' first
    | with_reducible assumption
    | (with_reducible refine frame_lit ?_ ?_; rotate_left; (fail_if_success with_reducible exact Frame.refl _)
                      constructor <;> first | exact fun _ => rfl | exact fun h => absurd (bit_of_sub hm h) (by decide))
    | with_reducible refine frame_ite (fun _ => ?_) (fun _ => ?_)
    | (with_reducible refine cmdDone_frame (sub_trans ?_ hm) ?_; decide)
    | split
    | dsimp only
theorem execEstImageCopyDone_frame {M : Nat} {z0 : State} {s : State} (hm : 0x2000000800000 &&& M = 0x2000000800000)
    (hz : Frame M z0 s) : Ends M z0 (execEstImageCopyDone s) := by
  unfold execEstImageCopyDone
  repeat' first
    | with_reducible assumption
    | with_reducible refine effEstImageCopyDone_frame hm ?_
    | with_reducible refine live_frame (fun _ _ => ?_) ?_
theorem loopLive_frame {M : Nat} {z0 : State} {s : State} {f : State → State} (hf : ∀ s, Frame M z0 s → Frame M z0
    (f s))
    (hz : Frame M z0 s) : Ends M z0 (loopLive s f) := by
  unfold loopLive
  repeat' first
    | with_reducible assumption
    | with_reducible refine frame_ite (fun _ => ?_) (fun _ => ?_)
    | with_reducible refine hf _ ?_
    | with_reducible refine live_frame (fun _ _ => ?_) ?_
    | split
theorem raiseSat_frame {M : Nat} {z0 : State} {s : State} {was : Bool} {now : Bool} {subj : Nat}
    (hm : 0x40970000000 &&& M = 0x40970000000)
    (hz : Frame M z0 s) : Frame M z0 (raiseSat s was now subj) := by
  unfold raiseSat
  repeat' first
    | with_reducible assumption
    | with_reducible refine frame_ite (fun _ => ?_) (fun _ => ?_)
    | with_reducible refine raise_frame hm ?_
    | split
theorem dieLoop_frame {M : Nat} {z0 : State} {s : State} (hm : 0x20040970000000 &&& M = 0x20040970000000)
    (hz : Frame M z0 s) : Frame M z0 (dieLoop s) := by
  unfold dieLoop
  repeat' first
    | with_reducible assumption
    | (with_reducible refine frame_lit ?_ ?_; rotate_left; (fail_if_success with_reducible exact Frame.refl _)
                      constructor <;> first | exact fun _ => rfl | exact fun h => absurd (bit_of_sub hm h) (by decide))
    | with_reducible refine frame_ite (fun _ => ?_) (fun _ => ?_)
    | (with_reducible refine raiseSat_frame (sub_trans ?_ hm) ?_; decide)
    | split
    | dsimp only
theorem modDl_frame {M : Nat} {z0 : State} {s : State} {d : Nat} {f : DLoop → DLoop}
    (hm : 0x20000000000000 &&& M = 0x20000000000000)
    (hz : Frame M z0 s) : Frame M z0 (modDl s d f) := by
  unfold modDl
  repeat' first
    | with_reducible assumption
    | (with_reducible refine frame_lit ?_ ?_; rotate_left; (fail_if_success with_reducible exact Frame.refl _)
                      constructor <;> first | exact fun _ => rfl | exact fun h => absurd (bit_of_sub hm h) (by decide))
theorem linkOver_frame {M : Nat} {z0 : State} {s : State} {d : Nat} (hm : 0x20040970000000 &&& M = 0x20040970000000)
    (hz : Frame M z0 s) : Frame M z0 (linkOver s d) := by
  unfold linkOver
  repeat' first
    | with_reducible assumption
    | (with_reducible refine frame_lit ?_ ?_; rotate_left; (fail_if_success with_reducible exact Frame.refl _)
                      constructor <;> first | exact fun _ => rfl | exact fun h => absurd (bit_of_sub hm h) (by decide))
    | with_reducible refine frame_ite (fun _ => ?_) (fun _ => ?_)
    | (with_reducible refine modDl_frame (sub_trans ?_ hm) ?_; decide)
    | (with_reducible refine raise_frame (sub_trans ?_ hm) ?_; decide)
    | split
    | dsimp only
theorem domLoop_frame {M : Nat} {z0 : State} {s : State} {d : Nat} (hm : 0x20040974000000 &&& M = 0x20040974000000)
    (hz : Frame M z0 s) : Frame M z0 (domLoop s d) := by
  unfold domLoop
  repeat' first
    | with_reducible assumption
    | (with_reducible refine frame_lit ?_ ?_; rotate_left; (fail_if_success with_reducible exact Frame.refl _)
                      constructor <;> first | exact fun _ => rfl | exact fun h => absurd (bit_of_sub hm h) (by decide))
    | with_reducible refine frame_ite (fun _ => ?_) (fun _ => ?_)
    | (with_reducible refine linkOver_frame (sub_trans ?_ hm) ?_; decide)
    | (with_reducible refine modDl_frame (sub_trans ?_ hm) ?_; decide)
    | (with_reducible refine raiseSat_frame (sub_trans ?_ hm) ?_; decide)
    | (with_reducible refine modPd_frame (sub_trans ?_ hm) ?_; decide)
    | split
    | dsimp only
theorem thermLoop_frame {M : Nat} {z0 : State} {s : State} {c : Nat} (hm : 0x20040970000000 &&& M = 0x20040970000000)
    (hz : Frame M z0 s) : Frame M z0 (thermLoop s c) := by
  unfold thermLoop
  repeat' first
    | with_reducible assumption
    | (with_reducible refine frame_lit ?_ ?_; rotate_left; (fail_if_success with_reducible exact Frame.refl _)
                      constructor <;> first | exact fun _ => rfl | exact fun h => absurd (bit_of_sub hm h) (by decide))
    | with_reducible refine frame_ite (fun _ => ?_) (fun _ => ?_)
    | (with_reducible refine raiseSat_frame (sub_trans ?_ hm) ?_; decide)
    | split
    | dsimp only
theorem effCapBinEnd_frame {M : Nat} {z0 : State} {s : State} (hm : 0x220040970000000 &&& M = 0x220040970000000)
    (hz : Frame M z0 s) : Frame M z0 (effCapBinEnd s) := by
  unfold effCapBinEnd
  repeat' first
    | with_reducible assumption
    | (with_reducible refine frame_lit ?_ ?_; rotate_left; (fail_if_success with_reducible exact Frame.refl _)
                      constructor <;> first | exact fun _ => rfl | exact fun h => absurd (bit_of_sub hm h) (by decide))
    | with_reducible refine frame_ite (fun _ => ?_) (fun _ => ?_)
    | with_reducible refine frame_foldl (fun _ _ _ => ?_) ?_
    | (with_reducible refine raiseSat_frame (sub_trans ?_ hm) ?_; decide)
    | split
    | dsimp only
theorem execCapBinEnd_frame {M : Nat} {z0 : State} {s : State} (hm : 0x220040970000000 &&& M = 0x220040970000000)
    (hz : Frame M z0 s) : Ends M z0 (execCapBinEnd s) := by
  unfold execCapBinEnd
  repeat' first
    | with_reducible assumption
    | with_reducible refine effCapBinEnd_frame hm ?_
    | with_reducible refine loopLive_frame (fun _ _ => ?_) ?_
theorem budgetRead_frame {M : Nat} {z0 : State} {s : State} {x : Nat} {edge : Bool}
    (hm : 0x20040970000000 &&& M = 0x20040970000000)
    (hz : Frame M z0 s) : Frame M z0 (budgetRead s x edge) := by
  unfold budgetRead
  repeat' first
    | with_reducible assumption
    | (with_reducible refine frame_lit ?_ ?_; rotate_left; (fail_if_success with_reducible exact Frame.refl _)
                      constructor <;> first | exact fun _ => rfl | exact fun h => absurd (bit_of_sub hm h) (by decide))
    | with_reducible refine frame_ite (fun _ => ?_) (fun _ => ?_)
    | (with_reducible refine raise_frame (sub_trans ?_ hm) ?_; decide)
    | split
    | dsimp only
theorem budgetFollow_frame {M : Nat} {z0 : State} {s : State} (hm : 0x20000000000000 &&& M = 0x20000000000000)
    (hz : Frame M z0 s) : Frame M z0 (budgetFollow s) := by
  unfold budgetFollow
  repeat' first
    | with_reducible assumption
    | (with_reducible refine frame_lit ?_ ?_; rotate_left; (fail_if_success with_reducible exact Frame.refl _)
                      constructor <;> first | exact fun _ => rfl | exact fun h => absurd (bit_of_sub hm h) (by decide))
    | with_reducible refine frame_ite (fun _ => ?_) (fun _ => ?_)
    | split
    | dsimp only
theorem budgetBins_frame {M : Nat} {z0 : State} {s : State} (hm : 0x20000000000000 &&& M = 0x20000000000000)
    (hz : Frame M z0 s) : Frame M z0 (budgetBins s) := by
  unfold budgetBins
  repeat' first
    | with_reducible assumption
    | (with_reducible refine frame_lit ?_ ?_; rotate_left; (fail_if_success with_reducible exact Frame.refl _)
                      constructor <;> first | exact fun _ => rfl | exact fun h => absurd (bit_of_sub hm h) (by decide))
    | with_reducible refine frame_ite (fun _ => ?_) (fun _ => ?_)
    | with_reducible refine frame_foldl (fun _ _ _ => ?_) ?_
    | split
    | dsimp only
theorem budgetLoops_frame {M : Nat} {z0 : State} {s : State} (hm : 0x20040970000000 &&& M = 0x20040970000000)
    (hz : Frame M z0 s) : Frame M z0 (budgetLoops s) := by
  unfold budgetLoops
  repeat' first
    | with_reducible assumption
    | (with_reducible refine frame_lit ?_ ?_; rotate_left; (fail_if_success with_reducible exact Frame.refl _)
                      constructor <;> first | exact fun _ => rfl | exact fun h => absurd (bit_of_sub hm h) (by decide))
    | with_reducible refine frame_ite (fun _ => ?_) (fun _ => ?_)
    | (with_reducible refine raiseSat_frame (sub_trans ?_ hm) ?_; decide)
    | split
    | dsimp only
theorem effBudgetDecode_frame {M : Nat} {z0 : State} {x : Nat} {edge : Bool} {s : State}
    (hm : 0x20040970000000 &&& M = 0x20040970000000)
    (hz : Frame M z0 s) : Frame M z0 (effBudgetDecode x edge s) := by
  unfold effBudgetDecode
  repeat' first
    | with_reducible assumption
    | (with_reducible refine frame_lit ?_ ?_; rotate_left; (fail_if_success with_reducible exact Frame.refl _)
                      constructor <;> first | exact fun _ => rfl | exact fun h => absurd (bit_of_sub hm h) (by decide))
    | with_reducible refine frame_ite (fun _ => ?_) (fun _ => ?_)
    | with_reducible refine budgetLoops_frame hm ?_
    | (with_reducible refine budgetBins_frame (sub_trans ?_ hm) ?_; decide)
    | (with_reducible refine budgetFollow_frame (sub_trans ?_ hm) ?_; decide)
    | with_reducible refine budgetRead_frame hm ?_
    | split
    | dsimp only
theorem execBudgetDecode_frame {M : Nat} {z0 : State} {x : Nat} {edge : Bool} {s : State}
    (hm : 0x20040970000000 &&& M = 0x20040970000000)
    (hz : Frame M z0 s) : Ends M z0 (execBudgetDecode x edge s) := by
  unfold execBudgetDecode
  repeat' first
    | with_reducible assumption
    | with_reducible refine effBudgetDecode_frame hm ?_
    | with_reducible refine loopLive_frame (fun _ _ => ?_) ?_
theorem effBudgetFeTimer_frame {M : Nat} {z0 : State} {s : State} (hm : 0x20040970000000 &&& M = 0x20040970000000)
    (hz : Frame M z0 s) : Frame M z0 (effBudgetFeTimer s) := by
  unfold effBudgetFeTimer
  repeat' first
    | with_reducible assumption
    | (with_reducible refine frame_lit ?_ ?_; rotate_left; (fail_if_success with_reducible exact Frame.refl _)
                      constructor <;> first | exact fun _ => rfl | exact fun h => absurd (bit_of_sub hm h) (by decide))
    | with_reducible refine frame_ite (fun _ => ?_) (fun _ => ?_)
    | (with_reducible refine raise_frame (sub_trans ?_ hm) ?_; decide)
    | split
    | dsimp only
theorem execBudgetFeTimer_frame {M : Nat} {z0 : State} {s : State} (hm : 0x20040970000000 &&& M = 0x20040970000000)
    (hz : Frame M z0 s) : Ends M z0 (execBudgetFeTimer s) := by
  unfold execBudgetFeTimer
  repeat' first
    | with_reducible assumption
    | with_reducible refine effBudgetFeTimer_frame hm ?_
    | with_reducible refine loopLive_frame (fun _ _ => ?_) ?_
theorem setCeil_frame {M : Nat} {z0 : State} {s : State} {c : Nat} {v : Nat}
    (hm : 0x2000000002cf80 &&& M = 0x2000000002cf80)
    (hz : Frame M z0 s) : Frame M z0 (setCeil s c v) := by
  unfold setCeil
  repeat' first
    | with_reducible assumption
    | (with_reducible refine frame_lit ?_ ?_; rotate_left; (fail_if_success with_reducible exact Frame.refl _)
                      constructor <;> first | exact fun _ => rfl | exact fun h => absurd (bit_of_sub hm h) (by decide))
    | with_reducible refine frame_ite (fun _ => ?_) (fun _ => ?_)
    | with_reducible refine frame_foldl (fun _ _ _ => ?_) ?_
    | (with_reducible refine followOp_frame (sub_trans ?_ hm) ?_; decide)
    | split
    | dsimp only
theorem ceilings_frame {M : Nat} {z0 : State} {s : State} (hm : 0x2004097002cf80 &&& M = 0x2004097002cf80)
    (hz : Frame M z0 s) : Frame M z0 (ceilings s) := by
  unfold ceilings
  repeat' first
    | with_reducible assumption
    | (with_reducible refine frame_lit ?_ ?_; rotate_left; (fail_if_success with_reducible exact Frame.refl _)
                      constructor <;> first | exact fun _ => rfl | exact fun h => absurd (bit_of_sub hm h) (by decide))
    | with_reducible refine frame_ite (fun _ => ?_) (fun _ => ?_)
    | (with_reducible refine setCeil_frame (sub_trans ?_ hm) ?_; decide)
    | (with_reducible refine raise_frame (sub_trans ?_ hm) ?_; decide)
    | split
    | dsimp only
theorem selectOne_frame {M : Nat} {z0 : State} {s : State} {d : Nat} (hm : 0x20000000000000 &&& M = 0x20000000000000)
    (hz : Frame M z0 s) : Frame M z0 (selectOne s d) := by
  unfold selectOne
  repeat' first
    | with_reducible assumption
    | (with_reducible refine frame_lit ?_ ?_; rotate_left; (fail_if_success with_reducible exact Frame.refl _)
                      constructor <;> first | exact fun _ => rfl | exact fun h => absurd (bit_of_sub hm h) (by decide))
    | with_reducible refine frame_ite (fun _ => ?_) (fun _ => ?_)
    | split
    | dsimp only
theorem selectAll_frame {M : Nat} {z0 : State} {s : State} (hm : 0x20000000000000 &&& M = 0x20000000000000)
    (hz : Frame M z0 s) : Frame M z0 (selectAll s) := by
  unfold selectAll
  repeat' first
    | with_reducible assumption
    | with_reducible refine frame_foldl (fun _ _ _ => ?_) ?_
    | with_reducible refine selectOne_frame hm ?_
theorem selectLater_frame {M : Nat} {z0 : State} {s : State} (hm : 0x420000000000000 &&& M = 0x420000000000000)
    (hz : Frame M z0 s) : Frame M z0 (selectLater s) := by
  unfold selectLater
  repeat' first
    | with_reducible assumption
    | (with_reducible refine frame_lit ?_ ?_; rotate_left; (fail_if_success with_reducible exact Frame.refl _)
                      constructor <;> first | exact fun _ => rfl | exact fun h => absurd (bit_of_sub hm h) (by decide))
theorem selectDue_frame {M : Nat} {z0 : State} {s : State} (hm : 0x20000000000000 &&& M = 0x20000000000000)
    (hz : Frame M z0 s) : Frame M z0 (selectDue s) := by
  unfold selectDue
  repeat' first
    | with_reducible assumption
    | (with_reducible refine frame_lit ?_ ?_; rotate_left; (fail_if_success with_reducible exact Frame.refl _)
                      constructor <;> first | exact fun _ => rfl | exact fun h => absurd (bit_of_sub hm h) (by decide))
    | with_reducible refine frame_ite (fun _ => ?_) (fun _ => ?_)
    | with_reducible refine frame_foldl (fun _ _ _ => ?_) ?_
    | with_reducible refine selectOne_frame hm ?_
    | split
    | dsimp only
theorem sampleBins_frame {M : Nat} {z0 : State} {s : State} (hm : 0x20000000000000 &&& M = 0x20000000000000)
    (hz : Frame M z0 s) : Frame M z0 (sampleBins s) := by
  unfold sampleBins
  repeat' first
    | with_reducible assumption
    | (with_reducible refine frame_lit ?_ ?_; rotate_left; (fail_if_success with_reducible exact Frame.refl _)
                      constructor <;> first | exact fun _ => rfl | exact fun h => absurd (bit_of_sub hm h) (by decide))
    | dsimp only
theorem sampleTel_frame {M : Nat} {z0 : State} {s : State} (hm : 0x40000000000000 &&& M = 0x40000000000000)
    (hz : Frame M z0 s) : Frame M z0 (sampleTel s) := by
  unfold sampleTel
  repeat' first
    | with_reducible assumption
    | (with_reducible refine frame_lit ?_ ?_; rotate_left; (fail_if_success with_reducible exact Frame.refl _)
                      constructor <;> first | exact fun _ => rfl | exact fun h => absurd (bit_of_sub hm h) (by decide))
    | with_reducible refine frame_ite (fun _ => ?_) (fun _ => ?_)
    | split
    | dsimp only
theorem applyFractions_frame {M : Nat} {z0 : State} {s : State} {fcap : Nat} {fbud : Nat}
    (hm : 0x20000000000000 &&& M = 0x20000000000000)
    (hz : Frame M z0 s) : Frame M z0 (applyFractions s fcap fbud) := by
  unfold applyFractions
  repeat' first
    | with_reducible assumption
    | (with_reducible refine frame_lit ?_ ?_; rotate_left; (fail_if_success with_reducible exact Frame.refl _)
                      constructor <;> first | exact fun _ => rfl | exact fun h => absurd (bit_of_sub hm h) (by decide))
    | with_reducible refine frame_ite (fun _ => ?_) (fun _ => ?_)
    | split
    | dsimp only
theorem effLoopEngineStep_frame {M : Nat} {z0 : State} {fcap : Nat} {fbud : Nat} {s : State}
    (hm : 0x6e2c4097422cf80 &&& M = 0x6e2c4097422cf80)
    (hz : Frame M z0 s) : Frame M z0 (effLoopEngineStep fcap fbud s) := by
  unfold effLoopEngineStep
  repeat' first
    | with_reducible assumption
    | with_reducible refine frame_ite (fun _ => ?_) (fun _ => ?_)
    | with_reducible refine frame_foldl (fun _ _ _ => ?_) ?_
    | (with_reducible refine applyFractions_frame (sub_trans ?_ hm) ?_; decide)
    | (with_reducible refine sampleTel_frame (sub_trans ?_ hm) ?_; decide)
    | (with_reducible refine sampleBins_frame (sub_trans ?_ hm) ?_; decide)
    | (with_reducible refine selectLater_frame (sub_trans ?_ hm) ?_; decide)
    | (with_reducible refine ceilings_frame (sub_trans ?_ hm) ?_; decide)
    | (with_reducible refine thermLoop_frame (sub_trans ?_ hm) ?_; decide)
    | (with_reducible refine domLoop_frame (sub_trans ?_ hm) ?_; decide)
    | (with_reducible refine dieLoop_frame (sub_trans ?_ hm) ?_; decide)
    | (with_reducible refine requestStall_frame (sub_trans ?_ hm) ?_; decide)
    | split
    | dsimp only
theorem execLoopEngineStep_frame {M : Nat} {z0 : State} {fcap : Nat} {fbud : Nat} {s : State}
    (hm : 0x6e2c4097422cf80 &&& M = 0x6e2c4097422cf80)
    (hz : Frame M z0 s) : Ends M z0 (execLoopEngineStep fcap fbud s) := by
  unfold execLoopEngineStep
  repeat' first
    | with_reducible assumption
    | with_reducible refine effLoopEngineStep_frame hm ?_
    | with_reducible refine loopLive_frame (fun _ _ => ?_) ?_
theorem effLoopDisable_frame {M : Nat} {z0 : State} {k : Fin 5} {s : State}
    (hm : 0x20000000000000 &&& M = 0x20000000000000)
    (hz : Frame M z0 s) : Frame M z0 (effLoopDisable k s) := by
  unfold effLoopDisable
  repeat' first
    | with_reducible assumption
    | (with_reducible refine frame_lit ?_ ?_; rotate_left; (fail_if_success with_reducible exact Frame.refl _)
                      constructor <;> first | exact fun _ => rfl | exact fun h => absurd (bit_of_sub hm h) (by decide))
    | with_reducible refine frame_ite (fun _ => ?_) (fun _ => ?_)
    | with_reducible refine selectAll_frame hm ?_
    | split
    | dsimp only
theorem execLoopDisable_frame {M : Nat} {z0 : State} {k : Fin 5} {s : State}
    (hm : 0x20000000000000 &&& M = 0x20000000000000)
    (hz : Frame M z0 s) : Ends M z0 (execLoopDisable k s) := by
  unfold execLoopDisable
  repeat' first
    | with_reducible assumption
    | with_reducible refine effLoopDisable_frame hm ?_
    | with_reducible refine bus_frame (fun _ _ => ?_) ?_
theorem throttleBeat_frame {M : Nat} {z0 : State} {s : State} (hm : 0xe0000000000000 &&& M = 0xe0000000000000)
    (hz : Frame M z0 s) : Frame M z0 (throttleBeat s) := by
  unfold throttleBeat
  repeat' first
    | with_reducible assumption
    | (with_reducible refine frame_lit ?_ ?_; rotate_left; (fail_if_success with_reducible exact Frame.refl _)
                      constructor <;> first | exact fun h => absurd (bit_of_sub hm h) (by decide) | exact fun _ => rfl)
    | with_reducible refine frame_ite (fun _ => ?_) (fun _ => ?_)
    | with_reducible refine frame_foldl (fun _ _ _ => ?_) ?_
    | (with_reducible refine selectDue_frame (sub_trans ?_ hm) ?_; decide)
    | (with_reducible refine addDebt_frame (sub_trans ?_ hm) ?_; decide)
    | split
    | dsimp only
theorem telRestart_frame {M : Nat} {z0 : State} {s : State} {b : Nat} (hm : 0x40000000000000 &&& M = 0x40000000000000)
    (hz : Frame M z0 s) : Frame M z0 (telRestart s b) := by
  unfold telRestart
  repeat' first
    | with_reducible assumption
    | (with_reducible refine frame_lit ?_ ?_; rotate_left; (fail_if_success with_reducible exact Frame.refl _)
                      constructor <;> first | exact fun _ => rfl | exact fun h => absurd (bit_of_sub hm h) (by decide))
theorem telLoseN_frame {M : Nat} {z0 : State} {n : Nat} {s : State} (hm : 0x40000000000000 &&& M = 0x40000000000000)
    (hz : Frame M z0 s) : Frame M z0 (telLoseN n s) := by
  unfold telLoseN
  repeat' first
    | with_reducible assumption
    | (with_reducible refine frame_lit ?_ ?_; rotate_left; (fail_if_success with_reducible exact Frame.refl _)
                      constructor <;> first | exact fun _ => rfl | exact fun h => absurd (bit_of_sub hm h) (by decide))
    | with_reducible refine frame_ite (fun _ => ?_) (fun _ => ?_)
    | split
theorem telLose_frame {M : Nat} {z0 : State} {s : State} (hm : 0x40000000000000 &&& M = 0x40000000000000)
    (hz : Frame M z0 s) : Frame M z0 (telLose s) := by
  unfold telLose
  repeat' first
    | with_reducible assumption
    | with_reducible refine telLoseN_frame hm ?_
theorem telClose_frame {M : Nat} {z0 : State} {s : State} {ok : Bool} (hm : 0x40042970000000 &&& M = 0x40042970000000)
    (hz : Frame M z0 s) : Frame M z0 (telClose s ok) := by
  unfold telClose
  repeat' first
    | with_reducible assumption
    | (with_reducible refine frame_lit ?_ ?_; rotate_left; (fail_if_success with_reducible exact Frame.refl _)
                      constructor <;> first | exact fun h => absurd (bit_of_sub hm h) (by decide) | exact fun _ => rfl)
    | with_reducible refine frame_ite (fun _ => ?_) (fun _ => ?_)
    | (with_reducible refine telLose_frame (sub_trans ?_ hm) ?_; decide)
    | (with_reducible refine raise_frame (sub_trans ?_ hm) ?_; decide)
    | split
    | dsimp only
theorem effTelemetryRecord_frame {M : Nat} {z0 : State} {ok : Bool} {s : State}
    (hm : 0x40042970000000 &&& M = 0x40042970000000)
    (hz : Frame M z0 s) : Frame M z0 (effTelemetryRecord ok s) := by
  unfold effTelemetryRecord
  repeat' first
    | with_reducible assumption
    | (with_reducible refine frame_lit ?_ ?_; rotate_left; (fail_if_success with_reducible exact Frame.refl _)
                      constructor <;> first | exact fun _ => rfl | exact fun h => absurd (bit_of_sub hm h) (by decide))
    | with_reducible refine frame_ite (fun _ => ?_) (fun _ => ?_)
    | with_reducible refine telClose_frame hm ?_
    | (with_reducible refine telLose_frame (sub_trans ?_ hm) ?_; decide)
    | (with_reducible refine telLoseN_frame (sub_trans ?_ hm) ?_; decide)
    | (with_reducible refine telRestart_frame (sub_trans ?_ hm) ?_; decide)
    | split
    | dsimp only
theorem telCut_frame {M : Nat} {z0 : State} {n : Nat} {s : State} (hm : 0x40000000000000 &&& M = 0x40000000000000)
    (hz : Frame M z0 s) : Frame M z0 (telCut n s) := by
  unfold telCut
  repeat' first
    | with_reducible assumption
    | (with_reducible refine frame_lit ?_ ?_; rotate_left; (fail_if_success with_reducible exact Frame.refl _)
                      constructor <;> first | exact fun _ => rfl | exact fun h => absurd (bit_of_sub hm h) (by decide))
    | with_reducible refine frame_ite (fun _ => ?_) (fun _ => ?_)
    | with_reducible refine telLose_frame hm ?_
    | split
    | dsimp only
theorem telBreak_frame {M : Nat} {z0 : State} {s : State} (hm : 0x40000000000000 &&& M = 0x40000000000000)
    (hz : Frame M z0 s) : Frame M z0 (telBreak s) := by
  unfold telBreak
  repeat' first
    | with_reducible assumption
    | (with_reducible refine frame_lit ?_ ?_; rotate_left; (fail_if_success with_reducible exact Frame.refl _)
                      constructor <;> first | exact fun _ => rfl | exact fun h => absurd (bit_of_sub hm h) (by decide))
theorem execTelemetryRecord_frame {M : Nat} {z0 : State} {ok : Bool} {s : State}
    (hm : 0x40042970000000 &&& M = 0x40042970000000)
    (hz : Frame M z0 s) : Ends M z0 (execTelemetryRecord ok s) := by
  unfold execTelemetryRecord
  repeat' first
    | with_reducible assumption
    | with_reducible refine effTelemetryRecord_frame hm ?_
    | with_reducible refine live_frame (fun _ _ => ?_) ?_
theorem execTelClrcnt_frame {M : Nat} {z0 : State} {s : State} (hm : 0x40000000000000 &&& M = 0x40000000000000)
    (hz : Frame M z0 s) : Ends M z0 (execTelClrcnt s) := by
  unfold execTelClrcnt
  repeat' first
    | with_reducible assumption
    | (with_reducible refine frame_lit ?_ ?_; rotate_left; (fail_if_success with_reducible exact Frame.refl _)
                      constructor <;> first | exact fun _ => rfl | exact fun h => absurd (bit_of_sub hm h) (by decide))
    | with_reducible refine bus_frame (fun _ _ => ?_) ?_

end Sys2Proof.Machine
end

