-- ==== Sys2Proof/Laws/Touch7.lean ====
section
/-! SUPPORT. Which groups of State the operations of Machine/Side may touch: each keeps every frame whose set holds
its own. -/

namespace Sys2Proof.Machine

theorem dropSide_frame {M : Nat} {z0 : State} {s : State} (hm : 0x200040970000000 &&& M = 0x200040970000000)
    (hz : Frame M z0 s) : Frame M z0 (dropSide s) := by
  unfold dropSide
  repeat' first
    | with_reducible assumption
    | (with_reducible refine frame_lit ?_ ?_; rotate_left; (fail_if_success with_reducible exact Frame.refl _)
                      constructor <;> first | exact fun _ => rfl | exact fun h => absurd (bit_of_sub hm h) (by decide))
    | (with_reducible refine raise_frame (sub_trans ?_ hm) ?_; decide)
theorem receive_frame {M : Nat} {z0 : State} {kind : Nat} {port : Fin 19} {h : Word64} {pay : List Word64}
    {f : Msg → State → State} {s : State} (hm : 0x200040970000000 &&& M = 0x200040970000000)
        (hf : ∀ w s, Frame M z0 s → Frame M z0 (f w s))
    (hz : Frame M z0 s) : Frame M z0 (receive kind port h pay f s) := by
  unfold receive
  repeat' first
    | with_reducible assumption
    | with_reducible refine frame_ite (fun _ => ?_) (fun _ => ?_)
    | with_reducible refine hf _ _ ?_
    | with_reducible refine dropSide_frame hm ?_
    | split
    | dsimp only
theorem forward_frame {M : Nat} {z0 : State} {s : State} {port : Fin 19} {f : Port → Bool} {m : Msg}
    (hm : 0x200040970000000 &&& M = 0x200040970000000)
    (hz : Frame M z0 s) : Frame M z0 (forward s port f m) := by
  unfold forward
  repeat' first
    | with_reducible assumption
    | with_reducible refine sendOn_frame hm ?_
theorem floodOn_frame {M : Nat} {z0 : State} {s : State} {port : Fin 19} {m : Msg}
    (hm : 0x200040970000000 &&& M = 0x200040970000000)
    (hz : Frame M z0 s) : Frame M z0 (floodOn s port m) := by
  unfold floodOn
  repeat' first
    | with_reducible assumption
    | (with_reducible refine frame_lit ?_ ?_; rotate_left; (fail_if_success with_reducible exact Frame.refl _)
                      constructor <;> first | exact fun _ => rfl | exact fun h => absurd (bit_of_sub hm h) (by decide))
    | with_reducible refine frame_ite (fun _ => ?_) (fun _ => ?_)
    | with_reducible refine forward_frame hm ?_
    | split
    | dsimp only
theorem onStall_frame {M : Nat} {z0 : State} {port : Fin 19} {m : Msg} {s : State}
    (hm : 0x282c40970200000 &&& M = 0x282c40970200000)
    (hz : Frame M z0 s) : Frame M z0 (onStall port m s) := by
  unfold onStall
  repeat' first
    | with_reducible assumption
    | with_reducible refine frame_ite (fun _ => ?_) (fun _ => ?_)
    | (with_reducible refine floodOn_frame (sub_trans ?_ hm) ?_; decide)
    | (with_reducible refine takeStall_frame (sub_trans ?_ hm) ?_; decide)
    | split
    | dsimp only
theorem execStall_frame {M : Nat} {z0 : State} {port : Fin 19} {h : Word64} {pay : List Word64} {s : State}
    (hm : 0x282c40970200000 &&& M = 0x282c40970200000)
    (hz : Frame M z0 s) : Ends M z0 (execStall port h pay s) := by
  unfold execStall
  repeat' first
    | with_reducible assumption
    | with_reducible refine onStall_frame hm ?_
    | (with_reducible refine receive_frame (sub_trans ?_ hm) (fun _ _ _ => ?_) ?_; decide)
    | with_reducible refine live_frame (fun _ _ => ?_) ?_
theorem barDisarm_frame {M : Nat} {z0 : State} {s : State} (hm : 0x284440970080000 &&& M = 0x284440970080000)
    (hz : Frame M z0 s) : Frame M z0 (barDisarm s) := by
  unfold barDisarm
  repeat' first
    | with_reducible assumption
    | (with_reducible refine frame_lit ?_ ?_; rotate_left; (fail_if_success with_reducible exact Frame.refl _)
                      constructor <;> first | exact fun _ => rfl | exact fun h => absurd (bit_of_sub hm h) (by decide))
    | with_reducible refine haltLanes_frame hm ?_
    | (with_reducible refine raise_frame (sub_trans ?_ hm) ?_; decide)
theorem onVerdict_frame {M : Nat} {z0 : State} {port : Fin 19} {m : Msg} {s : State}
    (hm : 0x284440970080000 &&& M = 0x284440970080000)
    (hz : Frame M z0 s) : Frame M z0 (onVerdict port m s) := by
  unfold onVerdict
  repeat' first
    | with_reducible assumption
    | (with_reducible refine frame_lit ?_ ?_; rotate_left; (fail_if_success with_reducible exact Frame.refl _)
                      constructor <;> first | exact fun _ => rfl | exact fun h => absurd (bit_of_sub hm h) (by decide))
    | with_reducible refine frame_ite (fun _ => ?_) (fun _ => ?_)
    | with_reducible refine barDisarm_frame hm ?_
    | (with_reducible refine floodOn_frame (sub_trans ?_ hm) ?_; decide)
    | split
    | dsimp only
theorem execVerdict_frame {M : Nat} {z0 : State} {port : Fin 19} {h : Word64} {pay : List Word64} {s : State}
    (hm : 0x284440970080000 &&& M = 0x284440970080000)
    (hz : Frame M z0 s) : Ends M z0 (execVerdict port h pay s) := by
  unfold execVerdict
  repeat' first
    | with_reducible assumption
    | with_reducible refine onVerdict_frame hm ?_
    | (with_reducible refine receive_frame (sub_trans ?_ hm) (fun _ _ _ => ?_) ?_; decide)
    | with_reducible refine live_frame (fun _ _ => ?_) ?_
theorem onArmrpt_frame {M : Nat} {z0 : State} {port : Fin 19} {m : Msg} {s : State}
    (hm : 0x200040970000000 &&& M = 0x200040970000000)
    (hz : Frame M z0 s) : Frame M z0 (onArmrpt port m s) := by
  unfold onArmrpt
  repeat' first
    | with_reducible assumption
    | (with_reducible refine frame_lit ?_ ?_; rotate_left; (fail_if_success with_reducible exact Frame.refl _)
                      constructor <;> first | exact fun _ => rfl | exact fun h => absurd (bit_of_sub hm h) (by decide))
    | with_reducible refine frame_ite (fun _ => ?_) (fun _ => ?_)
    | with_reducible refine forward_frame hm ?_
    | split
theorem execArmrpt_frame {M : Nat} {z0 : State} {port : Fin 19} {h : Word64} {pay : List Word64} {s : State}
    (hm : 0x200040970000000 &&& M = 0x200040970000000)
    (hz : Frame M z0 s) : Ends M z0 (execArmrpt port h pay s) := by
  unfold execArmrpt
  repeat' first
    | with_reducible assumption
    | with_reducible refine onArmrpt_frame hm ?_
    | with_reducible refine receive_frame hm (fun _ _ _ => ?_) ?_
    | with_reducible refine live_frame (fun _ _ => ?_) ?_
theorem effArmBarrierDecision_frame {M : Nat} {z0 : State} {s : State}
    (hm : 0x284440970080000 &&& M = 0x284440970080000)
    (hz : Frame M z0 s) : Frame M z0 (effArmBarrierDecision s) := by
  unfold effArmBarrierDecision
  repeat' first
    | with_reducible assumption
    | (with_reducible refine frame_lit ?_ ?_; rotate_left; (fail_if_success with_reducible exact Frame.refl _)
                      constructor <;> first | exact fun _ => rfl | exact fun h => absurd (bit_of_sub hm h) (by decide))
    | with_reducible refine frame_ite (fun _ => ?_) (fun _ => ?_)
    | with_reducible refine frame_foldl (fun _ _ _ => ?_) ?_
    | with_reducible refine barDisarm_frame hm ?_
    | (with_reducible refine bumpSeq_frame (sub_trans ?_ hm) ?_; decide)
    | (with_reducible refine sendOn_frame (sub_trans ?_ hm) ?_; decide)
    | split
    | dsimp only
theorem execArmBarrierDecision_frame {M : Nat} {z0 : State} {s : State}
    (hm : 0x284440970080000 &&& M = 0x284440970080000)
    (hz : Frame M z0 s) : Ends M z0 (execArmBarrierDecision s) := by
  unfold execArmBarrierDecision
  repeat' first
    | with_reducible assumption
    | with_reducible refine effArmBarrierDecision_frame hm ?_
    | with_reducible refine live_frame (fun _ _ => ?_) ?_
theorem effArmBarrierTimeout_frame {M : Nat} {z0 : State} {s : State}
    (hm : 0x284440970080000 &&& M = 0x284440970080000)
    (hz : Frame M z0 s) : Frame M z0 (effArmBarrierTimeout s) := by
  unfold effArmBarrierTimeout
  repeat' first
    | with_reducible assumption
    | with_reducible refine frame_ite (fun _ => ?_) (fun _ => ?_)
    | with_reducible refine barDisarm_frame hm ?_
    | split
theorem execArmBarrierTimeout_frame {M : Nat} {z0 : State} {s : State}
    (hm : 0x284440970080000 &&& M = 0x284440970080000)
    (hz : Frame M z0 s) : Ends M z0 (execArmBarrierTimeout s) := by
  unfold execArmBarrierTimeout
  repeat' first
    | with_reducible assumption
    | with_reducible refine effArmBarrierTimeout_frame hm ?_
    | with_reducible refine live_frame (fun _ _ => ?_) ?_
theorem modGran_frame {M : Nat} {z0 : State} {s : State} {f : Gran → Gran}
    (hm : 0x200000000000000 &&& M = 0x200000000000000)
    (hz : Frame M z0 s) : Frame M z0 (modGran s f) := by
  unfold modGran
  repeat' first
    | with_reducible assumption
    | (with_reducible refine frame_lit ?_ ?_; rotate_left; (fail_if_success with_reducible exact Frame.refl _)
                      constructor <;> first | exact fun _ => rfl | exact fun h => absurd (bit_of_sub hm h) (by decide))
theorem granSend_frame {M : Nat} {z0 : State} {s : State} (hm : 0x200040970000000 &&& M = 0x200040970000000)
    (hz : Frame M z0 s) : Frame M z0 (granSend s) := by
  unfold granSend
  repeat' first
    | with_reducible assumption
    | (with_reducible refine frame_lit ?_ ?_; rotate_left; (fail_if_success with_reducible exact Frame.refl _)
                      constructor <;> first | exact fun _ => rfl | exact fun h => absurd (bit_of_sub hm h) (by decide))
    | with_reducible refine frame_ite (fun _ => ?_) (fun _ => ?_)
    | (with_reducible refine modGran_frame (sub_trans ?_ hm) ?_; decide)
    | (with_reducible refine bumpSeq_frame (sub_trans ?_ hm) ?_; decide)
    | with_reducible refine sendOn_frame hm ?_
    | split
    | dsimp only
theorem effGranReport_frame {M : Nat} {z0 : State} {sig : List Int} {s : State}
    (hm : 0x200040970000000 &&& M = 0x200040970000000)
    (hz : Frame M z0 s) : Frame M z0 (effGranReport sig s) := by
  unfold effGranReport
  repeat' first
    | with_reducible assumption
    | (with_reducible refine frame_lit ?_ ?_; rotate_left; (fail_if_success with_reducible exact Frame.refl _)
                      constructor <;> first | exact fun _ => rfl | exact fun h => absurd (bit_of_sub hm h) (by decide))
    | with_reducible refine frame_ite (fun _ => ?_) (fun _ => ?_)
    | with_reducible refine granSend_frame hm ?_
    | (with_reducible refine modGran_frame (sub_trans ?_ hm) ?_; decide)
    | split
    | dsimp only
theorem execGranReport_frame {M : Nat} {z0 : State} {sig : List Int} {s : State}
    (hm : 0x200040970000000 &&& M = 0x200040970000000)
    (hz : Frame M z0 s) : Ends M z0 (execGranReport sig s) := by
  unfold execGranReport
  repeat' first
    | with_reducible assumption
    | with_reducible refine effGranReport_frame hm ?_
    | with_reducible refine live_frame (fun _ _ => ?_) ?_
theorem onGranrpt_frame {M : Nat} {z0 : State} {port : Fin 19} {m : Msg} {s : State}
    (hm : 0x200040970000000 &&& M = 0x200040970000000)
    (hz : Frame M z0 s) : Frame M z0 (onGranrpt port m s) := by
  unfold onGranrpt
  repeat' first
    | with_reducible assumption
    | (with_reducible refine frame_lit ?_ ?_; rotate_left; (fail_if_success with_reducible exact Frame.refl _)
                      constructor <;> first | exact fun _ => rfl | exact fun h => absurd (bit_of_sub hm h) (by decide))
    | with_reducible refine frame_ite (fun _ => ?_) (fun _ => ?_)
    | (with_reducible refine modGran_frame (sub_trans ?_ hm) ?_; decide)
    | with_reducible refine forward_frame hm ?_
    | split
    | dsimp only
theorem execGranrpt_frame {M : Nat} {z0 : State} {port : Fin 19} {h : Word64} {pay : List Word64} {s : State}
    (hm : 0x200040970000000 &&& M = 0x200040970000000)
    (hz : Frame M z0 s) : Ends M z0 (execGranrpt port h pay s) := by
  unfold execGranrpt
  repeat' first
    | with_reducible assumption
    | with_reducible refine onGranrpt_frame hm ?_
    | with_reducible refine receive_frame hm (fun _ _ _ => ?_) ?_
    | with_reducible refine live_frame (fun _ _ => ?_) ?_
theorem effGranDecision_frame {M : Nat} {z0 : State} {s : State} (hm : 0x200040970000000 &&& M = 0x200040970000000)
    (hz : Frame M z0 s) : Frame M z0 (effGranDecision s) := by
  unfold effGranDecision
  repeat' first
    | with_reducible assumption
    | (with_reducible refine frame_lit ?_ ?_; rotate_left; (fail_if_success with_reducible exact Frame.refl _)
                      constructor <;> first | exact fun _ => rfl | exact fun h => absurd (bit_of_sub hm h) (by decide))
    | with_reducible refine frame_ite (fun _ => ?_) (fun _ => ?_)
    | (with_reducible refine modGran_frame (sub_trans ?_ hm) ?_; decide)
    | (with_reducible refine bumpSeq_frame (sub_trans ?_ hm) ?_; decide)
    | with_reducible refine sendOn_frame hm ?_
    | split
    | dsimp only
theorem execGranDecision_frame {M : Nat} {z0 : State} {s : State} (hm : 0x200040970000000 &&& M = 0x200040970000000)
    (hz : Frame M z0 s) : Ends M z0 (execGranDecision s) := by
  unfold execGranDecision
  repeat' first
    | with_reducible assumption
    | with_reducible refine effGranDecision_frame hm ?_
    | with_reducible refine live_frame (fun _ _ => ?_) ?_
theorem onGrant_frame {M : Nat} {z0 : State} {port : Fin 19} {m : Msg} {s : State}
    (hm : 0x200040970000000 &&& M = 0x200040970000000)
    (hz : Frame M z0 s) : Frame M z0 (onGrant port m s) := by
  unfold onGrant
  repeat' first
    | with_reducible assumption
    | (with_reducible refine frame_lit ?_ ?_; rotate_left; (fail_if_success with_reducible exact Frame.refl _)
                      constructor <;> first | exact fun _ => rfl | exact fun h => absurd (bit_of_sub hm h) (by decide))
    | with_reducible refine frame_ite (fun _ => ?_) (fun _ => ?_)
    | (with_reducible refine modGran_frame (sub_trans ?_ hm) ?_; decide)
    | with_reducible refine forward_frame hm ?_
    | split
    | dsimp only
theorem execGrant_frame {M : Nat} {z0 : State} {port : Fin 19} {h : Word64} {pay : List Word64} {s : State}
    (hm : 0x200040970000000 &&& M = 0x200040970000000)
    (hz : Frame M z0 s) : Ends M z0 (execGrant port h pay s) := by
  unfold execGrant
  repeat' first
    | with_reducible assumption
    | with_reducible refine onGrant_frame hm ?_
    | with_reducible refine receive_frame hm (fun _ _ _ => ?_) ?_
    | with_reducible refine live_frame (fun _ _ => ?_) ?_
theorem effGranApply_frame {M : Nat} {z0 : State} {s : State} (hm : 0x200040970000000 &&& M = 0x200040970000000)
    (hz : Frame M z0 s) : Frame M z0 (effGranApply s) := by
  unfold effGranApply
  repeat' first
    | with_reducible assumption
    | (with_reducible refine frame_lit ?_ ?_; rotate_left; (fail_if_success with_reducible exact Frame.refl _)
                      constructor <;> first | exact fun _ => rfl | exact fun h => absurd (bit_of_sub hm h) (by decide))
    | with_reducible refine frame_ite (fun _ => ?_) (fun _ => ?_)
    | (with_reducible refine modGran_frame (sub_trans ?_ hm) ?_; decide)
    | (with_reducible refine raise_frame (sub_trans ?_ hm) ?_; decide)
    | split
    | dsimp only
theorem execGranApply_frame {M : Nat} {z0 : State} {s : State} (hm : 0x200040970000000 &&& M = 0x200040970000000)
    (hz : Frame M z0 s) : Ends M z0 (execGranApply s) := by
  unfold execGranApply
  repeat' first
    | with_reducible assumption
    | with_reducible refine effGranApply_frame hm ?_
    | with_reducible refine live_frame (fun _ _ => ?_) ?_
theorem effPkgBalance_frame {M : Nat} {z0 : State} {s : State} (hm : 0x220000000000000 &&& M = 0x220000000000000)
    (hz : Frame M z0 s) : Frame M z0 (effPkgBalance s) := by
  unfold effPkgBalance
  repeat' first
    | with_reducible assumption
    | (with_reducible refine frame_lit ?_ ?_; rotate_left; (fail_if_success with_reducible exact Frame.refl _)
                      constructor <;> first | exact fun _ => rfl | exact fun h => absurd (bit_of_sub hm h) (by decide))
    | with_reducible refine frame_ite (fun _ => ?_) (fun _ => ?_)
    | with_reducible refine frame_foldl (fun _ _ _ => ?_) ?_
    | (with_reducible refine modGran_frame (sub_trans ?_ hm) ?_; decide)
    | split
    | dsimp only
theorem execPkgBalance_frame {M : Nat} {z0 : State} {s : State} (hm : 0x220000000000000 &&& M = 0x220000000000000)
    (hz : Frame M z0 s) : Ends M z0 (execPkgBalance s) := by
  unfold execPkgBalance
  repeat' first
    | with_reducible assumption
    | with_reducible refine effPkgBalance_frame hm ?_
    | with_reducible refine live_frame (fun _ _ => ?_) ?_
theorem modDist_frame {M : Nat} {z0 : State} {s : State} {f : Dist → Dist}
    (hm : 0x200000000000000 &&& M = 0x200000000000000)
    (hz : Frame M z0 s) : Frame M z0 (modDist s f) := by
  unfold modDist
  repeat' first
    | with_reducible assumption
    | (with_reducible refine frame_lit ?_ ?_; rotate_left; (fail_if_success with_reducible exact Frame.refl _)
                      constructor <;> first | exact fun _ => rfl | exact fun h => absurd (bit_of_sub hm h) (by decide))
theorem effDistStart_frame {M : Nat} {z0 : State} {s : State} (hm : 0x200040970000000 &&& M = 0x200040970000000)
    (hz : Frame M z0 s) : Frame M z0 (effDistStart s) := by
  unfold effDistStart
  repeat' first
    | with_reducible assumption
    | (with_reducible refine frame_lit ?_ ?_; rotate_left; (fail_if_success with_reducible exact Frame.refl _)
                      constructor <;> first | exact fun _ => rfl | exact fun h => absurd (bit_of_sub hm h) (by decide))
    | with_reducible refine frame_ite (fun _ => ?_) (fun _ => ?_)
    | with_reducible refine frame_foldl (fun _ _ _ => ?_) ?_
    | (with_reducible refine modDist_frame (sub_trans ?_ hm) ?_; decide)
    | (with_reducible refine bumpSeq_frame (sub_trans ?_ hm) ?_; decide)
    | with_reducible refine sendOn_frame hm ?_
    | split
    | dsimp only
theorem execDistStart_frame {M : Nat} {z0 : State} {s : State} (hm : 0x200040970000000 &&& M = 0x200040970000000)
    (hz : Frame M z0 s) : Ends M z0 (execDistStart s) := by
  unfold execDistStart
  repeat' first
    | with_reducible assumption
    | with_reducible refine effDistStart_frame hm ?_
    | with_reducible refine live_frame (fun _ _ => ?_) ?_
theorem distMeet_frame {M : Nat} {z0 : State} {s : State} {id : Nat} {npkt : Nat}
    (hm : 0x200000000000000 &&& M = 0x200000000000000)
    (hz : Frame M z0 s) : Frame M z0 (distMeet s id npkt) := by
  unfold distMeet
  repeat' first
    | with_reducible assumption
    | (with_reducible refine frame_lit ?_ ?_; rotate_left; (fail_if_success with_reducible exact Frame.refl _)
                      constructor <;> first | exact fun _ => rfl | exact fun h => absurd (bit_of_sub hm h) (by decide))
    | with_reducible refine frame_ite (fun _ => ?_) (fun _ => ?_)
    | with_reducible refine modDist_frame hm ?_
    | split
theorem takePacket_frame {M : Nat} {z0 : State} {m : Msg} {s : State}
    (hm : 0x200242970000000 &&& M = 0x200242970000000)
    (hz : Frame M z0 s) : Frame M z0 (takePacket m s) := by
  unfold takePacket
  repeat' first
    | with_reducible assumption
    | (with_reducible refine frame_lit ?_ ?_; rotate_left; (fail_if_success with_reducible exact Frame.refl _)
                      constructor <;> first | exact fun _ => rfl | exact fun h => absurd (bit_of_sub hm h) (by decide))
    | with_reducible refine frame_ite (fun _ => ?_) (fun _ => ?_)
    | (with_reducible refine distMeet_frame (sub_trans ?_ hm) ?_; decide)
    | (with_reducible refine modDist_frame (sub_trans ?_ hm) ?_; decide)
    | (with_reducible refine dropSide_frame (sub_trans ?_ hm) ?_; decide)
    | (with_reducible refine trackWrite_frame (sub_trans ?_ hm) ?_; decide)
    | split
    | dsimp only
theorem onTrkpkt_frame {M : Nat} {z0 : State} {port : Fin 19} {m : Msg} {s : State}
    (hm : 0x200242970000000 &&& M = 0x200242970000000)
    (hz : Frame M z0 s) : Frame M z0 (onTrkpkt port m s) := by
  unfold onTrkpkt
  repeat' first
    | with_reducible assumption
    | with_reducible refine frame_ite (fun _ => ?_) (fun _ => ?_)
    | with_reducible refine takePacket_frame hm ?_
    | (with_reducible refine forward_frame (sub_trans ?_ hm) ?_; decide)
    | split
theorem execTrkpkt_frame {M : Nat} {z0 : State} {port : Fin 19} {h : Word64} {pay : List Word64} {s : State}
    (hm : 0x200242970000000 &&& M = 0x200242970000000)
    (hz : Frame M z0 s) : Ends M z0 (execTrkpkt port h pay s) := by
  unfold execTrkpkt
  repeat' first
    | with_reducible assumption
    | with_reducible refine onTrkpkt_frame hm ?_
    | (with_reducible refine receive_frame (sub_trans ?_ hm) (fun _ _ _ => ?_) ?_; decide)
    | with_reducible refine live_frame (fun _ _ => ?_) ?_
theorem onTrkres_frame {M : Nat} {z0 : State} {port : Fin 19} {m : Msg} {s : State}
    (hm : 0x200242970000000 &&& M = 0x200242970000000)
    (hz : Frame M z0 s) : Frame M z0 (onTrkres port m s) := by
  unfold onTrkres
  repeat' first
    | with_reducible assumption
    | with_reducible refine frame_ite (fun _ => ?_) (fun _ => ?_)
    | with_reducible refine takePacket_frame hm ?_
    | (with_reducible refine forward_frame (sub_trans ?_ hm) ?_; decide)
    | split
theorem execTrkres_frame {M : Nat} {z0 : State} {port : Fin 19} {h : Word64} {pay : List Word64} {s : State}
    (hm : 0x200242970000000 &&& M = 0x200242970000000)
    (hz : Frame M z0 s) : Ends M z0 (execTrkres port h pay s) := by
  unfold execTrkres
  repeat' first
    | with_reducible assumption
    | with_reducible refine onTrkres_frame hm ?_
    | (with_reducible refine receive_frame (sub_trans ?_ hm) (fun _ _ _ => ?_) ?_; decide)
    | with_reducible refine live_frame (fun _ _ => ?_) ?_
theorem onTrkend_frame {M : Nat} {z0 : State} {port : Fin 19} {m : Msg} {s : State}
    (hm : 0x200040970000000 &&& M = 0x200040970000000)
    (hz : Frame M z0 s) : Frame M z0 (onTrkend port m s) := by
  unfold onTrkend
  repeat' first
    | with_reducible assumption
    | (with_reducible refine frame_lit ?_ ?_; rotate_left; (fail_if_success with_reducible exact Frame.refl _)
                      constructor <;> first | exact fun _ => rfl | exact fun h => absurd (bit_of_sub hm h) (by decide))
    | with_reducible refine frame_ite (fun _ => ?_) (fun _ => ?_)
    | (with_reducible refine modDist_frame (sub_trans ?_ hm) ?_; decide)
    | with_reducible refine forward_frame hm ?_
    | split
    | dsimp only
theorem execTrkend_frame {M : Nat} {z0 : State} {port : Fin 19} {h : Word64} {pay : List Word64} {s : State}
    (hm : 0x200040970000000 &&& M = 0x200040970000000)
    (hz : Frame M z0 s) : Ends M z0 (execTrkend port h pay s) := by
  unfold execTrkend
  repeat' first
    | with_reducible assumption
    | with_reducible refine onTrkend_frame hm ?_
    | with_reducible refine receive_frame hm (fun _ _ _ => ?_) ?_
    | with_reducible refine live_frame (fun _ _ => ?_) ?_
theorem onTrknack_frame {M : Nat} {z0 : State} {port : Fin 19} {m : Msg} {s : State}
    (hm : 0x200040970000000 &&& M = 0x200040970000000)
    (hz : Frame M z0 s) : Frame M z0 (onTrknack port m s) := by
  unfold onTrknack
  repeat' first
    | with_reducible assumption
    | with_reducible refine frame_ite (fun _ => ?_) (fun _ => ?_)
    | with_reducible refine frame_foldl (fun _ _ _ => ?_) ?_
    | with_reducible refine forward_frame hm ?_
    | (with_reducible refine bumpSeq_frame (sub_trans ?_ hm) ?_; decide)
    | with_reducible refine sendOn_frame hm ?_
    | split
    | dsimp only
theorem execTrknack_frame {M : Nat} {z0 : State} {port : Fin 19} {h : Word64} {pay : List Word64} {s : State}
    (hm : 0x200040970000000 &&& M = 0x200040970000000)
    (hz : Frame M z0 s) : Ends M z0 (execTrknack port h pay s) := by
  unfold execTrknack
  repeat' first
    | with_reducible assumption
    | with_reducible refine onTrknack_frame hm ?_
    | with_reducible refine receive_frame hm (fun _ _ _ => ?_) ?_
    | with_reducible refine live_frame (fun _ _ => ?_) ?_
theorem effDistNackTimer_frame {M : Nat} {z0 : State} {s : State} (hm : 0x200040970000000 &&& M = 0x200040970000000)
    (hz : Frame M z0 s) : Frame M z0 (effDistNackTimer s) := by
  unfold effDistNackTimer
  repeat' first
    | with_reducible assumption
    | (with_reducible refine frame_lit ?_ ?_; rotate_left; (fail_if_success with_reducible exact Frame.refl _)
                      constructor <;> first | exact fun _ => rfl | exact fun h => absurd (bit_of_sub hm h) (by decide))
    | with_reducible refine frame_ite (fun _ => ?_) (fun _ => ?_)
    | (with_reducible refine modDist_frame (sub_trans ?_ hm) ?_; decide)
    | (with_reducible refine bumpSeq_frame (sub_trans ?_ hm) ?_; decide)
    | with_reducible refine sendOn_frame hm ?_
    | (with_reducible refine raise_frame (sub_trans ?_ hm) ?_; decide)
    | split
    | dsimp only
theorem execDistNackTimer_frame {M : Nat} {z0 : State} {s : State} (hm : 0x200040970000000 &&& M = 0x200040970000000)
    (hz : Frame M z0 s) : Ends M z0 (execDistNackTimer s) := by
  unfold execDistNackTimer
  repeat' first
    | with_reducible assumption
    | with_reducible refine effDistNackTimer_frame hm ?_
    | with_reducible refine live_frame (fun _ _ => ?_) ?_
theorem sendSlots_frame {M : Nat} {z0 : State} {s : State} (hm : 0x200000000000000 &&& M = 0x200000000000000)
    (hz : Frame M z0 s) : Frame M z0 (sendSlots s) := by
  unfold sendSlots
  repeat' first
    | with_reducible assumption
    | (with_reducible refine frame_lit ?_ ?_; rotate_left; (fail_if_success with_reducible exact Frame.refl _)
                      constructor <;> first | exact fun _ => rfl | exact fun h => absurd (bit_of_sub hm h) (by decide))
    | with_reducible refine frame_ite (fun _ => ?_) (fun _ => ?_)
    | split
    | dsimp only
theorem execSideClrcnt_frame {M : Nat} {z0 : State} {s : State} (hm : 0x200000000000000 &&& M = 0x200000000000000)
    (hz : Frame M z0 s) : Ends M z0 (execSideClrcnt s) := by
  unfold execSideClrcnt
  repeat' first
    | with_reducible assumption
    | (with_reducible refine frame_lit ?_ ?_; rotate_left; (fail_if_success with_reducible exact Frame.refl _)
                      constructor <;> first | exact fun _ => rfl | exact fun h => absurd (bit_of_sub hm h) (by decide))
    | with_reducible refine bus_frame (fun _ _ => ?_) ?_
theorem execGranDivClear_frame {M : Nat} {z0 : State} {s : State} (hm : 0x200000000000000 &&& M = 0x200000000000000)
    (hz : Frame M z0 s) : Ends M z0 (execGranDivClear s) := by
  unfold execGranDivClear
  repeat' first
    | with_reducible assumption
    | (with_reducible refine frame_lit ?_ ?_; rotate_left; (fail_if_success with_reducible exact Frame.refl _)
                      constructor <;> first | exact fun _ => rfl | exact fun h => absurd (bit_of_sub hm h) (by decide))
    | with_reducible refine modGran_frame hm ?_
    | with_reducible refine bus_frame (fun _ _ => ?_) ?_

end Sys2Proof.Machine
end

