-- ==== Sys2Proof/Laws/Touch8.lean ====
section
/-! SUPPORT. Which groups of State the operations of Machine/Protect may touch: each keeps every frame whose set
holds its own. -/

namespace Sys2Proof.Machine

theorem effOvTrip_frame {M : Nat} {z0 : State} {d : Fin 128} {node : Int} {s : State}
    (hm : 0x409f4000f00 &&& M = 0x409f4000f00)
    (hz : Frame M z0 s) : Frame M z0 (effOvTrip d node s) := by
  unfold effOvTrip
  repeat' first
    | with_reducible assumption
    | (with_reducible refine frame_lit ?_ ?_; rotate_left; (fail_if_success with_reducible exact Frame.refl _)
                      constructor <;> first | exact fun _ => rfl | exact fun h => absurd (bit_of_sub hm h) (by decide))
    | with_reducible refine frame_ite (fun _ => ?_) (fun _ => ?_)
    | (with_reducible refine fireOver_frame (sub_trans ?_ hm) ?_; decide)
    | (with_reducible refine modPd_frame (sub_trans ?_ hm) ?_; decide)
    | (with_reducible refine raiseShf_frame (sub_trans ?_ hm) ?_; decide)
    | (with_reducible refine raise_frame (sub_trans ?_ hm) ?_; decide)
    | split
    | dsimp only
theorem execOvTrip_frame {M : Nat} {z0 : State} {d : Fin 128} {node : Int} {s : State}
    (hm : 0x409f4000f00 &&& M = 0x409f4000f00)
    (hz : Frame M z0 s) : Ends M z0 (execOvTrip d node s) := by
  unfold execOvTrip
  repeat' first
    | with_reducible assumption
    | with_reducible refine effOvTrip_frame hm ?_
    | with_reducible refine sheafStep_frame (fun _ _ => ?_) ?_
theorem effOvTripClear_frame {M : Nat} {z0 : State} {d : Fin 128} {node : Int} {s : State}
    (hm : 0x4000180 &&& M = 0x4000180)
    (hz : Frame M z0 s) : Frame M z0 (effOvTripClear d node s) := by
  unfold effOvTripClear
  repeat' first
    | with_reducible assumption
    | (with_reducible refine frame_lit ?_ ?_; rotate_left; (fail_if_success with_reducible exact Frame.refl _)
                      constructor <;> first | exact fun _ => rfl | exact fun h => absurd (bit_of_sub hm h) (by decide))
    | with_reducible refine frame_ite (fun _ => ?_) (fun _ => ?_)
    | (with_reducible refine settleToken_frame (sub_trans ?_ hm) ?_; decide)
    | (with_reducible refine modPd_frame (sub_trans ?_ hm) ?_; decide)
    | (with_reducible refine modShw_frame (sub_trans ?_ hm) ?_; decide)
    | (with_reducible refine modShf_frame (sub_trans ?_ hm) ?_; decide)
    | split
    | dsimp only
theorem execOvTripClear_frame {M : Nat} {z0 : State} {d : Fin 128} {node : Int} {s : State}
    (hm : 0x4000180 &&& M = 0x4000180)
    (hz : Frame M z0 s) : Ends M z0 (execOvTripClear d node s) := by
  unfold execOvTripClear
  repeat' first
    | with_reducible assumption
    | with_reducible refine effOvTripClear_frame hm ?_
    | with_reducible refine sheafStep_frame (fun _ _ => ?_) ?_
theorem effOvOff_frame {M : Nat} {z0 : State} {d : Fin 128} {s : State}
    (hm : 0x88044097522cf98 &&& M = 0x88044097522cf98)
    (hz : Frame M z0 s) : Frame M z0 (effOvOff d s) := by
  unfold effOvOff
  repeat' first
    | with_reducible assumption
    | (with_reducible refine frame_lit ?_ ?_; rotate_left; (fail_if_success with_reducible exact Frame.refl _)
                      constructor <;> first | exact fun _ => rfl | exact fun h => absurd (bit_of_sub hm h) (by decide))
    | with_reducible refine frame_ite (fun _ => ?_) (fun _ => ?_)
    | (with_reducible refine serviceStop_frame (sub_trans ?_ hm) ?_; decide)
    | (with_reducible refine goDark_frame (sub_trans ?_ hm) ?_; decide)
    | (with_reducible refine stopSheaf_frame (sub_trans ?_ hm) ?_; decide)
    | (with_reducible refine classP_frame (sub_trans ?_ hm) ?_; decide)
    | (with_reducible refine protEvent_frame (sub_trans ?_ hm) ?_; decide)
    | (with_reducible refine modPd_frame (sub_trans ?_ hm) ?_; decide)
    | (with_reducible refine raise_frame (sub_trans ?_ hm) ?_; decide)
    | split
    | dsimp only
theorem execOvOff_frame {M : Nat} {z0 : State} {d : Fin 128} {s : State}
    (hm : 0x88044097522cf98 &&& M = 0x88044097522cf98)
    (hz : Frame M z0 s) : Ends M z0 (execOvOff d s) := by
  unfold execOvOff
  repeat' first
    | with_reducible assumption
    | with_reducible refine effOvOff_frame hm ?_
    | with_reducible refine live_frame (fun _ _ => ?_) ?_
theorem modulesOff_frame {M : Nat} {z0 : State} {s : State} (hm : 0x80044097522cf92 &&& M = 0x80044097522cf92)
    (hz : Frame M z0 s) : Frame M z0 (modulesOff s) := by
  unfold modulesOff
  repeat' first
    | with_reducible assumption
    | (with_reducible refine frame_lit ?_ ?_; rotate_left; (fail_if_success with_reducible exact Frame.refl _)
                      constructor <;> first | exact fun _ => rfl | exact fun h => absurd (bit_of_sub hm h) (by decide))
    | with_reducible refine frame_ite (fun _ => ?_) (fun _ => ?_)
    | with_reducible refine frame_foldl (fun _ _ _ => ?_) ?_
    | with_reducible refine effBmModeOff_frame hm ?_
    | (with_reducible refine modBm_frame (sub_trans ?_ hm) ?_; decide)
    | split
theorem vbKill_frame {M : Nat} {z0 : State} {s : State} (hm : 0x88044097d22cf92 &&& M = 0x88044097d22cf92)
    (hz : Frame M z0 s) : Frame M z0 (vbKill s) := by
  unfold vbKill
  repeat' first
    | with_reducible assumption
    | (with_reducible refine frame_lit ?_ ?_; rotate_left; (fail_if_success with_reducible exact Frame.refl _)
                      constructor <;> first | exact fun _ => rfl | exact fun h => absurd (bit_of_sub hm h) (by decide))
    | with_reducible refine frame_ite (fun _ => ?_) (fun _ => ?_)
    | (with_reducible refine modulesOff_frame (sub_trans ?_ hm) ?_; decide)
    | (with_reducible refine protEvent_frame (sub_trans ?_ hm) ?_; decide)
    | (with_reducible refine raise_frame (sub_trans ?_ hm) ?_; decide)
    | split
theorem effOvAfterOff_frame {M : Nat} {z0 : State} {d : Fin 128} {node : Int} {s : State}
    (hm : 0x88044097d22cf92 &&& M = 0x88044097d22cf92)
    (hz : Frame M z0 s) : Frame M z0 (effOvAfterOff d node s) := by
  unfold effOvAfterOff
  repeat' first
    | with_reducible assumption
    | with_reducible refine frame_ite (fun _ => ?_) (fun _ => ?_)
    | with_reducible refine vbKill_frame hm ?_
    | split
    | dsimp only
theorem execOvAfterOff_frame {M : Nat} {z0 : State} {d : Fin 128} {node : Int} {s : State}
    (hm : 0x88044097d22cf92 &&& M = 0x88044097d22cf92)
    (hz : Frame M z0 s) : Ends M z0 (execOvAfterOff d node s) := by
  unfold execOvAfterOff
  repeat' first
    | with_reducible assumption
    | with_reducible refine effOvAfterOff_frame hm ?_
    | with_reducible refine live_frame (fun _ _ => ?_) ?_
theorem effVbOvervoltage_frame {M : Nat} {z0 : State} {s : State} (hm : 0x88044097d22cf92 &&& M = 0x88044097d22cf92)
    (hz : Frame M z0 s) : Frame M z0 (effVbOvervoltage s) := by
  unfold effVbOvervoltage
  repeat' first
    | with_reducible assumption
    | with_reducible refine frame_ite (fun _ => ?_) (fun _ => ?_)
    | with_reducible refine frame_foldl (fun _ _ _ => ?_) ?_
    | with_reducible refine vbKill_frame hm ?_
    | (with_reducible refine stopSheaf_frame (sub_trans ?_ hm) ?_; decide)
    | (with_reducible refine classP_frame (sub_trans ?_ hm) ?_; decide)
    | split
theorem execVbOvervoltage_frame {M : Nat} {z0 : State} {s : State} (hm : 0x88044097d22cf92 &&& M = 0x88044097d22cf92)
    (hz : Frame M z0 s) : Ends M z0 (execVbOvervoltage s) := by
  unfold execVbOvervoltage
  repeat' first
    | with_reducible assumption
    | with_reducible refine effVbOvervoltage_frame hm ?_
    | with_reducible refine live_frame (fun _ _ => ?_) ?_
theorem effUvTrip_frame {M : Nat} {z0 : State} {d : Fin 128} {samp : List Int} {s : State}
    (hm : 0x880440974008000 &&& M = 0x880440974008000)
    (hz : Frame M z0 s) : Frame M z0 (effUvTrip d samp s) := by
  unfold effUvTrip
  repeat' first
    | with_reducible assumption
    | (with_reducible refine frame_lit ?_ ?_; rotate_left; (fail_if_success with_reducible exact Frame.refl _)
                      constructor <;> first | exact fun _ => rfl | exact fun h => absurd (bit_of_sub hm h) (by decide))
    | with_reducible refine frame_ite (fun _ => ?_) (fun _ => ?_)
    | (with_reducible refine classP_frame (sub_trans ?_ hm) ?_; decide)
    | (with_reducible refine protEvent_frame (sub_trans ?_ hm) ?_; decide)
    | (with_reducible refine modPd_frame (sub_trans ?_ hm) ?_; decide)
    | (with_reducible refine modGw_frame (sub_trans ?_ hm) ?_; decide)
    | (with_reducible refine raise_frame (sub_trans ?_ hm) ?_; decide)
    | split
    | dsimp only
theorem execUvTrip_frame {M : Nat} {z0 : State} {d : Fin 128} {samp : List Int} {s : State}
    (hm : 0x880440974008000 &&& M = 0x880440974008000)
    (hz : Frame M z0 s) : Ends M z0 (execUvTrip d samp s) := by
  unfold execUvTrip
  repeat' first
    | with_reducible assumption
    | with_reducible refine effUvTrip_frame hm ?_
    | with_reducible refine live_frame (fun _ _ => ?_) ?_
theorem effUvRecover_frame {M : Nat} {z0 : State} {d : Fin 128} {samp : List Int} {s : State}
    (hm : 0x4008000 &&& M = 0x4008000)
    (hz : Frame M z0 s) : Frame M z0 (effUvRecover d samp s) := by
  unfold effUvRecover
  repeat' first
    | with_reducible assumption
    | (with_reducible refine frame_lit ?_ ?_; rotate_left; (fail_if_success with_reducible exact Frame.refl _)
                      constructor <;> first | exact fun _ => rfl | exact fun h => absurd (bit_of_sub hm h) (by decide))
    | with_reducible refine frame_ite (fun _ => ?_) (fun _ => ?_)
    | (with_reducible refine modPd_frame (sub_trans ?_ hm) ?_; decide)
    | (with_reducible refine modGw_frame (sub_trans ?_ hm) ?_; decide)
    | split
    | dsimp only
theorem execUvRecover_frame {M : Nat} {z0 : State} {d : Fin 128} {samp : List Int} {s : State}
    (hm : 0x4008000 &&& M = 0x4008000)
    (hz : Frame M z0 s) : Ends M z0 (execUvRecover d samp s) := by
  unfold execUvRecover
  repeat' first
    | with_reducible assumption
    | with_reducible refine effUvRecover_frame hm ?_
    | with_reducible refine live_frame (fun _ _ => ?_) ?_
theorem effUvDark_frame {M : Nat} {z0 : State} {d : Fin 128} {s : State}
    (hm : 0x8804409f520cf98 &&& M = 0x8804409f520cf98)
    (hz : Frame M z0 s) : Frame M z0 (effUvDark d s) := by
  unfold effUvDark
  repeat' first
    | with_reducible assumption
    | with_reducible refine frame_ite (fun _ => ?_) (fun _ => ?_)
    | with_reducible refine darken_frame hm ?_
    | split
    | dsimp only
theorem execUvDark_frame {M : Nat} {z0 : State} {d : Fin 128} {s : State}
    (hm : 0x8804409f520cf98 &&& M = 0x8804409f520cf98)
    (hz : Frame M z0 s) : Ends M z0 (execUvDark d s) := by
  unfold execUvDark
  repeat' first
    | with_reducible assumption
    | with_reducible refine effUvDark_frame hm ?_
    | with_reducible refine live_frame (fun _ _ => ?_) ?_
theorem effDroopStretch_frame {M : Nat} {z0 : State} {c : Fin 64} {grid : Int} {s : State}
    (hm : 0x4000000 &&& M = 0x4000000)
    (hz : Frame M z0 s) : Frame M z0 (effDroopStretch c grid s) := by
  unfold effDroopStretch
  repeat' first
    | with_reducible assumption
    | (with_reducible refine frame_lit ?_ ?_; rotate_left; (fail_if_success with_reducible exact Frame.refl _)
                      constructor <;> first | exact fun _ => rfl | exact fun h => absurd (bit_of_sub hm h) (by decide))
    | with_reducible refine frame_ite (fun _ => ?_) (fun _ => ?_)
    | with_reducible refine modPd_frame hm ?_
    | split
theorem execDroopStretch_frame {M : Nat} {z0 : State} {c : Fin 64} {grid : Int} {s : State}
    (hm : 0x4000000 &&& M = 0x4000000)
    (hz : Frame M z0 s) : Ends M z0 (execDroopStretch c grid s) := by
  unfold execDroopStretch
  repeat' first
    | with_reducible assumption
    | with_reducible refine effDroopStretch_frame hm ?_
    | with_reducible refine live_frame (fun _ _ => ?_) ?_
theorem effDroopReport_frame {M : Nat} {z0 : State} {c : Fin 64} {len : Nat} {s : State}
    (hm : 0x80040974000000 &&& M = 0x80040974000000)
    (hz : Frame M z0 s) : Frame M z0 (effDroopReport c len s) := by
  unfold effDroopReport
  repeat' first
    | with_reducible assumption
    | (with_reducible refine frame_lit ?_ ?_; rotate_left; (fail_if_success with_reducible exact Frame.refl _)
                      constructor <;> first | exact fun _ => rfl | exact fun h => absurd (bit_of_sub hm h) (by decide))
    | with_reducible refine frame_ite (fun _ => ?_) (fun _ => ?_)
    | (with_reducible refine addDebt_frame (sub_trans ?_ hm) ?_; decide)
    | (with_reducible refine protEvent_frame (sub_trans ?_ hm) ?_; decide)
    | (with_reducible refine modPd_frame (sub_trans ?_ hm) ?_; decide)
    | (with_reducible refine raise_frame (sub_trans ?_ hm) ?_; decide)
    | split
    | dsimp only
theorem execDroopReport_frame {M : Nat} {z0 : State} {c : Fin 64} {len : Nat} {s : State}
    (hm : 0x80040974000000 &&& M = 0x80040974000000)
    (hz : Frame M z0 s) : Ends M z0 (execDroopReport c len s) := by
  unfold execDroopReport
  repeat' first
    | with_reducible assumption
    | with_reducible refine effDroopReport_frame hm ?_
    | with_reducible refine live_frame (fun _ _ => ?_) ?_
theorem effPhaseHardLimit_frame {M : Nat} {z0 : State} {p : Fin 720} {s : State} (hm : 0x800 &&& M = 0x800)
    (hz : Frame M z0 s) : Frame M z0 (effPhaseHardLimit p s) := by
  unfold effPhaseHardLimit
  repeat' first
    | with_reducible assumption
    | (with_reducible refine frame_lit ?_ ?_; rotate_left; (fail_if_success with_reducible exact Frame.refl _)
                      constructor <;> first | exact fun _ => rfl | exact fun h => absurd (bit_of_sub hm h) (by decide))
    | with_reducible refine frame_ite (fun _ => ?_) (fun _ => ?_)
    | with_reducible refine modPhw_frame hm ?_
    | split
theorem execPhaseHardLimit_frame {M : Nat} {z0 : State} {p : Fin 720} {s : State} (hm : 0x800 &&& M = 0x800)
    (hz : Frame M z0 s) : Ends M z0 (execPhaseHardLimit p s) := by
  unfold execPhaseHardLimit
  repeat' first
    | with_reducible assumption
    | with_reducible refine effPhaseHardLimit_frame hm ?_
    | with_reducible refine sheafStep_frame (fun _ _ => ?_) ?_
theorem effDomainOvercurrent_frame {M : Nat} {z0 : State} {d : Fin 128} {peak : Int} {s : State}
    (hm : 0x820440974000000 &&& M = 0x820440974000000)
    (hz : Frame M z0 s) : Frame M z0 (effDomainOvercurrent d peak s) := by
  unfold effDomainOvercurrent
  repeat' first
    | with_reducible assumption
    | (with_reducible refine frame_lit ?_ ?_; rotate_left; (fail_if_success with_reducible exact Frame.refl _)
                      constructor <;> first | exact fun _ => rfl | exact fun h => absurd (bit_of_sub hm h) (by decide))
    | with_reducible refine frame_ite (fun _ => ?_) (fun _ => ?_)
    | (with_reducible refine selectAll_frame (sub_trans ?_ hm) ?_; decide)
    | (with_reducible refine modDl_frame (sub_trans ?_ hm) ?_; decide)
    | (with_reducible refine classP_frame (sub_trans ?_ hm) ?_; decide)
    | (with_reducible refine modPd_frame (sub_trans ?_ hm) ?_; decide)
    | (with_reducible refine raise_frame (sub_trans ?_ hm) ?_; decide)
    | split
    | dsimp only
theorem execDomainOvercurrent_frame {M : Nat} {z0 : State} {d : Fin 128} {peak : Int} {s : State}
    (hm : 0x820440974000000 &&& M = 0x820440974000000)
    (hz : Frame M z0 s) : Ends M z0 (execDomainOvercurrent d peak s) := by
  unfold execDomainOvercurrent
  repeat' first
    | with_reducible assumption
    | with_reducible refine effDomainOvercurrent_frame hm ?_
    | with_reducible refine live_frame (fun _ _ => ?_) ?_
theorem effDieOvercurrent_frame {M : Nat} {z0 : State} {s : State} (hm : 0x820440970000000 &&& M = 0x820440970000000)
    (hz : Frame M z0 s) : Frame M z0 (effDieOvercurrent s) := by
  unfold effDieOvercurrent
  repeat' first
    | with_reducible assumption
    | (with_reducible refine frame_lit ?_ ?_; rotate_left; (fail_if_success with_reducible exact Frame.refl _)
                      constructor <;> first | exact fun _ => rfl | exact fun h => absurd (bit_of_sub hm h) (by decide))
    | with_reducible refine frame_ite (fun _ => ?_) (fun _ => ?_)
    | (with_reducible refine selectAll_frame (sub_trans ?_ hm) ?_; decide)
    | (with_reducible refine classP_frame (sub_trans ?_ hm) ?_; decide)
    | (with_reducible refine raise_frame (sub_trans ?_ hm) ?_; decide)
    | split
    | dsimp only
theorem execDieOvercurrent_frame {M : Nat} {z0 : State} {s : State} (hm : 0x820440970000000 &&& M = 0x820440970000000)
    (hz : Frame M z0 s) : Ends M z0 (execDieOvercurrent s) := by
  unfold execDieOvercurrent
  repeat' first
    | with_reducible assumption
    | with_reducible refine after_frame (fun _ _ => ?_) ?_
    | with_reducible refine effDieOvercurrent_frame hm ?_
    | with_reducible refine live_frame (fun _ _ => ?_) ?_
    | with_reducible refine bus_frame (fun _ _ => ?_) ?_
theorem effVinLow_frame {M : Nat} {z0 : State} {s : State} (hm : 0x40978000000 &&& M = 0x40978000000)
    (hz : Frame M z0 s) : Frame M z0 (effVinLow s) := by
  unfold effVinLow
  repeat' first
    | with_reducible assumption
    | (with_reducible refine frame_lit ?_ ?_; rotate_left; (fail_if_success with_reducible exact Frame.refl _)
                      constructor <;> first | exact fun _ => rfl | exact fun h => absurd (bit_of_sub hm h) (by decide))
    | with_reducible refine frame_ite (fun _ => ?_) (fun _ => ?_)
    | (with_reducible refine raise_frame (sub_trans ?_ hm) ?_; decide)
    | split
theorem execVinLow_frame {M : Nat} {z0 : State} {s : State} (hm : 0x40978000000 &&& M = 0x40978000000)
    (hz : Frame M z0 s) : Ends M z0 (execVinLow s) := by
  unfold execVinLow
  repeat' first
    | with_reducible assumption
    | with_reducible refine effVinLow_frame hm ?_
    | with_reducible refine live_frame (fun _ _ => ?_) ?_
theorem effVinHigh_frame {M : Nat} {z0 : State} {s : State} (hm : 0x40978000000 &&& M = 0x40978000000)
    (hz : Frame M z0 s) : Frame M z0 (effVinHigh s) := by
  unfold effVinHigh
  repeat' first
    | with_reducible assumption
    | (with_reducible refine frame_lit ?_ ?_; rotate_left; (fail_if_success with_reducible exact Frame.refl _)
                      constructor <;> first | exact fun _ => rfl | exact fun h => absurd (bit_of_sub hm h) (by decide))
    | with_reducible refine frame_ite (fun _ => ?_) (fun _ => ?_)
    | (with_reducible refine raise_frame (sub_trans ?_ hm) ?_; decide)
    | split
theorem execVinHigh_frame {M : Nat} {z0 : State} {s : State} (hm : 0x40978000000 &&& M = 0x40978000000)
    (hz : Frame M z0 s) : Ends M z0 (execVinHigh s) := by
  unfold execVinHigh
  repeat' first
    | with_reducible assumption
    | with_reducible refine effVinHigh_frame hm ?_
    | with_reducible refine live_frame (fun _ _ => ?_) ?_
theorem holdCaps_frame {M : Nat} {z0 : State} {s : State} (hm : 0x820440978000000 &&& M = 0x820440978000000)
    (hz : Frame M z0 s) : Frame M z0 (holdCaps s) := by
  unfold holdCaps
  repeat' first
    | with_reducible assumption
    | (with_reducible refine frame_lit ?_ ?_; rotate_left; (fail_if_success with_reducible exact Frame.refl _)
                      constructor <;> first | exact fun _ => rfl | exact fun h => absurd (bit_of_sub hm h) (by decide))
    | with_reducible refine frame_ite (fun _ => ?_) (fun _ => ?_)
    | (with_reducible refine classP_frame (sub_trans ?_ hm) ?_; decide)
    | (with_reducible refine raise_frame (sub_trans ?_ hm) ?_; decide)
    | split
    | dsimp only
theorem effVinDip_frame {M : Nat} {z0 : State} {s : State} (hm : 0x820440978000000 &&& M = 0x820440978000000)
    (hz : Frame M z0 s) : Frame M z0 (effVinDip s) := by
  unfold effVinDip
  repeat' first
    | with_reducible assumption
    | with_reducible refine frame_ite (fun _ => ?_) (fun _ => ?_)
    | with_reducible refine holdCaps_frame hm ?_
    | split
theorem execVinDip_frame {M : Nat} {z0 : State} {s : State} (hm : 0x820440978000000 &&& M = 0x820440978000000)
    (hz : Frame M z0 s) : Ends M z0 (execVinDip s) := by
  unfold execVinDip
  repeat' first
    | with_reducible assumption
    | with_reducible refine effVinDip_frame hm ?_
    | with_reducible refine live_frame (fun _ _ => ?_) ?_
theorem effInputOvercurrent_frame {M : Nat} {z0 : State} {s : State}
    (hm : 0x820440978000000 &&& M = 0x820440978000000)
    (hz : Frame M z0 s) : Frame M z0 (effInputOvercurrent s) := by
  unfold effInputOvercurrent
  repeat' first
    | with_reducible assumption
    | (with_reducible refine frame_lit ?_ ?_; rotate_left; (fail_if_success with_reducible exact Frame.refl _)
                      constructor <;> first | exact fun _ => rfl | exact fun h => absurd (bit_of_sub hm h) (by decide))
    | with_reducible refine frame_ite (fun _ => ?_) (fun _ => ?_)
    | with_reducible refine holdCaps_frame hm ?_
    | (with_reducible refine raise_frame (sub_trans ?_ hm) ?_; decide)
    | split
    | dsimp only
theorem execInputOvercurrent_frame {M : Nat} {z0 : State} {s : State}
    (hm : 0x820440978000000 &&& M = 0x820440978000000)
    (hz : Frame M z0 s) : Ends M z0 (execInputOvercurrent s) := by
  unfold execInputOvercurrent
  repeat' first
    | with_reducible assumption
    | with_reducible refine effInputOvercurrent_frame hm ?_
    | with_reducible refine live_frame (fun _ _ => ?_) ?_
theorem effVinHoldEnd_frame {M : Nat} {z0 : State} {s : State} (hm : 0x20000008000000 &&& M = 0x20000008000000)
    (hz : Frame M z0 s) : Frame M z0 (effVinHoldEnd s) := by
  unfold effVinHoldEnd
  repeat' first
    | with_reducible assumption
    | (with_reducible refine frame_lit ?_ ?_; rotate_left; (fail_if_success with_reducible exact Frame.refl _)
                      constructor <;> first | exact fun _ => rfl | exact fun h => absurd (bit_of_sub hm h) (by decide))
    | with_reducible refine frame_ite (fun _ => ?_) (fun _ => ?_)
    | split
    | dsimp only
theorem execVinHoldEnd_frame {M : Nat} {z0 : State} {s : State} (hm : 0x20000008000000 &&& M = 0x20000008000000)
    (hz : Frame M z0 s) : Ends M z0 (execVinHoldEnd s) := by
  unfold execVinHoldEnd
  repeat' first
    | with_reducible assumption
    | with_reducible refine effVinHoldEnd_frame hm ?_
    | with_reducible refine live_frame (fun _ _ => ?_) ?_
theorem effBandEvaluation_frame {M : Nat} {z0 : State} {temps : List (Option Int)} {s : State}
    (hm : 0x4097c00cf80 &&& M = 0x4097c00cf80)
    (hz : Frame M z0 s) : Frame M z0 (effBandEvaluation temps s) := by
  unfold effBandEvaluation
  repeat' first
    | with_reducible assumption
    | (with_reducible refine frame_lit ?_ ?_; rotate_left; (fail_if_success with_reducible exact Frame.refl _)
                      constructor <;> first | exact fun _ => rfl | exact fun h => absurd (bit_of_sub hm h) (by decide))
    | with_reducible refine frame_ite (fun _ => ?_) (fun _ => ?_)
    | with_reducible refine frame_foldl (fun _ _ _ => ?_) ?_
    | (with_reducible refine retargetAll_frame (sub_trans ?_ hm) ?_; decide)
    | (with_reducible refine raise_frame (sub_trans ?_ hm) ?_; decide)
    | split
    | dsimp only
theorem execBandEvaluation_frame {M : Nat} {z0 : State} {temps : List (Option Int)} {s : State}
    (hm : 0x4097c00cf80 &&& M = 0x4097c00cf80)
    (hz : Frame M z0 s) : Ends M z0 (execBandEvaluation temps s) := by
  unfold execBandEvaluation
  repeat' first
    | with_reducible assumption
    | with_reducible refine effBandEvaluation_frame hm ?_
    | with_reducible refine live_frame (fun _ _ => ?_) ?_
theorem dieStop_frame {M : Nat} {z0 : State} {s : State} (hm : 0x88044097d22cf90 &&& M = 0x88044097d22cf90)
    (hz : Frame M z0 s) : Frame M z0 (dieStop s) := by
  unfold dieStop
  repeat' first
    | with_reducible assumption
    | (with_reducible refine frame_lit ?_ ?_; rotate_left; (fail_if_success with_reducible exact Frame.refl _)
                      constructor <;> first | exact fun _ => rfl | exact fun h => absurd (bit_of_sub hm h) (by decide))
    | with_reducible refine frame_ite (fun _ => ?_) (fun _ => ?_)
    | with_reducible refine frame_foldl (fun _ _ _ => ?_) ?_
    | with_reducible refine frame_foldl_fst (fun _ _ _ => ?_) ?_
    | (with_reducible refine dropWake_frame (sub_trans ?_ hm) ?_; decide)
    | (with_reducible refine gateDom_frame (sub_trans ?_ hm) ?_; decide)
    | (with_reducible refine classP_frame (sub_trans ?_ hm) ?_; decide)
    | (with_reducible refine protEvent_frame (sub_trans ?_ hm) ?_; decide)
    | split
    | dsimp only
theorem effDieStopCluster_frame {M : Nat} {z0 : State} {c : Fin 8} {s : State}
    (hm : 0x80040000d22cf90 &&& M = 0x80040000d22cf90)
    (hz : Frame M z0 s) : Frame M z0 (effDieStopCluster c s) := by
  unfold effDieStopCluster
  repeat' first
    | with_reducible assumption
    | (with_reducible refine frame_lit ?_ ?_; rotate_left; (fail_if_success with_reducible exact Frame.refl _)
                      constructor <;> first | exact fun _ => rfl | exact fun h => absurd (bit_of_sub hm h) (by decide))
    | with_reducible refine frame_ite (fun _ => ?_) (fun _ => ?_)
    | with_reducible refine frame_foldl (fun _ _ _ => ?_) ?_
    | with_reducible refine frame_foldl_fst (fun _ _ _ => ?_) ?_
    | (with_reducible refine gateDom_frame (sub_trans ?_ hm) ?_; decide)
    | (with_reducible refine classP_frame (sub_trans ?_ hm) ?_; decide)
    | split
    | dsimp only
theorem execDieStopCluster_frame {M : Nat} {z0 : State} {c : Fin 8} {s : State}
    (hm : 0x80040000d22cf90 &&& M = 0x80040000d22cf90)
    (hz : Frame M z0 s) : Ends M z0 (execDieStopCluster c s) := by
  unfold execDieStopCluster
  repeat' first
    | with_reducible assumption
    | with_reducible refine effDieStopCluster_frame hm ?_
    | with_reducible refine live_frame (fun _ _ => ?_) ?_
theorem effThermalShutdown_frame {M : Nat} {z0 : State} {s : State} (hm : 0x88044097d22cf90 &&& M = 0x88044097d22cf90)
    (hz : Frame M z0 s) : Frame M z0 (effThermalShutdown s) := by
  unfold effThermalShutdown
  repeat' first
    | with_reducible assumption
    | (with_reducible refine frame_lit ?_ ?_; rotate_left; (fail_if_success with_reducible exact Frame.refl _)
                      constructor <;> first | exact fun _ => rfl | exact fun h => absurd (bit_of_sub hm h) (by decide))
    | with_reducible refine frame_ite (fun _ => ?_) (fun _ => ?_)
    | with_reducible refine dieStop_frame hm ?_
    | (with_reducible refine protEvent_frame (sub_trans ?_ hm) ?_; decide)
    | (with_reducible refine raise_frame (sub_trans ?_ hm) ?_; decide)
    | split
    | dsimp only
theorem execThermalShutdown_frame {M : Nat} {z0 : State} {s : State}
    (hm : 0x88044097d22cf90 &&& M = 0x88044097d22cf90)
    (hz : Frame M z0 s) : Ends M z0 (execThermalShutdown s) := by
  unfold execThermalShutdown
  repeat' first
    | with_reducible assumption
    | with_reducible refine effThermalShutdown_frame hm ?_
    | with_reducible refine live_frame (fun _ _ => ?_) ?_
theorem effCoolantLoss_frame {M : Nat} {z0 : State} {s : State} (hm : 0x88044097d22cf90 &&& M = 0x88044097d22cf90)
    (hz : Frame M z0 s) : Frame M z0 (effCoolantLoss s) := by
  unfold effCoolantLoss
  repeat' first
    | with_reducible assumption
    | (with_reducible refine frame_lit ?_ ?_; rotate_left; (fail_if_success with_reducible exact Frame.refl _)
                      constructor <;> first | exact fun h => absurd (bit_of_sub hm h) (by decide) | exact fun _ => rfl)
    | with_reducible refine frame_ite (fun _ => ?_) (fun _ => ?_)
    | with_reducible refine frame_foldl (fun _ _ _ => ?_) ?_
    | with_reducible refine dieStop_frame hm ?_
    | (with_reducible refine coolHeld_frame (sub_trans ?_ hm) ?_; decide)
    | (with_reducible refine raise_frame (sub_trans ?_ hm) ?_; decide)
    | split
    | dsimp only
theorem execCoolantLoss_frame {M : Nat} {z0 : State} {s : State} (hm : 0x88044097d22cf90 &&& M = 0x88044097d22cf90)
    (hz : Frame M z0 s) : Ends M z0 (execCoolantLoss s) := by
  unfold execCoolantLoss
  repeat' first
    | with_reducible assumption
    | with_reducible refine effCoolantLoss_frame hm ?_
    | with_reducible refine powered_frame (fun _ _ => ?_) ?_
theorem execCoolantClear_frame {M : Nat} {z0 : State} {flowHigh : Bool} {s : State} (hm : 0x8000000 &&& M = 0x8000000)
    (hz : Frame M z0 s) : Ends M z0 (execCoolantClear flowHigh s) := by
  unfold execCoolantClear
  repeat' first
    | with_reducible assumption
    | (with_reducible refine frame_lit ?_ ?_; rotate_left; (fail_if_success with_reducible exact Frame.refl _)
                      constructor <;> first | exact fun _ => rfl | exact fun h => absurd (bit_of_sub hm h) (by decide))
    | with_reducible refine frame_ite (fun _ => ?_) (fun _ => ?_)
    | with_reducible refine bus_frame (fun _ _ => ?_) ?_
    | split
    | dsimp only
theorem execShutdnClear_frame {M : Nat} {z0 : State} {s : State} (hm : 0x8000000 &&& M = 0x8000000)
    (hz : Frame M z0 s) : Ends M z0 (execShutdnClear s) := by
  unfold execShutdnClear
  repeat' first
    | with_reducible assumption
    | (with_reducible refine frame_lit ?_ ?_; rotate_left; (fail_if_success with_reducible exact Frame.refl _)
                      constructor <;> first | exact fun _ => rfl | exact fun h => absurd (bit_of_sub hm h) (by decide))
    | with_reducible refine frame_ite (fun _ => ?_) (fun _ => ?_)
    | with_reducible refine bus_frame (fun _ _ => ?_) ?_
    | split
theorem execVbkillClear_frame {M : Nat} {z0 : State} {s : State} (hm : 0x8000000 &&& M = 0x8000000)
    (hz : Frame M z0 s) : Ends M z0 (execVbkillClear s) := by
  unfold execVbkillClear
  repeat' first
    | with_reducible assumption
    | (with_reducible refine frame_lit ?_ ?_; rotate_left; (fail_if_success with_reducible exact Frame.refl _)
                      constructor <;> first | exact fun _ => rfl | exact fun h => absurd (bit_of_sub hm h) (by decide))
    | with_reducible refine bus_frame (fun _ _ => ?_) ?_
theorem execOvlatchClear_frame {M : Nat} {z0 : State} {d : Fin 128} {s : State} (hm : 0x4000000 &&& M = 0x4000000)
    (hz : Frame M z0 s) : Ends M z0 (execOvlatchClear d s) := by
  unfold execOvlatchClear
  repeat' first
    | with_reducible assumption
    | (with_reducible refine frame_lit ?_ ?_; rotate_left; (fail_if_success with_reducible exact Frame.refl _)
                      constructor <;> first | exact fun _ => rfl | exact fun h => absurd (bit_of_sub hm h) (by decide))
    | with_reducible refine modPd_frame hm ?_
    | with_reducible refine bus_frame (fun _ _ => ?_) ?_
theorem execProtClrcnt_frame {M : Nat} {z0 : State} {s : State} (hm : 0x4000000 &&& M = 0x4000000)
    (hz : Frame M z0 s) : Ends M z0 (execProtClrcnt s) := by
  unfold execProtClrcnt
  repeat' first
    | with_reducible assumption
    | (with_reducible refine frame_lit ?_ ?_; rotate_left; (fail_if_success with_reducible exact Frame.refl _)
                      constructor <;> first | exact fun _ => rfl | exact fun h => absurd (bit_of_sub hm h) (by decide))
    | with_reducible refine bus_frame (fun _ _ => ?_) ?_

end Sys2Proof.Machine
end

