-- ==== Sys2Proof/Laws/Touch9.lean ====
section
/-! SUPPORT. Which groups of State the operations of Machine/Lifecycle may touch: each keeps every frame whose set
holds its own. -/

namespace Sys2Proof.Machine

theorem execVinStart_frame {M : Nat} {z0 : State} {vin : Nat} {s : State} (hm : 0x1 &&& M = 0x1)
    (hz : Frame M z0 s) : Ends M z0 (execVinStart vin s) := by
  unfold execVinStart
  repeat' first
    | with_reducible assumption
    | (with_reducible refine frame_lit ?_ ?_; rotate_left; (fail_if_success with_reducible exact Frame.refl _)
                      constructor <;> first | exact fun _ => rfl | exact fun h => absurd (bit_of_sub hm h) (by decide))
    | with_reducible refine frame_ite (fun _ => ?_) (fun _ => ?_)
    | with_reducible refine ends_next ?_
    | split
theorem aonOff_frame {M : Nat} {z0 : State} {s : State} (hm : 0x4d90 &&& M = 0x4d90)
    (hz : Frame M z0 s) : Frame M z0 (aonOff s) := by
  unfold aonOff
  repeat' first
    | with_reducible assumption
    | (with_reducible refine zeroVcmd_frame (sub_trans ?_ hm) ?_; decide)
    | (with_reducible refine stopSheaf_frame (sub_trans ?_ hm) ?_; decide)
    | (with_reducible refine setDomSt_frame (sub_trans ?_ hm) ?_; decide)
theorem effSoftStartEnd_frame {M : Nat} {z0 : State} {s : State} (hm : 0xffffeffffffffff &&& M = 0xffffeffffffffff)
    (hz : Frame M z0 s) : Frame M z0 (effSoftStartEnd s) := by
  have key : ∀ t : State, t.meter = s.meter → t.pending = s.pending → Frame M s t := by
    intro t h1 h2
    constructor <;> first
      | exact fun _ => h1 | exact fun _ => h2 | exact fun h => absurd (bit_of_sub hm h) (by decide)
  unfold effSoftStartEnd
  extract_lets t
  have ht : Frame M z0 t := aonOff_frame (sub_trans (by decide) hm) (hz.trans (key (keepAround s (State.start
      (partOf s))) rfl rfl))
  clear_value t
  refine bmStart_frame (sub_trans (by decide) hm) (ht.trans ?_)
  constructor <;> first | exact fun h => absurd (bit_of_sub hm h) (by decide) | exact fun _ => rfl
theorem execSoftStartEnd_frame {M : Nat} {z0 : State} {s : State} (hm : 0xffffeffffffffff &&& M = 0xffffeffffffffff)
    (hz : Frame M z0 s) : Ends M z0 (execSoftStartEnd s) := by
  unfold execSoftStartEnd
  repeat' first
    | with_reducible assumption
    | with_reducible refine frame_ite (fun _ => ?_) (fun _ => ?_)
    | with_reducible refine ends_next ?_
    | with_reducible refine effSoftStartEnd_frame hm ?_
    | split
theorem execUndervoltageStop_frame {M : Nat} {z0 : State} {vin : Nat} {s : State} (hm : 0x1 &&& M = 0x1)
    (hz : Frame M z0 s) : Ends M z0 (execUndervoltageStop vin s) := by
  unfold execUndervoltageStop
  repeat' first
    | with_reducible assumption
    | (with_reducible refine frame_lit ?_ ?_; rotate_left; (fail_if_success with_reducible exact Frame.refl _)
                      constructor <;> first | exact fun _ => rfl | exact fun h => absurd (bit_of_sub hm h) (by decide))
    | with_reducible refine frame_ite (fun _ => ?_) (fun _ => ?_)
    | with_reducible refine ends_next ?_
    | split
theorem execOvervoltageStop_frame {M : Nat} {z0 : State} {vin : Nat} {s : State} (hm : 0x1 &&& M = 0x1)
    (hz : Frame M z0 s) : Ends M z0 (execOvervoltageStop vin s) := by
  unfold execOvervoltageStop
  repeat' first
    | with_reducible assumption
    | (with_reducible refine frame_lit ?_ ?_; rotate_left; (fail_if_success with_reducible exact Frame.refl _)
                      constructor <;> first | exact fun _ => rfl | exact fun h => absurd (bit_of_sub hm h) (by decide))
    | with_reducible refine frame_ite (fun _ => ?_) (fun _ => ?_)
    | with_reducible refine ends_next ?_
    | split
theorem execAonStartTimeout_frame {M : Nat} {z0 : State} {s : State} (hm : 0x800004d90 &&& M = 0x800004d90)
    (hz : Frame M z0 s) : Ends M z0 (execAonStartTimeout s) := by
  unfold execAonStartTimeout
  repeat' first
    | with_reducible assumption
    | (with_reducible refine frame_lit ?_ ?_; rotate_left; (fail_if_success with_reducible exact Frame.refl _)
                      constructor <;> first | exact fun _ => rfl | exact fun h => absurd (bit_of_sub hm h) (by decide))
    | with_reducible refine frame_ite (fun _ => ?_) (fun _ => ?_)
    | (with_reducible refine aonOff_frame (sub_trans ?_ hm) ?_; decide)
    | with_reducible refine powered_frame (fun _ _ => ?_) ?_
    | split
theorem modBu_frame {M : Nat} {z0 : State} {s : State} {f : Bu → Bu} (hm : 0x4000000000 &&& M = 0x4000000000)
    (hz : Frame M z0 s) : Frame M z0 (modBu s f) := by
  unfold modBu
  repeat' first
    | with_reducible assumption
    | (with_reducible refine frame_lit ?_ ?_; rotate_left; (fail_if_success with_reducible exact Frame.refl _)
                      constructor <;> first | exact fun _ => rfl | exact fun h => absurd (bit_of_sub hm h) (by decide))
theorem modShb_frame {M : Nat} {z0 : State} {s : State} {d : Nat} {f : Shbu → Shbu}
    (hm : 0x4000000000 &&& M = 0x4000000000)
    (hz : Frame M z0 s) : Frame M z0 (modShb s d f) := by
  unfold modShb
  repeat' first
    | with_reducible assumption
    | (with_reducible refine frame_lit ?_ ?_; rotate_left; (fail_if_success with_reducible exact Frame.refl _)
                      constructor <;> first | exact fun _ => rfl | exact fun h => absurd (bit_of_sub hm h) (by decide))
    | with_reducible refine modBu_frame hm ?_
theorem buStart_frame {M : Nat} {z0 : State} {ready : Bool} {k : BuRun} {s : State}
    (hm : 0x4000000000 &&& M = 0x4000000000)
    (hz : Frame M z0 s) : Frame M z0 (buStart ready k s) := by
  unfold buStart
  repeat' first
    | with_reducible assumption
    | (with_reducible refine frame_lit ?_ ?_; rotate_left; (fail_if_success with_reducible exact Frame.refl _)
                      constructor <;> first | exact fun _ => rfl | exact fun h => absurd (bit_of_sub hm h) (by decide))
    | with_reducible refine frame_ite (fun _ => ?_) (fun _ => ?_)
    | with_reducible refine modBu_frame hm ?_
    | split
theorem execTrain_frame {M : Nat} {z0 : State} {s : State} (hm : 0x4000000000 &&& M = 0x4000000000)
    (hz : Frame M z0 s) : Ends M z0 (execTrain s) := by
  unfold execTrain
  repeat' first
    | with_reducible assumption
    | with_reducible refine buStart_frame hm ?_
    | with_reducible refine live_frame (fun _ _ => ?_) ?_
theorem execBer_frame {M : Nat} {z0 : State} {s : State} (hm : 0x4000000000 &&& M = 0x4000000000)
    (hz : Frame M z0 s) : Ends M z0 (execBer s) := by
  unfold execBer
  repeat' first
    | with_reducible assumption
    | with_reducible refine buStart_frame hm ?_
    | with_reducible refine live_frame (fun _ _ => ?_) ?_
theorem execTopo_frame {M : Nat} {z0 : State} {s : State} (hm : 0x4000000000 &&& M = 0x4000000000)
    (hz : Frame M z0 s) : Ends M z0 (execTopo s) := by
  unfold execTopo
  repeat' first
    | with_reducible assumption
    | with_reducible refine buStart_frame hm ?_
    | with_reducible refine live_frame (fun _ _ => ?_) ?_
theorem calLoad_frame {M : Nat} {z0 : State} {s : State} {b : Nat} (hm : 0x4000004f80 &&& M = 0x4000004f80)
    (hz : Frame M z0 s) : Frame M z0 (calLoad s b) := by
  unfold calLoad
  repeat' first
    | with_reducible assumption
    | (with_reducible refine frame_lit ?_ ?_; rotate_left; (fail_if_success with_reducible exact Frame.refl _)
                      constructor <;> first | exact fun _ => rfl | exact fun h => absurd (bit_of_sub hm h) (by decide))
    | with_reducible refine frame_foldl (fun _ _ _ => ?_) ?_
    | (with_reducible refine modBu_frame (sub_trans ?_ hm) ?_; decide)
    | (with_reducible refine startSheaf_frame (sub_trans ?_ hm) ?_; decide)
    | (with_reducible refine modSp_frame (sub_trans ?_ hm) ?_; decide)
    | dsimp only
theorem calWind_frame {M : Nat} {z0 : State} {s : State} {b : Nat} (hm : 0x4000004000 &&& M = 0x4000004000)
    (hz : Frame M z0 s) : Frame M z0 (calWind s b) := by
  unfold calWind
  repeat' first
    | with_reducible assumption
    | (with_reducible refine frame_lit ?_ ?_; rotate_left; (fail_if_success with_reducible exact Frame.refl _)
                      constructor <;> first | exact fun _ => rfl | exact fun h => absurd (bit_of_sub hm h) (by decide))
    | with_reducible refine frame_foldl (fun _ _ _ => ?_) ?_
    | (with_reducible refine modBu_frame (sub_trans ?_ hm) ?_; decide)
    | (with_reducible refine modSp_frame (sub_trans ?_ hm) ?_; decide)
    | dsimp only
theorem calBeat_frame {M : Nat} {z0 : State} {s : State} (hm : 0x4000004f80 &&& M = 0x4000004f80)
    (hz : Frame M z0 s) : Frame M z0 (calBeat s) := by
  unfold calBeat
  repeat' first
    | with_reducible assumption
    | (with_reducible refine frame_lit ?_ ?_; rotate_left; (fail_if_success with_reducible exact Frame.refl _)
                      constructor <;> first | exact fun _ => rfl | exact fun h => absurd (bit_of_sub hm h) (by decide))
    | with_reducible refine frame_ite (fun _ => ?_) (fun _ => ?_)
    | with_reducible refine frame_foldl (fun _ _ _ => ?_) ?_
    | (with_reducible refine calWind_frame (sub_trans ?_ hm) ?_; decide)
    | with_reducible refine calLoad_frame hm ?_
    | (with_reducible refine modBu_frame (sub_trans ?_ hm) ?_; decide)
    | (with_reducible refine stopSheaf_frame (sub_trans ?_ hm) ?_; decide)
    | split
    | dsimp only
theorem effCal_frame {M : Nat} {z0 : State} {s : State} (hm : 0x4000004f80 &&& M = 0x4000004f80)
    (hz : Frame M z0 s) : Frame M z0 (effCal s) := by
  unfold effCal
  repeat' first
    | with_reducible assumption
    | with_reducible refine frame_ite (fun _ => ?_) (fun _ => ?_)
    | with_reducible refine calLoad_frame hm ?_
    | (with_reducible refine buStart_frame (sub_trans ?_ hm) ?_; decide)
    | split
    | dsimp only
theorem execCal_frame {M : Nat} {z0 : State} {s : State} (hm : 0x4000004f80 &&& M = 0x4000004f80)
    (hz : Frame M z0 s) : Ends M z0 (execCal s) := by
  unfold execCal
  repeat' first
    | with_reducible assumption
    | with_reducible refine effCal_frame hm ?_
    | with_reducible refine live_frame (fun _ _ => ?_) ?_
theorem sheafFail_frame {M : Nat} {z0 : State} {s : State} {d : Nat} (hm : 0x520cf98 &&& M = 0x520cf98)
    (hz : Frame M z0 s) : Frame M z0 (sheafFail s d) := by
  unfold sheafFail
  repeat' first
    | with_reducible assumption
    | with_reducible refine frame_ite (fun _ => ?_) (fun _ => ?_)
    | with_reducible refine goDark_frame hm ?_
    | (with_reducible refine stopSheaf_frame (sub_trans ?_ hm) ?_; decide)
    | split
theorem linkFail_frame {M : Nat} {z0 : State} {s : State} {d : Nat} (hm : 0x400520cf98 &&& M = 0x400520cf98)
    (hz : Frame M z0 s) : Frame M z0 (linkFail s d) := by
  unfold linkFail
  repeat' first
    | with_reducible assumption
    | (with_reducible refine frame_lit ?_ ?_; rotate_left; (fail_if_success with_reducible exact Frame.refl _)
                      constructor <;> first | exact fun _ => rfl | exact fun h => absurd (bit_of_sub hm h) (by decide))
    | (with_reducible refine sheafFail_frame (sub_trans ?_ hm) ?_; decide)
    | (with_reducible refine modShb_frame (sub_trans ?_ hm) ?_; decide)
theorem effTrainDone_frame {M : Nat} {z0 : State} {links : List Bool} {sns : List Bool} {s : State}
    (hm : 0x4497520cfb8 &&& M = 0x4497520cfb8)
    (hz : Frame M z0 s) : Frame M z0 (effTrainDone links sns s) := by
  unfold effTrainDone
  repeat' first
    | with_reducible assumption
    | (with_reducible refine frame_lit ?_ ?_; rotate_left; (fail_if_success with_reducible exact Frame.refl _)
                      constructor <;> first | exact fun h => absurd (bit_of_sub hm h) (by decide) | exact fun _ => rfl)
    | with_reducible refine frame_ite (fun _ => ?_) (fun _ => ?_)
    | with_reducible refine frame_foldl (fun _ _ _ => ?_) ?_
    | (with_reducible refine linkFail_frame (sub_trans ?_ hm) ?_; decide)
    | (with_reducible refine modBu_frame (sub_trans ?_ hm) ?_; decide)
    | (with_reducible refine raise_frame (sub_trans ?_ hm) ?_; decide)
    | split
    | dsimp only
theorem execTrainDone_frame {M : Nat} {z0 : State} {links : List Bool} {sns : List Bool} {s : State}
    (hm : 0x4497520cfb8 &&& M = 0x4497520cfb8)
    (hz : Frame M z0 s) : Ends M z0 (execTrainDone links sns s) := by
  unfold execTrainDone
  repeat' first
    | with_reducible assumption
    | with_reducible refine effTrainDone_frame hm ?_
    | with_reducible refine live_frame (fun _ _ => ?_) ?_
theorem effBerDone_frame {M : Nat} {z0 : State} {errs : List Nat} {s : State} (hm : 0x400520cf98 &&& M = 0x400520cf98)
    (hz : Frame M z0 s) : Frame M z0 (effBerDone errs s) := by
  unfold effBerDone
  repeat' first
    | with_reducible assumption
    | (with_reducible refine frame_lit ?_ ?_; rotate_left; (fail_if_success with_reducible exact Frame.refl _)
                      constructor <;> first | exact fun _ => rfl | exact fun h => absurd (bit_of_sub hm h) (by decide))
    | with_reducible refine frame_ite (fun _ => ?_) (fun _ => ?_)
    | with_reducible refine frame_foldl (fun _ _ _ => ?_) ?_
    | (with_reducible refine sheafFail_frame (sub_trans ?_ hm) ?_; decide)
    | (with_reducible refine modShb_frame (sub_trans ?_ hm) ?_; decide)
    | (with_reducible refine modBu_frame (sub_trans ?_ hm) ?_; decide)
    | split
    | dsimp only
theorem execBerDone_frame {M : Nat} {z0 : State} {errs : List Nat} {s : State}
    (hm : 0x400520cf98 &&& M = 0x400520cf98)
    (hz : Frame M z0 s) : Ends M z0 (execBerDone errs s) := by
  unfold execBerDone
  repeat' first
    | with_reducible assumption
    | with_reducible refine effBerDone_frame hm ?_
    | with_reducible refine live_frame (fun _ _ => ?_) ?_
theorem topoSheaf_frame {M : Nat} {z0 : State} {s : State} {d : Nat} {cl : List Nat}
    (hm : 0x8804449f522cf98 &&& M = 0x8804449f522cf98)
    (hz : Frame M z0 s) : Frame M z0 (topoSheaf s d cl) := by
  unfold topoSheaf
  repeat' first
    | with_reducible assumption
    | (with_reducible refine frame_lit ?_ ?_; rotate_left; (fail_if_success with_reducible exact Frame.refl _)
                      constructor <;> first | exact fun _ => rfl | exact fun h => absurd (bit_of_sub hm h) (by decide))
    | with_reducible refine frame_ite (fun _ => ?_) (fun _ => ?_)
    | with_reducible refine frame_foldl (fun _ _ _ => ?_) ?_
    | (with_reducible refine sheafFail_frame (sub_trans ?_ hm) ?_; decide)
    | (with_reducible refine modShb_frame (sub_trans ?_ hm) ?_; decide)
    | (with_reducible refine excludePh_frame (sub_trans ?_ hm) ?_; decide)
    | split
    | dsimp only
theorem effTopoDone_frame {M : Nat} {z0 : State} {claims : List (List Nat)} {s : State}
    (hm : 0x8804449f522cf98 &&& M = 0x8804449f522cf98)
    (hz : Frame M z0 s) : Frame M z0 (effTopoDone claims s) := by
  unfold effTopoDone
  repeat' first
    | with_reducible assumption
    | (with_reducible refine frame_lit ?_ ?_; rotate_left; (fail_if_success with_reducible exact Frame.refl _)
                      constructor <;> first | exact fun _ => rfl | exact fun h => absurd (bit_of_sub hm h) (by decide))
    | with_reducible refine frame_ite (fun _ => ?_) (fun _ => ?_)
    | with_reducible refine frame_foldl (fun _ _ _ => ?_) ?_
    | with_reducible refine topoSheaf_frame hm ?_
    | (with_reducible refine modBu_frame (sub_trans ?_ hm) ?_; decide)
    | split
    | dsimp only
theorem execTopoDone_frame {M : Nat} {z0 : State} {claims : List (List Nat)} {s : State}
    (hm : 0x8804449f522cf98 &&& M = 0x8804449f522cf98)
    (hz : Frame M z0 s) : Ends M z0 (execTopoDone claims s) := by
  unfold execTopoDone
  repeat' first
    | with_reducible assumption
    | with_reducible refine effTopoDone_frame hm ?_
    | with_reducible refine live_frame (fun _ _ => ?_) ?_
theorem calBond_frame {M : Nat} {z0 : State} {s : State} {g : Nat} {z : Nat}
    (hm : 0x40970000040 &&& M = 0x40970000040)
    (hz : Frame M z0 s) : Frame M z0 (calBond s g z) := by
  unfold calBond
  repeat' first
    | with_reducible assumption
    | (with_reducible refine frame_lit ?_ ?_; rotate_left; (fail_if_success with_reducible exact Frame.refl _)
                      constructor <;> first | exact fun _ => rfl | exact fun h => absurd (bit_of_sub hm h) (by decide))
    | with_reducible refine frame_ite (fun _ => ?_) (fun _ => ?_)
    | (with_reducible refine raise_frame (sub_trans ?_ hm) ?_; decide)
    | split
    | dsimp only
theorem calSheaf_frame {M : Nat} {z0 : State} {badPh : List Nat} {badSns : List Nat} {z : List Nat} {s : State}
    {d : Nat} (hm : 0x8804449f522cff8 &&& M = 0x8804449f522cff8)
    (hz : Frame M z0 s) : Frame M z0 (calSheaf badPh badSns z s d) := by
  unfold calSheaf
  repeat' first
    | with_reducible assumption
    | (with_reducible refine frame_lit ?_ ?_; rotate_left; (fail_if_success with_reducible exact Frame.refl _)
                      constructor <;> first | exact fun _ => rfl | exact fun h => absurd (bit_of_sub hm h) (by decide))
    | with_reducible refine frame_ite (fun _ => ?_) (fun _ => ?_)
    | with_reducible refine frame_foldl (fun _ _ _ => ?_) ?_
    | (with_reducible refine calBond_frame (sub_trans ?_ hm) ?_; decide)
    | (with_reducible refine modShb_frame (sub_trans ?_ hm) ?_; decide)
    | (with_reducible refine excludePh_frame (sub_trans ?_ hm) ?_; decide)
    | (with_reducible refine modShr_frame (sub_trans ?_ hm) ?_; decide)
    | (with_reducible refine raise_frame (sub_trans ?_ hm) ?_; decide)
    | split
    | dsimp only
theorem effCalDone_frame {M : Nat} {z0 : State} {badPh : List Nat} {badSns : List Nat} {z : List Nat} {s : State}
    (hm : 0x8804449f522cff8 &&& M = 0x8804449f522cff8)
    (hz : Frame M z0 s) : Frame M z0 (effCalDone badPh badSns z s) := by
  unfold effCalDone
  repeat' first
    | with_reducible assumption
    | (with_reducible refine frame_lit ?_ ?_; rotate_left; (fail_if_success with_reducible exact Frame.refl _)
                      constructor <;> first | exact fun _ => rfl | exact fun h => absurd (bit_of_sub hm h) (by decide))
    | with_reducible refine frame_ite (fun _ => ?_) (fun _ => ?_)
    | with_reducible refine frame_foldl (fun _ _ _ => ?_) ?_
    | with_reducible refine calSheaf_frame hm ?_
    | (with_reducible refine calWind_frame (sub_trans ?_ hm) ?_; decide)
    | (with_reducible refine modBu_frame (sub_trans ?_ hm) ?_; decide)
    | split
    | dsimp only
theorem execCalDone_frame {M : Nat} {z0 : State} {badPh : List Nat} {badSns : List Nat} {z : List Nat} {s : State}
    (hm : 0x8804449f522cff8 &&& M = 0x8804449f522cff8)
    (hz : Frame M z0 s) : Ends M z0 (execCalDone badPh badSns z s) := by
  unfold execCalDone
  repeat' first
    | with_reducible assumption
    | with_reducible refine effCalDone_frame hm ?_
    | with_reducible refine live_frame (fun _ _ => ?_) ?_
theorem pmbCheck_frame {M : Nat} {z0 : State} {s : State} (hm : 0x40000000000 &&& M = 0x40000000000)
    (hz : Frame M z0 s) : Frame M z0 (pmbCheck s) := by
  unfold pmbCheck
  repeat' first
    | with_reducible assumption
    | (with_reducible refine frame_lit ?_ ?_; rotate_left; (fail_if_success with_reducible exact Frame.refl _)
                      constructor <;> first | exact fun _ => rfl | exact fun h => absurd (bit_of_sub hm h) (by decide))
    | with_reducible refine frame_ite (fun _ => ?_) (fun _ => ?_)
    | split
theorem takeRole_frame {M : Nat} {z0 : State} {s : State} {r : Option Role}
    (hm : 0x220060800000001 &&& M = 0x220060800000001)
    (hz : Frame M z0 s) : Frame M z0 (takeRole s r) := by
  unfold takeRole
  repeat' first
    | with_reducible assumption
    | (with_reducible refine frame_lit ?_ ?_; rotate_left; (fail_if_success with_reducible exact Frame.refl _)
                      constructor <;> first | exact fun _ => rfl | exact fun h => absurd (bit_of_sub hm h) (by decide))
    | split
    | dsimp only
theorem loseRole_frame {M : Nat} {z0 : State} {s : State} {h : Option Nat} (hm : 0x40808000000 &&& M = 0x40808000000)
    (hz : Frame M z0 s) : Frame M z0 (loseRole s h) := by
  unfold loseRole
  repeat' first
    | with_reducible assumption
    | (with_reducible refine frame_lit ?_ ?_; rotate_left; (fail_if_success with_reducible exact Frame.refl _)
                      constructor <;> first | exact fun _ => rfl | exact fun h => absurd (bit_of_sub hm h) (by decide))
theorem execCoordWrite_frame {M : Nat} {z0 : State} {role : Option Role} {s : State}
    (hm : 0x220060800000001 &&& M = 0x220060800000001)
    (hz : Frame M z0 s) : Ends M z0 (execCoordWrite role s) := by
  unfold execCoordWrite
  repeat' first
    | with_reducible assumption
    | with_reducible refine frame_ite (fun _ => ?_) (fun _ => ?_)
    | with_reducible refine takeRole_frame hm ?_
    | with_reducible refine live_frame (fun _ _ => ?_) ?_
    | split
theorem modRst_frame {M : Nat} {z0 : State} {s : State} {f : Rst → Rst} (hm : 0x8000000000 &&& M = 0x8000000000)
    (hz : Frame M z0 s) : Frame M z0 (modRst s f) := by
  unfold modRst
  repeat' first
    | with_reducible assumption
    | (with_reducible refine frame_lit ?_ ?_; rotate_left; (fail_if_success with_reducible exact Frame.refl _)
                      constructor <;> first | exact fun _ => rfl | exact fun h => absurd (bit_of_sub hm h) (by decide))
theorem modRun_frame {M : Nat} {z0 : State} {s : State} {f : RstRun → RstRun} (hm : 0x8000000000 &&& M = 0x8000000000)
    (hz : Frame M z0 s) : Frame M z0 (modRun s f) := by
  unfold modRun
  repeat' first
    | with_reducible assumption
    | (with_reducible refine frame_lit ?_ ?_; rotate_left; (fail_if_success with_reducible exact Frame.refl _)
                      constructor <;> first | exact fun _ => rfl | exact fun h => absurd (bit_of_sub hm h) (by decide))
    | with_reducible refine modRst_frame hm ?_
theorem rstRefuse_frame {M : Nat} {z0 : State} {s : State} (hm : 0x8000000000 &&& M = 0x8000000000)
    (hz : Frame M z0 s) : Frame M z0 (rstRefuse s) := by
  unfold rstRefuse
  repeat' first
    | with_reducible assumption
    | (with_reducible refine frame_lit ?_ ?_; rotate_left; (fail_if_success with_reducible exact Frame.refl _)
                      constructor <;> first | exact fun _ => rfl | exact fun h => absurd (bit_of_sub hm h) (by decide))
    | with_reducible refine modRst_frame hm ?_
theorem rstStop_frame {M : Nat} {z0 : State} {s : State} {f : Lane → Bool}
    (hm : 0x284440970080000 &&& M = 0x284440970080000)
    (hz : Frame M z0 s) : Frame M z0 (rstStop s f) := by
  unfold rstStop
  repeat' first
    | with_reducible assumption
    | (with_reducible refine frame_lit ?_ ?_; rotate_left; (fail_if_success with_reducible exact Frame.refl _)
                      constructor <;> first | exact fun _ => rfl | exact fun h => absurd (bit_of_sub hm h) (by decide))
    | with_reducible refine frame_foldl (fun _ _ _ => ?_) ?_
    | (with_reducible refine afterStop_frame (sub_trans ?_ hm) ?_; decide)
    | (with_reducible refine tallyEvent_frame (sub_trans ?_ hm) ?_; decide)
    | (with_reducible refine raise_frame (sub_trans ?_ hm) ?_; decide)
    | dsimp only
theorem rstAbort_frame {M : Nat} {z0 : State} {s : State} {m : BitVec 128}
    (hm : 0x284440970080000 &&& M = 0x284440970080000)
    (hz : Frame M z0 s) : Frame M z0 (rstAbort s m) := by
  unfold rstAbort
  repeat' first
    | with_reducible assumption
    | with_reducible refine rstStop_frame hm ?_
theorem rstDiscard_frame {M : Nat} {z0 : State} {s : State} {m : BitVec 128}
    (hm : 0x2800000000000 &&& M = 0x2800000000000)
    (hz : Frame M z0 s) : Frame M z0 (rstDiscard s m) := by
  unfold rstDiscard
  repeat' first
    | with_reducible assumption
    | (with_reducible refine frame_lit ?_ ?_; rotate_left; (fail_if_success with_reducible exact Frame.refl _)
                      constructor <;> first | exact fun _ => rfl | exact fun h => absurd (bit_of_sub hm h) (by decide))
    | with_reducible refine frame_ite (fun _ => ?_) (fun _ => ?_)
    | with_reducible refine frame_foldl (fun _ _ _ => ?_) ?_
    | with_reducible refine frame_foldl_fst (fun _ _ _ => ?_) ?_
    | (with_reducible refine finish_frame (sub_trans ?_ hm) ?_; decide)
    | split
    | dsimp only
theorem rstBoundary_frame {M : Nat} {z0 : State} {s : State} (hm : 0x286c48970080000 &&& M = 0x286c48970080000)
    (hz : Frame M z0 s) : Frame M z0 (rstBoundary s) := by
  unfold rstBoundary
  repeat' first
    | with_reducible assumption
    | (with_reducible refine frame_lit ?_ ?_; rotate_left; (fail_if_success with_reducible exact Frame.refl _)
                      constructor <;> first | exact fun _ => rfl | exact fun h => absurd (bit_of_sub hm h) (by decide))
    | (with_reducible refine rstDiscard_frame (sub_trans ?_ hm) ?_; decide)
    | (with_reducible refine rstAbort_frame (sub_trans ?_ hm) ?_; decide)
    | (with_reducible refine modRun_frame (sub_trans ?_ hm) ?_; decide)
    | split
theorem rstCheck_frame {M : Nat} {z0 : State} {s : State} (hm : 0x8000000000 &&& M = 0x8000000000)
    (hz : Frame M z0 s) : Frame M z0 (rstCheck s) := by
  unfold rstCheck
  repeat' first
    | with_reducible assumption
    | (with_reducible refine frame_lit ?_ ?_; rotate_left; (fail_if_success with_reducible exact Frame.refl _)
                      constructor <;> first | exact fun _ => rfl | exact fun h => absurd (bit_of_sub hm h) (by decide))
    | with_reducible refine frame_ite (fun _ => ?_) (fun _ => ?_)
    | with_reducible refine modRst_frame hm ?_
    | split
theorem rstWake_frame {M : Nat} {z0 : State} {s : State} {d : Nat} (hm : 0x8804489f522cf9c &&& M = 0x8804489f522cf9c)
    (hz : Frame M z0 s) : Frame M z0 (rstWake s d) := by
  unfold rstWake
  repeat' first
    | with_reducible assumption
    | (with_reducible refine frame_lit ?_ ?_; rotate_left; (fail_if_success with_reducible exact Frame.refl _)
                      constructor <;> first | exact fun _ => rfl | exact fun h => absurd (bit_of_sub hm h) (by decide))
    | with_reducible refine frame_ite (fun _ => ?_) (fun _ => ?_)
    | (with_reducible refine modRun_frame (sub_trans ?_ hm) ?_; decide)
    | (with_reducible refine wakeDom_frame (sub_trans ?_ hm) ?_; decide)
    | split
theorem effResetClusterGate_frame {M : Nat} {z0 : State} {s : State}
    (hm : 0x8804489f522cf9c &&& M = 0x8804489f522cf9c)
    (hz : Frame M z0 s) : Frame M z0 (effResetClusterGate s) := by
  unfold effResetClusterGate
  repeat' first
    | with_reducible assumption
    | (with_reducible refine frame_lit ?_ ?_; rotate_left; (fail_if_success with_reducible exact Frame.refl _)
                      constructor <;> first | exact fun _ => rfl | exact fun h => absurd (bit_of_sub hm h) (by decide))
    | with_reducible refine frame_ite (fun _ => ?_) (fun _ => ?_)
    | with_reducible refine frame_foldl (fun _ _ _ => ?_) ?_
    | with_reducible refine frame_foldl_fst (fun _ _ _ => ?_) ?_
    | with_reducible refine rstWake_frame hm ?_
    | (with_reducible refine rstCheck_frame (sub_trans ?_ hm) ?_; decide)
    | (with_reducible refine modRun_frame (sub_trans ?_ hm) ?_; decide)
    | (with_reducible refine gateDom_frame (sub_trans ?_ hm) ?_; decide)
    | split
    | dsimp only
theorem execResetClusterGate_frame {M : Nat} {z0 : State} {s : State}
    (hm : 0x8804489f522cf9c &&& M = 0x8804489f522cf9c)
    (hz : Frame M z0 s) : Ends M z0 (execResetClusterGate s) := by
  unfold execResetClusterGate
  repeat' first
    | with_reducible assumption
    | with_reducible refine effResetClusterGate_frame hm ?_
    | with_reducible refine live_frame (fun _ _ => ?_) ?_
theorem execGatingComplete_frame {M : Nat} {z0 : State} {d : Fin 128} {s : State}
    (hm : 0x8804489f522cf9c &&& M = 0x8804489f522cf9c)
    (hz : Frame M z0 s) : Ends M z0 (execGatingComplete d s) := by
  unfold execGatingComplete
  repeat' first
    | with_reducible assumption
    | with_reducible refine rstWake_frame hm ?_
    | (with_reducible refine rstCheck_frame (sub_trans ?_ hm) ?_; decide)
    | (with_reducible refine effGatingComplete_frame (sub_trans ?_ hm) ?_; decide)
    | with_reducible refine live_frame (fun _ _ => ?_) ?_
theorem execWakeComplete_frame {M : Nat} {z0 : State} {d : Fin 128} {s : State}
    (hm : 0x800402cf90 &&& M = 0x800402cf90)
    (hz : Frame M z0 s) : Ends M z0 (execWakeComplete d s) := by
  unfold execWakeComplete
  repeat' first
    | with_reducible assumption
    | (with_reducible refine rstCheck_frame (sub_trans ?_ hm) ?_; decide)
    | (with_reducible refine effWakeComplete_frame (sub_trans ?_ hm) ?_; decide)
    | with_reducible refine live_frame (fun _ _ => ?_) ?_
theorem rstStart_frame {M : Nat} {z0 : State} {s : State} {level : Nat} {target : Nat} {mode : Bool}
    (hm : 0x286c48970080000 &&& M = 0x286c48970080000)
    (hz : Frame M z0 s) : Frame M z0 (rstStart s level target mode) := by
  unfold rstStart
  repeat' first
    | with_reducible assumption
    | (with_reducible refine frame_lit ?_ ?_; rotate_left; (fail_if_success with_reducible exact Frame.refl _)
                      constructor <;> first | exact fun _ => rfl | exact fun h => absurd (bit_of_sub hm h) (by decide))
    | with_reducible refine frame_ite (fun _ => ?_) (fun _ => ?_)
    | (with_reducible refine rstCheck_frame (sub_trans ?_ hm) ?_; decide)
    | with_reducible refine rstBoundary_frame hm ?_
    | (with_reducible refine modRst_frame (sub_trans ?_ hm) ?_; decide)
    | split
    | dsimp only
theorem effCoreDrained_frame {M : Nat} {z0 : State} {c : Fin 64} {s : State}
    (hm : 0x286c48970080000 &&& M = 0x286c48970080000)
    (hz : Frame M z0 s) : Frame M z0 (effCoreDrained c s) := by
  unfold effCoreDrained
  repeat' first
    | with_reducible assumption
    | (with_reducible refine frame_lit ?_ ?_; rotate_left; (fail_if_success with_reducible exact Frame.refl _)
                      constructor <;> first | exact fun _ => rfl | exact fun h => absurd (bit_of_sub hm h) (by decide))
    | with_reducible refine frame_ite (fun _ => ?_) (fun _ => ?_)
    | with_reducible refine rstBoundary_frame hm ?_
    | (with_reducible refine modRun_frame (sub_trans ?_ hm) ?_; decide)
    | split
    | dsimp only
theorem execCoreDrained_frame {M : Nat} {z0 : State} {c : Fin 64} {s : State}
    (hm : 0x286c48970080000 &&& M = 0x286c48970080000)
    (hz : Frame M z0 s) : Ends M z0 (execCoreDrained c s) := by
  unfold execCoreDrained
  repeat' first
    | with_reducible assumption
    | with_reducible refine effCoreDrained_frame hm ?_
    | with_reducible refine live_frame (fun _ _ => ?_) ?_
theorem effDrainTimeout_frame {M : Nat} {z0 : State} {s : State} (hm : 0x286c48970080000 &&& M = 0x286c48970080000)
    (hz : Frame M z0 s) : Frame M z0 (effDrainTimeout s) := by
  unfold effDrainTimeout
  repeat' first
    | with_reducible assumption
    | (with_reducible refine frame_lit ?_ ?_; rotate_left; (fail_if_success with_reducible exact Frame.refl _)
                      constructor <;> first | exact fun _ => rfl | exact fun h => absurd (bit_of_sub hm h) (by decide))
    | with_reducible refine frame_ite (fun _ => ?_) (fun _ => ?_)
    | with_reducible refine rstBoundary_frame hm ?_
    | (with_reducible refine modRst_frame (sub_trans ?_ hm) ?_; decide)
    | split
theorem execDrainTimeout_frame {M : Nat} {z0 : State} {s : State} (hm : 0x286c48970080000 &&& M = 0x286c48970080000)
    (hz : Frame M z0 s) : Ends M z0 (execDrainTimeout s) := by
  unfold execDrainTimeout
  repeat' first
    | with_reducible assumption
    | with_reducible refine effDrainTimeout_frame hm ?_
    | with_reducible refine live_frame (fun _ _ => ?_) ?_
theorem sheafFresh_frame {M : Nat} {z0 : State} {s : State} {d : Nat} (hm : 0xbe0 &&& M = 0xbe0)
    (hz : Frame M z0 s) : Frame M z0 (sheafFresh s d) := by
  unfold sheafFresh
  repeat' first
    | with_reducible assumption
    | (with_reducible refine frame_lit ?_ ?_; rotate_left; (fail_if_success with_reducible exact Frame.refl _)
                      constructor <;> first | exact fun _ => rfl | exact fun h => absurd (bit_of_sub hm h) (by decide))
    | (with_reducible refine modShr_frame (sub_trans ?_ hm) ?_; decide)
    | (with_reducible refine modShw_frame (sub_trans ?_ hm) ?_; decide)
    | (with_reducible refine modShf_frame (sub_trans ?_ hm) ?_; decide)
    | dsimp only
theorem resetSheaf_frame {M : Nat} {z0 : State} {s : State} {d : Nat}
    (hm : 0x286c4097528cff8 &&& M = 0x286c4097528cff8)
    (hz : Frame M z0 s) : Frame M z0 (resetSheaf s d) := by
  unfold resetSheaf
  repeat' first
    | with_reducible assumption
    | (with_reducible refine frame_lit ?_ ?_; rotate_left; (fail_if_success with_reducible exact Frame.refl _)
                      constructor <;> first | exact fun _ => rfl | exact fun h => absurd (bit_of_sub hm h) (by decide))
    | with_reducible refine frame_ite (fun _ => ?_) (fun _ => ?_)
    | (with_reducible refine sheafFresh_frame (sub_trans ?_ hm) ?_; decide)
    | (with_reducible refine rstDiscard_frame (sub_trans ?_ hm) ?_; decide)
    | (with_reducible refine rstAbort_frame (sub_trans ?_ hm) ?_; decide)
    | (with_reducible refine goOff_frame (sub_trans ?_ hm) ?_; decide)
    | (with_reducible refine zeroVcmd_frame (sub_trans ?_ hm) ?_; decide)
    | (with_reducible refine leaveOn_frame (sub_trans ?_ hm) ?_; decide)
    | (with_reducible refine stopSheaf_frame (sub_trans ?_ hm) ?_; decide)
    | (with_reducible refine modShr_frame (sub_trans ?_ hm) ?_; decide)
    | (with_reducible refine modGw_frame (sub_trans ?_ hm) ?_; decide)
    | (with_reducible refine setDomSt_frame (sub_trans ?_ hm) ?_; decide)
    | split
    | dsimp only
theorem sheafBack_frame {M : Nat} {z0 : State} {s : State} {d : Nat} (hm : 0xcf80 &&& M = 0xcf80)
    (hz : Frame M z0 s) : Frame M z0 (sheafBack s d) := by
  unfold sheafBack
  repeat' first
    | with_reducible assumption
    | with_reducible refine frame_ite (fun _ => ?_) (fun _ => ?_)
    | (with_reducible refine startSheaf_frame (sub_trans ?_ hm) ?_; decide)
    | with_reducible refine retarget_frame hm ?_
    | split
theorem resetSeq_frame {M : Nat} {z0 : State} {s : State} (hm : 0x29fe4097078cf80 &&& M = 0x29fe4097078cf80)
    (hz : Frame M z0 s) : Frame M z0 (resetSeq s) := by
  unfold resetSeq
  repeat' first
    | with_reducible assumption
    | (with_reducible refine frame_lit ?_ ?_; rotate_left; (fail_if_success with_reducible exact Frame.refl _)
                      constructor <;> first | exact fun _ => rfl | exact fun h => absurd (bit_of_sub hm h) (by decide))
    | with_reducible refine frame_ite (fun _ => ?_) (fun _ => ?_)
    | (with_reducible refine endTrack_frame (sub_trans ?_ hm) ?_; decide)
    | (with_reducible refine tallyResult_frame (sub_trans ?_ hm) ?_; decide)
    | (with_reducible refine tallyEvent_frame (sub_trans ?_ hm) ?_; decide)
    | (with_reducible refine discardNotice_frame (sub_trans ?_ hm) ?_; decide)
    | split
    | dsimp only
theorem resetLoops_frame {M : Nat} {z0 : State} {s : State} (hm : 0x60000000000000 &&& M = 0x60000000000000)
    (hz : Frame M z0 s) : Frame M z0 (resetLoops s) := by
  unfold resetLoops
  repeat' first
    | with_reducible assumption
    | (with_reducible refine frame_lit ?_ ?_; rotate_left; (fail_if_success with_reducible exact Frame.refl _)
                      constructor <;> first | exact fun _ => rfl | exact fun h => absurd (bit_of_sub hm h) (by decide))
    | (with_reducible refine telBreak_frame (sub_trans ?_ hm) ?_; decide)
theorem distrustAll_frame {M : Nat} {z0 : State} {s : State} (hm : 0x4097180cf80 &&& M = 0x4097180cf80)
    (hz : Frame M z0 s) : Frame M z0 (distrustAll s) := by
  unfold distrustAll
  repeat' first
    | with_reducible assumption
    | (with_reducible refine frame_lit ?_ ?_; rotate_left; (fail_if_success with_reducible exact Frame.refl _)
                      constructor <;> first | exact fun h => absurd (bit_of_sub hm h) (by decide) | exact fun _ => rfl)
    | with_reducible refine frame_foldl (fun _ _ _ => ?_) ?_
    | (with_reducible refine estRestart_frame (sub_trans ?_ hm) ?_; decide)
    | with_reducible refine distrustDom_frame hm ?_
    | dsimp only
theorem flushSide_frame {M : Nat} {z0 : State} {s : State} (hm : 0x200000000000000 &&& M = 0x200000000000000)
    (hz : Frame M z0 s) : Frame M z0 (flushSide s) := by
  unfold flushSide
  repeat' first
    | with_reducible assumption
    | (with_reducible refine frame_lit ?_ ?_; rotate_left; (fail_if_success with_reducible exact Frame.refl _)
                      constructor <;> first | exact fun _ => rfl | exact fun h => absurd (bit_of_sub hm h) (by decide))
theorem resetCentral_frame {M : Nat} {z0 : State} {s : State} (hm : 0x2ffe40971fccf90 &&& M = 0x2ffe40971fccf90)
    (hz : Frame M z0 s) : Frame M z0 (resetCentral s) := by
  unfold resetCentral
  repeat' first
    | with_reducible assumption
    | (with_reducible refine frame_lit ?_ ?_; rotate_left; (fail_if_success with_reducible exact Frame.refl _)
                      constructor <;> first | exact fun h => absurd (bit_of_sub hm h) (by decide) | exact fun _ => rfl)
    | with_reducible refine frame_ite (fun _ => ?_) (fun _ => ?_)
    | with_reducible refine frame_foldl (fun _ _ _ => ?_) ?_
    | (with_reducible refine flushSide_frame (sub_trans ?_ hm) ?_; decide)
    | (with_reducible refine distrustAll_frame (sub_trans ?_ hm) ?_; decide)
    | (with_reducible refine resetLoops_frame (sub_trans ?_ hm) ?_; decide)
    | (with_reducible refine resetSeq_frame (sub_trans ?_ hm) ?_; decide)
    | (with_reducible refine holdSheaf_frame (sub_trans ?_ hm) ?_; decide)
    | (with_reducible refine holdDom_frame (sub_trans ?_ hm) ?_; decide)
    | split
    | dsimp only
theorem meserReset_frame {M : Nat} {z0 : State} {s : State} {level : Nat} {target : Nat}
    (hm : 0x2ffe48975fccff8 &&& M = 0x2ffe48975fccff8)
    (hz : Frame M z0 s) : Frame M z0 (meserReset s level target) := by
  unfold meserReset
  repeat' first
    | with_reducible assumption
    | (with_reducible refine frame_lit ?_ ?_; rotate_left; (fail_if_success with_reducible exact Frame.refl _)
                      constructor <;> first | exact fun _ => rfl | exact fun h => absurd (bit_of_sub hm h) (by decide))
    | with_reducible refine frame_ite (fun _ => ?_) (fun _ => ?_)
    | (with_reducible refine resetCentral_frame (sub_trans ?_ hm) ?_; decide)
    | (with_reducible refine resetLoops_frame (sub_trans ?_ hm) ?_; decide)
    | (with_reducible refine resetSeq_frame (sub_trans ?_ hm) ?_; decide)
    | (with_reducible refine resetSheaf_frame (sub_trans ?_ hm) ?_; decide)
    | (with_reducible refine rstRefuse_frame (sub_trans ?_ hm) ?_; decide)
    | (with_reducible refine modRst_frame (sub_trans ?_ hm) ?_; decide)
    | split
    | dsimp only
theorem effPartialResetEnd_frame {M : Nat} {z0 : State} {s : State} (hm : 0x8804489f522cf9c &&& M = 0x8804489f522cf9c)
    (hz : Frame M z0 s) : Frame M z0 (effPartialResetEnd s) := by
  unfold effPartialResetEnd
  repeat' first
    | with_reducible assumption
    | (with_reducible refine frame_lit ?_ ?_; rotate_left; (fail_if_success with_reducible exact Frame.refl _)
                      constructor <;> first | exact fun _ => rfl | exact fun h => absurd (bit_of_sub hm h) (by decide))
    | with_reducible refine frame_ite (fun _ => ?_) (fun _ => ?_)
    | with_reducible refine frame_foldl (fun _ _ _ => ?_) ?_
    | (with_reducible refine sheafBack_frame (sub_trans ?_ hm) ?_; decide)
    | (with_reducible refine modRst_frame (sub_trans ?_ hm) ?_; decide)
    | (with_reducible refine laReturn_frame (sub_trans ?_ hm) ?_; decide)
    | split
    | dsimp only
theorem execPartialResetEnd_frame {M : Nat} {z0 : State} {s : State}
    (hm : 0x8804489f522cf9c &&& M = 0x8804489f522cf9c)
    (hz : Frame M z0 s) : Ends M z0 (execPartialResetEnd s) := by
  unfold execPartialResetEnd
  repeat' first
    | with_reducible assumption
    | with_reducible refine effPartialResetEnd_frame hm ?_
    | with_reducible refine live_frame (fun _ _ => ?_) ?_
theorem raiseStanding_frame {M : Nat} {z0 : State} {s : State} (hm : 0x40970000000 &&& M = 0x40970000000)
    (hz : Frame M z0 s) : Frame M z0 (raiseStanding s) := by
  unfold raiseStanding
  repeat' first
    | with_reducible assumption
    | with_reducible refine frame_ite (fun _ => ?_) (fun _ => ?_)
    | with_reducible refine frame_foldl (fun _ _ _ => ?_) ?_
    | with_reducible refine raise_frame hm ?_
    | split
theorem chipStop_frame {M : Nat} {z0 : State} {s : State} (hm : 0x286c40970080000 &&& M = 0x286c40970080000)
    (hz : Frame M z0 s) : Frame M z0 (chipStop s) := by
  unfold chipStop
  repeat' first
    | with_reducible assumption
    | (with_reducible refine frame_lit ?_ ?_; rotate_left; (fail_if_success with_reducible exact Frame.refl _)
                      constructor <;> first | exact fun _ => rfl | exact fun h => absurd (bit_of_sub hm h) (by decide))
    | with_reducible refine frame_ite (fun _ => ?_) (fun _ => ?_)
    | (with_reducible refine rstStop_frame (sub_trans ?_ hm) ?_; decide)
    | (with_reducible refine tallyResult_frame (sub_trans ?_ hm) ?_; decide)
    | split
    | dsimp only
theorem chipStart_frame {M : Nat} {z0 : State} {s : State} (hm : 0xa86c4897d2acf90 &&& M = 0xa86c4897d2acf90)
    (hz : Frame M z0 s) : Frame M z0 (chipStart s) := by
  unfold chipStart
  repeat' first
    | with_reducible assumption
    | (with_reducible refine frame_lit ?_ ?_; rotate_left; (fail_if_success with_reducible exact Frame.refl _)
                      constructor <;> first | exact fun _ => rfl | exact fun h => absurd (bit_of_sub hm h) (by decide))
    | with_reducible refine frame_ite (fun _ => ?_) (fun _ => ?_)
    | (with_reducible refine chipStop_frame (sub_trans ?_ hm) ?_; decide)
    | (with_reducible refine modRst_frame (sub_trans ?_ hm) ?_; decide)
    | (with_reducible refine dieStop_frame (sub_trans ?_ hm) ?_; decide)
    | split
    | dsimp only
theorem wholeChip_frame {M : Nat} {z0 : State} {s : State} (hm : 0xbfbfeffffffffff &&& M = 0xbfbfeffffffffff)
    (hz : Frame M z0 s) : Frame M z0 (wholeChip s) := by
  have key : ∀ u t : State, t.tally = u.tally → t.meter = u.meter → t.freeCtr = u.freeCtr → t.pending = u.pending →
      t.pins = u.pins → Frame M u t := by
    intro u t h1 h2 h3 h4 h5
    constructor <;> first
      | exact fun _ => h1 | exact fun _ => h2 | exact fun _ => h3 | exact fun _ => h4 | exact fun _ => h5
      | exact fun h => absurd (bit_of_sub hm h) (by decide)
  unfold wholeChip
  have h1 : Frame M z0 (effTelemetryRecord true s) := effTelemetryRecord_frame (sub_trans (by decide) hm) hz
  generalize effTelemetryRecord true s = u at h1 ⊢
  extract_lets x t
  exact raiseStanding_frame (sub_trans (by decide) hm) (h1.trans (key u _ rfl rfl rfl rfl rfl))
theorem resetRequest_frame {M : Nat} {z0 : State} {s : State} {level : Nat} {target : Nat} {mode : Bool}
    (hm : 0xaffe4897dfecff8 &&& M = 0xaffe4897dfecff8)
    (hz : Frame M z0 s) : Frame M z0 (resetRequest s level target mode) := by
  unfold resetRequest
  repeat' first
    | with_reducible assumption
    | (with_reducible refine frame_lit ?_ ?_; rotate_left; (fail_if_success with_reducible exact Frame.refl _)
                      constructor <;> first | exact fun _ => rfl | exact fun h => absurd (bit_of_sub hm h) (by decide))
    | with_reducible refine frame_ite (fun _ => ?_) (fun _ => ?_)
    | (with_reducible refine chipStart_frame (sub_trans ?_ hm) ?_; decide)
    | (with_reducible refine meserReset_frame (sub_trans ?_ hm) ?_; decide)
    | (with_reducible refine rstStart_frame (sub_trans ?_ hm) ?_; decide)
    | (with_reducible refine rstRefuse_frame (sub_trans ?_ hm) ?_; decide)
    | (with_reducible refine modRst_frame (sub_trans ?_ hm) ?_; decide)
    | split
theorem rstGo_frame {M : Nat} {z0 : State} {s : State} {level : Nat} {target : Nat} {mode : Bool}
    (hm : 0xaffe4897dfecff8 &&& M = 0xaffe4897dfecff8)
    (hz : Frame M z0 s) : Frame M z0 (rstGo s level target mode) := by
  unfold rstGo
  repeat' first
    | with_reducible assumption
    | (with_reducible refine frame_lit ?_ ?_; rotate_left; (fail_if_success with_reducible exact Frame.refl _)
                      constructor <;> first | exact fun _ => rfl | exact fun h => absurd (bit_of_sub hm h) (by decide))
    | with_reducible refine resetRequest_frame hm ?_
    | (with_reducible refine modRst_frame (sub_trans ?_ hm) ?_; decide)
theorem rstLive_frame {M : Nat} {z0 : State} {s : State} {f : State → State} (hf : ∀ s, Frame M z0 s → Frame M z0
    (f s))
    (hz : Frame M z0 s) : Ends M z0 (rstLive s f) := by
  unfold rstLive
  repeat' first
    | with_reducible assumption
    | with_reducible refine frame_ite (fun _ => ?_) (fun _ => ?_)
    | with_reducible refine ends_next ?_
    | with_reducible refine hf _ ?_
    | split
theorem execResetCore_frame {M : Nat} {z0 : State} {c : Nat} {mode : Bool} {s : State}
    (hm : 0xaffe4897dfecff8 &&& M = 0xaffe4897dfecff8)
    (hz : Frame M z0 s) : Ends M z0 (execResetCore c mode s) := by
  unfold execResetCore
  repeat' first
    | with_reducible assumption
    | with_reducible refine rstLive_frame (fun _ _ => ?_) ?_
    | with_reducible refine rstGo_frame hm ?_
theorem execResetCluster_frame {M : Nat} {z0 : State} {c : Nat} {mode : Bool} {s : State}
    (hm : 0xaffe4897dfecff8 &&& M = 0xaffe4897dfecff8)
    (hz : Frame M z0 s) : Ends M z0 (execResetCluster c mode s) := by
  unfold execResetCluster
  repeat' first
    | with_reducible assumption
    | with_reducible refine rstLive_frame (fun _ _ => ?_) ?_
    | with_reducible refine rstGo_frame hm ?_
theorem execResetPartition_frame {M : Nat} {z0 : State} {k : Nat} {mode : Bool} {s : State}
    (hm : 0xaffe4897dfecff8 &&& M = 0xaffe4897dfecff8)
    (hz : Frame M z0 s) : Ends M z0 (execResetPartition k mode s) := by
  unfold execResetPartition
  repeat' first
    | with_reducible assumption
    | with_reducible refine rstLive_frame (fun _ _ => ?_) ?_
    | with_reducible refine rstGo_frame hm ?_
theorem execResetWholeChip_frame {M : Nat} {z0 : State} {s : State} (hm : 0xaffe4897dfecff8 &&& M = 0xaffe4897dfecff8)
    (hz : Frame M z0 s) : Ends M z0 (execResetWholeChip s) := by
  unfold execResetWholeChip
  repeat' first
    | with_reducible assumption
    | with_reducible refine rstLive_frame (fun _ _ => ?_) ?_
    | with_reducible refine rstGo_frame hm ?_
theorem execResetSheafController_frame {M : Nat} {z0 : State} {i : Nat} {s : State}
    (hm : 0xaffe4897dfecff8 &&& M = 0xaffe4897dfecff8)
    (hz : Frame M z0 s) : Ends M z0 (execResetSheafController i s) := by
  unfold execResetSheafController
  repeat' first
    | with_reducible assumption
    | with_reducible refine rstLive_frame (fun _ _ => ?_) ?_
    | with_reducible refine rstGo_frame hm ?_
theorem execResetSequencer_frame {M : Nat} {z0 : State} {s : State} (hm : 0xaffe4897dfecff8 &&& M = 0xaffe4897dfecff8)
    (hz : Frame M z0 s) : Ends M z0 (execResetSequencer s) := by
  unfold execResetSequencer
  repeat' first
    | with_reducible assumption
    | with_reducible refine rstLive_frame (fun _ _ => ?_) ?_
    | with_reducible refine rstGo_frame hm ?_
theorem execResetLoopEngine_frame {M : Nat} {z0 : State} {s : State}
    (hm : 0xaffe4897dfecff8 &&& M = 0xaffe4897dfecff8)
    (hz : Frame M z0 s) : Ends M z0 (execResetLoopEngine s) := by
  unfold execResetLoopEngine
  repeat' first
    | with_reducible assumption
    | with_reducible refine rstLive_frame (fun _ _ => ?_) ?_
    | with_reducible refine rstGo_frame hm ?_
theorem execResetInstance_frame {M : Nat} {z0 : State} {s : State} (hm : 0xaffe4897dfecff8 &&& M = 0xaffe4897dfecff8)
    (hz : Frame M z0 s) : Ends M z0 (execResetInstance s) := by
  unfold execResetInstance
  repeat' first
    | with_reducible assumption
    | with_reducible refine rstLive_frame (fun _ _ => ?_) ?_
    | with_reducible refine rstGo_frame hm ?_
theorem execHostResetRequest_frame {M : Nat} {z0 : State} {level : Nat} {target : Nat} {mode : Bool} {s : State}
    (hm : 0xaffe4897dfecff8 &&& M = 0xaffe4897dfecff8)
    (hz : Frame M z0 s) : Ends M z0 (execHostResetRequest level target mode s) := by
  unfold execHostResetRequest
  repeat' first
    | with_reducible assumption
    | with_reducible refine frame_ite (fun _ => ?_) (fun _ => ?_)
    | with_reducible refine rstLive_frame (fun _ _ => ?_) ?_
    | with_reducible refine resetRequest_frame hm ?_
    | split
theorem execRstClrcnt_frame {M : Nat} {z0 : State} {s : State} (hm : 0x8000000000 &&& M = 0x8000000000)
    (hz : Frame M z0 s) : Ends M z0 (execRstClrcnt s) := by
  unfold execRstClrcnt
  repeat' first
    | with_reducible assumption
    | (with_reducible refine frame_lit ?_ ?_; rotate_left; (fail_if_success with_reducible exact Frame.refl _)
                      constructor <;> first | exact fun _ => rfl | exact fun h => absurd (bit_of_sub hm h) (by decide))
    | with_reducible refine modRst_frame hm ?_
    | with_reducible refine bus_frame (fun _ _ => ?_) ?_
theorem resetMirror_frame {M : Nat} {z0 : State} {s : State} (hm : 0x20200000000 &&& M = 0x20200000000)
    (hz : Frame M z0 s) : Frame M z0 (resetMirror s) := by
  unfold resetMirror
  repeat' first
    | with_reducible assumption
    | (with_reducible refine frame_lit ?_ ?_; rotate_left; (fail_if_success with_reducible exact Frame.refl _)
                      constructor <;> first | exact fun _ => rfl | exact fun h => absurd (bit_of_sub hm h) (by decide))
theorem blockReset_frame {M : Nat} {z0 : State} {s : State} {x : Nat × Nat}
    (hm : 0xaffe68b7dfecff8 &&& M = 0xaffe68b7dfecff8)
    (hz : Frame M z0 s) : Frame M z0 (blockReset s x) := by
  unfold blockReset
  repeat' first
    | with_reducible assumption
    | (with_reducible refine resetMirror_frame (sub_trans ?_ hm) ?_; decide)
    | (with_reducible refine resetRequest_frame (sub_trans ?_ hm) ?_; decide)
    | (with_reducible refine flushSide_frame (sub_trans ?_ hm) ?_; decide)
    | (with_reducible refine distrustAll_frame (sub_trans ?_ hm) ?_; decide)
    | split
theorem blockResets_frame {M : Nat} {z0 : State} {s : State} (hm : 0xaffe68b7dfecff8 &&& M = 0xaffe68b7dfecff8)
    (hz : Frame M z0 s) : Frame M z0 (blockResets s) := by
  unfold blockResets
  repeat' first
    | with_reducible assumption
    | (with_reducible refine frame_lit ?_ ?_; rotate_left; (fail_if_success with_reducible exact Frame.refl _)
                      constructor <;> first | exact fun _ => rfl | exact fun h => absurd (bit_of_sub hm h) (by decide))
    | with_reducible refine frame_foldl (fun _ _ _ => ?_) ?_
    | with_reducible refine blockReset_frame hm ?_

end Sys2Proof.Machine
end

