-- ==== Sys2Proof/Laws/Touch10.lean ====
section
/-! SUPPORT. Which groups of State the operations of Machine/Beat, Window, Meter may touch: each keeps every frame
whose set holds its own. -/

namespace Sys2Proof.Machine

theorem clocked_frame {M : Nat} {z0 : State} {s : State} {f : State → State} (hf : ∀ s, Frame M z0 s → Frame M z0
    (f s))
    (hz : Frame M z0 s) : Ends M z0 (clocked s f) := by
  unfold clocked
  repeat' first
    | with_reducible assumption
    | with_reducible refine frame_ite (fun _ => ?_) (fun _ => ?_)
    | with_reducible refine ends_next ?_
    | with_reducible refine hf _ ?_
    | split
theorem slewAll_frame {M : Nat} {z0 : State} {s : State} (hm : 0x4000 &&& M = 0x4000)
    (hz : Frame M z0 s) : Frame M z0 (slewAll s) := by
  unfold slewAll
  repeat' first
    | with_reducible assumption
    | (with_reducible refine frame_lit ?_ ?_; rotate_left; (fail_if_success with_reducible exact Frame.refl _)
                      constructor <;> first | exact fun _ => rfl | exact fun h => absurd (bit_of_sub hm h) (by decide))
    | with_reducible refine frame_ite (fun _ => ?_) (fun _ => ?_)
    | split
theorem deliverSends_frame {M : Nat} {z0 : State} {s : State} (hm : 0x1400000000000 &&& M = 0x1400000000000)
    (hz : Frame M z0 s) : Frame M z0 (deliverSends s) := by
  unfold deliverSends
  repeat' first
    | with_reducible assumption
    | (with_reducible refine frame_lit ?_ ?_; rotate_left; (fail_if_success with_reducible exact Frame.refl _)
                      constructor <;> first | exact fun _ => rfl | exact fun h => absurd (bit_of_sub hm h) (by decide))
    | with_reducible refine frame_foldl (fun _ _ _ => ?_) ?_
    | dsimp only
theorem endResumeTerms_frame {M : Nat} {z0 : State} {s : State} (hm : 0x8000000000cf80 &&& M = 0x8000000000cf80)
    (hz : Frame M z0 s) : Frame M z0 (endResumeTerms s) := by
  unfold endResumeTerms
  repeat' first
    | with_reducible assumption
    | (with_reducible refine frame_lit ?_ ?_; rotate_left; (fail_if_success with_reducible exact Frame.refl _)
                      constructor <;> first | exact fun _ => rfl | exact fun h => absurd (bit_of_sub hm h) (by decide))
    | with_reducible refine frame_ite (fun _ => ?_) (fun _ => ?_)
    | with_reducible refine frame_foldl (fun _ _ _ => ?_) ?_
    | (with_reducible refine retarget_frame (sub_trans ?_ hm) ?_; decide)
    | split
theorem beatCounts_frame {M : Nat} {z0 : State} {s : State} (hm : 0x404000 &&& M = 0x404000)
    (hz : Frame M z0 s) : Frame M z0 (beatCounts s) := by
  unfold beatCounts
  repeat' first
    | with_reducible assumption
    | (with_reducible refine frame_lit ?_ ?_; rotate_left; (fail_if_success with_reducible exact Frame.refl _)
                      constructor <;> first | exact fun _ => rfl | exact fun h => absurd (bit_of_sub hm h) (by decide))
    | with_reducible refine frame_ite (fun _ => ?_) (fun _ => ?_)
    | split
    | dsimp only
theorem centralBeat_frame {M : Nat} {z0 : State} {s : State} (hm : 0xaffe6cb7dfecff8 &&& M = 0xaffe6cb7dfecff8)
    (hz : Frame M z0 s) : Frame M z0 (centralBeat s) := by
  unfold centralBeat
  repeat' first
    | with_reducible assumption
    | with_reducible refine frame_ite (fun _ => ?_) (fun _ => ?_)
    | (with_reducible refine beatCounts_frame (sub_trans ?_ hm) ?_; decide)
    | (with_reducible refine endResumeTerms_frame (sub_trans ?_ hm) ?_; decide)
    | (with_reducible refine deliverSends_frame (sub_trans ?_ hm) ?_; decide)
    | (with_reducible refine blockResets_frame (sub_trans ?_ hm) ?_; decide)
    | (with_reducible refine rstCheck_frame (sub_trans ?_ hm) ?_; decide)
    | (with_reducible refine calBeat_frame (sub_trans ?_ hm) ?_; decide)
    | (with_reducible refine sendSlots_frame (sub_trans ?_ hm) ?_; decide)
    | (with_reducible refine granSend_frame (sub_trans ?_ hm) ?_; decide)
    | (with_reducible refine throttleBeat_frame (sub_trans ?_ hm) ?_; decide)
    | (with_reducible refine stageOne_frame (sub_trans ?_ hm) ?_; decide)
    | (with_reducible refine triskBeat_frame (sub_trans ?_ hm) ?_; decide)
    | (with_reducible refine endEstTerms_frame (sub_trans ?_ hm) ?_; decide)
    | (with_reducible refine lagAll_frame (sub_trans ?_ hm) ?_; decide)
    | split
    | dsimp only
theorem chipBeat_frame {M : Nat} {z0 : State} {s : State} (hm : 0xbfffeffffffffff &&& M = 0xbfffeffffffffff)
    (hz : Frame M z0 s) : Frame M z0 (chipBeat s) := by
  unfold chipBeat
  repeat' first
    | with_reducible assumption
    | with_reducible refine frame_ite (fun _ => ?_) (fun _ => ?_)
    | (with_reducible refine wholeChip_frame (sub_trans ?_ hm) ?_; decide)
    | (with_reducible refine chipStart_frame (sub_trans ?_ hm) ?_; decide)
    | split
theorem effRefclkEdge_frame {M : Nat} {z0 : State} {s : State} (hm : 0xbfffeffffffffff &&& M = 0xbfffeffffffffff)
    (hz : Frame M z0 s) : Frame M z0 (effRefclkEdge s) := by
  unfold effRefclkEdge
  repeat' first
    | with_reducible assumption
    | (with_reducible refine frame_lit ?_ ?_; rotate_left; (fail_if_success with_reducible exact Frame.refl _)
                      constructor <;> first | exact fun _ => rfl | exact fun h => absurd (bit_of_sub hm h) (by decide))
    | with_reducible refine frame_ite (fun _ => ?_) (fun _ => ?_)
    | with_reducible refine chipBeat_frame hm ?_
    | (with_reducible refine centralBeat_frame (sub_trans ?_ hm) ?_; decide)
    | (with_reducible refine slewAll_frame (sub_trans ?_ hm) ?_; decide)
    | (with_reducible refine estBeat_frame (sub_trans ?_ hm) ?_; decide)
    | (with_reducible refine portTake_frame (sub_trans ?_ hm) ?_; decide)
    | split
    | dsimp only
theorem execRefclkEdge_frame {M : Nat} {z0 : State} {s : State} (hm : 0xbfffeffffffffff &&& M = 0xbfffeffffffffff)
    (hz : Frame M z0 s) : Ends M z0 (execRefclkEdge s) := by
  unfold execRefclkEdge
  repeat' first
    | with_reducible assumption
    | with_reducible refine effRefclkEdge_frame hm ?_
    | with_reducible refine clocked_frame (fun _ _ => ?_) ?_
theorem restampTally_frame {M : Nat} {z0 : State} {s : State} (hm : 0x4200000000000 &&& M = 0x4200000000000)
    (hz : Frame M z0 s) : Frame M z0 (restampTally s) := by
  unfold restampTally
  repeat' first
    | with_reducible assumption
    | (with_reducible refine frame_lit ?_ ?_; rotate_left; (fail_if_success with_reducible exact Frame.refl _)
                      constructor <;> first | exact fun _ => rfl | exact fun h => absurd (bit_of_sub hm h) (by decide))
    | with_reducible refine frame_ite (fun _ => ?_) (fun _ => ?_)
    | split
theorem slipLate_frame {M : Nat} {z0 : State} {n : Nat} {s : State} {a : Act}
    (hm : 0x240970000000 &&& M = 0x240970000000)
    (hz : Frame M z0 s) : Frame M z0 (slipLate n s a) := by
  unfold slipLate
  repeat' first
    | with_reducible assumption
    | with_reducible refine frame_ite (fun _ => ?_) (fun _ => ?_)
    | with_reducible refine lateBy_frame hm ?_
    | split
theorem slipForward_frame {M : Nat} {z0 : State} {s : State} {gap : Nat}
    (hm : 0xffee409f7ffcf9c &&& M = 0xffee409f7ffcf9c)
    (hz : Frame M z0 s) : Frame M z0 (slipForward s gap) := by
  unfold slipForward
  repeat' first
    | with_reducible assumption
    | (with_reducible refine frame_lit ?_ ?_; rotate_left; (fail_if_success with_reducible exact Frame.refl _)
                      constructor <;> first | exact fun _ => rfl | exact fun h => absurd (bit_of_sub hm h) (by decide))
    | with_reducible refine frame_ite (fun _ => ?_) (fun _ => ?_)
    | with_reducible refine frame_foldl (fun _ _ _ => ?_) ?_
    | (with_reducible refine slipLate_frame (sub_trans ?_ hm) ?_; decide)
    | with_reducible refine effActionTakesEffect_frame hm ?_
    | split
    | dsimp only
theorem effBeatMarker_frame {M : Nat} {z0 : State} {n : Nat} {s : State}
    (hm : 0xffee409f7ffcf9c &&& M = 0xffee409f7ffcf9c)
    (hz : Frame M z0 s) : Frame M z0 (effBeatMarker n s) := by
  unfold effBeatMarker
  repeat' first
    | with_reducible assumption
    | (with_reducible refine frame_lit ?_ ?_; rotate_left; (fail_if_success with_reducible exact Frame.refl _)
                      constructor <;> first | exact fun _ => rfl | exact fun h => absurd (bit_of_sub hm h) (by decide))
    | with_reducible refine frame_ite (fun _ => ?_) (fun _ => ?_)
    | with_reducible refine slipForward_frame hm ?_
    | (with_reducible refine restampTally_frame (sub_trans ?_ hm) ?_; decide)
    | (with_reducible refine telCut_frame (sub_trans ?_ hm) ?_; decide)
    | (with_reducible refine setVoid_frame (sub_trans ?_ hm) ?_; decide)
    | (with_reducible refine estRestart_frame (sub_trans ?_ hm) ?_; decide)
    | (with_reducible refine raise_frame (sub_trans ?_ hm) ?_; decide)
    | split
    | dsimp only
theorem execBeatMarker_frame {M : Nat} {z0 : State} {n : Nat} {s : State}
    (hm : 0xffee409f7ffcf9c &&& M = 0xffee409f7ffcf9c)
    (hz : Frame M z0 s) : Ends M z0 (execBeatMarker n s) := by
  unfold execBeatMarker
  repeat' first
    | with_reducible assumption
    | with_reducible refine effBeatMarker_frame hm ?_
    | with_reducible refine live_frame (fun _ _ => ?_) ?_
theorem effRefclkLoss_frame {M : Nat} {z0 : State} {s : State} (hm : 0x2c06409703ccf80 &&& M = 0x2c06409703ccf80)
    (hz : Frame M z0 s) : Frame M z0 (effRefclkLoss s) := by
  unfold effRefclkLoss
  repeat' first
    | with_reducible assumption
    | (with_reducible refine frame_lit ?_ ?_; rotate_left; (fail_if_success with_reducible exact Frame.refl _)
                      constructor <;> first | exact fun h => absurd (bit_of_sub hm h) (by decide) | exact fun _ => rfl)
    | with_reducible refine frame_ite (fun _ => ?_) (fun _ => ?_)
    | with_reducible refine frame_foldl (fun _ _ _ => ?_) ?_
    | (with_reducible refine endTrack_frame (sub_trans ?_ hm) ?_; decide)
    | (with_reducible refine discardNotice_frame (sub_trans ?_ hm) ?_; decide)
    | (with_reducible refine raise_frame (sub_trans ?_ hm) ?_; decide)
    | split
    | dsimp only
theorem execRefclkLoss_frame {M : Nat} {z0 : State} {s : State} (hm : 0x2c06409703ccf80 &&& M = 0x2c06409703ccf80)
    (hz : Frame M z0 s) : Ends M z0 (execRefclkLoss s) := by
  unfold execRefclkLoss
  repeat' first
    | with_reducible assumption
    | with_reducible refine effRefclkLoss_frame hm ?_
    | with_reducible refine clocked_frame (fun _ _ => ?_) ?_
theorem effRefclkReturn_frame {M : Nat} {z0 : State} {s : State} (hm : 0x84200000040000 &&& M = 0x84200000040000)
    (hz : Frame M z0 s) : Frame M z0 (effRefclkReturn s) := by
  unfold effRefclkReturn
  repeat' first
    | with_reducible assumption
    | (with_reducible refine frame_lit ?_ ?_; rotate_left; (fail_if_success with_reducible exact Frame.refl _)
                      constructor <;> first | exact fun _ => rfl | exact fun h => absurd (bit_of_sub hm h) (by decide))
    | (with_reducible refine tallyEvent_frame (sub_trans ?_ hm) ?_; decide)
    | split
    | dsimp only
theorem execRefclkReturn_frame {M : Nat} {z0 : State} {s : State} (hm : 0x84200000040000 &&& M = 0x84200000040000)
    (hz : Frame M z0 s) : Ends M z0 (execRefclkReturn s) := by
  unfold execRefclkReturn
  repeat' first
    | with_reducible assumption
    | with_reducible refine frame_ite (fun _ => ?_) (fun _ => ?_)
    | with_reducible refine effRefclkReturn_frame hm ?_
    | with_reducible refine powered_frame (fun _ _ => ?_) ?_
    | split
theorem alignFell_frame {M : Nat} {z0 : State} {s : State} (hm : 0x280040970040000 &&& M = 0x280040970040000)
    (hz : Frame M z0 s) : Frame M z0 (alignFell s) := by
  unfold alignFell
  repeat' first
    | with_reducible assumption
    | (with_reducible refine frame_lit ?_ ?_; rotate_left; (fail_if_success with_reducible exact Frame.refl _)
                      constructor <;> first | exact fun _ => rfl | exact fun h => absurd (bit_of_sub hm h) (by decide))
    | with_reducible refine frame_ite (fun _ => ?_) (fun _ => ?_)
    | (with_reducible refine setVoid_frame (sub_trans ?_ hm) ?_; decide)
    | (with_reducible refine sendArmrpt_frame (sub_trans ?_ hm) ?_; decide)
    | (with_reducible refine raise_frame (sub_trans ?_ hm) ?_; decide)
    | split
    | dsimp only
theorem effAlignLoss_frame {M : Nat} {z0 : State} {s : State} (hm : 0x280040970040000 &&& M = 0x280040970040000)
    (hz : Frame M z0 s) : Frame M z0 (effAlignLoss s) := by
  unfold effAlignLoss
  repeat' first
    | with_reducible assumption
    | (with_reducible refine frame_lit ?_ ?_; rotate_left; (fail_if_success with_reducible exact Frame.refl _)
                      constructor <;> first | exact fun _ => rfl | exact fun h => absurd (bit_of_sub hm h) (by decide))
    | with_reducible refine frame_ite (fun _ => ?_) (fun _ => ?_)
    | with_reducible refine alignFell_frame hm ?_
    | split
    | dsimp only
theorem execAlignLoss_frame {M : Nat} {z0 : State} {s : State} (hm : 0x280040970040000 &&& M = 0x280040970040000)
    (hz : Frame M z0 s) : Ends M z0 (execAlignLoss s) := by
  unfold execAlignLoss
  repeat' first
    | with_reducible assumption
    | with_reducible refine effAlignLoss_frame hm ?_
    | with_reducible refine powered_frame (fun _ _ => ?_) ?_
theorem execAlignmentLineRise_frame {M : Nat} {z0 : State} {s : State} (hm : 0x40000 &&& M = 0x40000)
    (hz : Frame M z0 s) : Ends M z0 (execAlignmentLineRise s) := by
  unfold execAlignmentLineRise
  repeat' first
    | with_reducible assumption
    | (with_reducible refine frame_lit ?_ ?_; rotate_left; (fail_if_success with_reducible exact Frame.refl _)
                      constructor <;> first | exact fun _ => rfl | exact fun h => absurd (bit_of_sub hm h) (by decide))
    | with_reducible refine powered_frame (fun _ _ => ?_) ?_
theorem coolFinish_frame {M : Nat} {z0 : State} {s : State} {d : Nat} (hm : 0x522cf90 &&& M = 0x522cf90)
    (hz : Frame M z0 s) : Frame M z0 (coolFinish s d) := by
  unfold coolFinish
  repeat' first
    | with_reducible assumption
    | (with_reducible refine frame_lit ?_ ?_; rotate_left; (fail_if_success with_reducible exact Frame.refl _)
                      constructor <;> first | exact fun _ => rfl | exact fun h => absurd (bit_of_sub hm h) (by decide))
    | with_reducible refine gateDom_frame hm ?_
    | (with_reducible refine leaveOn_frame (sub_trans ?_ hm) ?_; decide)
    | (with_reducible refine retarget_frame (sub_trans ?_ hm) ?_; decide)
    | (with_reducible refine modGw_frame (sub_trans ?_ hm) ?_; decide)
    | (with_reducible refine setDomSt_frame (sub_trans ?_ hm) ?_; decide)
    | split
theorem coolRaise_frame {M : Nat} {z0 : State} {s : State} (hm : 0x88044097d22cf90 &&& M = 0x88044097d22cf90)
    (hz : Frame M z0 s) : Frame M z0 (coolRaise s) := by
  unfold coolRaise
  repeat' first
    | with_reducible assumption
    | (with_reducible refine frame_lit ?_ ?_; rotate_left; (fail_if_success with_reducible exact Frame.refl _)
                      constructor <;> first | exact fun _ => rfl | exact fun h => absurd (bit_of_sub hm h) (by decide))
    | with_reducible refine frame_ite (fun _ => ?_) (fun _ => ?_)
    | with_reducible refine frame_foldl (fun _ _ _ => ?_) ?_
    | with_reducible refine frame_foldl_fst (fun _ _ _ => ?_) ?_
    | (with_reducible refine gateDom_frame (sub_trans ?_ hm) ?_; decide)
    | (with_reducible refine classP_frame (sub_trans ?_ hm) ?_; decide)
    | (with_reducible refine protEvent_frame (sub_trans ?_ hm) ?_; decide)
    | (with_reducible refine raise_frame (sub_trans ?_ hm) ?_; decide)
    | split
    | dsimp only
theorem endHold_frame {M : Nat} {z0 : State} {s : State} {d : Nat} {frz : Bool} {dark : Bool} {acts : List HeldAct}
    (hm : 0x8804409fd22cf9c &&& M = 0x8804409fd22cf9c)
    (hz : Frame M z0 s) : Frame M z0 (endHold s d frz dark acts) := by
  unfold endHold
  repeat' first
    | with_reducible assumption
    | (with_reducible refine frame_lit ?_ ?_; rotate_left; (fail_if_success with_reducible exact Frame.refl _)
                      constructor <;> first | exact fun _ => rfl | exact fun h => absurd (bit_of_sub hm h) (by decide))
    | with_reducible refine frame_ite (fun _ => ?_) (fun _ => ?_)
    | with_reducible refine frame_foldl (fun _ _ _ => ?_) ?_
    | (with_reducible refine coolRaise_frame (sub_trans ?_ hm) ?_; decide)
    | (with_reducible refine coolFinish_frame (sub_trans ?_ hm) ?_; decide)
    | (with_reducible refine heldAct_frame (sub_trans ?_ hm) ?_; decide)
    | (with_reducible refine dropWake_frame (sub_trans ?_ hm) ?_; decide)
    | (with_reducible refine goDark_frame (sub_trans ?_ hm) ?_; decide)
    | (with_reducible refine classP_frame (sub_trans ?_ hm) ?_; decide)
    | (with_reducible refine protEvent_frame (sub_trans ?_ hm) ?_; decide)
    | (with_reducible refine followHeld_frame (sub_trans ?_ hm) ?_; decide)
    | (with_reducible refine retarget_frame (sub_trans ?_ hm) ?_; decide)
    | (with_reducible refine modShr_frame (sub_trans ?_ hm) ?_; decide)
    | (with_reducible refine modGw_frame (sub_trans ?_ hm) ?_; decide)
    | (with_reducible refine raiseDeferred_frame (sub_trans ?_ hm) ?_; decide)
    | (with_reducible refine raise_frame (sub_trans ?_ hm) ?_; decide)
    | split
    | dsimp only
theorem leaveLocal_frame {M : Nat} {z0 : State} {s : State} {d : Nat} (hm : 0x180 &&& M = 0x180)
    (hz : Frame M z0 s) : Frame M z0 (leaveLocal s d) := by
  unfold leaveLocal
  repeat' first
    | with_reducible assumption
    | (with_reducible refine frame_lit ?_ ?_; rotate_left; (fail_if_success with_reducible exact Frame.refl _)
                      constructor <;> first | exact fun _ => rfl | exact fun h => absurd (bit_of_sub hm h) (by decide))
    | (with_reducible refine modShw_frame (sub_trans ?_ hm) ?_; decide)
    | (with_reducible refine modShf_frame (sub_trans ?_ hm) ?_; decide)
theorem effHoldExit_frame {M : Nat} {z0 : State} {i : Fin 93} {s : State}
    (hm : 0x8804409fd22cf9c &&& M = 0x8804409fd22cf9c)
    (hz : Frame M z0 s) : Frame M z0 (effHoldExit i s) := by
  unfold effHoldExit
  repeat' first
    | with_reducible assumption
    | with_reducible refine frame_ite (fun _ => ?_) (fun _ => ?_)
    | (with_reducible refine leaveLocal_frame (sub_trans ?_ hm) ?_; decide)
    | with_reducible refine endHold_frame hm ?_
    | (with_reducible refine unholdSheaf_frame (sub_trans ?_ hm) ?_; decide)
    | split
    | dsimp only
theorem execHoldExit_frame {M : Nat} {z0 : State} {i : Fin 93} {s : State}
    (hm : 0x8804409fd22cf9c &&& M = 0x8804409fd22cf9c)
    (hz : Frame M z0 s) : Ends M z0 (execHoldExit i s) := by
  unfold execHoldExit
  repeat' first
    | with_reducible assumption
    | with_reducible refine effHoldExit_frame hm ?_
    | with_reducible refine live_frame (fun _ _ => ?_) ?_
theorem freezeEnds_frame {M : Nat} {z0 : State} {s : State} (hm : 0xfffe489ffffcffc &&& M = 0xfffe489ffffcffc)
    (hz : Frame M z0 s) : Frame M z0 (freezeEnds s) := by
  unfold freezeEnds
  repeat' first
    | with_reducible assumption
    | (with_reducible refine frame_lit ?_ ?_; rotate_left; (fail_if_success with_reducible exact Frame.refl _)
                      constructor <;> first | exact fun _ => rfl | exact fun h => absurd (bit_of_sub hm h) (by decide))
    | (with_reducible refine coolRaise_frame (sub_trans ?_ hm) ?_; decide)
    | (with_reducible refine resetRequest_frame (sub_trans ?_ hm) ?_; decide)
    | (with_reducible refine modRst_frame (sub_trans ?_ hm) ?_; decide)
    | (with_reducible refine effActionTakesEffect_frame (sub_trans ?_ hm) ?_; decide)
    | split
    | dsimp only
theorem execFreezeExit_frame {M : Nat} {z0 : State} {s : State} (hm : 0xfffe48dffffcffc &&& M = 0xfffe48dffffcffc)
    (hz : Frame M z0 s) : Ends M z0 (execFreezeExit s) := by
  unfold execFreezeExit
  repeat' first
    | with_reducible assumption
    | with_reducible refine frame_ite (fun _ => ?_) (fun _ => ?_)
    | (with_reducible refine freezeEnds_frame (sub_trans ?_ hm) ?_; decide)
    | (with_reducible refine alignFell_frame (sub_trans ?_ hm) ?_; decide)
    | (with_reducible refine effFreezeExit_frame (sub_trans ?_ hm) ?_; decide)
    | with_reducible refine powered_frame (fun _ _ => ?_) ?_
    | split
    | dsimp only
theorem winPower_frame {M : Nat} {z0 : State} {m : WindowMeas} {s : State} (hm : 0x6 &&& M = 0x6)
    (hz : Frame M z0 s) : Frame M z0 (winPower m s) := by
  unfold winPower
  repeat' first
    | with_reducible assumption
    | (with_reducible refine frame_lit ?_ ?_; rotate_left; (fail_if_success with_reducible exact Frame.refl _)
                      constructor <;> first | exact fun _ => rfl | exact fun h => absurd (bit_of_sub hm h) (by decide))
    | with_reducible refine frame_ite (fun _ => ?_) (fun _ => ?_)
    | split
    | dsimp only
theorem winInput_frame {M : Nat} {z0 : State} {m : WindowMeas} {s : State} (hm : 0x80008000001 &&& M = 0x80008000001)
    (hz : Frame M z0 s) : Frame M z0 (winInput m s) := by
  unfold winInput
  repeat' first
    | with_reducible assumption
    | (with_reducible refine frame_lit ?_ ?_; rotate_left; (fail_if_success with_reducible exact Frame.refl _)
                      constructor <;> first | exact fun _ => rfl | exact fun h => absurd (bit_of_sub hm h) (by decide))
    | with_reducible refine frame_ite (fun _ => ?_) (fun _ => ?_)
    | split
    | dsimp only
theorem winRegs_frame {M : Nat} {z0 : State} {m : WindowMeas} {s : State}
    (hm : 0x420000000001fb0 &&& M = 0x420000000001fb0)
    (hz : Frame M z0 s) : Frame M z0 (winRegs m s) := by
  unfold winRegs
  repeat' first
    | with_reducible assumption
    | (with_reducible refine frame_lit ?_ ?_; rotate_left; (fail_if_success with_reducible exact Frame.refl _)
                      constructor <;> first | exact fun h => absurd (bit_of_sub hm h) (by decide) | exact fun _ => rfl)
    | with_reducible refine frame_ite (fun _ => ?_) (fun _ => ?_)
    | split
    | dsimp only
theorem winRaises_frame {M : Nat} {z0 : State} {old : State} {s : State} (hm : 0x409f0000000 &&& M = 0x409f0000000)
    (hz : Frame M z0 s) : Frame M z0 (winRaises old s) := by
  unfold winRaises
  repeat' first
    | with_reducible assumption
    | with_reducible refine frame_ite (fun _ => ?_) (fun _ => ?_)
    | with_reducible refine frame_foldl (fun _ _ _ => ?_) ?_
    | with_reducible refine raiseShf_frame hm ?_
    | (with_reducible refine raise_frame (sub_trans ?_ hm) ?_; decide)
    | split
    | dsimp only
theorem winMss_frame {M : Nat} {z0 : State} {s : State} (hm : 0x4097522cf90 &&& M = 0x4097522cf90)
    (hz : Frame M z0 s) : Frame M z0 (winMss s) := by
  unfold winMss
  repeat' first
    | with_reducible assumption
    | (with_reducible refine frame_lit ?_ ?_; rotate_left; (fail_if_success with_reducible exact Frame.refl _)
                      constructor <;> first | exact fun _ => rfl | exact fun h => absurd (bit_of_sub hm h) (by decide))
    | with_reducible refine frame_ite (fun _ => ?_) (fun _ => ?_)
    | with_reducible refine serviceStop_frame hm ?_
    | split
    | dsimp only
theorem winPeers_frame {M : Nat} {z0 : State} {m : WindowMeas} {s : State} (hm : 0x1000000000 &&& M = 0x1000000000)
    (hz : Frame M z0 s) : Frame M z0 (winPeers m s) := by
  unfold winPeers
  repeat' first
    | with_reducible assumption
    | (with_reducible refine frame_lit ?_ ?_; rotate_left; (fail_if_success with_reducible exact Frame.refl _)
                      constructor <;> first | exact fun _ => rfl | exact fun h => absurd (bit_of_sub hm h) (by decide))
    | with_reducible refine frame_ite (fun _ => ?_) (fun _ => ?_)
    | split
theorem winRole_frame {M : Nat} {z0 : State} {m : WindowMeas} {old : State} {s : State}
    (hm : 0x220060808000001 &&& M = 0x220060808000001)
    (hz : Frame M z0 s) : Frame M z0 (winRole m old s) := by
  unfold winRole
  repeat' first
    | with_reducible assumption
    | (with_reducible refine frame_lit ?_ ?_; rotate_left; (fail_if_success with_reducible exact Frame.refl _)
                      constructor <;> first | exact fun _ => rfl | exact fun h => absurd (bit_of_sub hm h) (by decide))
    | with_reducible refine frame_ite (fun _ => ?_) (fun _ => ?_)
    | (with_reducible refine loseRole_frame (sub_trans ?_ hm) ?_; decide)
    | (with_reducible refine takeRole_frame (sub_trans ?_ hm) ?_; decide)
    | split
    | dsimp only
theorem winPmb_frame {M : Nat} {z0 : State} {s : State} (hm : 0x40000000000 &&& M = 0x40000000000)
    (hz : Frame M z0 s) : Frame M z0 (winPmb s) := by
  unfold winPmb
  repeat' first
    | with_reducible assumption
    | (with_reducible refine frame_lit ?_ ?_; rotate_left; (fail_if_success with_reducible exact Frame.refl _)
                      constructor <;> first | exact fun _ => rfl | exact fun h => absurd (bit_of_sub hm h) (by decide))
    | with_reducible refine frame_ite (fun _ => ?_) (fun _ => ?_)
    | with_reducible refine frame_foldl (fun _ _ _ => ?_) ?_
    | with_reducible refine pmbCheck_frame hm ?_
    | split
    | dsimp only
theorem winDiscard_frame {M : Nat} {z0 : State} {s : State} (hm : 0xb80 &&& M = 0xb80)
    (hz : Frame M z0 s) : Frame M z0 (winDiscard s) := by
  unfold winDiscard
  repeat' first
    | with_reducible assumption
    | (with_reducible refine frame_lit ?_ ?_; rotate_left; (fail_if_success with_reducible exact Frame.refl _)
                      constructor <;> first | exact fun _ => rfl | exact fun h => absurd (bit_of_sub hm h) (by decide))
theorem effMeasurementWindowEnd_frame {M : Nat} {z0 : State} {m : WindowMeas} {s : State}
    (hm : 0xea04e19fd22dfbf &&& M = 0xea04e19fd22dfbf)
    (hz : Frame M z0 s) : Frame M z0 (effMeasurementWindowEnd m s) := by
  unfold effMeasurementWindowEnd
  repeat' first
    | with_reducible assumption
    | with_reducible refine frame_ite (fun _ => ?_) (fun _ => ?_)
    | with_reducible refine frame_foldl (fun _ _ _ => ?_) ?_
    | (with_reducible refine winDiscard_frame (sub_trans ?_ hm) ?_; decide)
    | (with_reducible refine winPmb_frame (sub_trans ?_ hm) ?_; decide)
    | (with_reducible refine winRole_frame (sub_trans ?_ hm) ?_; decide)
    | (with_reducible refine winPeers_frame (sub_trans ?_ hm) ?_; decide)
    | (with_reducible refine winMss_frame (sub_trans ?_ hm) ?_; decide)
    | (with_reducible refine winRaises_frame (sub_trans ?_ hm) ?_; decide)
    | (with_reducible refine winRegs_frame (sub_trans ?_ hm) ?_; decide)
    | (with_reducible refine winInput_frame (sub_trans ?_ hm) ?_; decide)
    | (with_reducible refine winPower_frame (sub_trans ?_ hm) ?_; decide)
    | (with_reducible refine saveMeans_frame (sub_trans ?_ hm) ?_; decide)
    | (with_reducible refine covEval_frame (sub_trans ?_ hm) ?_; decide)
    | (with_reducible refine wakeRetry_frame (sub_trans ?_ hm) ?_; decide)
    | (with_reducible refine retargetAll_frame (sub_trans ?_ hm) ?_; decide)
    | split
    | dsimp only
theorem execMeasurementWindowEnd_frame {M : Nat} {z0 : State} {m : WindowMeas} {s : State}
    (hm : 0xea04e19fd22dfbf &&& M = 0xea04e19fd22dfbf)
    (hz : Frame M z0 s) : Ends M z0 (execMeasurementWindowEnd m s) := by
  unfold execMeasurementWindowEnd
  repeat' first
    | with_reducible assumption
    | with_reducible refine effMeasurementWindowEnd_frame hm ?_
    | with_reducible refine live_frame (fun _ _ => ?_) ?_
theorem modMtr_frame {M : Nat} {z0 : State} {s : State} {f : Meter → Meter} (hm : 0x10000000000 &&& M = 0x10000000000)
    (hz : Frame M z0 s) : Frame M z0 (modMtr s f) := by
  unfold modMtr
  repeat' first
    | with_reducible assumption
    | (with_reducible refine frame_lit ?_ ?_; rotate_left; (fail_if_success with_reducible exact Frame.refl _)
                      constructor <;> first | exact fun _ => rfl | exact fun h => absurd (bit_of_sub hm h) (by decide))
theorem metered_frame {M : Nat} {z0 : State} {s : State} {f : Meter → Meter}
    (hm : 0x10000000000 &&& M = 0x10000000000)
    (hz : Frame M z0 s) : Ends M z0 (metered s f) := by
  unfold metered
  repeat' first
    | with_reducible assumption
    | with_reducible refine frame_ite (fun _ => ?_) (fun _ => ?_)
    | with_reducible refine ends_next ?_
    | with_reducible refine modMtr_frame hm ?_
    | split
theorem execMeterWindowEnd_frame {M : Nat} {z0 : State} {mv : Int} {mi : Int} {cv : Int} {refOk : Bool}
    {nvOk : Bool} {s : State} (hm : 0x10000000000 &&& M = 0x10000000000)
    (hz : Frame M z0 s) : Ends M z0 (execMeterWindowEnd mv mi cv refOk nvOk s) := by
  unfold execMeterWindowEnd
  repeat' first
    | with_reducible assumption
    | with_reducible refine metered_frame hm ?_
theorem execMainsSyncEdge_frame {M : Nat} {z0 : State} {period : Nat} {since : Nat} {s : State}
    (hm : 0x10000000000 &&& M = 0x10000000000)
    (hz : Frame M z0 s) : Ends M z0 (execMainsSyncEdge period since s) := by
  unfold execMainsSyncEdge
  repeat' first
    | with_reducible assumption
    | with_reducible refine metered_frame hm ?_
theorem execMainsSyncLoss_frame {M : Nat} {z0 : State} {s : State} (hm : 0x10000000000 &&& M = 0x10000000000)
    (hz : Frame M z0 s) : Ends M z0 (execMainsSyncLoss s) := by
  unfold execMainsSyncLoss
  repeat' first
    | with_reducible assumption
    | (with_reducible refine frame_lit ?_ ?_; rotate_left; (fail_if_success with_reducible exact Frame.refl _)
                      constructor <;> first | exact fun _ => rfl | exact fun h => absurd (bit_of_sub hm h) (by decide))
    | with_reducible refine metered_frame hm ?_
theorem execMeterSupplyValid_frame {M : Nat} {z0 : State} {s : State} (hm : 0x10000000000 &&& M = 0x10000000000)
    (hz : Frame M z0 s) : Ends M z0 (execMeterSupplyValid s) := by
  unfold execMeterSupplyValid
  repeat' first
    | with_reducible assumption
    | with_reducible refine frame_ite (fun _ => ?_) (fun _ => ?_)
    | with_reducible refine ends_next ?_
    | with_reducible refine modMtr_frame hm ?_
    | split
theorem execRefSettled_frame {M : Nat} {z0 : State} {s : State} (hm : 0x10000000000 &&& M = 0x10000000000)
    (hz : Frame M z0 s) : Ends M z0 (execRefSettled s) := by
  unfold execRefSettled
  repeat' first
    | with_reducible assumption
    | (with_reducible refine frame_lit ?_ ?_; rotate_left; (fail_if_success with_reducible exact Frame.refl _)
                      constructor <;> first | exact fun _ => rfl | exact fun h => absurd (bit_of_sub hm h) (by decide))
    | with_reducible refine metered_frame hm ?_
theorem execNvCommit_frame {M : Nat} {z0 : State} {ok : Bool} {fall : Bool} {s : State}
    (hm : 0x10000000000 &&& M = 0x10000000000)
    (hz : Frame M z0 s) : Ends M z0 (execNvCommit ok fall s) := by
  unfold execNvCommit
  repeat' first
    | with_reducible assumption
    | with_reducible refine metered_frame hm ?_
theorem i2cNone_frame {M : Nat} {z0 : State} {s : State} (hm : 0x100000000000 &&& M = 0x100000000000)
    (hz : Frame M z0 s) : Frame M z0 (i2cNone s) := by
  unfold i2cNone
  repeat' first
    | with_reducible assumption
    | (with_reducible refine frame_lit ?_ ?_; rotate_left; (fail_if_success with_reducible exact Frame.refl _)
                      constructor <;> first | exact fun _ => rfl | exact fun h => absurd (bit_of_sub hm h) (by decide))
theorem i2cRead_frame {M : Nat} {z0 : State} {code : Nat} {data : Meter → List Byte} {s : State}
    (hm : 0x100000000000 &&& M = 0x100000000000)
    (hz : Frame M z0 s) : Ends M z0 (i2cRead code data s) := by
  unfold i2cRead
  repeat' first
    | with_reducible assumption
    | (with_reducible refine frame_lit ?_ ?_; rotate_left; (fail_if_success with_reducible exact Frame.refl _)
                      constructor <;> first | exact fun _ => rfl | exact fun h => absurd (bit_of_sub hm h) (by decide))
    | with_reducible refine frame_ite (fun _ => ?_) (fun _ => ?_)
    | with_reducible refine ends_next ?_
    | with_reducible refine i2cNone_frame hm ?_
    | split
    | dsimp only
theorem i2cWrite_frame {M : Nat} {z0 : State} {f : Meter → Meter × Bool} {s : State}
    (hm : 0x110000000000 &&& M = 0x110000000000)
    (hz : Frame M z0 s) : Ends M z0 (i2cWrite f s) := by
  unfold i2cWrite
  repeat' first
    | with_reducible assumption
    | (with_reducible refine frame_lit ?_ ?_; rotate_left; (fail_if_success with_reducible exact Frame.refl _)
                      constructor <;> first | exact fun _ => rfl | exact fun h => absurd (bit_of_sub hm h) (by decide))
    | with_reducible refine frame_ite (fun _ => ?_) (fun _ => ?_)
    | with_reducible refine ends_next ?_
    | (with_reducible refine i2cNone_frame (sub_trans ?_ hm) ?_; decide)
    | (with_reducible refine modMtr_frame (sub_trans ?_ hm) ?_; decide)
    | split
    | dsimp only
theorem execMtrId_frame {M : Nat} {z0 : State} {s : State} (hm : 0x100000000000 &&& M = 0x100000000000)
    (hz : Frame M z0 s) : Ends M z0 (execMtrId s) := by
  unfold execMtrId
  repeat' first
    | with_reducible assumption
    | with_reducible refine i2cRead_frame hm ?_
theorem execMtrStatus_frame {M : Nat} {z0 : State} {s : State} (hm : 0x100000000000 &&& M = 0x100000000000)
    (hz : Frame M z0 s) : Ends M z0 (execMtrStatus s) := by
  unfold execMtrStatus
  repeat' first
    | with_reducible assumption
    | with_reducible refine i2cRead_frame hm ?_
theorem execMtrEimp_frame {M : Nat} {z0 : State} {s : State} (hm : 0x100000000000 &&& M = 0x100000000000)
    (hz : Frame M z0 s) : Ends M z0 (execMtrEimp s) := by
  unfold execMtrEimp
  repeat' first
    | with_reducible assumption
    | with_reducible refine i2cRead_frame hm ?_
theorem execMtrErev_frame {M : Nat} {z0 : State} {s : State} (hm : 0x100000000000 &&& M = 0x100000000000)
    (hz : Frame M z0 s) : Ends M z0 (execMtrErev s) := by
  unfold execMtrErev
  repeat' first
    | with_reducible assumption
    | with_reducible refine i2cRead_frame hm ?_
theorem execMtrSbrk_frame {M : Nat} {z0 : State} {s : State} (hm : 0x100000000000 &&& M = 0x100000000000)
    (hz : Frame M z0 s) : Ends M z0 (execMtrSbrk s) := by
  unfold execMtrSbrk
  repeat' first
    | with_reducible assumption
    | with_reducible refine i2cRead_frame hm ?_
theorem execMtrPlauscnt_frame {M : Nat} {z0 : State} {s : State} (hm : 0x100000000000 &&& M = 0x100000000000)
    (hz : Frame M z0 s) : Ends M z0 (execMtrPlauscnt s) := by
  unfold execMtrPlauscnt
  repeat' first
    | with_reducible assumption
    | with_reducible refine i2cRead_frame hm ?_
theorem execMtrUnreg_frame {M : Nat} {z0 : State} {s : State} (hm : 0x100000000000 &&& M = 0x100000000000)
    (hz : Frame M z0 s) : Ends M z0 (execMtrUnreg s) := by
  unfold execMtrUnreg
  repeat' first
    | with_reducible assumption
    | with_reducible refine i2cRead_frame hm ?_
theorem execMtrWseq_frame {M : Nat} {z0 : State} {s : State} (hm : 0x100000000000 &&& M = 0x100000000000)
    (hz : Frame M z0 s) : Ends M z0 (execMtrWseq s) := by
  unfold execMtrWseq
  repeat' first
    | with_reducible assumption
    | with_reducible refine i2cRead_frame hm ?_
theorem execMtrLast_frame {M : Nat} {z0 : State} {s : State} (hm : 0x100000000000 &&& M = 0x100000000000)
    (hz : Frame M z0 s) : Ends M z0 (execMtrLast s) := by
  unfold execMtrLast
  repeat' first
    | with_reducible assumption
    | with_reducible refine i2cRead_frame hm ?_
theorem execMtrCfg_frame {M : Nat} {z0 : State} {w : Option Nat} {s : State}
    (hm : 0x110000000000 &&& M = 0x110000000000)
    (hz : Frame M z0 s) : Ends M z0 (execMtrCfg w s) := by
  unfold execMtrCfg
  repeat' first
    | with_reducible assumption
    | (with_reducible refine frame_lit ?_ ?_; rotate_left; (fail_if_success with_reducible exact Frame.refl _)
                      constructor <;> first | exact fun _ => rfl | exact fun h => absurd (bit_of_sub hm h) (by decide))
    | with_reducible refine frame_ite (fun _ => ?_) (fun _ => ?_)
    | with_reducible refine i2cWrite_frame hm ?_
    | (with_reducible refine i2cRead_frame (sub_trans ?_ hm) ?_; decide)
    | split
theorem execMtrReq_frame {M : Nat} {z0 : State} {v : Nat} {s : State} (hm : 0x110000000000 &&& M = 0x110000000000)
    (hz : Frame M z0 s) : Ends M z0 (execMtrReq v s) := by
  unfold execMtrReq
  repeat' first
    | with_reducible assumption
    | with_reducible refine i2cWrite_frame hm ?_
    | split
theorem execMtrCtl_frame {M : Nat} {z0 : State} {w : Option Nat} {s : State}
    (hm : 0x110000000000 &&& M = 0x110000000000)
    (hz : Frame M z0 s) : Ends M z0 (execMtrCtl w s) := by
  unfold execMtrCtl
  repeat' first
    | with_reducible assumption
    | (with_reducible refine frame_lit ?_ ?_; rotate_left; (fail_if_success with_reducible exact Frame.refl _)
                      constructor <;> first | exact fun _ => rfl | exact fun h => absurd (bit_of_sub hm h) (by decide))
    | with_reducible refine i2cWrite_frame hm ?_
    | (with_reducible refine i2cRead_frame (sub_trans ?_ hm) ?_; decide)
    | split
theorem execCalz_frame {M : Nat} {z0 : State} {ch : Nat} {x : Int} {s : State}
    (hm : 0x110000000000 &&& M = 0x110000000000)
    (hz : Frame M z0 s) : Ends M z0 (execCalz ch x s) := by
  unfold execCalz
  repeat' first
    | with_reducible assumption
    | with_reducible refine i2cWrite_frame hm ?_
theorem execCalf_frame {M : Nat} {z0 : State} {ch : Nat} {x : Int} {s : State}
    (hm : 0x110000000000 &&& M = 0x110000000000)
    (hz : Frame M z0 s) : Ends M z0 (execCalf ch x s) := by
  unfold execCalf
  repeat' first
    | with_reducible assumption
    | with_reducible refine i2cWrite_frame hm ?_
theorem execCalAverageDone_frame {M : Nat} {z0 : State} {s : State} (hm : 0x10000000000 &&& M = 0x10000000000)
    (hz : Frame M z0 s) : Ends M z0 (execCalAverageDone s) := by
  unfold execCalAverageDone
  repeat' first
    | with_reducible assumption
    | with_reducible refine metered_frame hm ?_
theorem execCalstat_frame {M : Nat} {z0 : State} {s : State} (hm : 0x100000000000 &&& M = 0x100000000000)
    (hz : Frame M z0 s) : Ends M z0 (execCalstat s) := by
  unfold execCalstat
  repeat' first
    | with_reducible assumption
    | with_reducible refine i2cRead_frame hm ?_
theorem execCoef_frame {M : Nat} {z0 : State} {s : State} (hm : 0x100000000000 &&& M = 0x100000000000)
    (hz : Frame M z0 s) : Ends M z0 (execCoef s) := by
  unfold execCoef
  repeat' first
    | with_reducible assumption
    | with_reducible refine i2cRead_frame hm ?_
theorem execSealMeter_frame {M : Nat} {z0 : State} {s : State} (hm : 0x110000000000 &&& M = 0x110000000000)
    (hz : Frame M z0 s) : Ends M z0 (execSealMeter s) := by
  unfold execSealMeter
  repeat' first
    | with_reducible assumption
    | (with_reducible refine frame_lit ?_ ?_; rotate_left; (fail_if_success with_reducible exact Frame.refl _)
                      constructor <;> first | exact fun _ => rfl | exact fun h => absurd (bit_of_sub hm h) (by decide))
    | with_reducible refine frame_ite (fun _ => ?_) (fun _ => ?_)
    | with_reducible refine i2cWrite_frame hm ?_
    | split
theorem execUnsealMeter_frame {M : Nat} {z0 : State} {s : State} (hm : 0x110000000000 &&& M = 0x110000000000)
    (hz : Frame M z0 s) : Ends M z0 (execUnsealMeter s) := by
  unfold execUnsealMeter
  repeat' first
    | with_reducible assumption
    | (with_reducible refine frame_lit ?_ ?_; rotate_left; (fail_if_success with_reducible exact Frame.refl _)
                      constructor <;> first | exact fun _ => rfl | exact fun h => absurd (bit_of_sub hm h) (by decide))
    | with_reducible refine frame_ite (fun _ => ?_) (fun _ => ?_)
    | with_reducible refine i2cWrite_frame hm ?_
    | split
    | dsimp only
theorem modMtrm_frame {M : Nat} {z0 : State} {s : State} {f : Mtrm → Mtrm} (hm : 0x20000000000 &&& M = 0x20000000000)
    (hz : Frame M z0 s) : Frame M z0 (modMtrm s f) := by
  unfold modMtrm
  repeat' first
    | with_reducible assumption
    | (with_reducible refine frame_lit ?_ ?_; rotate_left; (fail_if_success with_reducible exact Frame.refl _)
                      constructor <;> first | exact fun _ => rfl | exact fun h => absurd (bit_of_sub hm h) (by decide))
theorem effMtrmReqGo_frame {M : Nat} {z0 : State} {ch : Nat} {urgent : Bool} {s : State}
    (hm : 0x30000000000 &&& M = 0x30000000000)
    (hz : Frame M z0 s) : Frame M z0 (effMtrmReqGo ch urgent s) := by
  unfold effMtrmReqGo
  repeat' first
    | with_reducible assumption
    | (with_reducible refine frame_lit ?_ ?_; rotate_left; (fail_if_success with_reducible exact Frame.refl _)
                      constructor <;> first | exact fun _ => rfl | exact fun h => absurd (bit_of_sub hm h) (by decide))
    | with_reducible refine frame_ite (fun _ => ?_) (fun _ => ?_)
    | (with_reducible refine modMtrm_frame (sub_trans ?_ hm) ?_; decide)
    | split
    | dsimp only
theorem execMtrmReqGo_frame {M : Nat} {z0 : State} {ch : Nat} {urgent : Bool} {s : State}
    (hm : 0x30000000000 &&& M = 0x30000000000)
    (hz : Frame M z0 s) : Ends M z0 (execMtrmReqGo ch urgent s) := by
  unfold execMtrmReqGo
  repeat' first
    | with_reducible assumption
    | with_reducible refine effMtrmReqGo_frame hm ?_
    | with_reducible refine live_frame (fun _ _ => ?_) ?_
theorem effMtrmClrcnt_frame {M : Nat} {z0 : State} {s : State} (hm : 0x20000000000 &&& M = 0x20000000000)
    (hz : Frame M z0 s) : Frame M z0 (effMtrmClrcnt s) := by
  unfold effMtrmClrcnt
  repeat' first
    | with_reducible assumption
    | (with_reducible refine frame_lit ?_ ?_; rotate_left; (fail_if_success with_reducible exact Frame.refl _)
                      constructor <;> first | exact fun _ => rfl | exact fun h => absurd (bit_of_sub hm h) (by decide))
    | with_reducible refine frame_ite (fun _ => ?_) (fun _ => ?_)
    | with_reducible refine modMtrm_frame hm ?_
    | split
theorem execMtrmClrcnt_frame {M : Nat} {z0 : State} {s : State} (hm : 0x20000000000 &&& M = 0x20000000000)
    (hz : Frame M z0 s) : Ends M z0 (execMtrmClrcnt s) := by
  unfold execMtrmClrcnt
  repeat' first
    | with_reducible assumption
    | with_reducible refine effMtrmClrcnt_frame hm ?_
    | with_reducible refine live_frame (fun _ _ => ?_) ?_
theorem effMtrmCtlWrite_frame {M : Nat} {z0 : State} {v : Word32} {s : State}
    (hm : 0x70b70000000 &&& M = 0x70b70000000)
    (hz : Frame M z0 s) : Frame M z0 (effMtrmCtlWrite v s) := by
  unfold effMtrmCtlWrite
  repeat' first
    | with_reducible assumption
    | (with_reducible refine frame_lit ?_ ?_; rotate_left; (fail_if_success with_reducible exact Frame.refl _)
                      constructor <;> first | exact fun _ => rfl | exact fun h => absurd (bit_of_sub hm h) (by decide))
    | with_reducible refine frame_ite (fun _ => ?_) (fun _ => ?_)
    | (with_reducible refine effMtrmClrcnt_frame (sub_trans ?_ hm) ?_; decide)
    | (with_reducible refine modMtrm_frame (sub_trans ?_ hm) ?_; decide)
    | (with_reducible refine modMtr_frame (sub_trans ?_ hm) ?_; decide)
    | (with_reducible refine raise_frame (sub_trans ?_ hm) ?_; decide)
    | split
    | dsimp only
theorem execMtrmCtlWrite_frame {M : Nat} {z0 : State} {v : Word32} {s : State}
    (hm : 0x70b70000000 &&& M = 0x70b70000000)
    (hz : Frame M z0 s) : Ends M z0 (execMtrmCtlWrite v s) := by
  unfold execMtrmCtlWrite
  repeat' first
    | with_reducible assumption
    | with_reducible refine effMtrmCtlWrite_frame hm ?_
    | with_reducible refine live_frame (fun _ _ => ?_) ?_
theorem bufferFrame_frame {M : Nat} {z0 : State} {s : State} {bytes : List Byte} {lostBefore : Bool} {ok : Bool}
    (hm : 0x62b70000000 &&& M = 0x62b70000000)
    (hz : Frame M z0 s) : Frame M z0 (bufferFrame s bytes lostBefore ok) := by
  unfold bufferFrame
  repeat' first
    | with_reducible assumption
    | (with_reducible refine frame_lit ?_ ?_; rotate_left; (fail_if_success with_reducible exact Frame.refl _)
                      constructor <;> first | exact fun _ => rfl | exact fun h => absurd (bit_of_sub hm h) (by decide))
    | with_reducible refine frame_ite (fun _ => ?_) (fun _ => ?_)
    | (with_reducible refine modMtrm_frame (sub_trans ?_ hm) ?_; decide)
    | (with_reducible refine raise_frame (sub_trans ?_ hm) ?_; decide)
    | split
    | dsimp only
theorem mirrorFrame_frame {M : Nat} {z0 : State} {s : State} {bytes : List Byte} {ok : Bool}
    (hm : 0x62b70000000 &&& M = 0x62b70000000)
    (hz : Frame M z0 s) : Frame M z0 (mirrorFrame s bytes ok) := by
  unfold mirrorFrame
  repeat' first
    | with_reducible assumption
    | (with_reducible refine frame_lit ?_ ?_; rotate_left; (fail_if_success with_reducible exact Frame.refl _)
                      constructor <;> first | exact fun _ => rfl | exact fun h => absurd (bit_of_sub hm h) (by decide))
    | with_reducible refine frame_ite (fun _ => ?_) (fun _ => ?_)
    | with_reducible refine bufferFrame_frame hm ?_
    | (with_reducible refine raise_frame (sub_trans ?_ hm) ?_; decide)
    | split
    | dsimp only
theorem effMeterFrame_frame {M : Nat} {z0 : State} {bytes : List Byte} {ok : Bool} {s : State}
    (hm : 0x62b70000000 &&& M = 0x62b70000000)
    (hz : Frame M z0 s) : Frame M z0 (effMeterFrame bytes ok s) := by
  unfold effMeterFrame
  repeat' first
    | with_reducible assumption
    | (with_reducible refine frame_lit ?_ ?_; rotate_left; (fail_if_success with_reducible exact Frame.refl _)
                      constructor <;> first | exact fun _ => rfl | exact fun h => absurd (bit_of_sub hm h) (by decide))
    | with_reducible refine frame_ite (fun _ => ?_) (fun _ => ?_)
    | with_reducible refine mirrorFrame_frame hm ?_
    | (with_reducible refine modMtrm_frame (sub_trans ?_ hm) ?_; decide)
    | (with_reducible refine raise_frame (sub_trans ?_ hm) ?_; decide)
    | split
theorem execMeterFrame_frame {M : Nat} {z0 : State} {bytes : List Byte} {ok : Bool} {s : State}
    (hm : 0x62b70000000 &&& M = 0x62b70000000)
    (hz : Frame M z0 s) : Ends M z0 (execMeterFrame bytes ok s) := by
  unfold execMeterFrame
  repeat' first
    | with_reducible assumption
    | with_reducible refine effMeterFrame_frame hm ?_
    | with_reducible refine live_frame (fun _ _ => ?_) ?_
theorem effMeterLinkLoss_frame {M : Nat} {z0 : State} {s : State} (hm : 0x60b70000000 &&& M = 0x60b70000000)
    (hz : Frame M z0 s) : Frame M z0 (effMeterLinkLoss s) := by
  unfold effMeterLinkLoss
  repeat' first
    | with_reducible assumption
    | (with_reducible refine frame_lit ?_ ?_; rotate_left; (fail_if_success with_reducible exact Frame.refl _)
                      constructor <;> first | exact fun _ => rfl | exact fun h => absurd (bit_of_sub hm h) (by decide))
    | with_reducible refine frame_ite (fun _ => ?_) (fun _ => ?_)
    | (with_reducible refine raise_frame (sub_trans ?_ hm) ?_; decide)
    | split
    | dsimp only
theorem execMeterLinkLoss_frame {M : Nat} {z0 : State} {s : State} (hm : 0x60b70000000 &&& M = 0x60b70000000)
    (hz : Frame M z0 s) : Ends M z0 (execMeterLinkLoss s) := by
  unfold execMeterLinkLoss
  repeat' first
    | with_reducible assumption
    | with_reducible refine effMeterLinkLoss_frame hm ?_
    | with_reducible refine live_frame (fun _ _ => ?_) ?_

end Sys2Proof.Machine
end

