-- ==== Sys2Proof/Laws/Touch11.lean ====
section
/-! SUPPORT. Which groups of State the operations of Machine/Pmbus, RegWrite, Bus may touch: each keeps every frame
whose set holds its own. -/

namespace Sys2Proof.Machine

theorem modPmb_frame {M : Nat} {z0 : State} {s : State} {f : Pmb → Pmb} (hm : 0x40000000000 &&& M = 0x40000000000)
    (hz : Frame M z0 s) : Frame M z0 (modPmb s f) := by
  unfold modPmb
  repeat' first
    | with_reducible assumption
    | (with_reducible refine frame_lit ?_ ?_; rotate_left; (fail_if_success with_reducible exact Frame.refl _)
                      constructor <;> first | exact fun _ => rfl | exact fun h => absurd (bit_of_sub hm h) (by decide))
theorem pmbSay_frame {M : Nat} {z0 : State} {ack : Bool} {l : List Byte} {s : State}
    (hm : 0x40000000000 &&& M = 0x40000000000)
    (hz : Frame M z0 s) : Frame M z0 (pmbSay ack l s) := by
  unfold pmbSay
  repeat' first
    | with_reducible assumption
    | (with_reducible refine frame_lit ?_ ?_; rotate_left; (fail_if_success with_reducible exact Frame.refl _)
                      constructor <;> first | exact fun _ => rfl | exact fun h => absurd (bit_of_sub hm h) (by decide))
    | with_reducible refine modPmb_frame hm ?_
theorem pmbus_frame {M : Nat} {z0 : State} {f : State → State} {s : State}
    (hm : 0x40000000000 &&& M = 0x40000000000) (hf : ∀ s, Frame M z0 s → Frame M z0 (f s))
    (hz : Frame M z0 s) : Ends M z0 (pmbus f s) := by
  unfold pmbus
  repeat' first
    | with_reducible assumption
    | with_reducible refine frame_ite (fun _ => ?_) (fun _ => ?_)
    | with_reducible refine hf _ ?_
    | with_reducible refine pmbSay_frame hm ?_
    | with_reducible refine live_frame (fun _ _ => ?_) ?_
    | split
theorem pmbReply_frame {M : Nat} {z0 : State} {code : Nat} {d : List Byte} {s : State}
    (hm : 0x40000000000 &&& M = 0x40000000000)
    (hz : Frame M z0 s) : Frame M z0 (pmbReply code d s) := by
  unfold pmbReply
  repeat' first
    | with_reducible assumption
    | with_reducible refine pmbSay_frame hm ?_
    | dsimp only
theorem pmbRead_frame {M : Nat} {z0 : State} {code : Nat} {data : State → List Byte} {s : State}
    (hm : 0x40000000000 &&& M = 0x40000000000)
    (hz : Frame M z0 s) : Ends M z0 (pmbRead code data s) := by
  unfold pmbRead
  repeat' first
    | with_reducible assumption
    | with_reducible refine pmbReply_frame hm ?_
    | with_reducible refine pmbus_frame hm (fun _ _ => ?_) ?_
theorem pmbWord_frame {M : Nat} {z0 : State} {code : Nat} {f : State → Nat} {s : State}
    (hm : 0x40000000000 &&& M = 0x40000000000)
    (hz : Frame M z0 s) : Ends M z0 (pmbWord code f s) := by
  unfold pmbWord
  repeat' first
    | with_reducible assumption
    | with_reducible refine pmbRead_frame hm ?_
theorem pmbByte_frame {M : Nat} {z0 : State} {code : Nat} {f : State → Nat} {s : State}
    (hm : 0x40000000000 &&& M = 0x40000000000)
    (hz : Frame M z0 s) : Ends M z0 (pmbByte code f s) := by
  unfold pmbByte
  repeat' first
    | with_reducible assumption
    | with_reducible refine pmbRead_frame hm ?_
theorem pmbCml_frame {M : Nat} {z0 : State} {i : Nat} {s : State} (hm : 0x40000000000 &&& M = 0x40000000000)
    (hz : Frame M z0 s) : Frame M z0 (pmbCml i s) := by
  unfold pmbCml
  repeat' first
    | with_reducible assumption
    | (with_reducible refine frame_lit ?_ ?_; rotate_left; (fail_if_success with_reducible exact Frame.refl _)
                      constructor <;> first | exact fun _ => rfl | exact fun h => absurd (bit_of_sub hm h) (by decide))
    | with_reducible refine modPmb_frame hm ?_
    | dsimp only
theorem pmbWrite_frame {M : Nat} {z0 : State} {pecOk : Bool} {f : State → State} {s : State}
    (hm : 0x40000000000 &&& M = 0x40000000000) (hf : ∀ s, Frame M z0 s → Frame M z0 (f s))
    (hz : Frame M z0 s) : Frame M z0 (pmbWrite pecOk f s) := by
  unfold pmbWrite
  repeat' first
    | with_reducible assumption
    | with_reducible refine frame_ite (fun _ => ?_) (fun _ => ?_)
    | with_reducible refine hf _ ?_
    | with_reducible refine pmbCml_frame hm ?_
    | with_reducible refine pmbSay_frame hm ?_
    | split
    | dsimp only
theorem execClearFaults_frame {M : Nat} {z0 : State} {pecOk : Bool} {s : State}
    (hm : 0x40000000001 &&& M = 0x40000000001)
    (hz : Frame M z0 s) : Ends M z0 (execClearFaults pecOk s) := by
  unfold execClearFaults
  repeat' first
    | with_reducible assumption
    | (with_reducible refine frame_lit ?_ ?_; rotate_left; (fail_if_success with_reducible exact Frame.refl _)
                      constructor <;> first | exact fun _ => rfl | exact fun h => absurd (bit_of_sub hm h) (by decide))
    | (with_reducible refine pmbWrite_frame (sub_trans ?_ hm) (fun _ _ => ?_) ?_; decide)
    | (with_reducible refine pmbus_frame (sub_trans ?_ hm) (fun _ _ => ?_) ?_; decide)
    | (with_reducible refine modPmb_frame (sub_trans ?_ hm) ?_; decide)
    | dsimp only
theorem execStatusByte_frame {M : Nat} {z0 : State} {s : State} (hm : 0x40000000000 &&& M = 0x40000000000)
    (hz : Frame M z0 s) : Ends M z0 (execStatusByte s) := by
  unfold execStatusByte
  repeat' first
    | with_reducible assumption
    | with_reducible refine pmbByte_frame hm ?_
theorem execStatusWord_frame {M : Nat} {z0 : State} {s : State} (hm : 0x40000000000 &&& M = 0x40000000000)
    (hz : Frame M z0 s) : Ends M z0 (execStatusWord s) := by
  unfold execStatusWord
  repeat' first
    | with_reducible assumption
    | with_reducible refine pmbWord_frame hm ?_
theorem execStatusInput_frame {M : Nat} {z0 : State} {s : State} (hm : 0x40000000000 &&& M = 0x40000000000)
    (hz : Frame M z0 s) : Ends M z0 (execStatusInput s) := by
  unfold execStatusInput
  repeat' first
    | with_reducible assumption
    | with_reducible refine pmbByte_frame hm ?_
theorem execStatusTemperature_frame {M : Nat} {z0 : State} {s : State} (hm : 0x40000000000 &&& M = 0x40000000000)
    (hz : Frame M z0 s) : Ends M z0 (execStatusTemperature s) := by
  unfold execStatusTemperature
  repeat' first
    | with_reducible assumption
    | with_reducible refine pmbByte_frame hm ?_
theorem execStatusCml_frame {M : Nat} {z0 : State} {s : State} (hm : 0x40000000000 &&& M = 0x40000000000)
    (hz : Frame M z0 s) : Ends M z0 (execStatusCml s) := by
  unfold execStatusCml
  repeat' first
    | with_reducible assumption
    | with_reducible refine pmbByte_frame hm ?_
theorem execStatusMfrSpecific_frame {M : Nat} {z0 : State} {s : State} (hm : 0x40000000000 &&& M = 0x40000000000)
    (hz : Frame M z0 s) : Ends M z0 (execStatusMfrSpecific s) := by
  unfold execStatusMfrSpecific
  repeat' first
    | with_reducible assumption
    | with_reducible refine pmbByte_frame hm ?_
theorem execCapability_frame {M : Nat} {z0 : State} {s : State} (hm : 0x40000000000 &&& M = 0x40000000000)
    (hz : Frame M z0 s) : Ends M z0 (execCapability s) := by
  unfold execCapability
  repeat' first
    | with_reducible assumption
    | with_reducible refine pmbByte_frame hm ?_
theorem execPmbusRevision_frame {M : Nat} {z0 : State} {s : State} (hm : 0x40000000000 &&& M = 0x40000000000)
    (hz : Frame M z0 s) : Ends M z0 (execPmbusRevision s) := by
  unfold execPmbusRevision
  repeat' first
    | with_reducible assumption
    | with_reducible refine pmbByte_frame hm ?_
theorem execMfrId_frame {M : Nat} {z0 : State} {s : State} (hm : 0x40000000000 &&& M = 0x40000000000)
    (hz : Frame M z0 s) : Ends M z0 (execMfrId s) := by
  unfold execMfrId
  repeat' first
    | with_reducible assumption
    | with_reducible refine pmbRead_frame hm ?_
theorem execMfrModel_frame {M : Nat} {z0 : State} {s : State} (hm : 0x40000000000 &&& M = 0x40000000000)
    (hz : Frame M z0 s) : Ends M z0 (execMfrModel s) := by
  unfold execMfrModel
  repeat' first
    | with_reducible assumption
    | with_reducible refine pmbRead_frame hm ?_
theorem execOtFaultLimit_frame {M : Nat} {z0 : State} {s : State} (hm : 0x40000000000 &&& M = 0x40000000000)
    (hz : Frame M z0 s) : Ends M z0 (execOtFaultLimit s) := by
  unfold execOtFaultLimit
  repeat' first
    | with_reducible assumption
    | with_reducible refine pmbWord_frame hm ?_
theorem execOtWarnLimit_frame {M : Nat} {z0 : State} {s : State} (hm : 0x40000000000 &&& M = 0x40000000000)
    (hz : Frame M z0 s) : Ends M z0 (execOtWarnLimit s) := by
  unfold execOtWarnLimit
  repeat' first
    | with_reducible assumption
    | with_reducible refine pmbWord_frame hm ?_
theorem execVinOvFaultLimit_frame {M : Nat} {z0 : State} {s : State} (hm : 0x40000000000 &&& M = 0x40000000000)
    (hz : Frame M z0 s) : Ends M z0 (execVinOvFaultLimit s) := by
  unfold execVinOvFaultLimit
  repeat' first
    | with_reducible assumption
    | with_reducible refine pmbWord_frame hm ?_
theorem execIinOcFaultLimit_frame {M : Nat} {z0 : State} {s : State} (hm : 0x40000000000 &&& M = 0x40000000000)
    (hz : Frame M z0 s) : Ends M z0 (execIinOcFaultLimit s) := by
  unfold execIinOcFaultLimit
  repeat' first
    | with_reducible assumption
    | with_reducible refine pmbWord_frame hm ?_
theorem execPinOpWarnLimit_frame {M : Nat} {z0 : State} {s : State} (hm : 0x40000000000 &&& M = 0x40000000000)
    (hz : Frame M z0 s) : Ends M z0 (execPinOpWarnLimit s) := by
  unfold execPinOpWarnLimit
  repeat' first
    | with_reducible assumption
    | with_reducible refine pmbWord_frame hm ?_
theorem execReadVin_frame {M : Nat} {z0 : State} {s : State} (hm : 0x40000000000 &&& M = 0x40000000000)
    (hz : Frame M z0 s) : Ends M z0 (execReadVin s) := by
  unfold execReadVin
  repeat' first
    | with_reducible assumption
    | with_reducible refine pmbWord_frame hm ?_
theorem execReadIin_frame {M : Nat} {z0 : State} {s : State} (hm : 0x40000000000 &&& M = 0x40000000000)
    (hz : Frame M z0 s) : Ends M z0 (execReadIin s) := by
  unfold execReadIin
  repeat' first
    | with_reducible assumption
    | with_reducible refine pmbWord_frame hm ?_
theorem execReadTemperature1_frame {M : Nat} {z0 : State} {s : State} (hm : 0x40000000000 &&& M = 0x40000000000)
    (hz : Frame M z0 s) : Ends M z0 (execReadTemperature1 s) := by
  unfold execReadTemperature1
  repeat' first
    | with_reducible assumption
    | with_reducible refine pmbWord_frame hm ?_
theorem execReadPin_frame {M : Nat} {z0 : State} {s : State} (hm : 0x40000000000 &&& M = 0x40000000000)
    (hz : Frame M z0 s) : Ends M z0 (execReadPin s) := by
  unfold execReadPin
  repeat' first
    | with_reducible assumption
    | with_reducible refine pmbWord_frame hm ?_
theorem setVinlo_frame {M : Nat} {z0 : State} {s : State} {x : Int} (hm : 0x8000000 &&& M = 0x8000000)
    (hz : Frame M z0 s) : Frame M z0 (setVinlo s x) := by
  unfold setVinlo
  repeat' first
    | with_reducible assumption
    | (with_reducible refine frame_lit ?_ ?_; rotate_left; (fail_if_success with_reducible exact Frame.refl _)
                      constructor <;> first | exact fun _ => rfl | exact fun h => absurd (bit_of_sub hm h) (by decide))
theorem setVindip_frame {M : Nat} {z0 : State} {s : State} {x : Int} (hm : 0x8000000 &&& M = 0x8000000)
    (hz : Frame M z0 s) : Frame M z0 (setVindip s x) := by
  unfold setVindip
  repeat' first
    | with_reducible assumption
    | (with_reducible refine frame_lit ?_ ?_; rotate_left; (fail_if_success with_reducible exact Frame.refl _)
                      constructor <;> first | exact fun _ => rfl | exact fun h => absurd (bit_of_sub hm h) (by decide))
theorem setVinhi_frame {M : Nat} {z0 : State} {s : State} {x : Int} (hm : 0x8000000 &&& M = 0x8000000)
    (hz : Frame M z0 s) : Frame M z0 (setVinhi s x) := by
  unfold setVinhi
  repeat' first
    | with_reducible assumption
    | (with_reducible refine frame_lit ?_ ?_; rotate_left; (fail_if_success with_reducible exact Frame.refl _)
                      constructor <;> first | exact fun _ => rfl | exact fun h => absurd (bit_of_sub hm h) (by decide))
theorem pmbLimit_frame {M : Nat} {z0 : State} {code : Nat} {get : State → Nat} {set : State → Int → State}
    {w : Option Nat} {pecOk : Bool} {s : State} (hm : 0x40000000000 &&& M = 0x40000000000)
        (hset : ∀ s x, Frame M z0 s → Frame M z0 (set s x))
    (hz : Frame M z0 s) : Ends M z0 (pmbLimit code get set w pecOk s) := by
  unfold pmbLimit
  repeat' first
    | with_reducible assumption
    | with_reducible refine hset _ _ ?_
    | with_reducible refine pmbWrite_frame hm (fun _ _ => ?_) ?_
    | with_reducible refine pmbWord_frame hm ?_
    | with_reducible refine pmbus_frame hm (fun _ _ => ?_) ?_
    | split
theorem execVinOvWarnLimit_frame {M : Nat} {z0 : State} {w : Option Nat} {pecOk : Bool} {s : State}
    (hm : 0x40008000000 &&& M = 0x40008000000)
    (hz : Frame M z0 s) : Ends M z0 (execVinOvWarnLimit w pecOk s) := by
  unfold execVinOvWarnLimit
  repeat' first
    | with_reducible assumption
    | (with_reducible refine pmbLimit_frame (sub_trans ?_ hm) (fun _ _ _ => ?_) ?_; decide)
    | (with_reducible refine setVinhi_frame (sub_trans ?_ hm) ?_; decide)
theorem execVinUvWarnLimit_frame {M : Nat} {z0 : State} {w : Option Nat} {pecOk : Bool} {s : State}
    (hm : 0x40008000000 &&& M = 0x40008000000)
    (hz : Frame M z0 s) : Ends M z0 (execVinUvWarnLimit w pecOk s) := by
  unfold execVinUvWarnLimit
  repeat' first
    | with_reducible assumption
    | (with_reducible refine pmbLimit_frame (sub_trans ?_ hm) (fun _ _ _ => ?_) ?_; decide)
    | (with_reducible refine setVinlo_frame (sub_trans ?_ hm) ?_; decide)
theorem execVinUvFaultLimit_frame {M : Nat} {z0 : State} {w : Option Nat} {pecOk : Bool} {s : State}
    (hm : 0x40008000000 &&& M = 0x40008000000)
    (hz : Frame M z0 s) : Ends M z0 (execVinUvFaultLimit w pecOk s) := by
  unfold execVinUvFaultLimit
  repeat' first
    | with_reducible assumption
    | (with_reducible refine pmbLimit_frame (sub_trans ?_ hm) (fun _ _ _ => ?_) ?_; decide)
    | (with_reducible refine setVindip_frame (sub_trans ?_ hm) ?_; decide)
theorem execAlertResponse_frame {M : Nat} {z0 : State} {s : State} (hm : 0x40000000000 &&& M = 0x40000000000)
    (hz : Frame M z0 s) : Ends M z0 (execAlertResponse s) := by
  unfold execAlertResponse
  repeat' first
    | with_reducible assumption
    | (with_reducible refine frame_lit ?_ ?_; rotate_left; (fail_if_success with_reducible exact Frame.refl _)
                      constructor <;> first | exact fun _ => rfl | exact fun h => absurd (bit_of_sub hm h) (by decide))
    | with_reducible refine frame_ite (fun _ => ?_) (fun _ => ?_)
    | with_reducible refine pmbSay_frame hm ?_
    | with_reducible refine modPmb_frame hm ?_
    | with_reducible refine live_frame (fun _ _ => ?_) ?_
    | split
    | dsimp only
theorem execPmbusUnsupported_frame {M : Nat} {z0 : State} {code : Nat} {rd : Option Nat} {pecOk : Bool} {s : State}
    (hm : 0x40000000000 &&& M = 0x40000000000)
    (hz : Frame M z0 s) : Ends M z0 (execPmbusUnsupported code rd pecOk s) := by
  unfold execPmbusUnsupported
  repeat' first
    | with_reducible assumption
    | with_reducible refine pmbWrite_frame hm (fun _ _ => ?_) ?_
    | with_reducible refine pmbCml_frame hm ?_
    | with_reducible refine pmbReply_frame hm ?_
    | with_reducible refine pmbus_frame hm (fun _ _ => ?_) ?_
    | split
theorem after_frame {M : Nat} {z0 : State} {s : State} {f : State → Out} (hf : ∀ s, Frame M z0 s → Ends M z0 (f s))
    (hz : Frame M z0 s) : Frame M z0 (after s f) := by
  obtain ⟨t, e, k⟩ := hf s hz
  simp only [after, e]
  exact k
theorem whenBit_frame {M : Nat} {z0 : State} {v : Nat} {i : Nat} {f : State → Out} {s : State}
    (hf : ∀ s, Frame M z0 s → Ends M z0 (f s))
    (hz : Frame M z0 s) : Frame M z0 (whenBit v i f s) := by
  unfold whenBit
  repeat' first
    | with_reducible assumption
    | with_reducible refine frame_ite (fun _ => ?_) (fun _ => ?_)
    | with_reducible refine hf _ ?_
    | with_reducible refine after_frame (fun _ _ => ?_) ?_
    | split
theorem setIf_frame {M : Nat} {z0 : State} {c : Bool} {f : State → State} {s : State}
    (hf : ∀ s, Frame M z0 s → Frame M z0 (f s))
    (hz : Frame M z0 s) : Frame M z0 (setIf c f s) := by
  unfold setIf
  repeat' first
    | with_reducible assumption
    | with_reducible refine frame_ite (fun _ => ?_) (fun _ => ?_)
    | with_reducible refine hf _ ?_
    | split
theorem writeRst_frame {M : Nat} {z0 : State} {s : State} {o : Nat} {v : Nat}
    (hm : 0xaffe4897dfecff8 &&& M = 0xaffe4897dfecff8)
    (hz : Frame M z0 s) : Frame M z0 (writeRst s o v) := by
  unfold writeRst
  repeat' first
    | with_reducible assumption
    | (with_reducible refine frame_lit ?_ ?_; rotate_left; (fail_if_success with_reducible exact Frame.refl _)
                      constructor <;> first | exact fun _ => rfl | exact fun h => absurd (bit_of_sub hm h) (by decide))
    | with_reducible refine frame_ite (fun _ => ?_) (fun _ => ?_)
    | with_reducible refine whenBit_frame (fun _ _ => ?_) ?_
    | (with_reducible refine execRstClrcnt_frame (sub_trans ?_ hm) ?_; decide)
    | with_reducible refine resetRequest_frame hm ?_
    | (with_reducible refine rstRefuse_frame (sub_trans ?_ hm) ?_; decide)
    | (with_reducible refine modRst_frame (sub_trans ?_ hm) ?_; decide)
    | split
    | dsimp only
theorem writeGlobal_frame {M : Nat} {z0 : State} {s : State} {o : Nat} {v : Nat}
    (hm : 0xaffe4c97dfecff8 &&& M = 0xaffe4c97dfecff8)
    (hz : Frame M z0 s) : Frame M z0 (writeGlobal s o v) := by
  unfold writeGlobal
  repeat' first
    | with_reducible assumption
    | (with_reducible refine frame_lit ?_ ?_; rotate_left; (fail_if_success with_reducible exact Frame.refl _)
                      constructor <;> first | exact fun _ => rfl | exact fun h => absurd (bit_of_sub hm h) (by decide))
    | (with_reducible refine writeRst_frame (sub_trans ?_ hm) ?_; decide)
    | with_reducible refine setIf_frame (fun _ _ => ?_) ?_
    | with_reducible refine whenBit_frame (fun _ _ => ?_) ?_
    | (with_reducible refine execCal_frame (sub_trans ?_ hm) ?_; decide)
    | (with_reducible refine execTopo_frame (sub_trans ?_ hm) ?_; decide)
    | (with_reducible refine execBer_frame (sub_trans ?_ hm) ?_; decide)
    | (with_reducible refine execTrain_frame (sub_trans ?_ hm) ?_; decide)
    | (with_reducible refine modBu_frame (sub_trans ?_ hm) ?_; decide)
    | split
theorem writeCmd_frame {M : Nat} {z0 : State} {s : State} {o : Nat} {v : Nat}
    (hm : 0x2000000000000 &&& M = 0x2000000000000)
    (hz : Frame M z0 s) : Frame M z0 (writeCmd s o v) := by
  unfold writeCmd
  repeat' first
    | with_reducible assumption
    | (with_reducible refine frame_lit ?_ ?_; rotate_left; (fail_if_success with_reducible exact Frame.refl _)
                      constructor <;> first | exact fun _ => rfl | exact fun h => absurd (bit_of_sub hm h) (by decide))
    | with_reducible refine whenBit_frame (fun _ _ => ?_) ?_
    | with_reducible refine execCmdwClrcnt_frame hm ?_
    | with_reducible refine execCommandGo_frame hm ?_
    | split
    | dsimp only
theorem writeDomReg_frame {M : Nat} {z0 : State} {s : State} {o : Nat} {v : Nat} (hm : 0xc000 &&& M = 0xc000)
    (hz : Frame M z0 s) : Frame M z0 (writeDomReg s o v) := by
  unfold writeDomReg
  repeat' first
    | with_reducible assumption
    | (with_reducible refine frame_lit ?_ ?_; rotate_left; (fail_if_success with_reducible exact Frame.refl _)
                      constructor <;> first | exact fun _ => rfl | exact fun h => absurd (bit_of_sub hm h) (by decide))
    | with_reducible refine frame_ite (fun _ => ?_) (fun _ => ?_)
    | with_reducible refine whenBit_frame (fun _ _ => ?_) ?_
    | (with_reducible refine execDomSpstatClrcnt_frame (sub_trans ?_ hm) ?_; decide)
    | (with_reducible refine modGw_frame (sub_trans ?_ hm) ?_; decide)
    | (with_reducible refine modSp_frame (sub_trans ?_ hm) ?_; decide)
    | split
theorem writeShf_frame {M : Nat} {z0 : State} {s : State} {d : Nat} {o : Nat} {v : Nat}
    (hm : 0x8000000000280 &&& M = 0x8000000000280)
    (hz : Frame M z0 s) : Frame M z0 (writeShf s d o v) := by
  unfold writeShf
  repeat' first
    | with_reducible assumption
    | (with_reducible refine frame_lit ?_ ?_; rotate_left; (fail_if_success with_reducible exact Frame.refl _)
                      constructor <;> first | exact fun _ => rfl | exact fun h => absurd (bit_of_sub hm h) (by decide))
    | with_reducible refine frame_ite (fun _ => ?_) (fun _ => ?_)
    | with_reducible refine setIf_frame (fun _ _ => ?_) ?_
    | with_reducible refine whenBit_frame (fun _ _ => ?_) ?_
    | (with_reducible refine execShfMtstatClrcnt_frame (sub_trans ?_ hm) ?_; decide)
    | (with_reducible refine execLatchClear_frame (sub_trans ?_ hm) ?_; decide)
    | (with_reducible refine effShfCfgWrite_frame (sub_trans ?_ hm) ?_; decide)
    | (with_reducible refine modShr_frame (sub_trans ?_ hm) ?_; decide)
    | (with_reducible refine modShf_frame (sub_trans ?_ hm) ?_; decide)
    | split
theorem writeSwref_frame {M : Nat} {z0 : State} {s : State} {o : Nat} {v : Nat} (hm : 0x3000 &&& M = 0x3000)
    (hz : Frame M z0 s) : Frame M z0 (writeSwref s o v) := by
  unfold writeSwref
  repeat' first
    | with_reducible assumption
    | (with_reducible refine frame_lit ?_ ?_; rotate_left; (fail_if_success with_reducible exact Frame.refl _)
                      constructor <;> first | exact fun _ => rfl | exact fun h => absurd (bit_of_sub hm h) (by decide))
    | with_reducible refine whenBit_frame (fun _ _ => ?_) ?_
    | (with_reducible refine execFallbkClear_frame (sub_trans ?_ hm) ?_; decide)
    | split
theorem writePh_frame {M : Nat} {z0 : State} {s : State} {p : Nat} {o : Nat} {v : Nat}
    (hm : 0x8804409f522cf98 &&& M = 0x8804409f522cf98)
    (hz : Frame M z0 s) : Frame M z0 (writePh s p o v) := by
  unfold writePh
  repeat' first
    | with_reducible assumption
    | with_reducible refine frame_ite (fun _ => ?_) (fun _ => ?_)
    | with_reducible refine whenBit_frame (fun _ _ => ?_) ?_
    | with_reducible refine after_frame (fun _ _ => ?_) ?_
    | (with_reducible refine execPhClrcnt_frame (sub_trans ?_ hm) ?_; decide)
    | with_reducible refine execReadmit_frame hm ?_
    | with_reducible refine execPhExclude_frame hm ?_
    | split
    | dsimp only
theorem writeSeq_frame {M : Nat} {z0 : State} {s : State} {o : Nat} {v : Nat}
    (hm : 0x600000000000 &&& M = 0x600000000000)
    (hz : Frame M z0 s) : Frame M z0 (writeSeq s o v) := by
  unfold writeSeq
  repeat' first
    | with_reducible assumption
    | (with_reducible refine frame_lit ?_ ?_; rotate_left; (fail_if_success with_reducible exact Frame.refl _)
                      constructor <;> first | exact fun _ => rfl | exact fun h => absurd (bit_of_sub hm h) (by decide))
    | with_reducible refine frame_ite (fun _ => ?_) (fun _ => ?_)
    | with_reducible refine whenBit_frame (fun _ _ => ?_) ?_
    | (with_reducible refine execSeqLaneOvrClear_frame (sub_trans ?_ hm) ?_; decide)
    | (with_reducible refine execSeqTrkClrcnt_frame (sub_trans ?_ hm) ?_; decide)
    | split
theorem writeTime_frame {M : Nat} {z0 : State} {s : State} {o : Nat} {v : Nat} (hm : 0x340000 &&& M = 0x340000)
    (hz : Frame M z0 s) : Frame M z0 (writeTime s o v) := by
  unfold writeTime
  repeat' first
    | with_reducible assumption
    | (with_reducible refine frame_lit ?_ ?_; rotate_left; (fail_if_success with_reducible exact Frame.refl _)
                      constructor <;> first | exact fun _ => rfl | exact fun h => absurd (bit_of_sub hm h) (by decide))
    | with_reducible refine frame_ite (fun _ => ?_) (fun _ => ?_)
    | with_reducible refine whenBit_frame (fun _ _ => ?_) ?_
    | (with_reducible refine execSeqNdomClrcnt_frame (sub_trans ?_ hm) ?_; decide)
    | (with_reducible refine execSeqNstatClrcnt_frame (sub_trans ?_ hm) ?_; decide)
    | (with_reducible refine execSeqTstatClrcnt_frame (sub_trans ?_ hm) ?_; decide)
    | split
    | dsimp only
theorem writeExact_frame {M : Nat} {z0 : State} {s : State} {o : Nat} {v : Nat}
    (hm : 0x80000000000000 &&& M = 0x80000000000000)
    (hz : Frame M z0 s) : Frame M z0 (writeExact s o v) := by
  unfold writeExact
  repeat' first
    | with_reducible assumption
    | (with_reducible refine frame_lit ?_ ?_; rotate_left; (fail_if_success with_reducible exact Frame.refl _)
                      constructor <;> first | exact fun _ => rfl | exact fun h => absurd (bit_of_sub hm h) (by decide))
    | with_reducible refine whenBit_frame (fun _ _ => ?_) ?_
    | with_reducible refine execSeqXstatClrcnt_frame hm ?_
    | split
    | dsimp only
theorem loopBit_frame {M : Nat} {z0 : State} {v : Nat} {k : Fin 5} {on : State → Bool} {set : State → State}
    {s : State} (hm : 0x20000000000000 &&& M = 0x20000000000000) (hset : ∀ s, Frame M z0 s → Frame M z0 (set s))
    (hz : Frame M z0 s) : Frame M z0 (loopBit v k on set s) := by
  unfold loopBit
  repeat' first
    | with_reducible assumption
    | with_reducible refine frame_ite (fun _ => ?_) (fun _ => ?_)
    | with_reducible refine hset _ ?_
    | with_reducible refine after_frame (fun _ _ => ?_) ?_
    | with_reducible refine execLoopDisable_frame hm ?_
    | split
theorem writeLoopCtl_frame {M : Nat} {z0 : State} {s : State} {v : Nat}
    (hm : 0x20000000000000 &&& M = 0x20000000000000)
    (hz : Frame M z0 s) : Frame M z0 (writeLoopCtl s v) := by
  unfold writeLoopCtl
  repeat' first
    | with_reducible assumption
    | (with_reducible refine frame_lit ?_ ?_; rotate_left; (fail_if_success with_reducible exact Frame.refl _)
                      constructor <;> first | exact fun _ => rfl | exact fun h => absurd (bit_of_sub hm h) (by decide))
    | with_reducible refine loopBit_frame hm (fun _ _ => ?_) ?_
    | dsimp only
theorem writeBudCtl_frame {M : Nat} {z0 : State} {s : State} {v : Nat}
    (hm : 0x20000000000000 &&& M = 0x20000000000000)
    (hz : Frame M z0 s) : Frame M z0 (writeBudCtl s v) := by
  unfold writeBudCtl
  repeat' first
    | with_reducible assumption
    | (with_reducible refine frame_lit ?_ ?_; rotate_left; (fail_if_success with_reducible exact Frame.refl _)
                      constructor <;> first | exact fun _ => rfl | exact fun h => absurd (bit_of_sub hm h) (by decide))
    | with_reducible refine frame_ite (fun _ => ?_) (fun _ => ?_)
    | with_reducible refine selectAll_frame hm ?_
    | split
    | dsimp only
theorem writeLoop_frame {M : Nat} {z0 : State} {s : State} {o : Nat} {v : Nat}
    (hm : 0x20000000000000 &&& M = 0x20000000000000)
    (hz : Frame M z0 s) : Frame M z0 (writeLoop s o v) := by
  unfold writeLoop
  repeat' first
    | with_reducible assumption
    | (with_reducible refine frame_lit ?_ ?_; rotate_left; (fail_if_success with_reducible exact Frame.refl _)
                      constructor <;> first | exact fun _ => rfl | exact fun h => absurd (bit_of_sub hm h) (by decide))
    | with_reducible refine writeBudCtl_frame hm ?_
    | with_reducible refine writeLoopCtl_frame hm ?_
    | with_reducible refine setIf_frame (fun _ _ => ?_) ?_
    | split
theorem writeEst_frame {M : Nat} {z0 : State} {s : State} {o : Nat} {v : Nat} (hm : 0x2001800000 &&& M = 0x2001800000)
    (hz : Frame M z0 s) : Frame M z0 (writeEst s o v) := by
  unfold writeEst
  repeat' first
    | with_reducible assumption
    | (with_reducible refine frame_lit ?_ ?_; rotate_left; (fail_if_success with_reducible exact Frame.refl _)
                      constructor <;> first | exact fun _ => rfl | exact fun h => absurd (bit_of_sub hm h) (by decide))
    | with_reducible refine frame_ite (fun _ => ?_) (fun _ => ?_)
    | with_reducible refine whenBit_frame (fun _ _ => ?_) ?_
    | (with_reducible refine execEstClrcnt_frame (sub_trans ?_ hm) ?_; decide)
    | (with_reducible refine modEstd_frame (sub_trans ?_ hm) ?_; decide)
    | split
theorem writeTel_frame {M : Nat} {z0 : State} {s : State} {o : Nat} {v : Nat}
    (hm : 0x40000000000000 &&& M = 0x40000000000000)
    (hz : Frame M z0 s) : Frame M z0 (writeTel s o v) := by
  unfold writeTel
  repeat' first
    | with_reducible assumption
    | (with_reducible refine frame_lit ?_ ?_; rotate_left; (fail_if_success with_reducible exact Frame.refl _)
                      constructor <;> first | exact fun _ => rfl | exact fun h => absurd (bit_of_sub hm h) (by decide))
    | with_reducible refine frame_ite (fun _ => ?_) (fun _ => ?_)
    | with_reducible refine setIf_frame (fun _ _ => ?_) ?_
    | with_reducible refine whenBit_frame (fun _ _ => ?_) ?_
    | with_reducible refine execTelClrcnt_frame hm ?_
    | with_reducible refine telRestart_frame hm ?_
    | split
    | dsimp only
theorem writeProt_frame {M : Nat} {z0 : State} {s : State} {o : Nat} {v : Nat} (hm : 0xc000000 &&& M = 0xc000000)
    (hz : Frame M z0 s) : Frame M z0 (writeProt s o v) := by
  unfold writeProt
  repeat' first
    | with_reducible assumption
    | (with_reducible refine frame_lit ?_ ?_; rotate_left; (fail_if_success with_reducible exact Frame.refl _)
                      constructor <;> first | exact fun _ => rfl | exact fun h => absurd (bit_of_sub hm h) (by decide))
    | with_reducible refine frame_ite (fun _ => ?_) (fun _ => ?_)
    | with_reducible refine whenBit_frame (fun _ _ => ?_) ?_
    | (with_reducible refine setVinhi_frame (sub_trans ?_ hm) ?_; decide)
    | (with_reducible refine setVindip_frame (sub_trans ?_ hm) ?_; decide)
    | (with_reducible refine setVinlo_frame (sub_trans ?_ hm) ?_; decide)
    | (with_reducible refine execProtClrcnt_frame (sub_trans ?_ hm) ?_; decide)
    | (with_reducible refine execOvlatchClear_frame (sub_trans ?_ hm) ?_; decide)
    | (with_reducible refine execVbkillClear_frame (sub_trans ?_ hm) ?_; decide)
    | (with_reducible refine execShutdnClear_frame (sub_trans ?_ hm) ?_; decide)
    | (with_reducible refine execCoolantClear_frame (sub_trans ?_ hm) ?_; decide)
    | split
theorem writeFlt_frame {M : Nat} {z0 : State} {s : State} {b : Fin 10} {o : Nat} {v : Nat}
    (hm : 0x10000000 &&& M = 0x10000000)
    (hz : Frame M z0 s) : Frame M z0 (writeFlt s b o v) := by
  unfold writeFlt
  repeat' first
    | with_reducible assumption
    | (with_reducible refine frame_lit ?_ ?_; rotate_left; (fail_if_success with_reducible exact Frame.refl _)
                      constructor <;> first | exact fun _ => rfl | exact fun h => absurd (bit_of_sub hm h) (by decide))
    | with_reducible refine setIf_frame (fun _ _ => ?_) ?_
    | with_reducible refine whenBit_frame (fun _ _ => ?_) ?_
    | with_reducible refine after_frame (fun _ _ => ?_) ?_
    | with_reducible refine execHclr_frame hm ?_
    | with_reducible refine execHset_frame hm ?_
    | with_reducible refine execHandlingClear_frame hm ?_
    | with_reducible refine execFaultStatClear_frame hm ?_
    | with_reducible refine modFlt_frame hm ?_
    | split
theorem writeSilo_frame {M : Nat} {z0 : State} {s : State} {o : Nat} {v : Nat} (hm : 0x60000000 &&& M = 0x60000000)
    (hz : Frame M z0 s) : Frame M z0 (writeSilo s o v) := by
  unfold writeSilo
  repeat' first
    | with_reducible assumption
    | (with_reducible refine frame_lit ?_ ?_; rotate_left; (fail_if_success with_reducible exact Frame.refl _)
                      constructor <;> first | exact fun _ => rfl | exact fun h => absurd (bit_of_sub hm h) (by decide))
    | with_reducible refine whenBit_frame (fun _ _ => ?_) ?_
    | (with_reducible refine execSiloClrcnt_frame (sub_trans ?_ hm) ?_; decide)
    | split
theorem writeJob_frame {M : Nat} {z0 : State} {s : State} {o : Nat} {v : Nat}
    (hm : 0x200000000000000 &&& M = 0x200000000000000)
    (hz : Frame M z0 s) : Frame M z0 (writeJob s o v) := by
  unfold writeJob
  repeat' first
    | with_reducible assumption
    | (with_reducible refine frame_lit ?_ ?_; rotate_left; (fail_if_success with_reducible exact Frame.refl _)
                      constructor <;> first | exact fun _ => rfl | exact fun h => absurd (bit_of_sub hm h) (by decide))
    | with_reducible refine frame_ite (fun _ => ?_) (fun _ => ?_)
    | with_reducible refine modGran_frame hm ?_
    | split
    | dsimp only
theorem writeGran_frame {M : Nat} {z0 : State} {s : State} {o : Nat} {v : Nat}
    (hm : 0x200000000000000 &&& M = 0x200000000000000)
    (hz : Frame M z0 s) : Frame M z0 (writeGran s o v) := by
  unfold writeGran
  repeat' first
    | with_reducible assumption
    | (with_reducible refine frame_lit ?_ ?_; rotate_left; (fail_if_success with_reducible exact Frame.refl _)
                      constructor <;> first | exact fun _ => rfl | exact fun h => absurd (bit_of_sub hm h) (by decide))
    | with_reducible refine frame_ite (fun _ => ?_) (fun _ => ?_)
    | with_reducible refine whenBit_frame (fun _ _ => ?_) ?_
    | with_reducible refine execGranDivClear_frame hm ?_
    | with_reducible refine modGran_frame hm ?_
    | split
theorem writeSide_frame {M : Nat} {z0 : State} {s : State} {o : Nat} {v : Nat}
    (hm : 0x200040970000000 &&& M = 0x200040970000000)
    (hz : Frame M z0 s) : Frame M z0 (writeSide s o v) := by
  unfold writeSide
  repeat' first
    | with_reducible assumption
    | (with_reducible refine frame_lit ?_ ?_; rotate_left; (fail_if_success with_reducible exact Frame.refl _)
                      constructor <;> first | exact fun _ => rfl | exact fun h => absurd (bit_of_sub hm h) (by decide))
    | with_reducible refine frame_ite (fun _ => ?_) (fun _ => ?_)
    | (with_reducible refine writeGran_frame (sub_trans ?_ hm) ?_; decide)
    | (with_reducible refine writeJob_frame (sub_trans ?_ hm) ?_; decide)
    | with_reducible refine setIf_frame (fun _ _ => ?_) ?_
    | with_reducible refine whenBit_frame (fun _ _ => ?_) ?_
    | (with_reducible refine execSideClrcnt_frame (sub_trans ?_ hm) ?_; decide)
    | with_reducible refine execDistStart_frame hm ?_
    | (with_reducible refine modDist_frame (sub_trans ?_ hm) ?_; decide)
    | split
theorem writeEpp_frame {M : Nat} {z0 : State} {s : State} {c : Fin 16} {o : Nat} {v : Nat}
    (hm : 0x8804409f520cf9c &&& M = 0x8804409f520cf9c)
    (hz : Frame M z0 s) : Frame M z0 (writeEpp s c o v) := by
  unfold writeEpp
  repeat' first
    | with_reducible assumption
    | (with_reducible refine frame_lit ?_ ?_; rotate_left; (fail_if_success with_reducible exact Frame.refl _)
                      constructor <;> first | exact fun _ => rfl | exact fun h => absurd (bit_of_sub hm h) (by decide))
    | with_reducible refine whenBit_frame (fun _ _ => ?_) ?_
    | (with_reducible refine execEppClrcnt_frame (sub_trans ?_ hm) ?_; decide)
    | with_reducible refine effEppEnWrite_frame hm ?_
    | (with_reducible refine modEpp_frame (sub_trans ?_ hm) ?_; decide)
    | split
theorem writeBm_frame {M : Nat} {z0 : State} {s : State} {m : Fin 4} {o : Nat} {v : Nat}
    (hm : 0x80044097522cf92 &&& M = 0x80044097522cf92)
    (hz : Frame M z0 s) : Frame M z0 (writeBm s m o v) := by
  unfold writeBm
  repeat' first
    | with_reducible assumption
    | (with_reducible refine frame_lit ?_ ?_; rotate_left; (fail_if_success with_reducible exact Frame.refl _)
                      constructor <;> first | exact fun _ => rfl | exact fun h => absurd (bit_of_sub hm h) (by decide))
    | with_reducible refine whenBit_frame (fun _ _ => ?_) ?_
    | (with_reducible refine execBmClrcnt_frame (sub_trans ?_ hm) ?_; decide)
    | with_reducible refine effBmModeOff_frame hm ?_
    | with_reducible refine effBmModePilot_frame hm ?_
    | (with_reducible refine effBmModeRun_frame (sub_trans ?_ hm) ?_; decide)
    | (with_reducible refine modBm_frame (sub_trans ?_ hm) ?_; decide)
    | split
    | dsimp only
theorem writePower_frame {M : Nat} {z0 : State} {s : State} {o : Nat} {v : Nat}
    (hm : 0x8804409f522cf9f &&& M = 0x8804409f522cf9f)
    (hz : Frame M z0 s) : Frame M z0 (writePower s o v) := by
  unfold writePower
  repeat' first
    | with_reducible assumption
    | with_reducible refine frame_ite (fun _ => ?_) (fun _ => ?_)
    | (with_reducible refine writeBm_frame (sub_trans ?_ hm) ?_; decide)
    | (with_reducible refine writeEpp_frame (sub_trans ?_ hm) ?_; decide)
    | with_reducible refine whenBit_frame (fun _ _ => ?_) ?_
    | (with_reducible refine execClrmm_frame (sub_trans ?_ hm) ?_; decide)
    | split
theorem writeMtrm_frame {M : Nat} {z0 : State} {s : State} {o : Nat} {v : Nat}
    (hm : 0x70b70000000 &&& M = 0x70b70000000)
    (hz : Frame M z0 s) : Frame M z0 (writeMtrm s o v) := by
  unfold writeMtrm
  repeat' first
    | with_reducible assumption
    | (with_reducible refine frame_lit ?_ ?_; rotate_left; (fail_if_success with_reducible exact Frame.refl _)
                      constructor <;> first | exact fun _ => rfl | exact fun h => absurd (bit_of_sub hm h) (by decide))
    | with_reducible refine frame_ite (fun _ => ?_) (fun _ => ?_)
    | with_reducible refine setIf_frame (fun _ _ => ?_) ?_
    | with_reducible refine after_frame (fun _ _ => ?_) ?_
    | with_reducible refine execMtrmCtlWrite_frame hm ?_
    | (with_reducible refine execMtrmReqGo_frame (sub_trans ?_ hm) ?_; decide)
    | (with_reducible refine modMtrm_frame (sub_trans ?_ hm) ?_; decide)
    | split
theorem writeDbg_frame {M : Nat} {z0 : State} {s : State} {o : Nat} {v : Nat}
    (hm : 0x40d70000000 &&& M = 0x40d70000000)
    (hz : Frame M z0 s) : Frame M z0 (writeDbg s o v) := by
  unfold writeDbg
  repeat' first
    | with_reducible assumption
    | (with_reducible refine frame_lit ?_ ?_; rotate_left; (fail_if_success with_reducible exact Frame.refl _)
                      constructor <;> first | exact fun _ => rfl | exact fun h => absurd (bit_of_sub hm h) (by decide))
    | with_reducible refine frame_ite (fun _ => ?_) (fun _ => ?_)
    | with_reducible refine whenBit_frame (fun _ _ => ?_) ?_
    | (with_reducible refine execInjectStop_frame (sub_trans ?_ hm) ?_; decide)
    | with_reducible refine execInjectGo_frame hm ?_
    | split
theorem writeWord_frame {M : Nat} {z0 : State} {s : State} {o : Nat} {v : Nat}
    (hm : 0xaffe7effdfeffff &&& M = 0xaffe7effdfeffff)
    (hz : Frame M z0 s) : Frame M z0 (writeWord s o v) := by
  unfold writeWord
  repeat' first
    | with_reducible assumption
    | (with_reducible refine frame_lit ?_ ?_; rotate_left; (fail_if_success with_reducible exact Frame.refl _)
                      constructor <;> first | exact fun _ => rfl | exact fun h => absurd (bit_of_sub hm h) (by decide))
    | with_reducible refine frame_ite (fun _ => ?_) (fun _ => ?_)
    | (with_reducible refine writeDbg_frame (sub_trans ?_ hm) ?_; decide)
    | (with_reducible refine writeMtrm_frame (sub_trans ?_ hm) ?_; decide)
    | (with_reducible refine writePower_frame (sub_trans ?_ hm) ?_; decide)
    | (with_reducible refine writeSide_frame (sub_trans ?_ hm) ?_; decide)
    | (with_reducible refine writeSilo_frame (sub_trans ?_ hm) ?_; decide)
    | (with_reducible refine writeFlt_frame (sub_trans ?_ hm) ?_; decide)
    | (with_reducible refine writeProt_frame (sub_trans ?_ hm) ?_; decide)
    | (with_reducible refine writeTel_frame (sub_trans ?_ hm) ?_; decide)
    | (with_reducible refine writeEst_frame (sub_trans ?_ hm) ?_; decide)
    | (with_reducible refine writeLoop_frame (sub_trans ?_ hm) ?_; decide)
    | (with_reducible refine writeExact_frame (sub_trans ?_ hm) ?_; decide)
    | (with_reducible refine writeTime_frame (sub_trans ?_ hm) ?_; decide)
    | (with_reducible refine writeSeq_frame (sub_trans ?_ hm) ?_; decide)
    | (with_reducible refine writePh_frame (sub_trans ?_ hm) ?_; decide)
    | (with_reducible refine writeSwref_frame (sub_trans ?_ hm) ?_; decide)
    | (with_reducible refine writeShf_frame (sub_trans ?_ hm) ?_; decide)
    | (with_reducible refine writeDomReg_frame (sub_trans ?_ hm) ?_; decide)
    | (with_reducible refine writeCmd_frame (sub_trans ?_ hm) ?_; decide)
    | (with_reducible refine writeGlobal_frame (sub_trans ?_ hm) ?_; decide)
    | with_reducible refine after_frame (fun _ _ => ?_) ?_
    | (with_reducible refine execTrackMemoryWrite_frame (sub_trans ?_ hm) ?_; decide)
    | split
theorem writeWide_frame {M : Nat} {z0 : State} {s : State} {o : Nat} {x : Nat}
    (hm : 0xc2020000000000 &&& M = 0xc2020000000000)
    (hz : Frame M z0 s) : Frame M z0 (writeWide s o x) := by
  unfold writeWide
  repeat' first
    | with_reducible assumption
    | (with_reducible refine frame_lit ?_ ?_; rotate_left; (fail_if_success with_reducible exact Frame.refl _)
                      constructor <;> first | exact fun _ => rfl | exact fun h => absurd (bit_of_sub hm h) (by decide))
    | with_reducible refine frame_ite (fun _ => ?_) (fun _ => ?_)
    | (with_reducible refine modMtrm_frame (sub_trans ?_ hm) ?_; decide)
    | split
theorem busWord_frame {M : Nat} {z0 : State} {s : State} {o : Nat} {v : Nat}
    (hm : 0xaffe7effdfeffff &&& M = 0xaffe7effdfeffff)
    (hz : Frame M z0 s) : Frame M z0 (busWord s o v) := by
  unfold busWord
  repeat' first
    | with_reducible assumption
    | with_reducible refine frame_ite (fun _ => ?_) (fun _ => ?_)
    | with_reducible refine writeWord_frame hm ?_
    | split
theorem busWide_frame {M : Nat} {z0 : State} {s : State} {o : Nat} {x : Nat}
    (hm : 0xc2020000000000 &&& M = 0xc2020000000000)
    (hz : Frame M z0 s) : Frame M z0 (busWide s o x) := by
  unfold busWide
  repeat' first
    | with_reducible assumption
    | with_reducible refine frame_ite (fun _ => ?_) (fun _ => ?_)
    | with_reducible refine writeWide_frame hm ?_
    | split
theorem modPath_frame {M : Nat} {z0 : State} {s : State} {p : Path} {f : PathSt → PathSt}
    (hm : 0x100000000000 &&& M = 0x100000000000)
    (hz : Frame M z0 s) : Frame M z0 (modPath s p f) := by
  unfold modPath
  repeat' first
    | with_reducible assumption
    | (with_reducible refine frame_lit ?_ ?_; rotate_left; (fail_if_success with_reducible exact Frame.refl _)
                      constructor <;> first | exact fun _ => rfl | exact fun h => absurd (bit_of_sub hm h) (by decide))
    | split
theorem answer_frame {M : Nat} {z0 : State} {s : State} {p : Path} {x : Word32}
    (hm : 0x100000000000 &&& M = 0x100000000000)
    (hz : Frame M z0 s) : Frame M z0 (answer s p x) := by
  unfold answer
  repeat' first
    | with_reducible assumption
    | (with_reducible refine frame_lit ?_ ?_; rotate_left; (fail_if_success with_reducible exact Frame.refl _)
                      constructor <;> first | exact fun _ => rfl | exact fun h => absurd (bit_of_sub hm h) (by decide))
    | with_reducible refine modPath_frame hm ?_
theorem answerErr_frame {M : Nat} {z0 : State} {s : State} {p : Path} (hm : 0x100000000000 &&& M = 0x100000000000)
    (hz : Frame M z0 s) : Frame M z0 (answerErr s p) := by
  unfold answerErr
  repeat' first
    | with_reducible assumption
    | (with_reducible refine frame_lit ?_ ?_; rotate_left; (fail_if_success with_reducible exact Frame.refl _)
                      constructor <;> first | exact fun _ => rfl | exact fun h => absurd (bit_of_sub hm h) (by decide))
    | with_reducible refine modPath_frame hm ?_
theorem readLoAt_frame {M : Nat} {z0 : State} {p : Path} {o : Nat} {s : State}
    (hm : 0x100000000000 &&& M = 0x100000000000)
    (hz : Frame M z0 s) : Frame M z0 (readLoAt p o s) := by
  unfold readLoAt
  repeat' first
    | with_reducible assumption
    | (with_reducible refine frame_lit ?_ ?_; rotate_left; (fail_if_success with_reducible exact Frame.refl _)
                      constructor <;> first | exact fun _ => rfl | exact fun h => absurd (bit_of_sub hm h) (by decide))
    | with_reducible refine answer_frame hm ?_
    | with_reducible refine modPath_frame hm ?_
theorem readHiAt_frame {M : Nat} {z0 : State} {p : Path} {o : Nat} {s : State}
    (hm : 0x100000000000 &&& M = 0x100000000000)
    (hz : Frame M z0 s) : Frame M z0 (readHiAt p o s) := by
  unfold readHiAt
  repeat' first
    | with_reducible assumption
    | (with_reducible refine frame_lit ?_ ?_; rotate_left; (fail_if_success with_reducible exact Frame.refl _)
                      constructor <;> first | exact fun _ => rfl | exact fun h => absurd (bit_of_sub hm h) (by decide))
    | with_reducible refine answer_frame hm ?_
    | with_reducible refine modPath_frame hm ?_
    | split
theorem writeLoAt_frame {M : Nat} {z0 : State} {p : Path} {o : Nat} {v : Word32} {s : State}
    (hm : 0x100000000000 &&& M = 0x100000000000)
    (hz : Frame M z0 s) : Frame M z0 (writeLoAt p o v s) := by
  unfold writeLoAt
  repeat' first
    | with_reducible assumption
    | (with_reducible refine frame_lit ?_ ?_; rotate_left; (fail_if_success with_reducible exact Frame.refl _)
                      constructor <;> first | exact fun _ => rfl | exact fun h => absurd (bit_of_sub hm h) (by decide))
    | with_reducible refine modPath_frame hm ?_
theorem writeHiAt_frame {M : Nat} {z0 : State} {p : Path} {o : Nat} {v : Word32} {s : State}
    (hm : 0xc2120000000000 &&& M = 0xc2120000000000)
    (hz : Frame M z0 s) : Frame M z0 (writeHiAt p o v s) := by
  unfold writeHiAt
  repeat' first
    | with_reducible assumption
    | (with_reducible refine frame_lit ?_ ?_; rotate_left; (fail_if_success with_reducible exact Frame.refl _)
                      constructor <;> first | exact fun _ => rfl | exact fun h => absurd (bit_of_sub hm h) (by decide))
    | (with_reducible refine modPath_frame (sub_trans ?_ hm) ?_; decide)
    | (with_reducible refine busWide_frame (sub_trans ?_ hm) ?_; decide)
    | dsimp only
theorem readVsns_frame {M : Nat} {z0 : State} {p : Path} {d : Nat} {s : State}
    (hm : 0x100000000000 &&& M = 0x100000000000)
    (hz : Frame M z0 s) : Frame M z0 (readVsns p d s) := by
  unfold readVsns
  repeat' first
    | with_reducible assumption
    | (with_reducible refine frame_lit ?_ ?_; rotate_left; (fail_if_success with_reducible exact Frame.refl _)
                      constructor <;> first | exact fun _ => rfl | exact fun h => absurd (bit_of_sub hm h) (by decide))
    | with_reducible refine answer_frame hm ?_
    | with_reducible refine modPath_frame hm ?_
    | dsimp only
theorem readAt_frame {M : Nat} {z0 : State} {p : Path} {o : Nat} {s : State}
    (hm : 0x100000000000 &&& M = 0x100000000000)
    (hz : Frame M z0 s) : Frame M z0 (readAt p o s) := by
  unfold readAt
  repeat' first
    | with_reducible assumption
    | with_reducible refine frame_ite (fun _ => ?_) (fun _ => ?_)
    | with_reducible refine readVsns_frame hm ?_
    | with_reducible refine readHiAt_frame hm ?_
    | with_reducible refine readLoAt_frame hm ?_
    | with_reducible refine answer_frame hm ?_
    | split
theorem writeAt_frame {M : Nat} {z0 : State} {p : Path} {o : Nat} {v : Word32} {s : State}
    (hm : 0xafff7effdfeffff &&& M = 0xafff7effdfeffff)
    (hz : Frame M z0 s) : Frame M z0 (writeAt p o v s) := by
  unfold writeAt
  repeat' first
    | with_reducible assumption
    | (with_reducible refine frame_lit ?_ ?_; rotate_left; (fail_if_success with_reducible exact Frame.refl _)
                      constructor <;> first | exact fun _ => rfl | exact fun h => absurd (bit_of_sub hm h) (by decide))
    | with_reducible refine frame_ite (fun _ => ?_) (fun _ => ?_)
    | (with_reducible refine writeHiAt_frame (sub_trans ?_ hm) ?_; decide)
    | (with_reducible refine writeLoAt_frame (sub_trans ?_ hm) ?_; decide)
    | (with_reducible refine modPath_frame (sub_trans ?_ hm) ?_; decide)
    | (with_reducible refine busWord_frame (sub_trans ?_ hm) ?_; decide)
    | split
theorem execRegisterWrite_frame {M : Nat} {z0 : State} {p : Path} {off : Nat} {v : Word32} {s : State}
    (hm : 0xafff7effdfeffff &&& M = 0xafff7effdfeffff)
    (hz : Frame M z0 s) : Ends M z0 (execRegisterWrite p off v s) := by
  unfold execRegisterWrite
  repeat' first
    | with_reducible assumption
    | with_reducible refine frame_ite (fun _ => ?_) (fun _ => ?_)
    | with_reducible refine writeAt_frame hm ?_
    | (with_reducible refine answerErr_frame (sub_trans ?_ hm) ?_; decide)
    | with_reducible refine powered_frame (fun _ _ => ?_) ?_
    | split
theorem execMisalignedAccess_frame {M : Nat} {z0 : State} {p : Path} {off : Nat} {size : Nat} {_wr : Bool}
    {s : State} (hm : 0x100000000000 &&& M = 0x100000000000)
    (hz : Frame M z0 s) : Ends M z0 (execMisalignedAccess p off size _wr s) := by
  unfold execMisalignedAccess
  repeat' first
    | with_reducible assumption
    | with_reducible refine frame_ite (fun _ => ?_) (fun _ => ?_)
    | with_reducible refine answerErr_frame hm ?_
    | with_reducible refine powered_frame (fun _ _ => ?_) ?_
    | split
theorem execReadLo_frame {M : Nat} {z0 : State} {p : Path} {off : Nat} {s : State}
    (hm : 0x100000000000 &&& M = 0x100000000000)
    (hz : Frame M z0 s) : Ends M z0 (execReadLo p off s) := by
  unfold execReadLo
  repeat' first
    | with_reducible assumption
    | with_reducible refine frame_ite (fun _ => ?_) (fun _ => ?_)
    | with_reducible refine readAt_frame hm ?_
    | with_reducible refine readLoAt_frame hm ?_
    | with_reducible refine answerErr_frame hm ?_
    | with_reducible refine powered_frame (fun _ _ => ?_) ?_
    | split
theorem execReadHi_frame {M : Nat} {z0 : State} {p : Path} {off : Nat} {s : State}
    (hm : 0x100000000000 &&& M = 0x100000000000)
    (hz : Frame M z0 s) : Ends M z0 (execReadHi p off s) := by
  unfold execReadHi
  repeat' first
    | with_reducible assumption
    | with_reducible refine frame_ite (fun _ => ?_) (fun _ => ?_)
    | with_reducible refine readAt_frame hm ?_
    | with_reducible refine readHiAt_frame hm ?_
    | with_reducible refine answerErr_frame hm ?_
    | with_reducible refine powered_frame (fun _ _ => ?_) ?_
    | split
theorem execWriteLo_frame {M : Nat} {z0 : State} {p : Path} {off : Nat} {v : Word32} {s : State}
    (hm : 0xafff7effdfeffff &&& M = 0xafff7effdfeffff)
    (hz : Frame M z0 s) : Ends M z0 (execWriteLo p off v s) := by
  unfold execWriteLo
  repeat' first
    | with_reducible assumption
    | with_reducible refine frame_ite (fun _ => ?_) (fun _ => ?_)
    | with_reducible refine writeAt_frame hm ?_
    | (with_reducible refine writeLoAt_frame (sub_trans ?_ hm) ?_; decide)
    | (with_reducible refine answerErr_frame (sub_trans ?_ hm) ?_; decide)
    | with_reducible refine powered_frame (fun _ _ => ?_) ?_
    | split
theorem execWriteHi_frame {M : Nat} {z0 : State} {p : Path} {off : Nat} {v : Word32} {s : State}
    (hm : 0xafff7effdfeffff &&& M = 0xafff7effdfeffff)
    (hz : Frame M z0 s) : Ends M z0 (execWriteHi p off v s) := by
  unfold execWriteHi
  repeat' first
    | with_reducible assumption
    | with_reducible refine frame_ite (fun _ => ?_) (fun _ => ?_)
    | with_reducible refine writeAt_frame hm ?_
    | (with_reducible refine writeHiAt_frame (sub_trans ?_ hm) ?_; decide)
    | (with_reducible refine answerErr_frame (sub_trans ?_ hm) ?_; decide)
    | with_reducible refine powered_frame (fun _ _ => ?_) ?_
    | split
theorem execDomVsnsRead_frame {M : Nat} {z0 : State} {p : Path} {d : Fin 128} {s : State}
    (hm : 0x100000000000 &&& M = 0x100000000000)
    (hz : Frame M z0 s) : Ends M z0 (execDomVsnsRead p d s) := by
  unfold execDomVsnsRead
  repeat' first
    | with_reducible assumption
    | with_reducible refine frame_ite (fun _ => ?_) (fun _ => ?_)
    | with_reducible refine readVsns_frame hm ?_
    | with_reducible refine answerErr_frame hm ?_
    | with_reducible refine powered_frame (fun _ _ => ?_) ?_
    | split
theorem scanCapture_frame {M : Nat} {z0 : State} {s : State} (hm : 0x180000000000 &&& M = 0x180000000000)
    (hz : Frame M z0 s) : Frame M z0 (scanCapture s) := by
  unfold scanCapture
  repeat' first
    | with_reducible assumption
    | (with_reducible refine frame_lit ?_ ?_; rotate_left; (fail_if_success with_reducible exact Frame.refl _)
                      constructor <;> first | exact fun h => absurd (bit_of_sub hm h) (by decide) | exact fun _ => rfl)
theorem execMsrAcc_frame {M : Nat} {z0 : State} {op : Nat} {inst : Nat} {adr : Nat} {v : Word32} {s : State}
    (hm : 0xaffffeffdfeffff &&& M = 0xaffffeffdfeffff)
    (hz : Frame M z0 s) : Ends M z0 (execMsrAcc op inst adr v s) := by
  unfold execMsrAcc
  repeat' first
    | with_reducible assumption
    | (with_reducible refine frame_lit ?_ ?_; rotate_left; (fail_if_success with_reducible exact Frame.refl _)
                      constructor <;> first | exact fun _ => rfl | exact fun h => absurd (bit_of_sub hm h) (by decide))
    | with_reducible refine frame_ite (fun _ => ?_) (fun _ => ?_)
    | (with_reducible refine scanCapture_frame (sub_trans ?_ hm) ?_; decide)
    | (with_reducible refine writeAt_frame (sub_trans ?_ hm) ?_; decide)
    | (with_reducible refine readAt_frame (sub_trans ?_ hm) ?_; decide)
    | (with_reducible refine answerErr_frame (sub_trans ?_ hm) ?_; decide)
    | (with_reducible refine modPath_frame (sub_trans ?_ hm) ?_; decide)
    | with_reducible refine powered_frame (fun _ _ => ?_) ?_
    | split
    | dsimp only

end Sys2Proof.Machine
end

