-- ==== Sys2Proof/Safety.lean ====
section
/-! DEFINITION. A step that goes on. -/

namespace Sys2Proof

/-- The step answers a next state: the block goes on. -/
def goesOn (s : Machine.State) : Prop := ∃ t, Machine.step s = .next t

end Sys2Proof
end

