-- ==== Sys2Proof/WellFormed.lean ====
section
/-! DEFINITION. Well-formed commands: offsets, indices and codes inside their fields, and as many readings as the part they
describe has. A meaning is defined on ill-formed commands too; an environment that follows the spec sends none. -/

namespace Sys2Proof

open Machine

/-- An aligned word of the window (R10, R467). -/
def wordOff (o : Nat) : Bool := decide (o % 4 = 0 ∧ o < 0x100000)

def lenIs {α : Type} (l : List α) (n : Nat) : Bool := decide (l.length = n)

/-- A window's readings name every part once. -/
def WindowMeas.wf (m : WindowMeas) : Bool :=
  lenIs m.sns 946 && lenIs m.phI 720 && lenIs m.phPk 720 && lenIs m.domPk 128 && lenIs m.laV 4 && lenIs m.freq 93
    && lenIs m.bm 4 && lenIs m.epp 16 && lenIs m.peers 4
    && m.coordAt.all fun k => decide (k < 4)

/-- Well-formed commands. -/
def Instr.wf : Instr → Bool
  | .registerWrite _ off _ => wordOff off
  | .misalignedAccess _ off size _ => decide (off < 0x100000) && (decide (size = 1 ∨ size = 2) || (decide (size = 4) && decide (off % 4 ≠ 0)))
  | .readLo _ off => wordOff off
  | .readHi _ off => wordOff off && decide (4 ≤ off)
  | .writeLo _ off _ => wordOff off
  | .writeHi _ off _ => wordOff off && decide (4 ≤ off)
  | .vinStart vin => decide (vin < 65536)
  | .undervoltageStop vin => decide (vin < 65536)
  | .overvoltageStop vin => decide (vin < 65536)
  | .bmFault _ x => decide (1 ≤ x.cause ∧ x.cause ≤ 4 ∧ -32768 ≤ x.iout ∧ x.iout ≤ 32767)
  | .eppDutyUpdate _ _ isns => lenIs isns 4
  | .vbSample _ vb => decide (vb.v < 65536)
  | .measurementWindowEnd m => m.wf
  | .swrefPeriod i cur vfly tind => lenIs cur.v (nph i.val) && lenIs vfly (nph i.val) && lenIs tind (nph i.val)
  | .conductionIntervalStart i k _ => decide (k.val < nph i.val)
  | .conductionIntervalEnd i k _ _ => decide (k.val < nph i.val)
  | .lockWindowEnd i err => lenIs err (nph i.val)
  | .trimCycleEnd i low _ => lenIs low (nsns i.val)
  | .firePulseLimit i k => decide (k.val < nph i.val)
  | .phaseHealthSweep i m => lenIs m.ph (nph i.val)
  | .plausibilitySweep i low _ => lenIs low (nsns i.val)
  | .estimatorLatch raw lines => lenIs raw 93 && raw.all (fun r => lenIs r 13) && lenIs lines 93
  | .trackMemoryWrite off _ => decide (off < 32768 ∧ off % 4 = 0)
  | .microtablePacket _ n npkt data _ => decide (n < 64 ∧ npkt ≤ 64) && lenIs data 256
  | .microtableEnd _ dig => lenIs dig 32
  | .loopEngineStep fcap fbud => decide (fcap < 65536 ∧ fbud < 65536)
  | .budgetDecode x _ => decide (x ≤ 65535)
  | .setrecRecompute others => lenIs others 3
  | .stall _ _ pay => decide (pay.length ≤ 34)
  | .verdict _ _ pay => decide (pay.length ≤ 34)
  | .armrpt _ _ pay => decide (pay.length ≤ 34)
  | .granrpt _ _ pay => decide (pay.length ≤ 34)
  | .grant _ _ pay => decide (pay.length ≤ 34)
  | .trkpkt _ _ pay => decide (pay.length ≤ 34)
  | .trkres _ _ pay => decide (pay.length ≤ 34)
  | .trkend _ _ pay => decide (pay.length ≤ 34)
  | .trknack _ _ pay => decide (pay.length ≤ 34)
  | .granReport sig => lenIs sig 4
  | .bandEvaluation temps => lenIs temps 256
  | .freezeImageDone nodes => lenIs nodes 93
  | .msrAcc op inst adr _ => decide (op < 4 ∧ inst < 4 ∧ adr < 262144)
  | .injectHoldEnd blk src => decide (blk < 10 ∧ src < 32)
  | .meterFrame bytes _ => lenIs bytes 52
  | .mtrmReqGo ch _ => decide (ch < 8)
  | .mtrCfg w => w.all fun v => decide (v < 65536)
  | .mtrReq v => decide (v < 256)
  | .mtrCtl w => w.all fun v => decide (v < 256)
  | .calz ch _ => decide (ch < 8)
  | .calf ch _ => decide (ch < 8)
  | .trainDone links sns => lenIs links 93 && lenIs sns 946
  | .berDone errs => lenIs errs 93
  | .topoDone claims => lenIs claims 93
  | .calDone badPh badSns z => badPh.all (fun p => decide (p < 720)) && badSns.all (fun n => decide (n < 946)) && lenIs z 1232
  | .resetCore c _ => decide (c < 256)
  | .resetCluster c _ => decide (c < 256)
  | .resetPartition k _ => decide (k < 256)
  | .resetSheafController i => decide (i < 256)
  | .hostResetRequest level target _ => decide (level ≤ 3 ∧ target < 256)
  | .vinOvWarnLimit w _ => w.all fun v => decide (v < 65536)
  | .vinUvWarnLimit w _ => w.all fun v => decide (v < 65536)
  | .vinUvFaultLimit w _ => w.all fun v => decide (v < 65536)
  | .pmbusUnsupported code rd _ => decide (code < 256) && rd.all fun n => decide (1 ≤ n ∧ n < 256)
  | .uvTrip d samp => lenIs samp (if d.val < 93 then nsns d.val else 1)
  | .uvRecover d samp => lenIs samp (if d.val < 93 then nsns d.val else 1)
  | .softStartEnd | .domVsnsRead _ _ | .bmModeRun _ | .bmModePilot _ | .bmModeOff _ | .bmStartingEnd _ | .bmClrcnt _
  | .clrmm | .eppEnWrite _ _ | .eppClrcnt _ | .eppOutOfService _ _ | .pulseSkipStart _ | .phaseShed _ | .fireStart _ _ _
  | .fireEnd _ _ | .shfCfgWrite _ _ | .shfClrcnt _ | .syncInLoss | .fallbkClear | .swrefSourceChange | .holdEnter _
  | .holdExit _ | .noticeRestore _ _ | .noticeRampStart _ _ | .preliftEnter _ _ | .preliftLeave _ _ | .reversalHoldEnd _
  | .frequencyRaiseRequest _ _ | .frequencyLowerApplied _ | .feDeadline _ _ | .headerStageOpen _ | .headerStageClose _ _ _
  | .gatingComplete _ | .wakeComplete _ | .readyRise _ | .firstWakeOn _ _ | .wakeForced _ | .bankGateComplete _
  | .bankWakeRequest _ _ | .bankWakeReady _ _ | .domSpstatClrcnt _ | .phaseOpenDetect _ | .phaseShortDetect _ _
  | .spareActive _ | .phExclude _ | .readmit _ | .phClrcnt _ | .phaseHiccupEnter _ | .phaseHiccupRetry _
  | .phaseRetrySuccess _ | .domainHiccup _ | .domainHiccupRestart _ | .domainRetrySuccess _ | .latchClear _
  | .gleanerSweepStart _ | .bondMeasurement _ _ _ | .beatMarker _ | .refclkLoss | .refclkReturn | .alignLoss | .step _
  | .cancel _ | .arrive _ | .noticeQueueRelease | .noticeArrival | .barrierRelease | .engineStartRequest _ _
  | .engineStartGrant _ _ | .seqTstatClrcnt | .seqNstatClrcnt | .seqNdomClrcnt _ | .estimatorApply | .estimatorCompare
  | .estImageCopyDone | .estClrcnt | .trackAdmissionDone | .laneStart | .laneResume _ | .barComplete _ | .actionTakesEffect
  | .commandGo | .commandAccept | .commandComplete | .cmdwClrcnt | .seqTrkClrcnt | .seqLaneOvrClear _ | .microtableAck _
  | .microtableNack _ | .microtableCommit | .shfMtstatClrcnt _ | .nop _ | .halt _ | .atB _ | .wait _ | .seg _ | .mark _
  | .vset _ | .lline _ | .note _ | .opsel _ | .gate _ | .wake _ | .bank _ | .startg _ | .capDomainIlim _ | .capDieLimit _
  | .capPackagePower _ | .capAveragingPeriod _ | .ovly _ | .prio _ | .telNormal _ | .telFine _ | .telTag _ | .li _ | .add _
  | .sub _ | .min _ | .max _ | .mulq _ | .cmp _ | .br _ | .call _ | .ret _ | .loop _ | .send _ | .bar _ | .gran _ | .save _
  | .fence _ | .clrfFaultBlock | .clrfSat | .loadplanTrack | .loadplanMicrotable | .loadplanWeights | .loadplanPlan
  | .loadplanOverlay | .loadplanMode | .arm | .armResume | .disarm | .lcreq | .capBinEnd | .budgetFeTimer | .loopDisable _
  | .telemetryRecord _ | .telClrcnt | .stallApply | .stallHoldEnd | .saveCapture | .saveWriteDone _ | .seqXstatClrcnt
  | .distNackTimer | .distStart | .granDecision | .granApply | .pkgBalance | .armBarrierDecision | .armBarrierTimeout
  | .sideClrcnt | .granDivClear | .planTakeEffect | .overlayValid | .ovTrip _ _ | .ovTripClear _ _ | .ovOff _
  | .ovAfterOff _ _ | .vbOvervoltage | .uvDark _ | .droopStretch _ _ | .droopReport _ _
  | .phaseHardLimit _ | .domainOvercurrent _ _ | .dieOvercurrent | .vinLow | .vinDip | .vinHigh | .inputOvercurrent
  | .vinHoldEnd | .thermalShutdown | .coolantLoss | .dieStopCluster _ | .coolantClear _ | .shutdnClear | .vbkillClear
  | .ovlatchClear _ | .protClrcnt | .siloProgram _ | .faultStatClear _ _ | .handlingClear _ | .hset _ | .hclr _
  | .errPinPulseEnd | .siloClrcnt | .freezeEnter _ | .freezeExit | .injectGo | .injectStop | .meterLinkLoss
  | .mtrmCtlWrite _ | .mtrmClrcnt | .meterWindowEnd _ _ _ _ _ | .mainsSyncEdge _ _ | .mainsSyncLoss | .refSettled
  | .nvCommit _ _ | .calAverageDone | .mtrId | .mtrStatus | .mtrEimp | .mtrErev | .mtrSbrk | .mtrPlauscnt | .mtrUnreg
  | .mtrWseq | .mtrLast | .calstat | .coef | .sealMeter | .unsealMeter | .train | .ber | .topo | .cal | .coordWrite _
  | .resetWholeChip | .resetSequencer | .resetLoopEngine | .resetInstance | .coreDrained _ | .drainTimeout
  | .resetClusterGate | .partialResetEnd | .rstClrcnt | .lcProgramDone | .clearFaults _ | .capability | .otFaultLimit
  | .otWarnLimit | .vinOvFaultLimit | .iinOcFaultLimit | .pinOpWarnLimit | .statusByte | .statusWord | .statusInput
  | .statusTemperature | .statusCml | .statusMfrSpecific | .readVin | .readIin | .readTemperature1 | .readPin
  | .pmbusRevision | .mfrId | .mfrModel | .alertResponse | .refclkEdge | .alignmentLineRise | .meterSupplyValid
  | .aonStartTimeout => true

end Sys2Proof
end

