-- ==== Sys2Proof/Tests/Slice0.lean ====
section
/-! SUPPORT. Tests: ill-formed commands are refused by the check of well-formedness, examples of the specification come out as it
states them, and every statement with hypotheses has states and operands that meet them. -/

set_option linter.unusedVariables false
set_option maxRecDepth 8000
set_option Elab.async false

namespace Sys2Proof.Tests

open Sys2Proof Sys2Proof.Machine

-- Small states.

/-- Nothing injected. -/
def noInj (s : State) : State := { s with dbg := { s.dbg with injs := [] } }
/-- With power, no freeze, and REFCLK. -/
def up (s : State) : State := { s with inp := { s.inp with sw := .closed }, g := { s.g with boot := .done }, dbg := { s.dbg with active := false }, time := { s.time with refclk := true } }
/-- Nothing waits for a REFCLK edge. -/
def edge (s : State) : State := { up s with g := { s.g with boot := .done, chipReq := false }, blkReset := [], acts := [], rst := { s.rst with run := none } }
/-- Every phase active. -/
def act (s : State) : State := { s with ph := s.ph.map fun p => { p with st := .active } }
/-- Domain `d` ON. -/
def on (d : Nat) (s : State) : State := setDomSt s d .on
/-- Domain `d` in state `x`. -/
def dst (d : Nat) (x : DomSt) (s : State) : State := setDomSt s d x
/-- Nothing holds domain `d` back. -/
def calm (d : Nat) (s : State) : State := { modShr (modShf (modPd s d fun p => { p with ovlatch := false, uvact := false, ovact := false }) d fun h => { h with hold := false }) d fun r => { r with darkPend := false, dhic := false, latch := false, rising := false, soft := false } with rst := { s.rst with run := none }, prot := { s.prot with coolant := false, shutdn := false, coolPend := false, vbkill := false } }
/-- A pending notice at beat `e`. -/
def pend1 (e : Nat) : Pend := ⟨e, 3, [⟨none, 640, 6400, true, false⟩], 4, e + 10, false, false⟩
/-- At beat `b`. -/
def tin (b : Nat) (s : State) : State := { s with time := { s.time with beat := b } }
/-- Bytes enough for an image. -/
def bigImg : List Byte := (List.range 2112).map fun k => BitVec.ofNat 8 (k*k*7 + k/3)
/-- Track memory with the word at index 8. -/
def track (w : Nat) (s : State) : State := { s with mem := { s.mem with tmem := Memory.writeBytes (Memory.writeBytes [] 24 [200,0,200,0,200,0]) 64 (leBytes 8 w) } }
/-- Lane `l` in RUN at the word. -/
def laneAt (l : Fin 8) (w : Nat) (s : State) : State :=
  let s := track w s
  { s with lane := s.lane.mod l fun x => { x with st := .run, pc := 8, wait := .no, lag := 0, issN := 0, actN := 0, issBeat := s.time.beat, rf := { x.rf with p := 0 }, ovrBeat := none }, classHold := none, exa := { s.exa with hold := none, pend := [] } }
/-- The word accepted in the command window. -/
def cmdAt (w : Nat) (s : State) : State := { s with cmdw := { s.cmdw with busy := true, issued := false, res := none, word := w }, g := { s.g with lc := 2 } }
/-- Context `c` about to issue the word. -/
def iss (c : Ctx) (w : Nat) (s : State) : State := match c with | .lane l => laneAt l w s | .cmd => cmdAt w s
/-- A context. -/
def cx (n : Nat) : Ctx := if n % 3 = 2 then .cmd else .lane (Fin.ofNat 8 n)
/-- A word of Form B by its fields (R224). -/
def wB (o vd va vb aux m imm : Nat) : Nat := o * 2^58 + m * 2^48 + vd * 2^44 + va * 2^40 + vb * 2^36 + aux * 2^32 + imm
/-- A word of Form A by its fields (R221). -/
def wA (o dom val a8 a16 m : Nat) : Nat := o * 2^58 + m * 2^48 + dom * 2^40 + val * 2^24 + a8 * 2^16 + a16
/-- A resolved action. -/
def act1 (n w v : Nat) (m : BitVec 128) : Act := ⟨cx n, w, 3, 3, 0, 7, some (v, m), Tab.make 4 (fun i => BitVec.ofNat 32 (i*n*5)), false⟩
/-- A resolved command with its extension. -/
def act2 (w v : Nat) (e0 e1 e2 e3 : Word32) : Act := ⟨.cmd, w, 3, 3, 0, 7, some (v, 0), Tab.make 4 (fun i => [e0,e1,e2,e3].getD i 0), false⟩
/-- One due action in the pipeline. -/
def due1 (a : Act) (s : State) : State := let s := up s; { s with acts := [a], exa := { s.exa with svreq := none, pend := [] }, rst := { s.rst with run := none }, g := { s.g with exact := false }, time := { s.time with beat := 40 } }
/-- Domain `d` present. -/
def pres (d : Nat) (s : State) : State := modDom s d fun x => { x with present := true }
/-- A small track image that passes its checks. -/
def trackOk : List Host.Cell :=
  let h0 : List Byte := [0x4D,0x54,0x52,0x4B,1,0,46,0] ++ leBytes 2 8 ++ (List.replicate 14 0xFF) ++ leBytes 2 10 ++ leBytes 2 13 ++ leBytes 2 14 ++ leBytes 2 0
  let m := Memory.writeBytes [] 0 h0
  let m := Memory.writeBytes m 80 [1]
  let m := Memory.writeBytes m (8*14+16) [1]
  let m := Memory.writeBytes m 112 [1]
  Memory.writeBytes m 32 [196, 20, 159, 239, 122, 10, 3, 100, 145, 135, 168, 101, 38, 250, 155, 54, 116, 223, 112, 126, 249, 47, 205, 42, 205, 219, 60, 249, 31, 47, 192, 33]
/-- At beat `b`, with no window interrupted. -/
def ww (b : Nat) (s : State) : State := let s := up s; { s with time := { s.time with beat := b, wholeFrom := 0, modeAt := 0 } }
/-- The loop engine runs, at beat `b`. -/
def lp (b : Nat) (s : State) : State := let s := up s; { s with time := { s.time with beat := b }, rst := { s.rst with run := none } }
/-- Beat `b` ends windows that nothing interrupted. -/
def lw (b : Nat) (s : State) : State := let s := lp b s; { s with time := { s.time with wholeFrom := 0, modeAt := 0 } }
/-- The coordinator. -/
def co (s : State) : State := { s with g := { s.g with coord := true } }
/-- A port that is on, by its place in the tree. -/
def prt (k : Nat) : Port := ⟨true, if k = 0 then 1 else if k < 4 then 2 else 0, 8 * k, 8 * k + 7, [], none⟩
/-- The sideband in a job. -/
def job (s : State) : State := { up s with side := { s.side with en := true, port := Tab.make 19 fun k => if k < 6 then prt k else { prt k with en := false }, jobtag := 5, ord := 3, seen := [] } }
/-- The header of a message, with its check. -/
def hdr (kind orig dest : Nat) (pay : List Word64) : Word64 :=
  let m : Msg := ⟨kind, 5, orig, dest, 77, pay⟩
  BitVec.ofNat 64 (msgHead m + msgChk m)
/-- Lane 3 armed. -/
def arm3 (s : State) : State := { s with lane := s.lane.mod 3 fun l => { l with st := .armed } }
/-- No lane armed. -/
def unarm (s : State) : State := { s with lane := s.lane.map fun l => { l with st := .idle } }
/-- A row of the sideband messages. -/
def rows (n : Nat) : Nat × (Fin 19 → Word64 → List Word64 → Instr) := messageRows.getD (n % 9) (1, .stall)
/-- The payload of a packet, with its CRC. -/
def pkt (id n npkt : Nat) (bad : Bool) : List Word64 :=
  let body : List Word64 := BitVec.ofNat 64 (fld 48 16 id + fld 38 10 n + fld 27 11 npkt) :: upTo 32 fun i => BitVec.ofNat 64 (i*i*77777777777 + n)
  body ++ [BitVec.ofNat 64 (crc32 (body.map fun w => leBytes 8 w.toNat).flatten + if bad then 1 else 0)]
/-- An exchange under way. -/
def exch (x : GExch) (s : State) : State := let s := tin 10000 (job s); { s with side := { s.side with gran := { s.side.gran with cur := some x, rdly := 100, gwin := 200, policy := 1 } }, g := { s.g with coord := true, exact := false }, time := { s.time with aligned := true } }
/-- A report. -/
def gr (o sg h : Nat) : GRep := ⟨o, 9, 1 + o%2, sg, h, 5000, 4000⟩
/-- An exchange. -/
def gx (n : Nat) (rep dec : Bool) : GExch := ⟨5000, 9, 1, [gr 1 (n*100) 3000, gr 3 500 4500, gr 9 3500 (4000+n)], some (n * 100), rep, dec, 4000 + 3*n, 3, 77, false, some (3,77)⟩
/-- The sheaf not in hold. -/
def unhold (d : Nat) (s : State) : State := if d < 93 then modShr (modShf s d fun h => { h with hold := false }) d fun r => { r with dhic := false } else s
/-- A capture. -/
def capOf (n : Nat) : Cap := ⟨(List.range 64).map fun i => BitVec.ofNat 8 (i*n+1), n % 2 = 0⟩
/-- The readings of a window. -/
def wm (n : Nat) : WindowMeas := { sns := (List.range 946).map (fun i => ((i * (n+7) * 31) % 9000 : Nat)), phI := (List.range 720).map (fun i => ((i*(n+3)*17) % 400 : Nat)), phPk := (List.range 720).map (fun i => (i % 500 : Nat)), domPk := (List.range 128).map (fun i => (i*n : Nat)), laV := [5000, 3, 4, 5], freq := [], bm := [], epp := [], vin := 24000 + n, iin := 500 - 100 * n, pin := 70000, fsync := 2000, peers := (List.range 4).map fun i => ⟨(i+n) % 2 = 0, 5, 6, false, false, false, false, false, false⟩, role := none, coordAt := if n % 2 = 0 then none else some (n % 4), flowLow := n % 3 = 0, scan := none }
/-- The bring-up commands, with what each waits for. -/
def buRows : List (Instr × (State → Bool) × BuRun) := [(.train, (fun s => s.g.pilot), .train), (.ber, (fun s => s.bu.trained), .ber), (.topo, (fun s => s.bu.berdone), .topo),
      (.cal, calReady, .cal)]
/-- Ready for calibration. -/
def prime (s : State) : State := { up s with bm := s.bm.map fun b => { b with st := .run }, dom := s.dom.mapIx fun d x => { x with st := if d = 92 then .on else .off }, g := { (up s).g with pilot := true, lc := 2 }, bu := { s.bu with trained := true, berdone := true, topodone := true, run := .no, cal := .no } }
/-- A calibration at stage `x`. -/
def calat (x : CalAt) (s : State) : State := { s with bu := { s.bu with cal := x } }
/-- Sheaf `d` has not failed. -/
def unfail (d : Nat) (s : State) : State := modShb s d fun b => { b with link := 1, topo := 1 }
/-- A bring-up step under way. -/
def bu (r : BuRun) (s : State) : State := let s := up s; { s with bu := { s.bu with run := r } }
/-- The reset unit idle. -/
def rr (s : State) : State := { up s with rst := { s.rst with run := none, later := none, part := Tab.make 8 fun k => BitVec.ofNat 8 (3 * 2^(k%4)) } }
/-- A reset under way. -/
def run1 (r : RstRun) (s : State) : State := let s := rr (tin 90000 (up s)); { s with acts := [], rst := { s.rst with run := some r, draint := 20 } }
/-- A partial reset. -/
def r1 (n : Nat) (z : Option Nat) (dr : Word64) : RstRun := ⟨n % 3, 1, false, 300, 0xFF00, 0xFF00, dr, z, [1], 0, 0, 0⟩
/-- The meter supplied. -/
def mt (f : Meter → Meter) (s : State) : State := { s with meter := f { s.meter with supply := true } }
/-- A frame with its CRC. -/
def fr (n : Nat) : List Byte := let b := (List.range 48).map fun i => BitVec.ofNat 8 (i*n*7+3*i+n); b ++ leBytes 4 (crc32 b)
/-- A small overlay image. -/
def ovlOk : List Host.Cell :=
  let m := Memory.writeBytes [] 0 [0x4D, 0x4F, 0x56, 0x4C, 1, 0, 0, 1, 72]
  let m := Memory.writeBytes m 64 [2, 0]
  let m := Memory.writeBytes m 64 [1, 0, 0, 0, 0x90, 1]
  Memory.writeBytes m 32 (sha256 (Memory.readBytes m 0 32 ++ Memory.readBytes m 64 8))
/-- A state image in place, and all that ARM with EXT asks for. -/
def resumes (s : State) (m : List Host.Cell) : State :=
  { s with lane := s.lane.map fun l => { l with st := .halted }, time := { s.time with valid := true }, seqr := { s.seqr with admitted := true, mode := 0, tdig := [] }, mts := { s.mts with committed := some [5] }, mt := s.mt.map fun m => { m with dig := some [5], st := 1 }, mem := { s.mem with tmem := Memory.writeBytes [] 24 [100,0,110,0,120,0], hmem := m }, exa := { s.exa with svst := 0, svaddr := 0, pend := [], svreq := none }, setrec := { s.setrec with dig := [] }, plan := { s.plan with inforce := none } }

-- The checks of well-formedness, each with a term that it refuses.

theorem test_ill_formed_commands_are_refused :
    ∀ c ∈ ([.registerWrite .mgmt 2 0, .registerWrite .mgmt 0x100000 0, .misalignedAccess .mgmt 4 4 true,
      .misalignedAccess .mgmt 0x100000 2 true, .readLo .mgmt 1, .readHi .jtag 0, .writeLo .jtag 3 0, .writeHi .mgmt 0 0,
      .vinStart 65536, .undervoltageStop 65536, .overvoltageStop 65536, .bmFault 0 ⟨0, 0⟩, .bmFault 0 ⟨5, 0⟩, .eppDutyUpdate 0 0 [1, 2, 3],
      .vbSample 0 ⟨65536, 0⟩, .swrefPeriod 0 ⟨[1], 0⟩ [] [], .conductionIntervalStart 64 5 ⟨0, 0⟩, .conductionIntervalEnd 92 4 ⟨0, 0⟩ 0,
      .lockWindowEnd 0 [], .trimCycleEnd 0 [] 0, .uvTrip 0 [], .uvRecover 127 [1, 2], .firePulseLimit 64 5, .phaseHealthSweep 0 ⟨[], 0, 0⟩, .plausibilitySweep 0 [] 0,
      .estimatorLatch [] [], .trackMemoryWrite 32768 0, .trackMemoryWrite 2 0, .microtablePacket 0 64 1 (List.replicate 256 0) 0,
      .microtablePacket 0 0 1 [] 0, .microtableEnd 0 [], .loopEngineStep 65536 0, .budgetDecode 65536 true, .setrecRecompute [],
      .stall 0 0 (List.replicate 35 0), .verdict 0 0 (List.replicate 35 0), .armrpt 0 0 (List.replicate 35 0),
      .granrpt 0 0 (List.replicate 35 0), .grant 0 0 (List.replicate 35 0), .trkpkt 0 0 (List.replicate 35 0),
      .trkres 0 0 (List.replicate 35 0), .trkend 0 0 (List.replicate 35 0), .trknack 0 0 (List.replicate 35 0), .granReport [],
      .bandEvaluation [], .freezeImageDone [], .msrAcc 4 0 0 0, .injectHoldEnd 10 0, .meterFrame [] true, .mtrmReqGo 8 true,
      .mtrCfg (some 65536), .mtrReq 256, .mtrCtl (some 256), .calz 8 0, .calf 8 0, .trainDone [] [], .berDone [], .topoDone [],
      .calDone [720] [] [], .resetCore 256 true, .resetCluster 256 true, .resetPartition 256 true, .resetSheafController 256,
      .hostResetRequest 4 0 true, .vinOvWarnLimit (some 65536) true, .vinUvWarnLimit (some 65536) true,
      .vinUvFaultLimit (some 65536) true, .pmbusUnsupported 256 none true,
      .pmbusUnsupported 0 (some 0) true] : List Instr), c.wf = false := by decide +kernel

theorem test_ill_formed_window_is_refused : ((wm 0).wf = false) := by decide +kernel

theorem test_well_formed_commands_pass :
    ∀ c ∈ ([.registerWrite .mgmt 0xFFFFC 0, .misalignedAccess .mgmt 5 4 true, .readHi .jtag 4, .bmFault 3 ⟨3, 512⟩,
      .conductionIntervalStart 0 8 ⟨0, 0⟩, .trackMemoryWrite 32764 0, .calDone [719] [945] (List.replicate 1232 0), .refclkEdge] :
        List Instr), c.wf = true := by decide +kernel

-- No row of the table gives bits.

theorem test_no_word_spells_a_command : decodeTableWord 64 0x20002E0D480A0000 = none ∧
    State.withFetchWord State.reset 64 0x20002E0D480A0000 = State.reset := ⟨rfl, rfl⟩

-- The examples of R47 to R49 and R77.

theorem test_phase_417 : phDom 417 = 46 ∧ phPos 417 = 3 ∧ [69, 82, 83].all (neighbours 46).contains ∧ firstSns 46 = 552 ∧ firstBond 46 = 736
    ∧ phDom 600 = 68 ∧ phPos 600 = 4 ∧ cfg State.reset 0x46 46 = 12 := by decide +kernel

-- Words that the specification spells out (R231, R236, R242, R244, R250).

theorem test_word_of_vset : opc 0x20002E0D480A0000 = 0x08 ∧ fDom 0x20002E0D480A0000 = 46 ∧ fVal 0x20002E0D480A0000 = 3400
    ∧ fAux8 0x20002E0D480A0000 = 10 ∧ operandsOk (some 0) 0x20002E0D480A0000 = true := by decide
theorem test_word_of_bank : opc 0x38004DF000030000 = 0x0E ∧ fDom 0x38004DF000030000 = 77 ∧ fVal 0x38004DF000030000 = 0xF000
    ∧ fAux8 0x38004DF000030000 = 3 ∧ operandsOk none 0x38004DF000030000 = true := by decide
theorem test_word_of_at : opc 0x08000000000003D0 = 0x02 ∧ fBsel 0x08000000000003D0 = 0 ∧ fOff 0x08000000000003D0 = 976
    ∧ fRel 0x08000000000003D0 = false ∧ fRel 0x08010000000003D0 = true := by decide
theorem test_word_of_cap : opc 0x4000FE3840010000 = 0x10 ∧ fDom 0x4000FE3840010000 = 0xFE ∧ fVal 0x4000FE3840010000 = 14400
    ∧ fAux8 0x4000FE3840010000 = 1 ∧ operandsOk none 0x4000FE3840010000 = true := by decide
theorem test_word_of_cmp : opc 0x7820230200000064 = 0x1E ∧ fVd 0x7820230200000064 = 2 ∧ fVa 0x7820230200000064 = 3
    ∧ fAux4 0x7820230200000064 = 2 ∧ fImmSel 0x7820230200000064 = true ∧ fImm 0x7820230200000064 = 100
    ∧ cmpCond 2 99 100 = true ∧ cmpCond 2 100 100 = false := by decide

-- The examples of R179, R274 and R280.

theorem test_estimator_trim : rshift (1280 * (32768 + (-1638))) 15 + 32 = 1248 := by decide
theorem test_budget : budgetOf 1 800 = 3067 ∧ budgetOf 1 625 = 2444 := by decide
theorem test_clock_factor : clockFactor 26214 = 24 ∧ clockDiv 26214 = 1 := by decide

-- Every action of `actionRows` and every row of `commandRows` has a word whose operands pass the check.

theorem test_action_words :
    ((actionRows.map Prod.snd).zip [wA 4 0 0 0 0 0, wA 8 46 3400 10 0 0, wA 9 5 2000 0 0 0, wA 10 5 9 0 4 0, wA 11 0xFF 15 0 0 0,
      wA 12 77 0 3 0 0, wA 13 5 0 2 65535 0, wA 14 77 0xF000 3 0 0, wA 15 0xFE 16 0 0 0, wA 16 5 0x900 0 0 0,
      wA 16 0xFE 14400 1 0 0, wA 16 0xFE 0xE10 2 0 0, wA 16 0xFE 30 3 0 0, wA 17 0xFE 0xFFFF 0 0 0, wA 18 0xFE 0x39 0 0 0,
      wA 20 0xFE 0 0 0 0, wA 20 0xFE 0 1 0 0, wA 20 0xFE 77 2 0 0, wA 0x2A 0xFE 1 0 0 0, wA 0x30 0xFE 0 1 0 0]).all
      (fun x => x.1 x.2 && operandsOk (some 3) x.2) = true ∧
    ((commandRows.map Prod.snd).zip [wA 0x38 0xFE 9 0 0 0, wA 0x38 0xFE 0 1 0 0, wA 0x39 0xFE 0 0 0 0, wA 0x39 0xFE 0 1 0 0,
      wA 0x39 0xFE 0 2 0 0, wA 0x39 0xFE 0 3 0 0, wA 0x39 0xFE 15 4 0 0, wA 0x39 0xFE 1 5 0 0, wA 0x3B 0xFE 0 0 0 0,
      wA 0x3C 0xFE 4 0 0 0]).all (fun x => x.1 x.2 && operandsOk none x.2) = true := by decide +kernel

-- Hypotheses of the statements that name no command of their own.

theorem witness_StepRunsTheFrontCommand :
    ({ State.reset with pending := [.refclkEdge, .refclkLoss] } : State).pending = .refclkEdge :: [.refclkLoss]
      ∧ State.reset.pending = [] := ⟨rfl, rfl⟩
theorem witness_EveryStepKeepsByteMemoriesCanonical : State.reset.canonical ∧ ∃ t, step State.reset = .next t :=
  ⟨by unfold State.canonical; decide +kernel, _, rfl⟩
theorem witness_SiloRecordsAndFusesEndure : ∃ t, step State.reset = .next t := ⟨_, rfl⟩
theorem witness_LoopLaw : (0 : Nat) < 65536 ∧ (0 : Int) ≤ 65536 ∧ (-2048 : Int) ≤ rdiv (0 * 65536) 65536 := by decide
theorem witness_ReallocationGuarantees : ∀ m ∈ [gr 1 100 3000, gr 2 500 5000], m.h ≤ m.cap := by decide
theorem witness_UnpoweredBlockHolds : ({ State.reset with inp := { State.reset.inp with sw := .opened } } : State).powered = false
    ∧ Instr.refclkEdge ≠ .softStartEnd ∧ ∃ t, exec .refclkEdge State.reset = .next t := ⟨rfl, by decide, _, rfl⟩
theorem witness_FreezeHoldsTheCentralBlocks :
    (up State.reset).powered = true ∧ (up State.reset).g.chipReq = false
      ∧ (let s := { up State.reset with dbg := { (up State.reset).dbg with active := true } }
         s.powered = true ∧ s.dbg.active = true ∧ s.g.chipReq = false ∧ ∃ t, exec .refclkEdge s = .next t) :=
  ⟨rfl, rfl, rfl, rfl, rfl, _, rfl⟩

/-- A request for RETURN, with one word of its token open. -/
def wrongTok (e : Word32) : Act := act2 (wA 0x3C 254 3 0 0 0) 0 e 6 7 8
/-- It is due. -/
def wrongSt (e : Word32) : State :=
  let s := due1 (wrongTok e) State.reset
  { s with lane := s.lane.map fun l => { l with st := .halted }, g := { s.g with lc := 2, lcLocked := false } }

/-- The device key is open, so the token is: one of two words makes it wrong. -/
theorem witness_WindowCommands_wrong_token :
    ∃ e, DueAlone (wrongTok e) 0 0 (wrongSt e) ∧ armed (wrongSt e) = false
      ∧ lcStep (wrongSt e).g.lc (fVal (wrongTok e).word % 8) = some true ∧ (wrongSt e).g.lcLocked = false
      ∧ ((wrongTok e).ext.data.map fun x => leBytes 4 x.toNat).flatten ≠ lcToken (wrongSt e) (fVal (wrongTok e).word % 8) := by
  have h0 : DueAlone (wrongTok 0) 0 0 (wrongSt 0) ∧ armed (wrongSt 0) = false
      ∧ lcStep (wrongSt 0).g.lc (fVal (wrongTok 0).word % 8) = some true ∧ (wrongSt 0).g.lcLocked = false := by decide +kernel
  have h1 : DueAlone (wrongTok 1) 0 0 (wrongSt 1) ∧ armed (wrongSt 1) = false
      ∧ lcStep (wrongSt 1).g.lc (fVal (wrongTok 1).word % 8) = some true ∧ (wrongSt 1).g.lcLocked = false := by decide +kernel
  by_cases k : ((wrongTok 0).ext.data.map fun x => leBytes 4 x.toNat).flatten = lcToken (wrongSt 0) (fVal (wrongTok 0).word % 8)
  · refine ⟨1, h1.1, h1.2.1, h1.2.2.1, h1.2.2.2, ?_⟩
    have q : lcToken (wrongSt 1) (fVal (wrongTok 1).word % 8) = lcToken (wrongSt 0) (fVal (wrongTok 0).word % 8) := by
      unfold lcToken
      rw [show (wrongSt 1).g = (wrongSt 0).g from rfl, show (wrongTok 1).word = (wrongTok 0).word from rfl]
    rw [q, ← k]
    decide +kernel
  · exact ⟨0, h0.1, h0.2.1, h0.2.2.1, h0.2.2.2, k⟩

-- For every clause of a statement, a state and operands that meet its hypotheses.

theorem witness_RegisterAccessPaths :
    (let s : State := State.reset
     let off : Nat := 0x100000 - 2 * (0)
     let size : Nat := if 0 = 0 then 4 else 4
     let s : State := up s
     s.powered = true ∧ (size ≠ 4 ∨ off % 4 ≠ 0 ∨ 0x100000 ≤ off)) ∧
    (let s : State := State.reset
     let p : Path := if 0 = 0 then .mgmt else .jtag
     let o : Nat := 0x51000 + 8 * (0)
     let s : State := { up s with g := { (up s).g with lc := 1 } }
     s.powered = true ∧ pathMay s p o false = true) ∧
    (let s : State := State.reset
     let p : Path := .mgmt
     let o : Nat := 0x51000 + 8 * (0)
     let x : Word32 := 77
     let s : State := { up s with io := { s.io with mgmt := { s.io.mgmt with shadow := [(8, 9), (0x51000 + 8 * (0), 77)] } } }
     s.powered = true ∧ held (pathOf s p).shadow o = some x ∧ pathMay s p (o + 4) false = true) ∧
    (let s : State := State.reset
     let p : Path := .jtag
     let o : Nat := 0x51000 + 8 * (0)
     let s : State := { up s with g := { (up s).g with lc := 1 }, io := { s.io with jtag := { s.io.jtag with shadow := [(8, 9)] } } }
     s.powered = true ∧ held (pathOf s p).shadow o = none ∧ pathMay s p (o + 4) false = true) ∧
    (let s : State := State.reset
     let p : Path := .mgmt
     let o : Nat := 0x51000 + 8 * (0)
     let s : State := up s
     s.powered = true ∧ pathMay s p o true = true) ∧
    (let s : State := State.reset
     let p : Path := .mgmt
     let o : Nat := [0x2004, 0x4F440, 0x70008, 0xC0080, 0x51000].getD (0) 0
     let lo : Word32 := 0
     let s : State := { up s with io := { s.io with mgmt := { s.io.mgmt with held := [(8, 9), ([0x2004, 0x4F440, 0x70008, 0xC0080, 0x51000].getD (0) 0, 0)] } } }
     s.writable ∧ held (pathOf s p).held o = some lo ∧ pathMay s p (o + 4) true = true) ∧
    (let s : State := State.reset
     let p : Path := .jtag
     let o : Nat := [0x2004, 0x4F440, 0x70008, 0xC0080, 0x51000].getD (0) 0
     let s : State := { up s with g := { (up s).g with lc := 1 }, io := { s.io with jtag := { s.io.jtag with held := [] } } }
     s.writable ∧ held (pathOf s p).held o = none ∧ pathMay s p (o + 4) true = true) ∧
    (let s : State := State.reset
     let p : Path := .jtag
     let lo : Word32 := 0xFFFFFFFF
     let s : State := { up s with g := { (up s).g with lc := 1 }, io := { s.io with jtag := { s.io.jtag with held := [(0x70008, 0xFFFFFFFF)] } } }
     s.writable ∧ held (pathOf s p).held 0x70008 = some lo ∧ pathMay s p 0x7000C true = true) ∧
    (let s : State := State.reset
     let p : Path := .jtag
     let d : Fin 128 := Fin.ofNat 128 (127)
     let s : State := { up s with g := { (up s).g with lc := 1 } }
     s.powered = true ∧ pathMay s p (0x10008 + 64 * d.val) false = true) ∧
    (let s : State := State.reset
     let p : Path := .jtag
     let d : Fin 128 := Fin.ofNat 128 (127)
     let k : Fin 3 := 0
     let a : Word32 := 5
     let b : Word32 := 6
     let c : Word32 := 7
     let s : State := { up s with g := { (up s).g with lc := 1 }, io := { s.io with jtag := { s.io.jtag with vsns := some ((127) % 128, 5, 6, 7) } } }
     s.powered = true ∧ (pathOf s p).vsns = some (d.val, a, b, c) ∧ pathMay s p (0x1000C + 64 * d.val + 4 * k.val) false =
       true) ∧
    (let s : State := State.reset
     let p : Path := .mgmt
     let d : Fin 128 := Fin.ofNat 128 (127)
     let k : Fin 3 := 0
     let s : State := { up s with io := { s.io with mgmt := { s.io.mgmt with vsns := some ((6) % 128, 5, 6, 7) } } }
     s.powered = true ∧ ((pathOf s p).vsns.all fun x => decide (x.1 ≠ d.val)) = true ∧ pathMay s p (0x1000C + 64 * d.val +
       4 * k.val) false = true) := by
  refine ⟨?_, ?_, ?_, ?_, ?_, ?_, ?_, ?_, ?_, ?_, ?_⟩ <;> decide +kernel
theorem witness_RegisterWritesAndJtagAccesses :
    (let s : State := State.reset
     let p : Path := .mgmt
     let k : Nat := (0xFFF + 0) % 0x1000
     let s : State := up s
     s.writable ∧ Memory.wf s.mem.mtimg = true ∧ pathMay s p (0x48000 + 4 * k) true = true) ∧
    (let s : State := State.reset
     let o : Nat := 0
     let s : State := { up s with g := { (up s).g with lc := if 0 = 0 then 4 else 2 } }
     s.powered = true ∧ (s.g.lc = 4 ∨ s.g.lc = 2 ∧ o ≠ 0xF0000)) ∧
    (let s : State := State.reset
     let s : State := { up s with g := { (up s).g with die := 0, lc := 0 } }
     s.powered = true ∧ s.g.die = 0 ∧ s.g.lc ≤ 4) ∧
    (let s : State := State.reset
     let adr : Nat := 2 ^ 20
     let s : State := { up s with g := { (up s).g with die := 0, lc := if 0 = 0 then 4 else 2 } }
     s.powered = true ∧ s.g.die = 0 ∧ (s.g.lc = 4 ∨ s.g.lc = 2 ∧ adr % 2 ^ 18 ≠ 0x3C000)) ∧
    (let s : State := State.reset
     let s : State := up s
     s.powered = true) ∧
    (let s : State := State.reset
     let op : Nat := 1
     let inst : Nat := (1) % 4
     let s : State := { up s with g := { (up s).g with die := 0 } }
     s.powered = true ∧ op ≠ 0 ∧ inst ≠ s.g.die) := by
  refine ⟨?_, ?_, ?_, ?_, ?_, ?_⟩ <;> decide +kernel
theorem witness_InputSwitchAndAutonomousStart :
    (let s : State := State.reset
     let vin : Nat := 20000 + 100 * (0)
     let s : State := { s with inp := { s.inp with sw := .opened } }
     s.inp.sw = .opened ∧ 20000 ≤ vin ∧ vin ≤ 30000) ∧
    (let s : State := State.reset
     let vin : Nat := 30001
     let s : State := { s with inp := { s.inp with sw := .opened } }
     ¬ (s.inp.sw = .opened ∧ 20000 ≤ vin ∧ vin ≤ 30000)) ∧
    (let s : State := State.reset
     let s : State := { s with inp := { s.inp with sw := .softStart } }
     s.inp.sw = .softStart) ∧
    (let s : State := State.reset
     let s : State := up s
     s.inp.sw ≠ .softStart) ∧
    (let s : State := State.reset
     let vin : Nat := 18999
     let s : State := up s
     s.inp.sw ≠ .opened ∧ vin < 19000) ∧
    (let s : State := State.reset
     let vin : Nat := 19000
     let s : State := up s
     ¬ (s.inp.sw ≠ .opened ∧ vin < 19000)) ∧
    (let s : State := State.reset
     let vin : Nat := 31001
     let s : State := up s
     s.inp.sw ≠ .opened ∧ 31000 < vin) ∧
    (let s : State := State.reset
     let vin : Nat := 31000
     let s : State := up s
     ¬ (s.inp.sw ≠ .opened ∧ 31000 < vin)) ∧
    (let s : State := State.reset
     let s : State := { s with inp := { s.inp with sw := .closed }, g := { s.g with boot := .aon } }
     s.powered = true ∧ s.g.boot = .aon) ∧
    (let s : State := State.reset
     let s : State := up s
     s.powered = true ∧ s.g.boot ≠ .aon) := by
  refine ⟨?_, ?_, ?_, ?_, ?_, ?_, ?_, ?_, ?_, ?_⟩ <;> decide +kernel
theorem witness_BusModulesAndExternalPhases :
    (let s : State := State.reset
     let m : Fin 4 := 0
     let s : State := { up s with g := { (up s).g with lc := 2 }, prot := { s.prot with vbkill := false }, bm := s.bm.mod (0) fun b => { b with st := if 0 = 0 then .off else if 0 = 1 then .pilot else .fault, offSeen := true } }
     s.writable ∧ s.prot.vbkill = false ∧ s.g.lc ≠ 4 ∧ ((s.bm.get m).st = .off ∨ (s.bm.get m).st = .pilot ∨ (s.bm.get
       m).st = .fault ∧ (s.bm.get m).offSeen = true)) ∧
    (let s : State := State.reset
     let m : Fin 4 := 0
     let s : State := { up s with g := { (up s).g with lc := 2 }, prot := { s.prot with vbkill := false }, bm := s.bm.mod (0) fun b => { b with st := .starting } }
     s.writable ∧ s.prot.vbkill = false ∧ s.g.lc ≠ 4 ∧ (s.bm.get m).st = .starting) ∧
    (let s : State := State.reset
     let m : Fin 4 := 0
     let s : State := { up s with g := { (up s).g with lc := 2 }, prot := { s.prot with vbkill := false }, bm := s.bm.mod (0) fun b => { b with st := .off } }
     s.writable ∧ s.prot.vbkill = false ∧ s.g.lc ≠ 4 ∧ (s.bm.get m).st = .off) ∧
    (let s : State := State.reset
     let m : Fin 4 := 0
     let s : State := { up s with g := { (up s).g with lc := 2 }, prot := { s.prot with vbkill := false }, bm := s.bm.mod (0) fun b => { b with st := .run } }
     s.writable ∧ s.prot.vbkill = false ∧ s.g.lc ≠ 4 ∧ (s.bm.get m).st = .run) ∧
    (let s : State := State.reset
     let m : Fin 4 := 0
     let s : State := { up s with bm := s.bm.mod (0) fun b => { b with st := if 0 = 0 then .fault else if 0 = 1 then .pilot else .starting } }
     s.writable ∧ (s.bm.get m).st ≠ .run) ∧
    (let s : State := State.reset
     let m : Fin 4 := 0
     let s : State := { up s with bm := s.bm.mod (0) fun b => { b with st := .run } }
     s.writable ∧ (s.bm.get m).st = .run) ∧
    (let s : State := State.reset
     let m : Fin 4 := 0
     let s : State := { up s with bm := s.bm.mod (0) fun b => { b with st := .starting } }
     s.writable ∧ (s.bm.get m).st = .starting ∧ s.g.boot ≠ .module m.val) ∧
    (let s : State := State.reset
     let m : Fin 4 := 0
     let s : State := { up s with bm := s.bm.mod (0) fun b => { b with st := if 0 = 0 then .pilot else .starting, startMode := 1 } }
     s.writable ∧ ((s.bm.get m).st = .pilot ∨ (s.bm.get m).st = .starting ∧ (s.bm.get m).startMode = 1) ∧ s.g.boot ≠
       .module m.val) ∧
    (let s : State := State.reset
     let m : Fin 4 := 0
     let cause : Nat := 1
     let iout : Int := 2000
     let s : State := { up s with bm := s.bm.mod (0) fun b => { b with st := .run, ilim := 1800 } }
     s.writable ∧ (s.bm.get m).st = .run ∧ s.g.boot ≠ .module m.val ∧ (cause = 1 → (s.bm.get m).ilim ≤ iout)) ∧
    (let s : State := State.reset
     let l : Fin 4 := 0
     let s : State := on (96) { up s with epp := s.epp.mod (Fin.ofNat 16 (4 * (0) + 1)) fun e => { e with en := true, out := false, absent := false } }
     s.live = true ∧ (laChannels l.val).any (driven s) = true) ∧
    (let s : State := State.reset
     let c : Fin 16 := 0
     let s : State := dst (96 + 0 / 4) .off { up s with epp := s.epp.mod (0) fun e => { e with en := true, out := false, absent := false, tflt := false } }
     s.writable ∧ inService (s.epp.get c) = true ∧ domSt s (96 + c.val / 4) = .off) ∧
    (let s : State := State.reset
     let c : Fin 16 := 0
     let s : State := dst (96 + 0 / 4) .off { up s with epp := s.epp.mod (0) fun e => { e with out := false, absent := false } }
     s.writable ∧ domSt s (96 + c.val / 4) = .off ∧ (s.epp.get c).absent = false ∧ (s.epp.get c).out = false) ∧
    (let s : State := State.reset
     let c : Fin 16 := 0
     let s : State := { up s with epp := s.epp.mod (0) fun e => { e with absent := true } }
     s.writable ∧ (s.epp.get c).absent = true) := by
  refine ⟨?_, ?_, ?_, ?_, ?_, ?_, ?_, ?_, ?_, ?_, ?_, ?_, ?_⟩ <;> decide +kernel
theorem witness_VbSamplesAndSwrefPeriods :
    (let s : State := State.reset
     let i : Fin 93 := 0
     let vb : Nat := 3000
     let s : State := tin 700 (modShw (modShf (modSp (up s) i.val fun p => { p with vcmd := 50000000 }) i.val fun h => { h with run := true, skip := false, trim := 3 }) i.val fun w => { w with vb := 2900, isw := 30, zll := 20 })
     s.powered = true ∧ ((s.shf.get i).hold = true ∨ s.time.beat % 10 = 0) ∧ (s.shf.get i).run = true ∧ (s.shf.get i).skip
       = false ∧ 0 < vb ∧ 0 < (s.shw.get i).vb ∧ 2 * vRef s i.val < 128000 * vb ∧ 2 * vRef s i.val < 128000 * (s.shw.get
       i).vb) ∧
    (let s : State := State.reset
     let i : Fin 93 := 0
     let s : State := tin 70 (modShf (up s) i.val fun h => { h with run := false })
     s.powered = true ∧ ((s.shf.get i).hold = true ∨ s.time.beat % 10 = 0) ∧ (s.shf.get i).run = false) ∧
    (let s : State := State.reset
     let i : Fin 93 := 0
     let s : State := modShf (up s) i.val fun h => { h with run := true }
     s.powered = true ∧ (s.shf.get i).run = true) := by
  refine ⟨?_, ?_, ?_⟩ <;> decide +kernel
theorem witness_ConductionIntervals :
    (let s : State := State.reset
     let i : Fin 93 := 0
     let k : Fin 9 := 1
     let node : Int := -100000000000000000
     let ps : Nat := 0
     let s : State := { modShw (modShf (modPd (up s) i.val fun p => {p with ovact := false}) i.val fun h => { h with run := true }) i.val fun w => { w with token := if typ i.val = .aon then 1 else 2, fire := none } with ph := s.ph.map fun p => { p with st := .active }, phw := s.phw.map fun p => { p with cond := false, hardOff := false, waitPer := false } }
     s.powered = true ∧ k.val < nph i.val ∧ (s.shf.get i).run = true ∧ occupied s i.val (s.shw.get i).token = true ∧
       slotOwner i.val (s.shw.get i).token = k.val ∧ (s.phw.nth (firstPh i.val + k.val)).cond = false ∧ (s.phw.nth
       (firstPh i.val + k.val)).hardOff = false ∧ (s.shw.get i).fire = none ∧ (s.pd.nth i.val).ovact = false ∧ nodeErr s
       i.val node + ripAt s i.val ps (s.phw.nth (firstPh i.val + k.val)) ≤ -(s.shf.get i).b - 4000 * (s.phw.nth (firstPh
       i.val + k.val)).offs) ∧
    (let s : State := State.reset
     let i : Fin 93 := 0
     let k : Fin 9 := 1
     let node : Int := 10000000000000000000
     let peak : Int := -10
     let ps : Nat := 0
     let s : State := { modShr (up s) i.val fun r => { r with ilim := 40 } with phw := s.phw.map fun p => { p with cond := true } }
     s.powered = true ∧ k.val < nph i.val ∧ (s.phw.nth (firstPh i.val + k.val)).cond = true ∧ sensedI s (firstPh i.val +
       k.val) peak < ilimOf s i.val ∧ (s.shf.get i).b - 4000 * (s.phw.nth (firstPh i.val + k.val)).offs ≤ nodeErr s i.val
       node + ripAt s i.val ps (s.phw.nth (firstPh i.val + k.val))) ∧
    (let s : State := State.reset
     let i : Fin 93 := 0
     let k : Fin 9 := 1
     let peak : Int := 1000000000
     let s : State := { up s with phw := s.phw.map fun p => { p with cond := true }, dbg := { (up s).dbg with injs := [] } }
     s.powered = true ∧ k.val < nph i.val ∧ (s.phw.nth (firstPh i.val + k.val)).cond = true ∧ ilimOf s i.val ≤ sensedI s
       (firstPh i.val + k.val) peak) := by
  refine ⟨?_, ?_, ?_⟩ <;> decide +kernel
theorem witness_LockWindowsAndTrimCycles :
    (let s : State := State.reset
     let i : Fin 93 := 0
     let s : State := { modShw (modShf (up s) i.val fun h => { h with run := true, skip := false }) i.val fun w => { w with badWin := false, nCount := 0 } with ph := s.ph.map fun p => { p with st := .active }, phw := s.phw.map fun p => { p with waitPer := 0 = 3 && p.waitPer } }
     s.powered = true ∧ (s.shf.get i).run = true ∧ (s.shw.get i).badWin = false ∧ (s.shf.get i).skip = false ∧ 0 < nactOf
       s i.val) ∧
    (let s : State := State.reset
     let i : Fin 93 := 0
     let s : State := { modDom (modShw (modShf (up s) i.val fun h => { h with run := true, skip := false }) i.val fun w => { w with fire := none, fireCyc := 0 }) i.val fun d => { d with st := .on } with ph := s.ph.mapIx fun p x => { x with st := if (p + 0) % 5 = 1 then .shed else .active }, phw := s.phw.map fun p => { p with waitPer := false } }
     s.powered = true ∧ (s.shf.get i).run = true ∧ (s.shf.get i).skip = false ∧ (s.shw.get i).fire = none ∧ (s.shw.get
       i).fireCyc = 0 ∧ onOrHold s i.val = true ∧ 0 < nactOf s i.val) := by
  refine ⟨?_, ?_⟩ <;> decide +kernel
theorem witness_LightLoadAndFires :
    (let s : State := State.reset
     let i : Fin 93 := 0
     let s : State := modShw (modShf (modDom (up s) i.val fun d => { d with st := .on }) i.val fun h => { h with run := true, skipEn := true, skip := false, skipRun := 8 }) i.val fun w => { w with fire := none }
     s.powered = true ∧ (s.shf.get i).run = true ∧ (s.shf.get i).skipEn = true ∧ (s.shf.get i).skip = false ∧ 8 ≤
       (s.shf.get i).skipRun ∧ (s.shw.get i).fire = none) ∧
    (let s : State := State.reset
     let i : Fin 93 := 0
     let p : Fin 720 := Fin.ofNat 720 (firstPh i.val + nph i.val - 1)
     let s : State := tin 200 <| act (modShw (modShf (modDom (up s) i.val fun d => { d with st := .on }) i.val fun h => { h with run := true, shedEn := true, hold := false }) i.val fun w => { w with fire := none, idom := -100000000, shedFrom := 0, shedLow := some 0 })
     s.powered = true ∧ i.val ≠ 92 ∧ (s.shf.get i).run = true ∧ (s.shf.get i).shedEn = true ∧ (s.shf.get i).hold = false ∧
       (s.shw.get i).fire = none ∧ ((s.shw.get i).shedLow.any fun b => decide (b + 100 ≤ s.time.beat)) = true ∧ (s.shw.get
       i).parT.nmin < nactOf s i.val ∧ (s.shw.get i).shedFrom ≤ s.time.beat ∧ iphCmp s i.val (s.shw.get i).idom (5 *
       (s.shw.get i).parT.shedTh) = .lt ∧ topActive s i.val = some p.val) ∧
    (let s : State := State.reset
     let i : Fin 93 := 0
     let node : Int := -10000000000000
     let gap : Nat := 24
     let s : State := modShw (modShf (modPd (modDom (up s) i.val fun d => { d with st := .on }) i.val fun p => { p with ovact := false }) i.val fun h => { h with run := true }) i.val fun w => { w with fire := none, rearmed := true }
     s.powered = true ∧ (s.shf.get i).run = true ∧ onOrHold s i.val = true ∧ (s.shw.get i).fire = none ∧ (s.shw.get
       i).rearmed = true ∧ 24 ≤ gap ∧ (s.pd.get (Fin.castLE (by decide) i)).ovact = false ∧ nodeErr s i.val node ≤
       -((s.shf.get i).uf * 64000)) ∧
    (let s : State := State.reset
     let i : Fin 93 := 0
     let k : Fin 9 := 3
     let tok : Nat := 0
     let a : Nat := 1
     let b : Nat := 3
     let l : List Nat := []
     let u : Nat := 20
     let s : State := modShw (up s) i.val fun w => { w with fire := some ⟨tok, [1,3], 20⟩ }
     s.powered = true ∧ (s.shw.get i).fire = some ⟨tok, a :: b :: l, u⟩ ∧ k.val ∈ a :: b :: l ∧ (a :: b :: l).filter (· ≠
       k.val) ≠ []) ∧
    (let s : State := State.reset
     let i : Fin 93 := 0
     let k : Fin 9 := 3
     let tok : Nat := 0
     let u : Nat := 20
     let s : State := modShw (up s) i.val fun w => { w with fire := some ⟨tok, [3], 20⟩ }
     s.powered = true ∧ (s.shw.get i).fire = some ⟨tok, [k.val], u⟩) ∧
    (let s : State := State.reset
     let i : Fin 93 := 0
     let node : Int := 1000000000000000
     let f : Fire := ⟨0, [2], 20⟩
     let s : State := modShw (up s) i.val fun w => { w with fire := some ⟨0, [2], 20⟩ }
     s.powered = true ∧ (s.shw.get i).fire = some f ∧ -((f.uf : Int) * 64000) ≤ 2 * nodeErr s i.val node) := by
  refine ⟨?_, ?_, ?_, ?_, ?_, ?_⟩ <;> decide +kernel
theorem witness_SheafConfigurationAndSwrefSource :
    (let s : State := State.reset
     let i : Fin 93 := 0
     let s : State := modDom (modShf (up s) i.val fun h => { h with run := true }) i.val fun d => { d with present := true }
     s.writable ∧ present s i.val = true ∧ (s.shf.get i).run = true) ∧
    (let s : State := State.reset
     let i : Fin 93 := 0
     let s : State := modDom (modShf (up s) i.val fun h => { h with run := false }) i.val fun d => { d with present := true }
     s.writable ∧ present s i.val = true ∧ (s.shf.get i).run = false) ∧
    (let s : State := State.reset
     let s : State := up s
     s.writable) ∧
    (let s : State := State.reset
     let s : State := { up s with swref := { s.swref with src := 1, fallbk := false } }
     s.live = true ∧ s.swref.src = 1 ∧ s.swref.fallbk = false) ∧
    (let s : State := State.reset
     let s : State := { up s with swref := { s.swref with src := 0 } }
     s.live = true ∧ s.swref.src ≠ 1) ∧
    (let s : State := State.reset
     let s : State := { up s with swref := { s.swref with syncOk := true } }
     s.writable ∧ s.swref.syncOk = true) ∧
    (let s : State := State.reset
     let s : State := { up s with swref := { s.swref with syncOk := false } }
     s.writable ∧ s.swref.syncOk = false) ∧
    (let s : State := State.reset
     let s : State := tin 44 { up s with swref := { s.swref with src := 1, fallbk := true, srcAct := 1 } }
     s.live = true ∧ s.swref.src = 1 ∧ s.swref.fallbk = true ∧ s.swref.srcAct = 1 ∧ s.time.beat % 4 = 0) := by
  refine ⟨?_, ?_, ?_, ?_, ?_, ?_, ?_, ?_⟩ <;> decide +kernel
theorem witness_HoldEnterAndExit :
    (let s : State := State.reset
     let i : Fin 93 := 0
     let s : State := modDom (calm i.val (on i.val (up s))) i.val fun d => { d with present := true }
     s.powered = true ∧ present s i.val = true ∧ (s.shf.get i).hold = false ∧ domSt s i.val = .on ∧ s.prot.coolant = false) ∧
    (let s : State := State.reset
     let i : Fin 93 := 0
     let s : State := let s := modDom (calm i.val (on i.val (up s))) i.val fun d => { d with present := true }; { s with prot := { s.prot with coolant := true } }
     s.powered = true ∧ present s i.val = true ∧ (s.shf.get i).hold = false ∧ domSt s i.val = .on ∧ s.prot.coolant = true
       ∧ i.val < 72) ∧
    (let s : State := State.reset
     let i : Fin 93 := 0
     let s : State := let s := modShw (modGw (modShf (dst i.val .hold (calm i.val (up s))) i.val fun h => { h with hold := true }) i.val fun g => { g with held := [] }) i.val fun w => { w with holdFrz := false}; { s with defer := [] }
     s.live = true ∧ (s.shf.get i).hold = true ∧ (s.shw.get i).holdFrz = false ∧ (s.shr.get i).darkPend = false ∧ domSt s
       i.val = .hold ∧ (s.gw.nth i.val).held = [] ∧ s.defer = [] ∧ s.prot.coolant = false ∧ s.rst.run = none) := by
  refine ⟨?_, ?_, ?_⟩ <;> decide +kernel
theorem witness_NoticesFrequencyOrderAndFollowing :
    (let s : State := State.reset
     let d : Fin 128 := 0
     let e : Nat := 20
     let p : Pend := pend1 20
     let i : Fin 93 := 0
     let s : State := let s := modNd (calm d.val (up s)) d.val fun x => { x with pend := [p] }; { s with time := { s.time with beat := 30 } }
     s.live = true ∧ (s.nd.get d).pend = [p] ∧ p.eff = e ∧ p.restored = false ∧ 0 < pendStep p ∧ restorePoint p ≤
       s.time.beat ∧ (s.shf.get i).hold = false) ∧
    (let s : State := State.reset
     let d : Fin 128 := 0
     let e : Nat := 20
     let p : Pend := pend1 20
     let i : Fin 93 := 0
     let s : State := let s := act (modShw (modShf (modNd (on d.val (calm d.val (up s))) d.val fun x => { x with pend := [p] }) i.val fun h => { h with rampEn := true }) i.val fun w => { w with fire := none }); { s with time := { s.time with beat := 30 } }
     s.live = true ∧ (s.nd.get d).pend = [p] ∧ p.eff = e ∧ rampLeft p ≠ 0 ∧ (s.shf.get i).rampEn = true ∧ (s.shf.get
       i).hold = false ∧ (s.shw.get i).fire = none ∧ domSt s i.val = .on ∧ 0 < nactSet s i.val ∧ e ≤ s.time.beat + 1) ∧
    (let s : State := State.reset
     let d : Fin 128 := 0
     let e : Nat := 20
     let p : Pend := pend1 20
     let s : State := let s := modNd (on d.val (calm d.val (up s))) d.val fun x => { x with pend := [p] }; { s with time := { s.time with beat := 30 }, exa := { s.exa with svpl := s.exa.svpl.set d none } }
     s.live = true ∧ (s.nd.get d).pend = [p] ∧ p.eff = e ∧ p.entered = false ∧ termSum p ≠ 0 ∧ p.start ≤ s.time.beat ∧
       domSt s d.val = .on ∧ (d.val < 93 → (s.shf.nth d.val).hold = false) ∧ s.exa.svpl.get d = none) ∧
    (let s : State := State.reset
     let d : Fin 128 := 0
     let e : Nat := 20
     let p : Pend := pend1 20
     let s : State := let s := modNd (on d.val (calm d.val (up s))) d.val fun x => { x with pend := [p] }; let s := modSp s d.val fun x => { x with plhold := 10 }; { s with time := { s.time with beat := 30 } }
     s.live = true ∧ (s.nd.get d).pend = [p] ∧ p.eff = e ∧ (if p.entered = true then p.leave else e + (s.sp.get d).plhold)
       ≤ s.time.beat) ∧
    (let s : State := State.reset
     let s : State := up s
     s.live = true) ∧
    (let s : State := State.reset
     let d : Fin 128 := 0
     let m : Nat := 3
     let due : Nat := 0
     let cmd : Bool := 0 = 0
     let s : State := modSp (on d.val (calm d.val (up s))) d.val fun x => { x with lower := some (3, 0, 0 = 0), vopNext := if 0 = 0 then some 12000 else none }
     s.live = true ∧ (s.sp.get d).lower = some (m, due, cmd) ∧ due ≤ s.time.beat) ∧
    (let s : State := State.reset
     let d : Fin 128 := 0
     let vlow : Int := 100000000
     let s : State := let s := modSp (on d.val (calm d.val (up s))) d.val fun x => { x with vtgt := x.vcmd, fpend := true, lower := none }; { s with g := { s.g with exact := false } }
     s.live = true ∧ (s.sp.get d).fpend = true ∧ (s.sp.get d).lower = none ∧ domSt s d.val = .on ∧ (s.sp.get d).vcmd =
       (s.sp.get d).vtgt ∧ vSset s d.val - (s.sp.get d).feband * 64000 ≤ vlow * 16000 ∧ exactOn s = false) ∧
    (let s : State := State.reset
     let d : Fin 128 := 0
     let vlow : Int := -1000000000
     let due : Nat := 0
     let s : State := let s := modSp (on d.val (calm d.val (up s))) d.val fun x => { x with vtgt := x.vcmd, feEn := true, feAct := false, feDue := some 0 }; if d.val < 93 then modShw s d.val fun w => { w with fire := none } else s
     s.live = true ∧ domSt s d.val = .on ∧ feSuspended s d.val = false ∧ settled s d.val vlow = false ∧ (s.sp.get d).feEn
       = true ∧ (s.sp.get d).feAct = false ∧ (s.sp.get d).feDue = some due ∧ due ≤ s.time.beat) ∧
    (let s : State := State.reset
     let d : Fin 128 := 0
     let vlow : Int := 100000000
     let s : State := let s := modSp (on d.val (calm d.val (up s))) d.val fun x => { x with vtgt := x.vcmd}; if d.val < 93 then modShw s d.val fun w => { w with fire := none } else s
     s.live = true ∧ feSuspended s d.val = false ∧ settled s d.val vlow = true) := by
  refine ⟨?_, ?_, ?_, ?_, ?_, ?_, ?_, ?_, ?_⟩ <;> decide +kernel
theorem witness_GatingWakingAndArrayBanks :
    (let s : State := State.reset
     let d : Fin 128 := 0
     let s : State := modGw (dst d.val .gating (up s)) d.val fun g => { g with stage := 4 }
     s.live = true ∧ domSt s d.val = .gating ∧ staged d.val = true ∧ 0 < (s.gw.get d).stage) ∧
    (let s : State := State.reset
     let d : Fin 128 := 0
     let near : Bool := 0==0
     let ns : Nat := 200+0
     let s : State := modSp (modGw (dst d.val .waking (up s)) d.val fun g => { g with gateTo := .no, stage := 4, nstg := 8, wake := some ⟨1,2,false,true,false,false⟩ }) d.val fun p => { p with vtgt := p.vcmd }
     s.live = true ∧ staged d.val = true ∧ rising s d.val = true ∧ (s.sp.get d).vcmd = (s.sp.get d).vtgt ∧ (s.gw.get
       d).stage < (s.gw.get d).nstg ∧ (near = true ∨ 200 ≤ ns)) ∧
    (let s : State := State.reset
     let d : Fin 128 := 0
     let s : State := modGw (dst d.val .gating (calm d.val (up s))) d.val fun g => { g with gateTo := .off, stage := 0, wake := none }
     s.live = true ∧ domSt s d.val = .gating ∧ (s.gw.get d).gateTo = .off ∧ staged d.val = true ∧ (s.gw.get d).stage = 0 ∧
       (s.gw.get d).wake = none ∧ s.rst.run = none) ∧
    (let s : State := State.reset
     let d : Fin 128 := 0
     let s : State := modShf (modSp (modGw (dst d.val .gating (calm d.val (up s))) d.val fun g => { g with gateTo := .retention }) d.val fun p => { p with vtgt := p.vcmd }) d.val fun h => { h with run := true }
     s.live = true ∧ domSt s d.val = .gating ∧ (s.gw.get d).gateTo = .retention ∧ (s.sp.get d).vcmd = (s.sp.get d).vtgt ∧
       (s.shf.nth d.val).run = true ∧ s.rst.run = none) ∧
    (let s : State := State.reset
     let d : Fin 128 := Fin.ofNat 128 (88)
     let s : State := let s := modSp (modGw (dst d.val .waking (calm d.val (up s))) d.val fun g => { g with gateTo := .off, woken := true }) d.val fun p => { p with vcmd := 0 }; { s with rst := { s.rst with run := none } }
     s.live = true ∧ domSt s d.val = .waking ∧ (s.gw.get d).gateTo = .off ∧ (s.sp.get d).vcmd = 0 ∧ (s.gw.get d).woken =
       true ∧ s.rst.run = none) ∧
    (let s : State := State.reset
     let d : Fin 128 := 0
     let s : State := let s := modSp (modGw (dst d.val .waking (calm d.val (up s))) d.val fun g => { g with gateTo := .no, stage := 8, nstg := 8, wake := some ⟨1,2,false,true,false,false⟩ }) d.val fun p => { p with vtgt := p.vcmd }; { s with g := { s.g with exact := false } }
     s.live = true ∧ rising s d.val = true ∧ (s.sp.get d).vcmd = (s.sp.get d).vtgt ∧ s.rst.run = none ∧ exactOn s = false
       ∧ (typ d.val = .ma ∨ staged d.val = true ∧ (s.gw.get d).stage = (s.gw.get d).nstg)) ∧
    (let s : State := State.reset
     let d : Fin 128 := 0
     let w : Wake := ⟨1, 500, false, true, false, false⟩
     let s : State := let s := modGw (on d.val (calm d.val (up s))) d.val fun g => { g with ready := false, readyAt := 100, wake := some w }; { s with time := { s.time with beat := 200 } }
     s.live = true ∧ domSt s d.val = .on ∧ (s.gw.get d).ready = false ∧ (s.pd.get d).uvact = false ∧ (s.gw.get d).readyAt
       ≤ s.time.beat ∧ (s.gw.get d).wake = some w ∧ s.time.beat ≤ w.dline) ∧
    (let s : State := State.reset
     let d : Fin 128 := 0
     let w : Wake := ⟨1, 150, false, true, false, false⟩
     let s : State := let s := modGw (on d.val (calm d.val (up s))) d.val fun g => { g with ready := false, readyAt := 100, wake := some w }; { s with time := { s.time with beat := 200 }, g := { s.g with exact := false } }
     s.live = true ∧ domSt s d.val = .on ∧ (s.gw.get d).ready = false ∧ (s.pd.get d).uvact = false ∧ (s.gw.get d).readyAt
       ≤ s.time.beat ∧ (s.gw.get d).wake = some w ∧ w.dline < s.time.beat ∧ exactOn s = false) ∧
    (let s : State := State.reset
     let d : Fin 128 := if 0=0 then 90 else 97
     let vlow : Int := 1000000000
     let w : Wake := ⟨1, 150, false, true, false, false⟩
     let s : State := modSp (modGw (dst d.val .waking (calm d.val (up s))) d.val fun g => { g with gateTo := .no, wake := some w }) d.val fun p => { p with vtgt := p.vcmd }
     s.live = true ∧ (typ d.val = .lk ∨ typ d.val = .la) ∧ rising s d.val = true ∧ (s.gw.get d).wake = some w ∧ (s.sp.get
       d).vcmd = (s.sp.get d).vtgt ∧ vSset s d.val - (s.sp.get d).feband * 64000 ≤ vlow * 16000) ∧
    (let s : State := State.reset
     let d : Fin 128 := 0
     let w : Wake := ⟨1, 150, false, true, false, false⟩
     let s : State := let s := modGw (dst d.val .waking (calm d.val (up s))) d.val fun g => { g with waitAdm := true, wake := some w }; { s with time := { s.time with beat := 6000 } }
     s.live = true ∧ (typ d.val = .ma ∨ staged d.val = true) ∧ (s.shr.nth d.val).darkPend = false ∧ (s.gw.get d).waitAdm =
       true ∧ (s.gw.get d).wake = some w ∧ w.act + 5000 ≤ s.time.beat) ∧
    (let s : State := State.reset
     let s : State := up s
     s.live = true) ∧
    (let s : State := State.reset
     let m : Fin 16 := 0
     let b : Fin 64 := 0
     let s : State := { modDom (up s) (72+m.val) fun d => { d with present := true } with bank := s.bank.map fun x => { x with gated := x.gated ||| (1 <<< b.val), waking := [] } }
     s.live = true ∧ present s (72 + m.val) = true ∧ (s.bank.get m).gated.getLsbD b.val = true ∧ (s.bank.get m).waking =
       []) ∧
    (let s : State := State.reset
     let m : Fin 16 := 0
     let b : Fin 64 := 0
     let due : Nat := 0
     let s : State := { (up s) with bank := s.bank.map fun x => { x with waking := [(b.val, 0)] } }
     s.live = true ∧ (s.bank.get m).waking = [(b.val, due)] ∧ due ≤ s.time.beat) := by
  refine ⟨?_, ?_, ?_, ?_, ?_, ?_, ?_, ?_, ?_, ?_, ?_, ?_, ?_⟩ <;> decide +kernel
theorem witness_PhaseExclusionAndHiccups :
    (let s : State := State.reset
     let p : Fin 720 := 0
     let s : State := { (act (calm (phDom p.val) (up s))) with phw := s.phw.map fun w => { w with lowRun := 32 } }
     s.powered = true ∧ 32 ≤ (s.phw.get p).lowRun ∧ ((s.ph.get p).st = .active ∨ (s.ph.get p).st = .hold)) ∧
    (let s : State := State.reset
     let p : Fin 720 := 0
     let s : State := act (up s)
     s.powered = true ∧ (s.ph.get p).st ≠ .absent ∧ (s.ph.get p).st ≠ .excluded) ∧
    (let s : State := State.reset
     let p : Fin 720 := 0
     let s : State := act (up s)
     s.writable ∧ (s.ph.get p).st ≠ .absent ∧ (s.ph.get p).st ≠ .excluded) ∧
    (let s : State := State.reset
     let p : Fin 720 := 0
     let s : State := { up s with ph := s.ph.map fun p => { p with st := .excluded } }
     s.writable ∧ ((s.ph.get p).st = .absent ∨ (s.ph.get p).st = .excluded)) ∧
    (let s : State := State.reset
     let i : Fin 93 := 0
     let s : State := modPh (modPh (modShw (modShf (up (act s)) i.val fun h => { h with run := true, hold := false }) i.val fun w => { w with fire := none }) (sparePh i.val) fun p => { p with st := .standby }) (firstPh i.val) fun p => { p with st := .excluded }
     s.powered = true ∧ (s.ph.nth (sparePh i.val)).st = .standby ∧ spareNeeded s i.val = true ∧ (s.shf.get i).run = true ∧
       (s.shw.get i).fire = none) ∧
    (let s : State := State.reset
     let p : Fin 720 := 0
     let s : State := let s := modPh (dst (phDom p.val) .dark (up s)) p.val fun x => { x with st := .excluded, xcause := 1 }; modShr s (phDom p.val) fun r => { r with ladder := ladderStep s (phDom p.val) }
     s.writable ∧ (s.ph.get p).st = .excluded ∧ (domSt s (phDom p.val) = .off ∨ domSt s (phDom p.val) = .dark) ∧
       ((s.ph.get p).xcause ≠ 2 ∧ (s.ph.get p).xcause ≠ 3 ∨ s.g.lc = 1) ∧ phDom p.val ≠ 92 ∧ (s.shr.nth (phDom
       p.val)).ladder = ladderStep s (phDom p.val)) ∧
    (let s : State := State.reset
     let p : Fin 720 := 0
     let s : State := let s := modPh (dst (phDom p.val) .dark (up s)) p.val fun x => { x with st := .excluded, xcause := 2 }; { s with g := { s.g with lc := 4 } }
     s.writable ∧ ((s.ph.get p).xcause = 2 ∨ (s.ph.get p).xcause = 3) ∧ s.g.lc ≠ 1) ∧
    (let s : State := State.reset
     let p : Fin 720 := 0
     let n : Nat := if 0=0 then 0 else 5
     let s : State := { modPhw (modShr (up (act s)) (phDom p.val) fun r => { r with nhic := 8 }) (firstPh (phDom p.val) + (if phPos p.val = 0 then 1 else 0)) (fun w => { w with limRun := 0 }) with phw := (s.phw.map fun w => { w with limRun := 0 }).mod p fun w => { w with limRun := 10, rejoin := if 0 = 0 then none else some s.time.beat, fails := 4 } }
     s.powered = true ∧ slotted s p.val = true ∧ (s.shr.nth (phDom p.val)).nhic ≤ (s.phw.get p).limRun ∧ (phDom p.val = 92
       → 2 ≤ ((phasesOf 92).filter fun q => decide (q ≠ p.val) && slotted s q).length) ∧ allAtLimit s (phDom p.val) =
       false ∧ n < 8 ∧ n = (if ((s.phw.get p).rejoin.any fun b => decide (s.time.beat < b + 10000)) = true then (s.phw.get
       p).fails + 1 else 0)) ∧
    (let s : State := State.reset
     let p : Fin 720 := 0
     let b : Nat := s.time.beat
     let s : State := { modShr (up (act s)) (phDom p.val) (fun r => { r with nhic := 8 }) with phw := (s.phw.map fun w => { w with limRun := 0 }).mod p fun w => { w with limRun := 10, rejoin := some s.time.beat, fails := 7 } }
     s.powered = true ∧ slotted s p.val = true ∧ (s.shr.nth (phDom p.val)).nhic ≤ (s.phw.get p).limRun ∧ (phDom p.val = 92
       → 2 ≤ ((phasesOf 92).filter fun q => decide (q ≠ p.val) && slotted s q).length) ∧ allAtLimit s (phDom p.val) =
       false ∧ (s.phw.get p).rejoin = some b ∧ s.time.beat < b + 10000 ∧ 7 ≤ (s.phw.get p).fails) ∧
    (let s : State := State.reset
     let p : Fin 720 := 0
     let s : State := { tin 1000000 (modShr (up (act s)) (phDom p.val) fun r => { r with th := 8 }) with ph := s.ph.map fun w => { w with st := .hiccup }, phw := s.phw.map fun w => { w with hicAt := 100 } }
     s.powered = true ∧ (s.ph.get p).st = .hiccup ∧ (s.phw.get p).hicAt + 100 * (s.shr.nth (phDom p.val)).th ≤ s.time.beat) ∧
    (let s : State := State.reset
     let p : Fin 720 := 0
     let b : Nat := 40
     let s : State := { tin 1000000 (up (act s)) with phw := s.phw.map fun w => { w with rejoin := some 40 } }
     s.powered = true ∧ slotted s p.val = true ∧ (s.phw.get p).rejoin = some b ∧ b + 10000 ≤ s.time.beat) ∧
    (let s : State := State.reset
     let i : Fin 93 := 0
     let s : State := { modGw (modShr (modShf (on i.val (calm i.val (up (act s)))) i.val fun h => { h with run := true }) i.val (fun r => { r with nhic := 8, onAt := none, rising := false })) i.val (fun g => { g with gateTo := .no }) with phw := s.phw.map fun w => { w with limRun := 10 } }
     s.powered = true ∧ i.val ≠ 92 ∧ domSt s i.val = .on ∧ allAtLimit s i.val = true ∧ (s.shr.get i).rising = false ∧
       (s.shr.get i).onAt = none ∧ (s.shf.get i).hold = false ∧ (s.shf.get i).run = true ∧ (s.gw.nth i.val).gateTo = .no) ∧
    (let s : State := State.reset
     let i : Fin 93 := 0
     let b : Nat := s.time.beat
     let s : State := { modShr (modShf (on i.val (calm i.val (up (act s)))) i.val fun h => { h with run := true }) i.val (fun r => { r with nhic := 8, onAt := some s.time.beat, retry := 7 }) with phw := s.phw.map fun w => { w with limRun := 10 } }
     s.powered = true ∧ i.val ≠ 92 ∧ domSt s i.val = .on ∧ allAtLimit s i.val = true ∧ (s.shr.get i).onAt = some b ∧
       s.time.beat < b + 10000 ∧ 7 ≤ (s.shr.get i).retry ∧ (s.shf.get i).hold = false ∧ (s.shf.get i).run = true) ∧
    (let s : State := State.reset
     let i : Fin 93 := 0
     let s : State := tin 1000000 (modShr (dst i.val .waking (up (act s))) i.val (fun r => { r with dhic := true, rising := false, darkPend := false, hicAt := 0, th := 8 }))
     s.powered = true ∧ (s.shr.get i).dhic = true ∧ (s.shr.get i).rising = false ∧ (s.shr.get i).darkPend = false ∧ domSt
       s i.val = .waking ∧ (s.shr.get i).hicAt + 100 * (s.shr.get i).th ≤ s.time.beat) ∧
    (let s : State := State.reset
     let i : Fin 93 := 0
     let b : Nat := 7
     let s : State := tin 1000000 (modShr (on i.val (up (act s))) i.val (fun r => { r with onAt := some 7 }))
     s.powered = true ∧ domSt s i.val = .on ∧ (s.shr.get i).onAt = some b ∧ b + 10000 ≤ s.time.beat) ∧
    (let s : State := State.reset
     let s : State := up s
     s.writable) := by
  refine ⟨?_, ?_, ?_, ?_, ?_, ?_, ?_, ?_, ?_, ?_, ?_, ?_, ?_, ?_, ?_, ?_⟩ <;> decide +kernel
theorem witness_GleanerSweeps :
    (let s : State := State.reset
     let i : Fin 93 := 0
     let s : State := tin 100000000 (modDom (on i.val (up s)) i.val fun d => { d with present := true })
     s.live = true ∧ present s i.val = true ∧ domSt s i.val = .on ∧ s.time.beat % sweepPeriod (bandOf s i.val) = 0) ∧
    (let s : State := State.reset
     let i : Fin 93 := 0
     let s : State := modShr (act (up s)) i.val fun r => { r with sweepPh := true }
     s.live = true ∧ (s.shr.get i).sweepPh = true) ∧
    (let s : State := State.reset
     let i : Fin 93 := 0
     let m : HealthMeas := ⟨[⟨400, 5, false, false⟩, ⟨9, 5, false, false⟩, ⟨7, 5, false, false⟩], 5, 6⟩
     let p : Fin 720 := Fin.ofNat 720 (firstPh i.val)
     let s : State := let s := noInj (modShr (act (up s)) i.val fun r => { r with sweepPh := true }); { s with phw := s.phw.map fun w => { w with runAB := 7 } }
     s.live = true ∧ (s.shr.get i).sweepPh = true ∧ slotted s p.val = true ∧ SenseOff s m p.val ∧ (otherActive s p.val ≠
       [] ∧ OthersAgree s m p.val ∧ (2 ≤ (s.phw.get p).runAB ∧ ((s.phw.get p).seenC = true ∨ Witnessed s m p.val) ∨ 7 ≤
       (s.phw.get p).runAB) ∨ otherActive s p.val = [] ∧ Witnessed s m p.val ∧ 2 ≤ (s.phw.get p).runAC)) ∧
    (let s : State := State.reset
     let i : Fin 93 := 0
     let s : State := noInj <| modShr (act (up s)) i.val fun r => { r with sweepPh := true }
     s.live = true ∧ (s.shr.get i).sweepPh = true ∧ s.dbg.injs = []) ∧
    (let s : State := State.reset
     let i : Fin 93 := 0
     let s : State := modShr (act (up s)) i.val fun r => { r with sweepSns := true }
     s.live = true ∧ (s.shr.get i).sweepSns = true) ∧
    (let s : State := State.reset
     let g : Fin 1232 := 0
     let i : Int := 1000000
     let s : State := let s := modShr (on (bondDom g.val) (up s)) (bondDom g.val) fun r => { r with sweepBond := true }; { s with bond := s.bond.mod g fun b => { b with zbase := 30 }, sns := s.sns.map fun x => { x with excl := false } }
     s.live = true ∧ (s.shr.nth (bondDom g.val)).sweepBond = true ∧ domSt s (bondDom g.val) = .on ∧ (rating (bondDom
       g.val) 0).1 ≤ 4 * i ∧ (s.sns.nth (bondSns g.val)).excl = false ∧ (s.bond.get g).zbase ≠ 0) := by
  refine ⟨?_, ?_, ?_, ?_, ?_, ?_⟩ <;> decide +kernel
theorem witness_EstimatorWindows :
    (let s : State := State.reset
     let img : List Byte := if 0 = 0 then [1,2,3,4] else bigImg
     let s : State := let s := tin (64*(0+1)) (up s); { s with est := { s.est with next := [], img := some img, wins := [], wholeFrom := 0 }, time := { s.time with wholeFrom := 0, modeAt := 0 } }
     s.live = true ∧ s.time.beat % 64 = 0 ∧ 64 ≤ s.time.beat ∧ s.est.next = [] ∧ s.est.img = some img ∧ estWhole s
       (s.time.beat - 64) = true ∧ (s.est.wins.all fun w => decide (w.k ≠ s.time.beat / 64 - 1)) = true) ∧
    (let s : State := State.reset
     let w : EWin := ⟨1, List.replicate 93 ⟨5000,true,true⟩⟩
     let s : State := let s := tin 192 (up s); { s with est := { s.est with wins := [w], cmpAt := 192, wholeFrom := 0 }, time := { s.time with wholeFrom := 0, modeAt := 0 }, acts := [] }
     s.live = true ∧ s.time.beat % 64 = 0 ∧ 128 ≤ s.time.beat ∧ winAt s (s.time.beat / 64 - 2) = some w ∧ s.est.cmpAt =
       s.time.beat ∧ exactComes s = false ∧ estWhole s (s.time.beat - 64) = true) ∧
    (let s : State := State.reset
     let w : EWin := ⟨1, List.replicate 93 ⟨50,true,true⟩⟩
     let s : State := let s := tin 256 (up s); { s with est := { s.est with wins := [w], next := [], cmpAt := 0, wholeFrom := 0 }, time := { s.time with wholeFrom := 0, modeAt := 0 }, estd := s.estd.map fun e => { e with wasAll := true, iwK := 3, iwN := 1, iwSum := if 0=0 then 51 else 50000 } }
     s.live = true ∧ s.time.beat % 64 = 0 ∧ 192 ≤ s.time.beat ∧ winAt s (s.time.beat / 64 - 3) = some w ∧ s.est.next = []
       ∧ s.est.cmpAt ≠ s.time.beat ∧ estWhole s (s.time.beat - 64) = true) := by
  refine ⟨?_, ?_, ?_⟩ <;> decide +kernel
theorem witness_RefclkEdgeStartsABeat :
    (let s : State := State.reset
     let s : State := let s := edge s; { s with ntc := { s.ntc with inBuf := [] }, bu := { s.bu with cal := .no } }
     s.ticking ∧ s.g.chipReq = false ∧ s.blkReset = [] ∧ s.rst.run = none ∧ s.bu.cal = .no ∧ s.acts = [] ∧ s.ntc.inBuf =
       []) ∧
    (let s : State := State.reset
     let s : State := { up s with g := { s.g with boot := .done, chipReq := false }, dbg := { s.dbg with active := true } }
     s.ticking ∧ s.dbg.active = true) := by
  refine ⟨?_, ?_⟩ <;> decide +kernel
theorem witness_MarkersReferenceLossAndAlignment :
    (let s : State := State.reset
     let s : State := { up s with time := { s.time with valid := false, refclk := true }, seqr := { s.seqr with restamp := none } }
     s.live = true ∧ s.time.valid = false ∧ s.seqr.restamp = none) ∧
    (let s : State := State.reset
     let m : Nat := s.time.beat
     let s : State := let s := tin (s.time.beat % 2^64) s; { up s with time := { s.time with valid := true, refclk := true } }
     s.live = true ∧ s.time.valid = true ∧ s.time.beat = m % 2 ^ 64) ∧
    (let s : State := State.reset
     let m : Nat := 2^64 + 40
     let s : State := let s := tin 500 s; { up s with time := { s.time with valid := true, refclk := true } }
     s.live = true ∧ s.time.valid = true ∧ m % 2 ^ 64 < s.time.beat) ∧
    (let s : State := State.reset
     let m : Nat := 2^64 + 540
     let s : State := let s := tin 500 s; { up s with time := { s.time with valid := true, refclk := true }, acts := [], exa := { s.exa with pend := [], svreq := none } }
     s.live = true ∧ s.time.valid = true ∧ s.time.beat < m % 2 ^ 64 ∧ s.acts = [] ∧ s.exa.pend = [] ∧ s.exa.svreq = none) ∧
    (let s : State := State.reset
     let s : State := up s
     s.ticking) ∧
    (let s : State := State.reset
     let s : State := { up s with seqr := { s.seqr with journal := none }, exa := { s.exa with voidLater := false }, time := { s.time with refclk := false } }
     s.powered = true ∧ s.time.refclk = false ∧ s.seqr.journal = none ∧ s.exa.voidLater = false) ∧
    (let s : State := State.reset
     let bits : Nat := 5
     let s : State := { up s with seqr := { s.seqr with journal := some 5 }, time := { s.time with refclk := false } }
     s.powered = true ∧ s.time.refclk = false ∧ s.seqr.journal = some bits) ∧
    (let s : State := State.reset
     let s : State := { up s with time := { s.time with aligned := true }, lane := s.lane.map fun l => { l with st := .run }, side := { s.side with told := false } }
     s.powered = true ∧ s.time.aligned = true ∧ armed s = true ∧ s.side.told = false) ∧
    (let s : State := State.reset
     let s : State := { up s with time := { s.time with aligned := true }, lane := s.lane.map fun l => { l with st := .halted }, side := { s.side with told := false } }
     s.powered = true ∧ armed s = false ∧ s.side.told = false) ∧
    (let s : State := State.reset
     let s : State := up s
     s.powered = true) := by
  refine ⟨?_, ?_, ?_, ?_, ?_, ?_, ?_, ?_, ?_, ?_⟩ <;> decide +kernel
theorem witness_NoticePortAndStartGate :
    (let s : State := State.reset
     let s : State := up s
     s.live = true) ∧
    (let s : State := State.reset
     let k : Nat := 1
     let w : Word64 := 0x1000000000000000#64 + (5#64 <<< 54) + (5#64 <<< 47) + (100#64 <<< 24) + 77#64
     let r : NRec := .step 5 5 100 77
     let s : State := let s := modDom (tin 100 (edge s)) 5 fun d => { d with present := true }; { s with ntc := { s.ntc with inBuf := [(1, w)], npen := 0xFFFF, queue := [], full := .zero } }
     EdgeAlone s ∧ s.ntc.inBuf = [(k, w)] ∧ portCheck s k w = some r ∧ s.ntc.queue.length < 64) ∧
    (let s : State := State.reset
     let k : Nat := 1
     let w : Word64 := 77
     let s : State := let s := modDom (tin 100 (edge s)) 5 fun d => { d with present := true }; { s with ntc := { s.ntc with inBuf := [(1, w)], npen := 0xFFFF, queue := [], full := .zero } }
     EdgeAlone s ∧ s.ntc.inBuf = [(k, w)] ∧ portCheck s k w = none) ∧
    (let s : State := State.reset
     let k : Nat := 1
     let w : Word64 := 0x1000000000000000#64 + (5#64 <<< 54) + (5#64 <<< 47) + (100#64 <<< 24) + 77#64
     let r : NRec := .step 5 5 100 77
     let s : State := let s := modDom (tin 100 (edge s)) 5 fun d => { d with present := true }; { s with ntc := { s.ntc with inBuf := [(1, w)], npen := 0xFFFF, queue := (List.range 64).map fun k => (k, .arrive 5 k), full := .zero }, flt := s.flt.map fun x => { x with react := x.react.map fun _ => 0 } }
     EdgeAlone s ∧ s.ntc.inBuf = [(k, w)] ∧ portCheck s k w = some r ∧ 64 ≤ s.ntc.queue.length ∧ (s.flt.get
       bSEQ).react.nth 4 % 8 < 3) ∧
    (let s : State := State.reset
     let s : State := let s := modDom (tin 100 (edge s)) 5 fun d => { d with present := true }; { s with ntc := { s.ntc with inBuf := [(3, 0x3000000000000000#64 + (5#64 <<< 54)), (3, 0x3000000000000000#64 + (5#64 <<< 54)), (3, 0x3000000000000000#64 + (5#64 <<< 54)), (3, 0x3000000000000000#64 + (5#64 <<< 54)), (3, 0x3000000000000000#64 + (5#64 <<< 54)), (3, 0x3000000000000000#64 + (5#64 <<< 54)), (3, 0x3000000000000000#64 + (5#64 <<< 54)), (3, 0x3000000000000000#64 + (5#64 <<< 54)), (3, 0x3000000000000000#64 + (5#64 <<< 54))], npen := 0xFFFF, queue := [], full := .zero }, flt := s.flt.map fun x => { x with react := x.react.map fun _ => 0 } }
     EdgeAlone s ∧ s.ntc.inBuf.length = 9 ∧ s.ntc.queue = [] ∧ (s.flt.get bSEQ).react.nth 4 % 8 < 3) ∧
    (let s : State := State.reset
     let b : Nat := 40
     let src : Nat := 5
     let d : Nat := 4
     let dI : Int := 7
     let eb : Nat := 99
     let l : List (Nat × NRec) := s.ntc.queue
     let s : State := let s := tin 100 (up s); { s with ntc := { s.ntc with queue := (40, .step 5 4 7 99) :: l, outBeat := 3 } }
     s.live = true ∧ s.ntc.queue = (b, .step src d dI eb) :: l ∧ b < s.time.beat ∧ s.ntc.outBeat ≠ s.time.beat) ∧
    (let s : State := State.reset
     let f : Flight := ⟨90, 86, .step 5 (0) 70 99⟩
     let l : List Flight := s.ntc.flight
     let src : Nat := 5
     let d : Fin 128 := 0
     let dI : Int := 70
     let eb : Nat := 99
     let s : State := let s := modNd (tin 100 (up s)) d.val fun x => { x with pend := [] }; { s with ntc := { s.ntc with flight := f :: l, horizon := 3000, latewin := 10 } }
     s.live = true ∧ s.ntc.flight = f :: l ∧ f.arr ≤ s.time.beat ∧ f.r = .step src d.val dI eb ∧ extendEbeat f.acc eb ≤
       f.arr + s.ntc.horizon ∧ f.arr ≤ extendEbeat f.acc eb + s.ntc.latewin ∧ (s.nd.get d).pend = []) ∧
    (let s : State := State.reset
     let f : Flight := ⟨90, 86, .cancel 5 (0) 99⟩
     let l : List Flight := s.ntc.flight
     let src : Nat := 5
     let d : Fin 128 := 0
     let eb : Nat := 99
     let p : Pend := { pend1 99 with cs := [⟨some 5, 7, 8, true, false⟩] }
     let s : State := let s := modNd (tin 100 (up s)) d.val fun x => { x with pend := [p] }; { s with ntc := { s.ntc with flight := f :: l } }
     s.live = true ∧ s.ntc.flight = f :: l ∧ f.arr ≤ s.time.beat ∧ f.r = .cancel src d.val eb ∧ (s.nd.get d).pend = [p] ∧
       p.eff = extendEbeat f.acc eb ∧ p.cs ≠ [] ∧ p.cs.all (fun c => c.src = some src) = true) ∧
    (let s : State := State.reset
     let c : Fin 64 := 0
     let e : Fin 4 := 2
     let req : Nat := 5
     let l : List WaitEng := [⟨7, 3⟩]
     let s : State := { up s with sg := { s.sg with waiting := ⟨req, startIndex c.val e.val⟩ :: l, grants := [(s.time.beat, (c.val+1)%64)], rels := [], rate := 8 }, g := { s.g with boot := .done, exact := false } }
     s.live = true ∧ exactOn s = false ∧ s.sg.waiting = ⟨req, startIndex c.val e.val⟩ :: l ∧ (∀ x ∈ l, waitsBefore x ⟨req,
       startIndex c.val e.val⟩ = false) ∧ (s.sg.grants.filter fun g => g.1 = s.time.beat).length < rateNow s ∧ (∀ g ∈
       s.sg.grants, ¬ (g.2 = c.val ∧ s.time.beat < g.1 + 2))) ∧
    (let s : State := State.reset
     let c : Fin 64 := 0
     let l : List (Nat × Nat) := []
     let s : State := { up s with sg := { s.sg with grants := [(s.time.beat, c.val)] } }
     s.live = true ∧ s.sg.grants = (s.time.beat, c.val) :: l) := by
  refine ⟨?_, ?_, ?_, ?_, ?_, ?_, ?_, ?_, ?_, ?_⟩ <;> decide +kernel
theorem witness_RegisterClears :
    (let s : State := State.reset
     let s : State := up s
     s.writable) ∧
    (let s : State := State.reset
     let s : State := { up s with g := { s.g with boot := .done, coord := true } }
     s.writable ∧ s.g.coord = true) ∧
    (let s : State := State.reset
     let s : State := { up s with g := { s.g with boot := .done, coord := false } }
     s.writable ∧ s.g.coord = false) ∧
    (let s : State := State.reset
     let s : State := { up s with prot := { s.prot with temps := s.prot.temps.map fun _ => some (-10000000) } }
     s.writable ∧ (s.prot.temps.all fun l => l.all fun x => decide (x < shutT s - 384)) = true) ∧
    (let s : State := State.reset
     let s : State := { up s with prot := { s.prot with temps := [some 100000000] } }
     s.writable ∧ (s.prot.temps.all fun l => l.all fun x => decide (x < shutT s - 384)) = false) ∧
    (let s : State := State.reset
     let s : State := { up s with g := { s.g with boot := .done, coord := true } }
     s.live = true ∧ s.g.coord = true) := by
  refine ⟨?_, ?_, ?_, ?_, ?_, ?_⟩ <;> decide +kernel
theorem witness_FaultBlockControl :
    (let s : State := State.reset
     let s : State := up s
     s.writable) ∧
    (let s : State := State.reset
     let s : State := let s := tin 900 (up s); { s with fpin := { s.fpin with run := true, endAt := 800 } }
     s.powered = true ∧ s.fpin.endAt ≤ s.time.beat) ∧
    (let s : State := State.reset
     let s : State := let s := tin 700 (up s); { s with fpin := { s.fpin with run := true, endAt := 800 } }
     s.powered = true ∧ s.time.refclk = true ∧ s.time.beat < s.fpin.endAt) := by
  refine ⟨?_, ?_, ?_⟩ <;> decide +kernel
theorem witness_CommandWindow :
    (let s : State := State.reset
     let s : State := { up s with cmdw := { s.cmdw with busy := false, seq := BitVec.ofNat 32 (s.cmdw.accseq + 1) } }
     s.writable ∧ s.cmdw.busy = false ∧ s.cmdw.seq.toNat = (s.cmdw.accseq + 1) % 2 ^ 32) ∧
    (let s : State := State.reset
     let s : State := { up s with cmdw := { s.cmdw with busy := false, seq := BitVec.ofNat 32 (s.cmdw.accseq + 2) } }
     s.writable ∧ s.cmdw.busy = false ∧ s.cmdw.seq.toNat ≠ (s.cmdw.accseq + 1) % 2 ^ 32) ∧
    (let s : State := State.reset
     let s : State := { up s with cmdw := { s.cmdw with busy := true } }
     s.writable ∧ s.cmdw.busy = true) ∧
    (let s : State := State.reset
     let s : State := { calm 3 (up s) with cmdw := { s.cmdw with go := true, busy := false, word := 2^7 } }
     s.live = true ∧ s.cmdw.go = true ∧ s.cmdw.busy = false ∧ s.rst.run = none ∧ (isActuation (opc s.cmdw.word) = false ∨
       laneActs s < 64)) ∧
    (let s : State := State.reset
     let r : Nat := 3
     let d : Nat := 5
     let s : State := { up s with cmdw := { s.cmdw with res := some (3, 5), busy := true, due := 0 } }
     s.live = true ∧ s.cmdw.res = some (r, d) ∧ s.cmdw.busy = true ∧ s.cmdw.due ≤ s.time.beat) := by
  refine ⟨?_, ?_, ?_, ?_, ?_⟩ <;> decide +kernel
theorem witness_LaneStartResumeAndBarrier :
    (let s : State := State.reset
     let s : State := let s := up s; { s with lane := s.lane.mod 3 fun l => { l with st := .armed }, seqr := { s.seqr with base := s.time.beat - 5, resume := none }, classHold := none, side := { s.side with en := false } }
     s.live = true ∧ (s.lane.data.any fun l => decide (l.st = .armed)) = true ∧ s.seqr.base ≤ s.time.beat ∧ barrierOpen s
       = true ∧ s.seqr.resume = none ∧ beatHeld s = false) ∧
    (let s : State := State.reset
     let l : Fin 8 := 0
     let b : Nat := s.time.beat - 2
     let k : Option Nat := if 0=0 then some (0) else none
     let s : State := let s := up s; { s with lane := s.lane.mod l fun x => { x with st := .waiting, wait := .beat b k }, classHold := none, exa := { s.exa with hold := none, pend := [] } }
     s.live = true ∧ (s.lane.get l).st = .waiting ∧ (s.lane.get l).wait = .beat b k ∧ b ≤ s.time.beat ∧ beatHeld s = false
       ∧ stallNow s = false) ∧
    (let s : State := State.reset
     let l : Fin 8 := 0
     let b : Nat := s.time.beat - 2
     let s : State := let s := up s; { s with lane := s.lane.mod l fun x => { x with st := .waiting, wait := .fence b }, classHold := none, exa := { s.exa with hold := none, pend := [] } }
     s.live = true ∧ (s.lane.get l).st = .waiting ∧ (s.lane.get l).wait = .fence b ∧ b ≤ s.time.beat ∧ beatHeld s = false
       ∧ stallNow s = false) ∧
    (let s : State := State.reset
     let l : Fin 8 := 0
     let id : Nat := 5
     let mask : Byte := BitVec.ofNat 8 (2 ^ l.val + 2^(0))
     let s : State := let s := up s; { s with lane := (s.lane.mapIx fun k x => { x with st := if k = 0 then .halted else x.st }).mod l fun x => { x with st := .waiting, wait := .bar 5 mask }, exa := { s.exa with hold := none } }
     s.live = true ∧ (s.lane.get l).st = .waiting ∧ (s.lane.get l).wait = .bar id mask ∧ s.exa.hold = none ∧ ∀ m : Fin 8,
       mask.getLsbD m.val = true → barArrived id (s.lane.get m) = true) ∧
    (let s : State := State.reset
     let l : Fin 8 := 0
     let id : Nat := 5
     let mask : Byte := 0xFF
     let m : Fin 8 := Fin.ofNat 8 (0+1)
     let s : State := let s := up s; { s with lane := (s.lane.mod l fun x => { x with st := .waiting, wait := .bar 5 mask }).mod m fun x => { x with st := .run } }
     s.live = true ∧ (s.lane.get l).st = .waiting ∧ (s.lane.get l).wait = .bar id mask ∧ mask.getLsbD m.val = true ∧
       (s.lane.get m).st = .run) := by
  refine ⟨?_, ?_, ?_, ?_, ?_⟩ <;> decide +kernel
theorem witness_RegisterInstructions :
    (let s : State := State.reset
     let w : Nat := 2^57*(0)
     let s : State := iss (.lane 0 : Ctx) w (up s)
     Issues (.lane 0 : Ctx) w s) ∧
    (let s : State := State.reset
     let w : Nat := wB 5 (4*(0)) 0 0 0 (0) (99+0)
     let s : State := iss (.lane 0 : Ctx) w (up s)
     Issues (.lane 0 : Ctx) w s) ∧
    (let s : State := State.reset
     let w : Nat := wB 0x18 (0) (0) 0 0 (0) (99+0)
     let s : State := iss (.lane 0 : Ctx) w (up s)
     Issues (.lane 0 : Ctx) w s) ∧
    (let s : State := State.reset
     let w : Nat := wB 0x19 (0) (0) (0) 0 (32*(0)) (99+0)
     let s : State := iss (.lane 0 : Ctx) w (up s)
     Issues (.lane 0 : Ctx) w s) ∧
    (let s : State := State.reset
     let w : Nat := wB 0x1A (0) (0) (0) 0 (32*(0)) (99+0)
     let s : State := iss (.lane 0 : Ctx) w (up s)
     Issues (.lane 0 : Ctx) w s) ∧
    (let s : State := State.reset
     let w : Nat := wB 0x1B (0) (0) (0) 0 (32*(0)) (99+0)
     let s : State := iss (.lane 0 : Ctx) w (up s)
     Issues (.lane 0 : Ctx) w s) ∧
    (let s : State := State.reset
     let w : Nat := wB 0x1C (0) (0) (0) 0 (32*(0)) (99+0)
     let s : State := iss (.lane 0 : Ctx) w (up s)
     Issues (.lane 0 : Ctx) w s) ∧
    (let s : State := State.reset
     let w : Nat := wB 0x1D (0) (0) (0) 0 (32*(0)) (99+0)
     let s : State := iss (.lane 0 : Ctx) w (up s)
     Issues (.lane 0 : Ctx) w s) ∧
    (let s : State := State.reset
     let w : Nat := wB 0x1E (0) (0) (0) (0) (32*(0)) (99+0)
     let s : State := iss (.lane 0 : Ctx) w (up s)
     Issues (.lane 0 : Ctx) w s) ∧
    (let s : State := State.reset
     let w : Nat := wB 0x28 (0) (0) (0) 0 0 0
     let s : State := iss (.lane 0 : Ctx) w (up s)
     Issues (.lane 0 : Ctx) w s) := by
  refine ⟨?_, ?_, ?_, ?_, ?_, ?_, ?_, ?_, ?_, ?_⟩ <;> decide +kernel
theorem witness_LaneFlow :
    (let s : State := State.reset
     let l : Fin 8 := 0
     let w : Nat := wA 1 0 0 0 0 0
     let s : State := iss (.lane l) w (up s)
     Issues (.lane l) w s) ∧
    (let s : State := State.reset
     let l : Fin 8 := 0
     let w : Nat := wB 2 0 0 0 0 0 0
     let s : State := modLane (iss (.lane l) w (up s)) l fun x => { x with rf := { x.rf with b := x.rf.b.map fun _ => 0 } }
     Issues (.lane l) w s ∧ beatOperand s (.lane l) w ≤ s.time.beat) ∧
    (let s : State := State.reset
     let l : Fin 8 := 0
     let w : Nat := wB 2 0 0 0 0 1 100
     let s : State := iss (.lane l) w (up s)
     Issues (.lane l) w s ∧ s.time.beat < beatOperand s (.lane l) w) ∧
    (let s : State := State.reset
     let l : Fin 8 := 0
     let w : Nat := wB 3 4 0 0 0 0 0
     let s : State := modLane (iss (.lane l) w (up s)) l fun x => { x with rf := { x.rf with b := x.rf.b.map fun _ => 0 } }
     Issues (.lane l) w s ∧ beatOperand s (.lane l) w ≤ s.time.beat) ∧
    (let s : State := State.reset
     let l : Fin 8 := 0
     let w : Nat := wB 3 4 0 0 0 1 100
     let s : State := iss (.lane l) w (up s)
     Issues (.lane l) w s ∧ s.time.beat < beatOperand s (.lane l) w) ∧
    (let s : State := State.reset
     let l : Fin 8 := 0
     let w : Nat := wB 0x20 0 0 0 0 0 9
     let s : State := iss (.lane l) w (up s)
     Issues (.lane l) w s) ∧
    (let s : State := State.reset
     let l : Fin 8 := 0
     let w : Nat := wB 0x21 0 0 0 0 0 9
     let s : State := modLane (iss (.lane l) w (up s)) l fun x => { x with rf := { x.rf with stack := [3] } }
     Issues (.lane l) w s ∧ (s.lane.get l).rf.stack.length < 4) ∧
    (let s : State := State.reset
     let l : Fin 8 := 0
     let w : Nat := wB 0x21 0 0 0 0 0 9
     let s : State := modLane (iss (.lane l) w (up s)) l fun x => { x with rf := { x.rf with stack := [3,4,5,6] } }
     Issues (.lane l) w s ∧ 4 ≤ (s.lane.get l).rf.stack.length) ∧
    (let s : State := State.reset
     let l : Fin 8 := 0
     let w : Nat := wB 0x22 0 0 0 0 0 0
     let r : Nat := 3
     let rest : List Nat := [4]
     let s : State := modLane (iss (.lane l) w (up s)) l fun x => { x with rf := { x.rf with stack := [3,4] } }
     Issues (.lane l) w s ∧ (s.lane.get l).rf.stack = r :: rest) ∧
    (let s : State := State.reset
     let l : Fin 8 := 0
     let w : Nat := wB 0x22 0 0 0 0 0 0
     let s : State := modLane (iss (.lane l) w (up s)) l fun x => { x with rf := { x.rf with stack := [] } }
     Issues (.lane l) w s ∧ (s.lane.get l).rf.stack = []) ∧
    (let s : State := State.reset
     let l : Fin 8 := 0
     let w : Nat := wB 0x23 (0) 0 0 0 0 9
     let s : State := iss (.lane l) w (up s)
     Issues (.lane l) w s) ∧
    (let s : State := State.reset
     let l : Fin 8 := 0
     let w : Nat := wB 0x29 0 0 0 0 0 (0x3FF)
     let s : State := iss (.lane l) w (up s)
     Issues (.lane l) w s) ∧
    (let s : State := State.reset
     let l : Fin 8 := 0
     let w : Nat := wB 0x31 0 0 0 0 0 0
     let s : State := modLane (iss (.lane l) w (up s)) l fun x => { x with lastAct := 0 }
     Issues (.lane l) w s ∧ (s.lane.get l).lastAct ≤ s.time.beat) ∧
    (let s : State := State.reset
     let l : Fin 8 := 0
     let w : Nat := wB 0x31 0 0 0 0 0 0
     let s : State := modLane (iss (.lane l) w (up s)) l fun x => { x with lastAct := s.time.beat + 3 }
     Issues (.lane l) w s ∧ s.time.beat < (s.lane.get l).lastAct) ∧
    (let s : State := State.reset
     let w : Nat := wB 0x31 0 0 0 0 0 0
     let s : State := iss .cmd w (up s)
     Issues .cmd w s) := by
  refine ⟨?_, ?_, ?_, ?_, ?_, ?_, ?_, ?_, ?_, ?_, ?_, ?_, ?_, ?_, ?_⟩ <;> decide +kernel
theorem witness_ActionsPredicatesAndChecks :
    (let s : State := State.reset
     let x : (Ctx → Instr) × (Nat → Bool) := (.seg, isOp 4)
     let w : Nat := wB 4 0 0 7 0 1 99
     let s : State := let s := iss (.lane 0 : Ctx) w (up s); match (.lane 0 : Ctx) with | .lane l => modLane { s with plan := { s.plan with loaded := true }, mem := { s.mem with tmem := Memory.writeBytes s.mem.tmem 1600 [1,0,0,0,0,0,0,0,255] } } l fun x => { x with lag := 0 } | .cmd => s
     Issues (.lane 0 : Ctx) w s) ∧
    (let s : State := State.reset
     let w : Nat := wA 0x38 254 3 0 0 0
     let s : State := iss .cmd w (up s)
     Issues .cmd w s) ∧
    (let s : State := State.reset
     let w : Nat := wA 0x3A 254 0 0 0 0
     let s : State := let s := iss .cmd w (up s); { s with cmdw := { s.cmdw with cext := s.cmdw.cext.map fun _ => 5 } }
     Issues .cmd w s ∧ resumeBit s = false) ∧
    (let s : State := State.reset
     let w : Nat := wA 0x3A 254 0 0 0 0
     let s : State := let s := iss .cmd w (up s); { s with cmdw := { s.cmdw with cext := s.cmdw.cext.map fun _ => 0xFFFFFFFF } }
     Issues .cmd w s ∧ resumeBit s = true) ∧
    (let s : State := State.reset
     let l : Fin 8 := 0
     let w : Nat := wB 0x19 1 2 3 0 0 9 + 2^57
     let s : State := iss (.lane l) w (up s)
     s.live = true ∧ laneReady s (s.lane.get l) = true ∧ inCode s (s.lane.get l).pc = true ∧ tWord s (s.lane.get l).pc = w
       ∧ takesEffect s (.lane l) w = false) ∧
    (let s : State := State.reset
     let l : Fin 8 := 0
     let w : Nat := wB 0x19 1 2 3 1 0 9
     let s : State := iss (.lane l) w (up s)
     s.live = true ∧ laneReady s (s.lane.get l) = true ∧ inCode s (s.lane.get l).pc = true ∧ tWord s (s.lane.get l).pc = w
       ∧ takesEffect s (.lane l) w = true ∧ checkIssue s (.lane l) w = false ∧ actsNow s (s.lane.get l) < 8) ∧
    (let s : State := State.reset
     let x : (Ctx → Instr) × (Nat → Bool) := (.opsel, isOp 0xB)
     let l : Fin 8 := 0
     let w : Nat := wA 0xB 5 3 0 0 0
     let s : State := modLane (iss (.lane l) w (up s)) l fun x => { x with actN := 8, issN := 9 }
     s.live = true ∧ laneReady s (s.lane.get l) = true ∧ inCode s (s.lane.get l).pc = true ∧ tWord s (s.lane.get l).pc = w
       ∧ takesEffect s (.lane l) w = true ∧ isActuation (opc w) = true ∧ 8 ≤ actsNow s (s.lane.get l) ∧ (s.lane.get
       l).ovrBeat ≠ some s.time.beat) ∧
    (let s : State := State.reset
     let w : Nat := wA 0x3B 254 0 0 0 0 + 2^57
     let s : State := iss .cmd w (up s)
     s.live = true ∧ s.cmdw.busy = true ∧ s.cmdw.issued = false ∧ s.cmdw.res = none ∧ s.cmdw.word = w ∧ takesEffect s .cmd
       w = false ∧ s.g.lc ≠ 4) ∧
    (let s : State := State.reset
     let w : Nat := wA 0x3B 254 0 1 0 0
     let s : State := iss .cmd w (up s)
     s.live = true ∧ s.cmdw.busy = true ∧ s.cmdw.issued = false ∧ s.cmdw.res = none ∧ s.cmdw.word = w ∧ takesEffect s .cmd
       w = true ∧ checkIssue s .cmd w = false ∧ s.g.lc ≠ 4) := by
  refine ⟨?_, ?_, ?_, ?_, ?_, ?_, ?_, ?_, ?_⟩ <;> decide +kernel
theorem witness_ActionsOnADomain :
    (let s : State := State.reset
     let a : Act := act1 0 (wA 8 (0) 0x900 3 0 0) 0x900 (domBit (0))
     let v : Nat := 0x900
     let d : Fin 128 := 0
     let s : State := pres d.val (due1 a s)
     DueOn a v d s) ∧
    (let s : State := State.reset
     let a : Act := act1 0 (wA 9 (0) 50 0 0 0) 50 (domBit (0))
     let v : Nat := 50
     let d : Fin 128 := 0
     let s : State := pres d.val (due1 a s)
     DueOn a v d s) ∧
    (let s : State := State.reset
     let a : Act := act1 0 (wA 0xA (0) 50 0 9 0) 50 (domBit (0))
     let v : Nat := 50
     let d : Fin 128 := 0
     let s : State := modNd (pres d.val (due1 a s)) d.val fun x => { x with pend := [] }
     DueOn a v d s ∧ (s.nd.get d).pend = []) ∧
    (let s : State := State.reset
     let a : Act := act1 0 (wA 0xB (0) 5 0 0 0) 5 (domBit (0))
     let v : Nat := 5
     let d : Fin 128 := 0
     let s : State := let s := modSp (pres d.val (due1 a s)) d.val fun x => { x with idle := false }; { s with prot := { s.prot with coolant := false, shutdn := false } }
     DueOn a v d s ∧ (s.sp.get d).idle = false ∧ s.prot.coolant = false ∧ s.prot.shutdn = false) ∧
    (let s : State := State.reset
     let a : Act := act1 0 (wA 0xC (0) 0 (0) 0 0) 0 (domBit (0))
     let v : Nat := 0
     let d : Fin 128 := 0
     let s : State := on d.val (pres d.val (due1 a s))
     DueOn a v d s ∧ domSt s d.val = .on ∧ staged d.val = true) ∧
    (let s : State := State.reset
     let a : Act := act1 0 (wA 0xC (72+0) 0 (0) 0 0) 0 (domBit (72+0))
     let v : Nat := 0
     let d : Fin 128 := Fin.ofNat 128 (72+0)
     let s : State := on d.val (modShf (pres d.val (due1 a s)) d.val fun h => { h with hold := false, run := true })
     DueOn a v d s ∧ domSt s d.val = .on ∧ typ d.val = .ma ∧ (s.shf.nth d.val).hold = false ∧ (s.shf.nth d.val).run = true) ∧
    (let s : State := State.reset
     let a : Act := act1 0 (wA 0xD (0) 0 (0) (0) 0) 0 (domBit (0))
     let v : Nat := 0
     let d : Fin 128 := 0
     let s : State := let s := calm d.val (dst d.val .off (pres d.val (due1 a s))); { s with g := { s.g with mss := true }, bu := { s.bu with caldone := true, shb := s.bu.shb.map fun x => { x with link := 2, topo := 2 } } }
     DueOn a v d s ∧ domSt s d.val = .off ∧ (staged d.val = true ∨ typ d.val = .ma) ∧ s.g.mss = true ∧ s.bu.caldone = true
       ∧ sheafFailed s d.val = false ∧ s.prot.coolant = false ∧ s.prot.shutdn = false ∧ (s.pd.get d).ovlatch = false) ∧
    (let s : State := State.reset
     let a : Act := act1 0 (wA 0xD (0) 0 (0) (0) 0) 0 (domBit (0))
     let v : Nat := 0
     let d : Fin 128 := 0
     let s : State := let s := dst d.val .off (pres d.val (due1 a s)); { s with g := { s.g with mss := false } }
     DueOn a v d s ∧ domSt s d.val = .off ∧ typ d.val ≠ .aon ∧ s.g.mss = false) ∧
    (let s : State := State.reset
     let a : Act := act1 0 (wA 0xE (72+0) 0x555 (0) 0 0) 0x555 (domBit (72+0))
     let v : Nat := 0x555
     let d : Fin 128 := Fin.ofNat 128 (72+0)
     let s : State := on d.val (pres d.val (due1 a s))
     DueOn a v d s ∧ (domSt s d.val = .on ∨ domSt s d.val = .retention)) ∧
    (let s : State := State.reset
     let a : Act := act1 0 (wA 0x10 (0) 50 0 0 0) 50 (domBit (0))
     let v : Nat := 50
     let d : Fin 128 := 0
     let s : State := pres d.val (due1 a s)
     DueOn a v d s) ∧
    (let s : State := State.reset
     let a : Act := act1 2 (wA 0xB (0) 5 0 0 0) 5 (domBit (0))
     let v : Nat := 5
     let d : Fin 128 := 0
     let s : State := modDom (due1 a s) d.val fun x => { x with present := false }
     DueAlone a v (domBit d.val) s ∧ fDom a.word = d.val ∧ present s d.val = false ∧ a.ctx = .cmd ∧ a.orphan = false) := by
  refine ⟨?_, ?_, ?_, ?_, ?_, ?_, ?_, ?_, ?_, ?_, ?_⟩ <;> decide +kernel
theorem witness_ActionsOnTheDie :
    (let s : State := State.reset
     let a : Act := act1 0 (wB 4 0 0 7 0 1 99) 0 0
     let v : Nat := 0
     let s : State := let s := due1 a s; { s with lane := s.lane.map fun l => { l with st := .run }, seg := { s.seg with opened := false } }
     DueAlone a v 0 s ∧ armed s = true ∧ s.seg.opened = false) ∧
    (let s : State := State.reset
     let a : Act := act1 0 (wB 4 0 0 7 0 1 99) 0 0
     let v : Nat := 0
     let s : State := let s := due1 a s; { s with lane := s.lane.map fun l => { l with st := .halted }, seg := { s.seg with opened := false } }
     DueAlone a v 0 s ∧ armed s = false ∧ s.seg.opened = false) ∧
    (let s : State := State.reset
     let a : Act := act1 0 (wA 0xF 254 4 0 0 0) 4 0
     let v : Nat := 4
     let s : State := due1 a s
     DueAlone a v 0 s) ∧
    (let s : State := State.reset
     let a : Act := act1 0 (wA 0x10 254 400 1 0 0) 400 0
     let v : Nat := 400
     let s : State := due1 a s
     DueAlone a v 0 s) ∧
    (let s : State := State.reset
     let a : Act := act1 0 (wA 0x10 254 400 2 0 0) 400 0
     let v : Nat := 400
     let s : State := let s := due1 a s; { s with g := { s.g with coord := true } }
     DueAlone a v 0 s ∧ s.g.coord = true) ∧
    (let s : State := State.reset
     let a : Act := act1 0 (wA 0x10 254 400 2 0 0) 400 0
     let v : Nat := 400
     let s : State := let s := due1 a s; { s with g := { s.g with coord := false } }
     DueAlone a v 0 s ∧ s.g.coord = false) ∧
    (let s : State := State.reset
     let a : Act := act1 0 (wA 0x10 254 4 3 0 0) 4 0
     let v : Nat := 4
     let s : State := let s := due1 a s; { s with g := { s.g with coord := true } }
     DueAlone a v 0 s ∧ s.g.coord = true) ∧
    (let s : State := State.reset
     let a : Act := act1 0 (wA 0x11 254 4 0 0 0) 4 0
     let v : Nat := 4
     let s : State := due1 a s
     DueAlone a v 0 s) ∧
    (let s : State := State.reset
     let a : Act := act1 0 (wA 0x12 254 57 0 0 0) 57 0
     let v : Nat := 57
     let s : State := due1 a s
     DueAlone a v 0 s) ∧
    (let s : State := State.reset
     let a : Act := act1 0 (wA 0x14 254 0 (0) 0 0) 0 0
     let v : Nat := 0
     let s : State := due1 a s
     DueAlone a v 0 s) ∧
    (let s : State := State.reset
     let a : Act := act1 0 (wA 0x14 254 77 2 0 0) 77 0
     let v : Nat := 77
     let s : State := due1 a s
     DueAlone a v 0 s) ∧
    (let s : State := State.reset
     let a : Act := act1 0 (wA 0x2A 254 (0) 0 0 0) (0) 0
     let v : Nat := 0
     let s : State := let s := due1 a s; { s with g := { s.g with coord := true } }
     DueAlone a v 0 s ∧ s.g.coord = true) ∧
    (let s : State := State.reset
     let a : Act := act1 0 (wA 0x30 254 0 (0) 0 0) 0 0
     let v : Nat := 0
     let s : State := let s := due1 a s; { s with lane := s.lane.map fun l => { l with st := .run }, seg := { s.seg with opened := false } }
     DueAlone a v 0 s ∧ armed s = true ∧ (s.seg.opened = false ∨ s.seg.beat ≠ s.time.beat)) ∧
    (let s : State := State.reset
     let a : Act := act1 0 (wA 0x30 254 0 (2*(0)) 0 0) 0 0
     let v : Nat := 0
     let s : State := let s := due1 a s; { s with lane := s.lane.map fun l => { l with st := .run }, seg := { s.seg with opened := true, beat := s.time.beat } }
     DueAlone a v 0 s ∧ armed s = true ∧ s.seg.opened = true ∧ s.seg.beat = s.time.beat) ∧
    (let s : State := State.reset
     let a : Act := act1 0 (wA 0x30 254 0 (0) 0 0) 0 0
     let v : Nat := 0
     let s : State := let s := due1 a s; { s with lane := s.lane.map fun l => { l with st := .halted } }
     DueAlone a v 0 s ∧ armed s = false) := by
  refine ⟨?_, ?_, ?_, ?_, ?_, ?_, ?_, ?_, ?_, ?_, ?_, ?_, ?_, ?_, ?_⟩ <;> decide +kernel
theorem witness_WindowCommands :
    (let s : State := State.reset
     let a : Act := act2 (wA 0x38 254 (0) 0 0 0) 0 (0) 0 0 0
     let v : Nat := 0
     let s : State := due1 a s
     DueAlone a v 0 s) ∧
    (let s : State := State.reset
     let a : Act := act2 (wA 0x38 254 0 1 0 0) 0 (BitVec.ofNat 32 0) 0 0 0
     let v : Nat := 0
     let s : State := due1 a s
     DueAlone a v 0 s) ∧
    (let s : State := State.reset
     let a : Act := act2 (wA 0x39 254 0 0 0 0) 0 0 0 0 0
     let v : Nat := 0
     let s : State := let s := due1 a s; { s with lane := s.lane.map fun l => { l with st := .halted } }
     DueAlone a v 0 s ∧ armed s = false) ∧
    (let s : State := State.reset
     let a : Act := act2 (wA 0x39 254 0 1 0 0) 0 0 0 0 0
     let v : Nat := 0
     let s : State := due1 a s
     DueAlone a v 0 s ∧ mtCheck s ≠ 0) ∧
    (let s : State := State.reset
     let a : Act := act2 (wA 0x39 254 0 1 0 0) 0 0 0 0 0
     let v : Nat := 0
     let s : State := let s := due1 a s; { s with lane := s.lane.map fun l => { l with st := .halted }, mem := { s.mem with mtimg := Memory.writeBytes (Memory.writeBytes (Memory.writeBytes [] 0 [0x4D, 0x53, 0x48, 0x54, 1, 0, 0, 0, 0x40, 1, 0, 0, 1]) 70 [3, 4, 5]) 32 [203, 19, 167, 204, 222, 109, 48, 226, 177, 84, 166, 36, 63, 213, 66, 241, 124, 18, 48, 204, 144, 27, 215, 187, 226, 88, 147, 23, 158, 42, 57, 69] } }
     DueAlone a v 0 s ∧ mtCheck s = 0) ∧
    (let s : State := State.reset
     let a : Act := act2 (wA 0x39 254 0 2 0 0) 0 0 0 0 0
     let v : Nat := 0
     let s : State := let s := due1 a s; { s with est := { s.est with busy := false }, mem := { s.mem with estmem := Memory.writeBytes (Memory.writeBytes [] 0 [0x4D, 0x45, 0x53, 0x54, 1, 0, 0, 0, 0x40, 8, 0, 0, 24, 16, 4]) 32 [36, 146, 87, 88, 35, 174, 134, 91, 86, 157, 23, 95, 18, 50, 148, 5, 54, 159, 197, 90, 226, 141, 188, 174, 148, 239, 70, 252, 55, 134, 69, 222] } }
     DueAlone a v 0 s ∧ estCheck s (staged' s.mem.estmem 2112) = 0) ∧
    (let s : State := State.reset
     let a : Act := act2 (wA 0x39 254 0 2 0 0) 0 0 0 0 0
     let v : Nat := 0
     let s : State := due1 a s
     DueAlone a v 0 s ∧ estCheck s (staged' s.mem.estmem 2112) ≠ 0) ∧
    (let s : State := State.reset
     let a : Act := act2 (wA 0x39 254 0 3 0 0) 0 0 0 0 0
     let v : Nat := 0
     let s : State := let s := due1 a s; { s with lane := s.lane.map fun l => { l with st := .halted } }
     DueAlone a v 0 s ∧ armed s = false ∧ planCheck s (staged' s.mem.planmem 10752) ≠ 0) ∧
    (let s : State := State.reset
     let a : Act := act2 (wA 0x39 254 5 4 0 0) 0 0 0 0 0
     let v : Nat := 0
     let s : State := let s := due1 a s; { s with lane := s.lane.map fun l => { l with st := .halted }, dom := s.dom.map fun x => { x with present := false }, plan := { s.plan with inforce := none, loaded := true, act := none, digest := zeros 32 }, mem := { s.mem with planmem := ovlOk } }
     DueAlone a v 0 s ∧ armed s = false ∧ s.plan.inforce = none ∧ ovlCheck s (staged' s.mem.planmem 576) = 0) ∧
    (let s : State := State.reset
     let a : Act := act2 (wA 0x39 254 5 4 0 0) 0 0 0 0 0
     let v : Nat := 0
     let s : State := let s := due1 a s; { s with lane := s.lane.map fun l => { l with st := .halted }, plan := { s.plan with inforce := none } }
     DueAlone a v 0 s ∧ armed s = false ∧ s.plan.inforce = none ∧ ovlCheck s (staged' s.mem.planmem 576) ≠ 0) ∧
    (let s : State := State.reset
     let a : Act := act2 (wA 0x39 254 1 5 0 0) 0 0 0 0 0
     let v : Nat := 0
     let s : State := let s := due1 a s; { s with lane := s.lane.map fun l => { l with st := .halted }, gw := s.gw.map fun g => { g with waitAdm := false } }
     DueAlone a v 0 s ∧ armed s = false ∧ ∀ d : Fin 128, (s.gw.get d).waitAdm = false) ∧
    (let s : State := State.reset
     let a : Act := act2 (wA 0x3A 254 0 0 0 0) 0 100 0 0 0
     let v : Nat := 0
     let s : State := let s := due1 a s; { s with lane := s.lane.map fun l => { l with st := .halted }, time := { s.time with valid := true }, seqr := { s.seqr with admitted := true, mode := 0 }, mts := { s.mts with committed := some [5] }, mt := s.mt.map fun m => { m with dig := some [5], st := 1 }, mem := { s.mem with tmem := Memory.writeBytes [] 24 [100,0,110,0,120,0] } }
     DueAlone a v 0 s ∧ (a.ext.get 2).getLsbD 31 = false ∧ armCheck s (armBase a) = 0) ∧
    (let s : State := State.reset
     let a : Act := act2 (wA 0x3A 254 0 0 0 0) 0 100 0 0 0
     let v : Nat := 0
     let s : State := due1 a s
     DueAlone a v 0 s ∧ (a.ext.get 2).getLsbD 31 = false ∧ armCheck s (armBase a) ≠ 0) ∧
    (let s : State := State.reset
     let a : Act := act2 (wA 0x3A 254 0 0 0 0) 0 9000 0 0x80000000 0
     let v : Nat := 0
     let s : State := resumes (due1 a s) []
     DueAlone a v 0 s ∧ (a.ext.get 2).getLsbD 31 = true ∧ s.exa.svst ≠ 2 ∧ armCheck s (armBase a) = 0 ∧ resumeCode a s ≠ 0) ∧
    (let s : State := State.reset
     let a : Act := act2 (wA 0x3B 254 0 0 0 0) 0 0 0 0 0
     let v : Nat := 0
     let s : State := due1 a s
     DueAlone a v 0 s) ∧
    (let s : State := State.reset
     let a : Act := act2 (wA 0x3C 254 2 0 0 0) 0 0 0 0 0
     let v : Nat := 0
     let s : State := let s := due1 a s; { s with lane := s.lane.map fun l => { l with st := .halted }, g := { s.g with lc := 1 } }
     DueAlone a v 0 s ∧ armed s = false ∧ lcStep s.g.lc (fVal a.word % 8) = some false ∧ a.ext.data.all (· = 0) = true) ∧
    (let s : State := State.reset
     let a : Act := act2 (wA 0x3C 254 2 0 0 0) 0 0 0 0 0
     let v : Nat := 0
     let s : State := let s := due1 a s; { s with lane := s.lane.map fun l => { l with st := .halted }, g := { s.g with lc := 3 } }
     DueAlone a v 0 s ∧ armed s = false ∧ lcStep s.g.lc (fVal a.word % 8) = none) := by
  refine ⟨?_, ?_, ?_, ?_, ?_, ?_, ?_, ?_, ?_, ?_, ?_, ?_, ?_, ?_, ?_, ?_, ?_⟩ <;> decide +kernel
theorem witness_TrackMemoryAndMicrotables :
    (let s : State := State.reset
     let s : State := { up s with lane := s.lane.map fun l => { l with st := .halted } }
     s.writable ∧ armed s = false ∧ Memory.wf s.mem.tmem = true) ∧
    (let s : State := State.reset
     let s : State := { up s with lane := s.lane.map fun l => { l with st := .run } }
     s.writable ∧ armed s = true) ∧
    (let s : State := State.reset
     let a : Adm := ⟨false, 0⟩
     let s : State := { up s with seqr := { s.seqr with adm := some ⟨false, 0⟩ } }
     s.live = true ∧ s.seqr.adm = some a ∧ a.touched = false ∧ trackCheck s ≠ 0) ∧
    (let s : State := State.reset
     let a : Adm := ⟨true, 0⟩
     let s : State := { up s with seqr := { s.seqr with adm := some ⟨true, 0⟩ } }
     s.live = true ∧ s.seqr.adm = some a ∧ a.touched = true) ∧
    (let s : State := State.reset
     let a : Adm := ⟨false, 0⟩
     let s : State := { up s with seqr := { s.seqr with adm := some ⟨false, 0⟩ }, mem := { s.mem with tmem := trackOk } }
     s.live = true ∧ s.seqr.adm = some a ∧ a.touched = false ∧ trackCheck s = 0) ∧
    (let s : State := State.reset
     let i : Fin 93 := 0
     let m : Nat := 0
     let npkt : Nat := 4
     let data : List Byte := List.replicate 256 (BitVec.ofNat 8 0)
     let crc : Word32 := BitVec.ofNat 32 (crc32 (leBytes 1 (0) ++ leBytes 1 4 ++ data))
     let ld : MtLoad := ⟨[3], List.replicate 1024 (BitVec.ofNat 8 0), 4, none⟩
     let s : State := { modShf (up s) i.val fun h => { h with hold := false } with mts := { s.mts with load := some ld }, mt := s.mt.mod i fun m => { m with st := 2, npkt := 4 } }
     s.live = true ∧ (s.mt.get i).st = 2 ∧ (s.shf.get i).hold = false ∧ m < npkt ∧ npkt = (s.mt.get i).npkt ∧ s.mts.load =
       some ld ∧ data = (ld.body.drop (256 * m)).take 256 ∧ crc.toNat = crc32 (leBytes 1 m ++ leBytes 1 npkt ++ data)) ∧
    (let s : State := State.reset
     let i : Fin 93 := 0
     let m : Nat := 0
     let npkt : Nat := 4
     let data : List Byte := List.replicate 256 (BitVec.ofNat 8 0)
     let crc : Word32 := BitVec.ofNat 32 (1 + crc32 (leBytes 1 (0) ++ leBytes 1 4 ++ data))
     let s : State := { modShf (up s) i.val fun h => { h with hold := false } with mt := s.mt.mod i fun m => { m with st := 2, npkt := 4 } }
     s.live = true ∧ (s.mt.get i).st = 2 ∧ (s.shf.get i).hold = false ∧ crc.toNat ≠ crc32 (leBytes 1 m ++ leBytes 1 npkt
       ++ data)) ∧
    (let s : State := State.reset
     let i : Fin 93 := 0
     let s : State := { modShf (up s) i.val fun h => { h with hold := false } with mt := s.mt.mod i fun m => { m with st := 2, npkt := if 0==0 then 0 else 4 } }
     s.live = true ∧ (s.mt.get i).st = 2 ∧ (s.shf.get i).hold = false) ∧
    (let s : State := State.reset
     let i : Fin 93 := 0
     let ld : MtLoad := ⟨[3,4],[],3,none⟩
     let s : State := { up s with mts := { s.mts with load := some ld }, mt := s.mt.map fun m => { m with nackOut := some 0, shdig := [3,4] } }
     s.live = true ∧ s.mts.load = some ld ∧ (s.mt.get i).nackOut = some 0 ∧ (s.mt.get i).shdig = ld.dig) ∧
    (let s : State := State.reset
     let i : Fin 93 := 0
     let ld : MtLoad := ⟨[3,4],[],3,none⟩
     let k : Word64 := 5
     let s : State := { up s with mts := { s.mts with load := some ld }, mt := s.mt.map fun m => { m with nackOut := some k, rounds := 0 } }
     s.live = true ∧ s.mts.load = some ld ∧ (s.mt.get i).nackOut = some k ∧ k ≠ 0 ∧ (s.mt.get i).rounds < 3) ∧
    (let s : State := State.reset
     let ld : MtLoad := ⟨[3,4],[],3,some 0⟩
     let b : Nat := 0
     let s : State := { up s with mts := { s.mts with load := some ld }, mt := s.mt.map fun m => { m with acked := true }, shf := s.shf.map fun h => { h with hold := false } }
     s.live = true ∧ s.mts.load = some ld ∧ ld.commit = some b ∧ b ≤ s.time.beat ∧ ∀ i : Fin 93, present s i.val = true →
       (s.mt.get i).acked = true ∧ (s.shf.get i).hold = false) := by
  refine ⟨?_, ?_, ?_, ?_, ?_, ?_, ?_, ?_, ?_, ?_, ?_⟩ <;> decide +kernel
theorem witness_ImagesTakeEffect :
    (let s : State := State.reset
     let s : State := { up s with cmdw := { s.cmdw with busy := true, res := none, word := wA 0x39 254 0 2 0 0 }, est := { s.est with busy := true } }
     s.live = true ∧ s.est.busy = true ∧ s.cmdw.busy = true ∧ opc s.cmdw.word = 0x39 ∧ fAux8 s.cmdw.word = 2 ∧ s.cmdw.res
       = none) ∧
    (let s : State := State.reset
     let img : List Byte := (List.range 10752).map fun k => BitVec.ofNat 8 (k*k*3+0)
     let b : Nat := 50
     let s : State := let s := tin (100*(0+1)) (up s); { s with plan := { s.plan with next := some (img, 50) } }
     s.live = true ∧ s.plan.next = some (img, b) ∧ b ≤ s.time.beat ∧ s.time.beat % 100 = 0) ∧
    (let s : State := State.reset
     let k : Fin 16 := 0
     let o : Ovl := ⟨true, 3, [(1,2,3)], [4]⟩
     let b : Nat := 50
     let s : State := { up s with plan := { s.plan with nextOvl := some (0, o, 50) } }
     s.live = true ∧ s.plan.nextOvl = some (k.val, o, b)) ∧
    (let s : State := State.reset
     let s : State := { up s with setrec := { s.setrec with busy := true } }
     s.live = true ∧ s.setrec.busy = true) ∧
    (let s : State := State.reset
     let s : State := let s := co (up s); { s with setrec := { s.setrec with busy := false } }
     s.live = true ∧ s.setrec.busy = false ∧ s.g.coord = true) ∧
    (let s : State := State.reset
     let x : Nat := 2
     let s : State := { up s with g := { s.g with boot := .done, lcProg := some 2 } }
     s.powered = true ∧ s.g.lcProg = some x) := by
  refine ⟨?_, ?_, ?_, ?_, ?_, ?_⟩ <;> decide +kernel
theorem witness_StallsAndSave :
    (let s : State := State.reset
     let p : StallP := ⟨0, 0, 0⟩
     let ps : List StallP := s.exa.pend
     let s : State := { up s with exa := { s.exa with pend := p :: ps, hold := none }, lane := s.lane.mod 2 fun l => { l with st := .run } }
     s.live = true ∧ s.exa.pend = p :: ps ∧ s.exa.hold = none ∧ p.t ≤ s.time.beat ∧ armed s = true) ∧
    (let s : State := State.reset
     let b : Nat := 0
     let s : State := { up s with exa := { s.exa with hold := some 0 } }
     s.live = true ∧ s.exa.hold = some b ∧ b ≤ s.time.beat) ∧
    (let s : State := State.reset
     let c : Nat := s.time.beat
     let s : State := { up s with exa := { s.exa with svcap := some c } }
     s.live = true ∧ s.exa.svcap = some c) ∧
    (let s : State := State.reset
     let s : State := { tin 250 (up s) with exa := { s.exa with svst := 2, svimg := [5,0,7], svaddr := 0, svbeat := 150 } }
     s.live = true ∧ s.exa.svst = 2 ∧ s.time.beat / 100 ≠ s.exa.svbeat / 100 ∧ Memory.wf s.mem.hmem = true) ∧
    (let s : State := State.reset
     let s : State := { up s with exa := { s.exa with svst := 2, svimg := [5,0,7], svaddr := 0 } }
     s.live = true ∧ s.exa.svst = 2) := by
  refine ⟨?_, ?_, ?_, ?_, ?_⟩ <;> decide +kernel
theorem witness_LoopEngineAndPackageLoops :
    (let s : State := State.reset
     let s : State := lp (0+1) s
     s.looping ∧ s.time.beat % 100 ≠ 0) ∧
    (let s : State := State.reset
     let s : State := lw (100*(0+1)) s
     StepDue s) ∧
    (let s : State := State.reset
     let d : Fin 128 := 0
     let s : State := let s := on d.val (pres d.val (lw (100*(0+1)) s)); { s with loop := { s.loop with domiEn := true } }
     StepDue s ∧ typ d.val ≠ .none ∧ present s d.val = true ∧ domSt s d.val = .on ∧ s.loop.domiEn = true) ∧
    (let s : State := State.reset
     let d : Fin 128 := 0
     let s : State := let s := dst d.val .off (lw (100*(0+1)) s); s
     StepDue s ∧ ¬(present s d.val = true ∧ domSt s d.val = .on)) ∧
    (let s : State := State.reset
     let c : Fin 8 := 0
     let m : Int := 9000+0
     let s : State := let s := modDom (lw (1000*(0+1)) s) (64+c.val) fun d => { d with present := true }; { s with loop := { s.loop with thermEn := true }, prot := { s.prot with temps := List.replicate 256 (some (9000+0)) } }
     StepDue s ∧ s.time.beat % 1000 = 0 ∧ (s.loop.thermEn = true ∨ throttleT s ≤ m) ∧ present s (64 + c.val) = true ∧
       hottest s.prot.temps (clusterSensors c.val) = some m) ∧
    (let s : State := State.reset
     let c : Fin 8 := 0
     let s : State := lw (100*(0+1)) s
     StepDue s ∧ (s.time.beat % 1000 ≠ 0 ∨ present s (64 + c.val) = false ∨ hottest s.prot.temps (clusterSensors c.val) =
       none)) ∧
    (let s : State := State.reset
     let s : State := let s := co (lp (60000000*(0+1)) s); { s with loop := { s.loop with tavg := 1+0, binN := 10000*(1+0)+0, capEn := true, cap := 3000, tavgNext := none } }
     s.looping ∧ s.g.coord = true ∧ 0 < s.time.beat ∧ s.time.beat % (1000000 * max 1 s.loop.tavg) = 0 ∧ 10000 *
       s.loop.tavg ≤ s.loop.binN ∧ s.loop.tavgNext = none) ∧
    (let s : State := State.reset
     let v : Nat := 3+0
     let s : State := let s := co (lp (60000000*(0+1)) s); { s with loop := { s.loop with tavg := 1+0, binN := 10000*(1+0)+0, capEn := true, cap := 3000, tavgNext := some (3+0) } }
     s.looping ∧ s.g.coord = true ∧ 0 < s.time.beat ∧ s.time.beat % (1000000 * max 1 s.loop.tavg) = 0 ∧ s.loop.tavgNext =
       some v) ∧
    (let s : State := State.reset
     let s : State := { lp 0 s with g := { s.g with coord := false } }
     s.looping ∧ s.g.coord = false) ∧
    (let s : State := State.reset
     let x : Nat := 60+0
     let e : Bool := true
     let s : State := let s := co (lp (100000*(0+1)) s); { s with loop := { s.loop with bud := { s.loop.bud with lostNow := false, mode := 1, valid := true } } }
     s.looping ∧ s.g.coord = true ∧ 0 < s.time.beat ∧ s.time.beat % 100000 = 0 ∧ s.loop.bud.lostNow = false ∧
       (s.loop.bud.valid = true ∨ 2 ≤ s.loop.bud.good) ∧ ((s.loop.bud.mode = 1 ∧ e = true ∧ 20 ≤ x ∧ x ≤ 980) ∨
       (s.loop.bud.mode = 2 ∧ 500 ≤ x ∧ x ≤ 24500))) ∧
    (let s : State := State.reset
     let x : Nat := 60+0
     let e : Bool := false
     let s : State := let s := co (lp (100000*(0+1)) s); { s with loop := { s.loop with bud := { s.loop.bud with lostNow := false, mode := 1, bad := 2 } } }
     s.looping ∧ s.g.coord = true ∧ 0 < s.time.beat ∧ s.time.beat % 100000 = 0 ∧ s.loop.bud.lostNow = false ∧ 2 ≤
       s.loop.bud.bad ∧ ((s.loop.bud.mode = 1 ∧ (e = false ∨ x < 20 ∨ 980 < x)) ∨ (s.loop.bud.mode = 2 ∧ (x < 500 ∨ 24500
       < x)))) ∧
    (let s : State := State.reset
     let x : Nat := 60+0
     let e : Bool := true
     let s : State := let s := co (lp (100000*(0+1)) s); { s with loop := { s.loop with bud := { s.loop.bud with lostNow := true, mode := 1, good := 2 } } }
     s.looping ∧ s.g.coord = true ∧ 0 < s.time.beat ∧ s.time.beat % 100000 = 0 ∧ s.loop.bud.lostNow = true ∧ 2 ≤
       s.loop.bud.good ∧ ((s.loop.bud.mode = 1 ∧ e = true ∧ 20 ≤ x ∧ x ≤ 980) ∨ (s.loop.bud.mode = 2 ∧ 500 ≤ x ∧ x ≤
       24500))) ∧
    (let s : State := State.reset
     let s : State := let s := co (lp (100000*(0+1)) s); { s with loop := { s.loop with bud := { s.loop.bud with lostNow := false, feAct := false, fet := 0+1, timer := 0+11 } } }
     s.looping ∧ s.g.coord = true ∧ s.loop.bud.feAct = false ∧ s.loop.bud.lostNow = false ∧ 10 * s.loop.bud.fet <
       s.loop.bud.timer) ∧
    (let s : State := State.reset
     let s : State := let s := co (lp (100000*(0+1)) s); { s with loop := { s.loop with bud := { s.loop.bud with fet := 0+1, timer := 0 } } }
     s.looping ∧ s.loop.bud.timer ≤ 10 * s.loop.bud.fet) ∧
    (let s : State := State.reset
     let s : State := let s := up s; { s with prot := { s.prot with dip := false } }
     s.writable) ∧
    (let s : State := State.reset
     let s : State := up s
     s.writable) ∧
    (let s : State := State.reset
     let s : State := let s := up s; { s with loop := { s.loop with dieOc := false } }
     s.writable ∧ s.loop.dieOc = false) := by
  refine ⟨?_, ?_, ?_, ?_, ?_, ?_, ?_, ?_, ?_, ?_, ?_, ?_, ?_, ?_, ?_, ?_, ?_⟩ <;> decide +kernel
theorem witness_TelemetryRecords :
    (let s : State := State.reset
     let s : State := let s := lp (100000*(0+1)) s; { s with tel := { s.tel with fine := 0=0, start := if 0=0 then 100000*(0+1)-12500 else 0, en := true, buserr := false, broken := false, log := 4, base := 0, wr := 3*(0), rd := 7 }, mem := { s.mem with hmem := [(5,7),(1021,8),(5100,9)] } }
     s.live = true ∧ s.time.beat % telPeriod s.tel.fine = 0 ∧ s.tel.start < s.time.beat ∧ s.time.beat ≤ s.tel.start +
       telPeriod s.tel.fine ∧ s.tel.en = true ∧ s.tel.buserr = false ∧ s.tel.broken = false ∧ (s.tel.wr + 1) % 2 ^
       s.tel.log ≠ s.tel.rd ∧ Memory.wf s.mem.hmem = true) ∧
    (let s : State := State.reset
     let s : State := let s := lp (100000*(0+1)) s; { s with tel := { s.tel with fine := 0=0, start := if 0=0 then 100000*(0+1)-12500 else 0, en := true, buserr := false, broken := false, log := 4, base := 0, wr := 15, rd := 0 } }
     s.live = true ∧ s.time.beat % telPeriod s.tel.fine = 0 ∧ s.tel.start < s.time.beat ∧ s.time.beat ≤ s.tel.start +
       telPeriod s.tel.fine ∧ s.tel.en = true ∧ s.tel.buserr = false ∧ s.tel.broken = false ∧ (s.tel.wr + 1) % 2 ^
       s.tel.log = s.tel.rd) ∧
    (let s : State := State.reset
     let s : State := let s := lp (100000*(0+1)) s; { s with tel := { s.tel with fine := 0=0, start := if 0=0 then 100000*(0+1)-12500 else 0, en := true, buserr := false, broken := false, log := 4, base := 0, wr := 15, rd := 17 } }
     s.live = true ∧ s.time.beat % telPeriod s.tel.fine = 0 ∧ s.tel.start < s.time.beat ∧ s.time.beat ≤ s.tel.start +
       telPeriod s.tel.fine ∧ s.tel.en = true ∧ s.tel.buserr = false ∧ s.tel.broken = false ∧ (s.tel.wr + 1) % 2 ^
       s.tel.log ≠ s.tel.rd) ∧
    (let s : State := State.reset
     let s : State := let s := lp (100000*(0+1)) s; { s with tel := { s.tel with fine := 0=0, start := if 0=0 then 100000*(0+1)-12500 else 0, en := true, buserr := false, broken := true, log := 4, base := 0, wr := 15, rd := 17 } }
     s.live = true ∧ s.time.beat % telPeriod s.tel.fine = 0 ∧ s.tel.start < s.time.beat ∧ s.time.beat ≤ s.tel.start +
       telPeriod s.tel.fine ∧ s.tel.en = true ∧ s.tel.buserr = false ∧ s.tel.broken = true) := by
  refine ⟨?_, ?_, ?_, ?_⟩ <;> decide +kernel
theorem witness_MessageDropsStallsAndVerdicts :
    (let s : State := State.reset
     let x : Nat × (Fin 19 → Word64 → List Word64 → Instr) := rows 0
     let port : Fin 19 := 2
     let pay : List Word64 := [3,4]
     let h : Word64 := hdr (0) 7 0 [5,6]
     let s : State := job s
     s.live = true ∧ s.side.en = true ∧ (s.side.port.get port).en = true ∧ (bits h.toNat 0 16 ≠ msgChk (msgOf h pay) ∨
       (msgOf h pay).job ≠ s.side.jobtag ∨ (msgOf h pay).kind ≠ x.1 ∨ bits h.toNat 24 6 ≠ pay.length ∨ lenOk x.1
       pay.length = false)) ∧
    (let s : State := State.reset
     let port : Fin 19 := 17
     let s : State := job s
     s.live = true ∧ (s.side.en = false ∨ (s.side.port.get port).en = false)) ∧
    (let s : State := State.reset
     let port : Fin 19 := 2
     let pay : List Word64 := [3]
     let h : Word64 := hdr 1 7 0 [3]
     let s : State := let s := job s; { s with side := { s.side with seen := [(7,77)] } }
     Arrives 1 port h pay s ∧ handled s (msgOf h pay) = true) ∧
    (let s : State := State.reset
     let port : Fin 19 := 2
     let pay : List Word64 := [3]
     let h : Word64 := hdr 2 7 0 [3]
     let s : State := let s := job s; { s with side := { s.side with seen := [(7,77)] } }
     Arrives 2 port h pay s ∧ handled s (msgOf h pay) = true) ∧
    (let s : State := State.reset
     let T : Nat := 2^48*(0) + 1000
     let port : Fin 19 := 2
     let pay : List Word64 := [BitVec.ofNat 64 (2^54 + 2^48*(0) + 1000)]
     let h : Word64 := hdr 1 7 0 pay
     let s : State := let s := arm3 (tin (2^48*(0) + 900) (job s)); { s with side := { s.side with diam := 2 }, exa := { s.exa with applied := [] } }
     Arrives 1 port h pay s ∧ handled s (msgOf h pay) = false ∧ armed s = true ∧ T % 2 ^ 48 = bits (slot (msgOf h pay) 0)
       0 48 ∧ s.time.beat ≤ T + 2 ^ 47 ∧ T < s.time.beat + 2 ^ 47 ∧ (s.exa.applied.find? fun p => p.t = T) = none ∧
       (s.time.beat ≤ T ∨ ∃ p ∈ s.exa.applied, p.t < T ∧ s.time.beat ≤ p.fin)) ∧
    (let s : State := State.reset
     let T : Nat := 2^48*(0) + 1000
     let port : Fin 19 := 2
     let pay : List Word64 := [BitVec.ofNat 64 (2^54 + 2^48*(0) + 1000)]
     let h : Word64 := hdr 1 7 0 pay
     let s : State := let s := arm3 (tin (2^48*(0) + 2900) (job s)); { s with side := { s.side with diam := 2 }, exa := { s.exa with applied := [], hold := none } }
     Arrives 1 port h pay s ∧ handled s (msgOf h pay) = false ∧ armed s = true ∧ T % 2 ^ 48 = bits (slot (msgOf h pay) 0)
       0 48 ∧ T < s.time.beat ∧ s.time.beat ≤ T + 2 ^ 47 ∧ (s.exa.applied.find? fun p => p.t = T) = none ∧ ∀ p ∈
       s.exa.applied, p.t < T → p.fin < s.time.beat) ∧
    (let s : State := State.reset
     let port : Fin 19 := 2
     let pay : List Word64 := [BitVec.ofNat 64 (2^54 + 2^48*(0) + 1000)]
     let h : Word64 := hdr 1 7 0 pay
     let s : State := let s := unarm (tin (2^48*(0) + 2900) (job s)); { s with side := { s.side with diam := 2 } }
     Arrives 1 port h pay s ∧ handled s (msgOf h pay) = false ∧ armed s = false) ∧
    (let s : State := State.reset
     let port : Fin 19 := 2
     let pay : List Word64 := [BitVec.ofNat 64 (2^63 + 2^48*(0) + 1000)]
     let h : Word64 := hdr 2 7 0 pay
     let s : State := let s := job s; { s with side := { s.side with diam := 2, barPend := true }, seqr := { s.seqr with base := 1000 } }
     Arrives 2 port h pay s ∧ handled s (msgOf h pay) = false ∧ s.side.barPend = true ∧ bitOf (slot (msgOf h pay) 0) 63 =
       true ∧ bits (slot (msgOf h pay) 0) 0 40 = s.seqr.base % 2 ^ 40) ∧
    (let s : State := State.reset
     let port : Fin 19 := 2
     let pay : List Word64 := [BitVec.ofNat 64 (2^48*(0) + 1000)]
     let h : Word64 := hdr 2 7 0 pay
     let s : State := let s := job s; { s with side := { s.side with diam := 2, barPend := true } }
     Arrives 2 port h pay s ∧ handled s (msgOf h pay) = false ∧ s.side.barPend = true ∧ bitOf (slot (msgOf h pay) 0) 63 =
       false) ∧
    (let s : State := State.reset
     let port : Fin 19 := 2
     let pay : List Word64 := [BitVec.ofNat 64 (2^63*(0) + 2^48*(0) + 1000)]
     let h : Word64 := hdr 2 7 0 pay
     let s : State := let s := job s; { s with side := { s.side with diam := 2, barPend := false } }
     Arrives 2 port h pay s ∧ handled s (msgOf h pay) = false ∧ s.side.barPend = false) := by
  refine ⟨?_, ?_, ?_, ?_, ?_, ?_, ?_, ?_, ?_, ?_⟩ <;> decide +kernel
theorem witness_ArmBarrier :
    (let s : State := State.reset
     let port : Fin 19 := 2
     let pay : List Word64 := [0]
     let h : Word64 := hdr 3 7 0 pay
     let s : State := let s := job s; { s with side := { s.side with root := false } }
     Arrives 3 port h pay s ∧ s.side.root = false) ∧
    (let s : State := State.reset
     let port : Fin 19 := 2
     let pay : List Word64 := [0]
     let h : Word64 := hdr 3 7 0 pay
     let s : State := let s := job s; { s with side := { s.side with root := true, decided := false, rpts := [(7, 5), (8, 9)] } }
     Arrives 3 port h pay s ∧ s.side.root = true ∧ (s.side.decided = false ∨ s.side.barB ≤ s.time.beat)) ∧
    (let s : State := State.reset
     let port : Fin 19 := 2
     let pay : List Word64 := [0]
     let h : Word64 := hdr 3 7 0 pay
     let s : State := let s := tin 5 (job s); { s with side := { s.side with root := true, decided := true, barB := 1000 }, seqr := { s.seqr with base := 1000 } }
     Arrives 3 port h pay s ∧ s.side.root = true ∧ s.side.decided = true ∧ s.time.beat < s.side.barB) ∧
    (let s : State := State.reset
     let s : State := let s := tin 500 (job s); let w : Word64 := BitVec.ofNat 64 (fld 32 32 (le32 s.seqr.tdig 0) + 2^31 + 2^30 + 1000); { s with side := { s.side with root := true, decided := false, ninst := 2, bdec := 700, barB := 1000, rpts := [(0,w),(1,w),(2,w),(3,w),(4,w)] }, seqr := { s.seqr with base := 1000 } }
     s.live = true ∧ s.side.root = true ∧ s.side.en = true ∧ s.side.decided = false ∧ 1 < s.side.ninst ∧ s.side.ninst ≤
       4096 ∧ s.side.barB ≤ s.time.beat + s.side.bdec) ∧
    (let s : State := State.reset
     let s : State := let s := job s; { s with side := { s.side with root := false } }
     s.live = true ∧ (s.side.root = false ∨ s.side.decided = true ∨ s.time.beat + s.side.bdec < s.side.barB)) ∧
    (let s : State := State.reset
     let s : State := let s := tin 500 (job s); { s with side := { s.side with barPend := true, barPass := false }, seqr := { s.seqr with base := 500 - 0 } }
     s.live = true ∧ s.side.barPend = true ∧ s.side.barPass = false ∧ s.seqr.base ≤ s.time.beat) ∧
    (let s : State := State.reset
     let s : State := let s := tin 500 (job s); { s with side := { s.side with barPass := true } }
     s.live = true ∧ (s.side.barPend = false ∨ s.side.barPass = true ∨ s.time.beat < s.seqr.base)) := by
  refine ⟨?_, ?_, ?_, ?_, ?_, ?_, ?_⟩ <;> decide +kernel
theorem witness_GranaryExchange :
    (let s : State := State.reset
     let x : GExch := { gx 0 false false with sigma := none }
     let y : GSeg := ⟨5000, 300, none, none⟩
     let ys : List GSeg := [⟨5050, 7, none, none⟩]
     let s : State := let s := tin (5100) (exch x s); { s with side := { s.side with gran := { s.side.gran with segs := y :: ys } } }
     s.live = true ∧ s.side.gran.cur = some x ∧ s.side.gran.segs = y :: ys ∧ x.x = y.x ∧ x.sent = false ∧ y.dies = none ∧
       (∀ z ∈ ys, z.x ≠ y.x) ∧ y.x + s.side.gran.rdly ≤ s.time.beat ∧ s.time.beat < y.x + s.side.gran.rdly + 2) ∧
    (let s : State := State.reset
     let x : GExch := gx 0 false false
     let sigma : Int := 0
     let s : State := let s := exch (gx 0 false false) s; { s with side := { s.side with gran := { s.side.gran with segs := [] } } }
     s.live = true ∧ s.side.gran.segs = [] ∧ s.side.gran.cur = some x ∧ x.sigma = some sigma ∧ x.sent = false ∧ x.x +
       s.side.gran.rdly + 2 ≤ s.time.beat ∧ granMember s x = true) ∧
    (let s : State := State.reset
     let x : GExch := gx 0 false false
     let sigma : Int := 0
     let s : State := let s := exch (gx 0 false false) s; { s with side := { s.side with gran := { s.side.gran with segs := [] } }, time := { s.time with aligned := false } }
     s.live = true ∧ s.side.gran.segs = [] ∧ s.side.gran.cur = some x ∧ x.sigma = some sigma ∧ x.sent = false ∧ x.x +
       s.side.gran.rdly + 2 ≤ s.time.beat ∧ granMember s x = false) ∧
    (let s : State := State.reset
     let x : GExch := gx 0 false false
     let sigma : Int := 0
     let s : State := tin 5101 (exch (gx 0 false false) (edge s))
     EdgeAlone s ∧ s.time.beat + 1 < 2 ^ 64 ∧ s.side.gran.cur = some x ∧ x.sigma = some sigma ∧ x.sent = false ∧ x.x +
       s.side.gran.rdly + 2 ≤ s.time.beat + 1 ∧ granMember s x = true) ∧
    (let s : State := State.reset
     let s : State := let s := job s; { s with side := { s.side with gran := { s.side.gran with cur := none, segs := [] } } }
     s.live = true ∧ s.side.gran.segs = [] ∧ s.side.gran.cur = none) ∧
    (let s : State := State.reset
     let port : Fin 19 := 2
     let pay : List Word64 := [BitVec.ofNat 64 (9*2^48+2^46+0), BitVec.ofNat 64 (0^48+7*2^32+9*2^16)]
     let h : Word64 := hdr 4 7 0 pay
     let x : GExch := gx 0 true false
     let s : State := exch (gx 0 true false) s
     Arrives 4 port h pay s ∧ s.side.gran.cur = some x ∧ x.decided = false ∧ bits (slot (msgOf h pay) 0) 48 16 = x.exid ∧
       (bits (slot (msgOf h pay) 0) 46 2 = 1 ∨ bits (slot (msgOf h pay) 0) 46 2 = 2)) ∧
    (let s : State := State.reset
     let port : Fin 19 := 2
     let pay : List Word64 := [BitVec.ofNat 64 (10*2^48+2^46+0), BitVec.ofNat 64 (0^48+7*2^32+9*2^16)]
     let h : Word64 := hdr 4 7 0 pay
     let x : GExch := gx 0 true false
     let s : State := exch (gx 0 true false) s
     Arrives 4 port h pay s ∧ s.side.gran.cur = some x ∧ bits (slot (msgOf h pay) 0) 48 16 ≠ x.exid) ∧
    (let s : State := State.reset
     let x : GExch := gx 0 true false
     let s : State := exch (gx 0 true false) s
     s.live = true ∧ s.side.gran.cur = some x ∧ x.x + s.side.gran.rdly + s.side.gran.gwin ≤ s.time.beat ∧ x.sent = true ∧
       x.decided = false ∧ granMember s x = true) ∧
    (let s : State := State.reset
     let s : State := let s := exch (gx 0 true false) s; tin 5000 s
     s.live = true ∧ (s.side.gran.cur.all fun x => decide (s.time.beat < x.x + s.side.gran.rdly + s.side.gran.gwin)) =
       true) ∧
    (let s : State := State.reset
     let port : Fin 19 := 2
     let pay : List Word64 := [BitVec.ofNat 64 (9*2^48+3*2^36+0)]
     let h : Word64 := hdr 5 7 0 pay
     let x : GExch := gx 0 true true
     let s : State := exch (gx 0 true true) s
     Arrives 5 port h pay s ∧ s.side.gran.cur = some x ∧ bits (slot (msgOf h pay) 0) 48 16 = x.exid) ∧
    (let s : State := State.reset
     let x : GExch := gx 0 true true
     let s : State := exch (gx 0 true true) s
     s.live = true ∧ s.side.gran.cur = some x ∧ x.x + s.side.gran.rdly + s.side.gran.gwin + 1000 ≤ s.time.beat ∧ x.decided
       = true ∧ granMember s x = true ∧ x.grant = some (x.nrep % 4096, x.dig)) ∧
    (let s : State := State.reset
     let x : GExch := { gx 0 true true with nrep := 0 }
     let s : State := if 0 = 3 then s else exch { gx 0 true true with nrep := 0 } s
     s.live = true ∧ s.side.gran.cur = some x ∧ x.x + s.side.gran.rdly + s.side.gran.gwin + 1000 ≤ s.time.beat ∧ x.decided
       = true ∧ granMember s x = true ∧ x.grant ≠ some (x.nrep % 4096, x.dig)) ∧
    (let s : State := State.reset
     let y : GSeg := ⟨5000, 300, none, some [some 5, some 1200, none, some (-7)]⟩
     let ys : List GSeg := [⟨5050, 7, none, none⟩]
     let dies : List (Option Int) := [some 5, some 1200, none, some (-7)]
     let s : State := let s := exch (gx 0 true true) s; { s with side := { s.side with gran := { s.side.gran with pkgEn := true, db := 10, segs := y :: ys } }, peer := s.peer.map fun p => { p with mss := true } }
     s.live = true ∧ s.g.coord = true ∧ s.side.gran.pkgEn = true ∧ exactOn s = false ∧ s.side.gran.segs = y :: ys ∧ y.dies
       = some dies ∧ y.x + s.side.gran.rdly + 100 ≤ s.time.beat) ∧
    (let s : State := State.reset
     let y : GSeg := ⟨5000, 300, none, none⟩
     let ys : List GSeg := [⟨5050, 7, none, none⟩]
     let s : State := let s := exch (gx 0 true true) s; { s with g := { s.g with exact := true }, side := { s.side with gran := { s.side.gran with segs := y :: ys } } }
     s.live = true ∧ exactOn s = true ∧ s.side.gran.segs = y :: ys ∧ y.x + s.side.gran.rdly + 100 ≤ s.time.beat) ∧
    (let s : State := State.reset
     let s : State := tin 5100 (let s := exch (gx 0 true true) s; { s with side := { s.side with gran := { s.side.gran with segs := [⟨5050, 7, none, none⟩] } } })
     s.live = true ∧ ∀ y ∈ s.side.gran.segs, s.time.beat < y.x + s.side.gran.rdly + 100) := by
  refine ⟨?_, ?_, ?_, ?_, ?_, ?_, ?_, ?_, ?_, ?_, ?_, ?_, ?_, ?_, ?_⟩ <;> decide +kernel
theorem witness_TrackDistribution :
    (let s : State := State.reset
     let s : State := let s := unarm (job s); { s with side := { s.side with root := true }, seqr := { s.seqr with admitted := true }, mem := { s.mem with tmem := Memory.writeBytes [] 6 [BitVec.ofNat 8 (9+0),0] } }
     s.live = true ∧ s.side.root = true ∧ s.seqr.admitted = true ∧ armed s = false) ∧
    (let s : State := State.reset
     let s : State := let s := unarm (job s); { s with side := { s.side with root := false } }
     s.live = true ∧ (s.side.root = false ∨ s.seqr.admitted = false ∨ armed s = true)) ∧
    (let s : State := State.reset
     let port : Fin 19 := 2
     let pay : List Word64 := pkt 9 (0) 3 false
     let h : Word64 := hdr 7 7 0 pay
     let s : State := let s := unarm (job s); { s with side := { s.side with dist := { s.side.dist with id := 7 } }, mem := { s.mem with tmem := [(5,7),(300,9),(513,7)] } }
     Arrives 7 port h pay s ∧ roomFor s port treePort = true ∧ armed s = false ∧ Memory.wf s.mem.tmem = true ∧ crc32
       ((pay.take 33).map fun w => leBytes 8 w.toNat).flatten = slot (msgOf h pay) 33 % 2 ^ 32) ∧
    (let s : State := State.reset
     let port : Fin 19 := 2
     let pay : List Word64 := pkt 9 (0) 3 false
     let h : Word64 := hdr 7 7 0 pay
     let s : State := let s := arm3 (job s); s
     Arrives 7 port h pay s ∧ roomFor s port treePort = true ∧ armed s = true ∧ crc32 ((pay.take 33).map fun w => leBytes
       8 w.toNat).flatten = slot (msgOf h pay) 33 % 2 ^ 32) ∧
    (let s : State := State.reset
     let port : Fin 19 := 2
     let pay : List Word64 := pkt 9 (0) 3 true
     let h : Word64 := hdr 7 7 0 pay
     let s : State := let s := arm3 (job s); s
     Arrives 7 port h pay s ∧ roomFor s port treePort = true ∧ crc32 ((pay.take 33).map fun w => leBytes 8
       w.toNat).flatten ≠ slot (msgOf h pay) 33 % 2 ^ 32) ∧
    (let s : State := State.reset
     let port : Fin 19 := 2
     let pay : List Word64 := pkt 9 (0) 3 false
     let h : Word64 := hdr 8 7 3 pay
     let s : State := let s := unarm (job s); { s with side := { s.side with dist := { s.side.dist with id := 7 } }, mem := { s.mem with tmem := [(5,7),(300,9),(513,7)] } }
     Arrives 8 port h pay s ∧ (msgOf h pay).dest = s.side.ord ∧ armed s = false ∧ Memory.wf s.mem.tmem = true ∧ crc32
       ((pay.take 33).map fun w => leBytes 8 w.toNat).flatten = slot (msgOf h pay) 33 % 2 ^ 32) ∧
    (let s : State := State.reset
     let port : Fin 19 := 2
     let pay : List Word64 := pkt 9 (0) 3 false
     let h : Word64 := hdr 8 7 (17) pay
     let s : State := let s := unarm (job s); s
     Arrives 8 port h pay s ∧ (msgOf h pay).dest ≠ s.side.ord ∧ roomFor s port (downPort (msgOf h pay).dest) = true) ∧
    (let s : State := State.reset
     let port : Fin 19 := 2
     let pay : List Word64 := [BitVec.ofNat 64 (9*2^48+5*2^27), 7]
     let h : Word64 := hdr 9 7 0 pay
     let s : State := let s := unarm (job s); { s with side := { s.side with dist := { s.side.dist with id := 7, st := 0 } } }
     Arrives 9 port h pay s ∧ roomFor s port treePort = true) ∧
    (let s : State := State.reset
     let port : Fin 19 := 2
     let pay : List Word64 := [BitVec.ofNat 64 (9*2^48+5*2^27), 7]
     let h : Word64 := hdr 6 7 0 pay
     let s : State := let s := (job s); { s with side := { s.side with root := false } }
     Arrives 6 port h pay s ∧ s.side.root = false) ∧
    (let s : State := State.reset
     let port : Fin 19 := 2
     let w : Word64 := BitVec.ofNat 64 (9*2^48+0^38+3*2^28)
     let h : Word64 := hdr 6 25 0 [w]
     let s : State := let s := (job s); { s with side := { s.side with root := true, dist := { s.side.dist with id := 9, npkt := 100 } }, mem := { s.mem with tmem := Memory.writeBytes [] 6 [BitVec.ofNat 8 (9+0),5] } }
     Arrives 6 port h [w] s ∧ s.side.root = true ∧ bits w.toNat 48 16 = s.side.dist.id ∧ bits w.toNat 38 10 + bits w.toNat
       28 10 < s.side.dist.npkt) ∧
    (let s : State := State.reset
     let s : State := let s := tin 9000 (job s); { s with side := { s.side with dist := { s.side.dist with id := 9, npkt := 100, st := 2, last := 5, rounds := 4, held := 0xF7F7F7 } } }
     s.live = true ∧ s.side.dist.st = 2 ∧ s.side.dist.last + 5000 ≤ s.time.beat ∧ s.side.dist.rounds < 8) ∧
    (let s : State := State.reset
     let s : State := let s := tin 9000 (job s); { s with side := { s.side with dist := { s.side.dist with id := 9, npkt := 100, st := 2, last := 5, rounds := 8, held := 0xF7F7F7 } } }
     s.live = true ∧ s.side.dist.st = 2 ∧ s.side.dist.last + 5000 ≤ s.time.beat ∧ 8 ≤ s.side.dist.rounds) ∧
    (let s : State := State.reset
     let s : State := let s := tin 9000 (job s); { s with side := { s.side with dist := { s.side.dist with id := 9, npkt := 100, st := 2, last := 8005, rounds := 8, held := 0xF7F7F7 } } }
     s.live = true ∧ (s.side.dist.st ≠ 2 ∨ s.time.beat < s.side.dist.last + 5000)) := by
  refine ⟨?_, ?_, ?_, ?_, ?_, ?_, ?_, ?_, ?_, ?_, ?_, ?_, ?_⟩ <;> decide +kernel
theorem witness_OvervoltageStopsTheDomainThenTheModules :
    (let s : State := State.reset
     let d : Fin 128 := 0
     let node : Int := 9000
     let s : State := let s := unhold d.val (pres d.val (up s)); modPd s d.val fun p => { p with ovact := false }
     s.powered = true ∧ d.val < 93 ∧ present s d.val = true ∧ (s.pd.get d).ovact = false ∧ (s.shf.nth d.val).hold = false
       ∧ ovLevel s d.val ≤ node * v16u) ∧
    (let s : State := State.reset
     let d : Fin 128 := 0
     let node : Int := 9000
     let s : State := let s := modShf (pres d.val (up s)) d.val fun h => { h with hold := true }; modPd s d.val fun p => { p with ovact := false }
     s.powered = true ∧ d.val < 93 ∧ present s d.val = true ∧ (s.pd.get d).ovact = false ∧ (s.shf.nth d.val).hold = true ∧
       ovLevel s d.val ≤ node * v16u) ∧
    (let s : State := State.reset
     let d : Fin 128 := Fin.ofNat 128 (96)
     let node : Int := 9000
     let s : State := let s := (pres d.val (up s)); modPd s d.val fun p => { p with ovact := false }
     s.powered = true ∧ 96 ≤ d.val ∧ present s d.val = true ∧ (s.pd.get d).ovact = false ∧ ovLevel s d.val ≤ node * v16u) ∧
    (let s : State := State.reset
     let d : Fin 128 := 0
     let node : Int := 1
     let s : State := up s
     s.powered = true ∧ (node * v16u < ovLevel s d.val ∨ (s.pd.get d).ovact = true)) ∧
    (let s : State := State.reset
     let d : Fin 128 := 0
     let node : Int := 1
     let s : State := let s := up s; modShf (modPd (modSp s d.val fun p => { p with vcmd := 51200000 }) d.val fun p => { p with ovact := true }) d.val fun h => { h with run := 0 = 0 }
     s.powered = true ∧ (s.pd.get d).ovact = true ∧ node * v16u < ovLevel s d.val - 30 * mV) ∧
    (let s : State := State.reset
     let d : Fin 128 := 0
     let s : State := let s := tin 5000 (on d.val (calm d.val (up s))); modPd s d.val fun p => { p with ovact := true, ovlatch := false, ovAt := 200 }
     s.live = true ∧ d.val ≠ 92 ∧ typ d.val ≠ .none ∧ (s.pd.get d).ovact = true ∧ (s.pd.get d).ovlatch = false ∧ (s.pd.get
       d).ovAt + 100 ≤ s.time.beat ∧ domSt s d.val ≠ .hold) ∧
    (let s : State := State.reset
     let s : State := let s := modGw (tin 5000 (on 92 (calm 92 (up s)))) 92 fun g => { g with waitAdm := false }; modPd s 92 fun p => { p with ovact := true, ovlatch := false, ovAt := 200 }
     s.live = true ∧ (s.gw.get 92).waitAdm = false ∧ (s.pd.get 92).ovact = true ∧ (s.pd.get 92).ovlatch = false ∧
       (s.pd.get 92).ovAt + 100 ≤ s.time.beat ∧ domSt s 92 ≠ .hold) ∧
    (let s : State := State.reset
     let d : Fin 128 := 0
     let node : Int := 9000
     let s : State := let s := tin 5000 (up s); { modPd s d.val fun p => { p with ovlatch := true, offAt := 200 } with prot := { s.prot with vbkill := false } }
     s.live = true ∧ (s.pd.get d).ovlatch = true ∧ (s.pd.get d).offAt + 1000 ≤ s.time.beat ∧ ovLevel s d.val < node * v16u
       ∧ s.prot.vbkill = false) ∧
    (let s : State := State.reset
     let d : Fin 128 := 0
     let node : Int := 1
     let s : State := let s := tin 5000 (up s); { modPd s d.val fun p => { p with ovlatch := 0=0, offAt := 200 } with prot := { s.prot with vbkill := false } }
     s.live = true ∧ ((s.pd.get d).ovlatch = false ∨ node * v16u ≤ ovLevel s d.val)) ∧
    (let s : State := State.reset
     let s : State := let s := tin 5000 (up s); { s with prot := { s.prot with vbkill := false } }
     s.live = true ∧ s.prot.vbkill = false) := by
  refine ⟨?_, ?_, ?_, ?_, ?_, ?_, ?_, ?_, ?_, ?_⟩ <;> decide +kernel
theorem witness_UndervoltageDroopAndHardLimit :
    (let s : State := State.reset
     let d : Fin 128 := 0
     let samp : List Int := List.replicate 12 (-1000000000)
     let vmin : Int := (checkLow s d.val samp).getD 0
     let s : State := let s := tin 5000 (dst d.val (if 0=0 then .on else .retention) (calm d.val (up s))); modPd (unhold d.val s) d.val fun p => { p with since := 20, uvact := false }
     s.live = true ∧ checkLow s d.val samp = some vmin ∧ (domSt s d.val = .on ∨ domSt s d.val = .retention) ∧ (s.pd.get
       d).since + 200 ≤ s.time.beat ∧ (d.val < 93 → (s.shr.nth d.val).dhic = false ∧ (s.shf.nth d.val).hold = false) ∧
       (s.pd.get d).uvact = false ∧ vmin * v16u < vSset s d.val - s.prot.uvm * mV) ∧
    (let s : State := State.reset
     let d : Fin 128 := 0
     let samp : List Int := List.replicate 12 1000000000
     let vmin : Int := (checkLow s d.val samp).getD 0
     let s : State := up s
     s.live = true ∧ checkLow s d.val samp = some vmin ∧ vSset s d.val - s.prot.uvm * mV ≤ vmin * v16u) ∧
    (let s : State := State.reset
     let d : Fin 128 := 0
     let samp : List Int := List.replicate 12 1000000000
     let vmin : Int := (checkLow s d.val samp).getD 0
     let s : State := let s := tin 5000 (dst d.val .on (up s)); unhold d.val (modPd s d.val fun p => { p with uvact := true, uvAt := 4200, since := 20 })
     s.live = true ∧ (s.pd.get d).uvact = true ∧ uvRuns s d.val = true ∧ checkLow s d.val samp = some vmin ∧ s.time.beat ≤
       (s.pd.get d).uvAt + 1000 ∧ vSset s d.val - rdiv (s.prot.uvm * mV) 2 ≤ vmin * v16u) ∧
    (let s : State := State.reset
     let d : Fin 128 := 0
     let s : State := let s := tin 5000 (dst d.val (if 0=0 then .on else .retention) (calm d.val (up s))); unhold d.val (modPd s d.val fun p => { p with uvact := true, uvAt := 200, since := 20 })
     s.live = true ∧ (s.pd.get d).uvact = true ∧ (s.pd.get d).uvAt + 1000 ≤ s.time.beat ∧ typ d.val ≠ .none ∧ typ d.val ≠
       .aon ∧ uvRuns s d.val = true) ∧
    (let s : State := State.reset
     let c : Fin 64 := 0
     let grid : Int := -1000000000
     let s : State := let s := on c.val (up s); modGw s c.val fun g => { g with clock := true }
     s.live = true ∧ isOn s c.val = true ∧ (s.gw.nth c.val).clock = true ∧ grid * v16u < vSset s c.val - s.prot.drt * mV) ∧
    (let s : State := State.reset
     let c : Fin 64 := 0
     let grid : Int := 1000000000
     let s : State := up s
     s.live = true ∧ vSset s c.val - s.prot.drt * mV ≤ grid * v16u) ∧
    (let s : State := State.reset
     let c : Fin 64 := 0
     let s : State := pres c.val (up s)
     s.live = true ∧ present s c.val = true ∧ s.exa.dd.nth c.val < 2 ^ 32) ∧
    (let s : State := State.reset
     let p : Fin 720 := 0
     let s : State := let s := act (up s); modShf s (phDom p.val) fun h => { h with run := true }
     s.powered = true ∧ slotted s p.val = true ∧ (s.shf.nth (phDom p.val)).run = true) := by
  refine ⟨?_, ?_, ?_, ?_, ?_, ?_, ?_, ?_⟩ <;> decide +kernel
theorem witness_OvercurrentAndInputBus :
    (let s : State := State.reset
     let d : Fin 128 := 0
     let peak : Int := 1000000000
     let s : State := on d.val (up s)
     s.live = true ∧ isOn s d.val = true ∧ (s.dom.get d).ipeak < peak) ∧
    (let s : State := State.reset
     let d : Fin 128 := 0
     let peak : Int := -1000000000
     let s : State := on d.val (up s)
     s.live = true ∧ peak ≤ (s.dom.get d).ipeak) ∧
    (let s : State := State.reset
     let s : State := let s := up s; { s with dom := s.dom.map fun d => { d with i := 10000 } }
     s.live = true ∧ 5 * dieLimEff s < 4 * dieCurrent s) ∧
    (let s : State := State.reset
     let s : State := let s := co (up s); { s with prot := { s.prot with low := false, lowRun := 10 } }
     s.live = true ∧ s.g.coord = true ∧ s.prot.low = false ∧ 10 ≤ s.prot.lowRun) ∧
    (let s : State := State.reset
     let s : State := let s := co (up s); { s with prot := { s.prot with low := false, lowRun := 0 } }
     s.live = true ∧ (s.g.coord = false ∨ s.prot.lowRun < 10 ∨ s.prot.low = true)) ∧
    (let s : State := State.reset
     let s : State := let s := co (up s); { s with prot := { s.prot with high := false, highRun := 10 } }
     s.live = true ∧ s.g.coord = true ∧ s.prot.high = false ∧ 10 ≤ s.prot.highRun) ∧
    (let s : State := State.reset
     let s : State := let s := co (up s); { s with prot := { s.prot with high := true, highRun := 0 } }
     s.live = true ∧ (s.g.coord = false ∨ s.prot.highRun < 10 ∨ s.prot.high = true)) ∧
    (let s : State := State.reset
     let s : State := let s := co (up s); { s with prot := { s.prot with dip := false, dipRun := 2 } }
     s.live = true ∧ s.g.coord = true ∧ 2 ≤ s.prot.dipRun ∧ s.prot.dip = false) ∧
    (let s : State := State.reset
     let s : State := let s := co (up s); { s with prot := { s.prot with dipRun := 0 } }
     s.live = true ∧ (s.g.coord = false ∨ s.prot.dipRun < 2)) ∧
    (let s : State := State.reset
     let s : State := let s := co (up s); { s with prot := { s.prot with dip := false, iinovr := false, iinRun := 10 } }
     s.live = true ∧ s.g.coord = true ∧ 10 ≤ s.prot.iinRun ∧ s.prot.dip = false ∧ s.prot.iinovr = false) ∧
    (let s : State := State.reset
     let s : State := let s := co (up s); { s with prot := { s.prot with iinRun := 0 } }
     s.live = true ∧ (s.g.coord = false ∨ s.prot.iinRun < 10)) ∧
    (let s : State := State.reset
     let s : State := let s := co (up s); { s with prot := { s.prot with dip := true, calmRun := 1000 } }
     s.live = true ∧ s.g.coord = true ∧ s.prot.dip = true ∧ 1000 ≤ s.prot.calmRun) ∧
    (let s : State := State.reset
     let s : State := let s := co (up s); { s with prot := { s.prot with calmRun := 999 } }
     s.live = true ∧ (s.g.coord = false ∨ s.prot.calmRun < 1000)) := by
  refine ⟨?_, ?_, ?_, ?_, ?_, ?_, ?_, ?_, ?_, ?_, ?_, ?_, ?_⟩ <;> decide +kernel
theorem witness_TemperatureAndDieStop :
    (let s : State := State.reset
     let s : State := tin (0) (up s)
     s.live = true ∧ s.time.beat % 1000 = 0) ∧
    (let s : State := State.reset
     let s : State := tin (0+3) (up s)
     s.live = true ∧ s.time.beat % 1000 ≠ 0) ∧
    (let s : State := State.reset
     let s : State := let s := up s; { s with prot := { s.prot with shutRun := 2, shutdn := false, stop := none } }
     s.live = true ∧ 2 ≤ s.prot.shutRun ∧ s.prot.shutdn = false ∧ s.prot.stop = none) ∧
    (let s : State := State.reset
     let s : State := let s := up s; { s with prot := { s.prot with shutRun := 1 } }
     s.live = true ∧ s.prot.shutRun < 2) ∧
    (let s : State := State.reset
     let s : State := let s := up s; { s with prot := { s.prot with coolant := false }, shf := s.shf.map fun h => { h with hold := false } }
     s.live = true ∧ s.prot.coolant = false ∧ ∀ k : Fin 93, (s.shf.get k).hold = false) ∧
    (let s : State := State.reset
     let d : Fin 93 := 0
     let s : State := let s := up s; { modShf s d.val fun h => { h with hold := true } with prot := { s.prot with coolant := false }, dbg := { s.dbg with active := 0 = 0 }, time := { s.time with refclk := 0 = 0 } }
     s.powered = true ∧ s.live = false ∧ s.prot.coolant = false ∧ (s.shf.get d).hold = true) ∧
    (let s : State := State.reset
     let c : Fin 8 := 0
     let t0 : Nat := 100
     let s : State := let s := tin 3000 (up s); { s with prot := { s.prot with stop := some 100, stopNext := 0 } }
     s.live = true ∧ s.prot.stop = some t0 ∧ s.prot.stopNext = c.val ∧ t0 + 200 * c.val ≤ s.time.beat) ∧
    (let s : State := State.reset
     let s : State := let s := tin 3000 (up s); { s with prot := { s.prot with stop := none } }
     s.live = true ∧ s.prot.stop = none) := by
  refine ⟨?_, ?_, ?_, ?_, ?_, ?_, ?_, ?_⟩ <;> decide +kernel
theorem witness_SiloInjectionAndFreeze :
    (let s : State := State.reset
     let c : Cap := capOf 0
     let rest : List Cap := []
     let s : State := let s := up s; { s with silo := { s.silo with wait := [capOf 0] } }
     s.powered = true ∧ s.silo.wait = c :: rest ∧ s.mem.siloRecs.length < 4095) ∧
    (let s : State := State.reset
     let c : Cap := capOf 0
     let rest : List Cap := []
     let s : State := let s := up s; { s with silo := { s.silo with wait := [capOf 0] }, mem := { s.mem with siloRecs := List.replicate 4095 [] } }
     s.powered = true ∧ s.silo.wait = c :: rest ∧ s.mem.siloRecs.length = 4095) ∧
    (let s : State := State.reset
     let c : Cap := capOf 0
     let rest : List Cap := []
     let s : State := let s := up s; { s with silo := { s.silo with wait := [capOf 0] }, mem := { s.mem with siloRecs := List.replicate 4096 [] } }
     s.powered = true ∧ s.silo.wait = c :: rest ∧ 4096 ≤ s.mem.siloRecs.length) ∧
    (let s : State := State.reset
     let s : State := let s := up s; { s with g := { s.g with lc := 1, boot := .done }, dbg := { s.dbg with mode := 1, active := false } }
     s.powered = true ∧ s.g.lc = 1 ∧ s.dbg.active = false ∧ s.dbg.mode ≠ 0) ∧
    (let s : State := State.reset
     let b : Fin 10 := 0
     let s : State := let s := up s; { s with g := { s.g with lc := 1, boot := .done }, dbg := { s.dbg with mode := 0, active := false, blk := 0, src := 0 % (srcTable (0)).length } }
     s.powered = true ∧ s.g.lc = 1 ∧ s.dbg.active = false ∧ s.dbg.mode = 0 ∧ s.dbg.blk = b.val ∧ s.dbg.src < (srcTable
       b.val).length) ∧
    (let s : State := State.reset
     let s : State := let s := up s; { s with g := { s.g with lc := if 0=0 then 2 else 1, boot := .done }, dbg := { s.dbg with mode := 0, active := 0 ≠ 0 } }
     s.powered = true ∧ (s.g.lc ≠ 1 ∨ s.dbg.active = true)) ∧
    (let s : State := State.reset
     let s : State := let s := up s; { s with g := { s.g with lc := 1, boot := .done } }
     s.powered = true ∧ s.g.lc = 1) ∧
    (let s : State := State.reset
     let s : State := let s := up s; { s with dbg := { s.dbg with held := [⟨3,2,s.time.beat - 4⟩,⟨4,5,1⟩] } }
     s.powered = true) ∧
    (let s : State := State.reset
     let s : State := let s := up s; { s with dbg := { s.dbg with active := true } }
     s.powered = true ∧ s.dbg.active = true) ∧
    (let s : State := State.reset
     let low : Bool := true
     let s : State := let s := up s; { s with prot := { s.prot with coolant := false }, pins := { s.pins with scan := none } }
     s.live = true ∧ (freezeLow s low = true ∨ s.dbg.req = true) ∧ s.prot.coolant = false) ∧
    (let s : State := State.reset
     let low : Bool := true
     let d : Fin 93 := 0
     let s : State := let s := unhold d.val (pres d.val (up s)); { s with prot := { s.prot with coolant := true }, pins := { s.pins with scan := none } }
     s.live = true ∧ (freezeLow s low = true ∨ s.dbg.req = true) ∧ s.prot.coolant = true ∧ present s d.val = true ∧
       (s.shf.get d).hold = false) ∧
    (let s : State := State.reset
     let low : Bool := false
     let s : State := let s := up s; { s with dbg := { s.dbg with req := false }, pins := { s.pins with scan := none } }
     s.live = true ∧ freezeLow s low = false ∧ s.dbg.req = false) ∧
    (let s : State := State.reset
     let s : State := let s := up s; { s with dbg := { s.dbg with active := true, imgrdy := false, kept := some (keepRegs s) } }
     s.powered = true ∧ s.dbg.active = true ∧ s.dbg.imgrdy = false ∧ s.dbg.kept.isSome = true) ∧
    (let s : State := State.reset
     let s : State := let s := up s; { s with dbg := { s.dbg with active := true, req := false }, acts := [], pins := { s.pins with scan := none }, prot := { s.prot with coolPend := false }, exa := { s.exa with pend := [], svreq := none }, gw := s.gw.map fun g => { g with held := [] }, rst := { s.rst with later := none }, epp := s.epp.map fun e => { e with en := true, out := false, absent := false } }
     s.powered = true ∧ s.dbg.active = true ∧ freezeLow s false = false ∧ s.dbg.req = false ∧ s.time.refclk = true ∧
       s.acts = [] ∧ s.exa.pend = [] ∧ s.exa.svreq = none ∧ s.prot.coolPend = false ∧ s.rst.later = none ∧ ∀ l : Fin 4, 3
       ≤ healthy s (96 + l.val) ∧ (s.gw.nth (96 + l.val)).held = []) ∧
    (let s : State := State.reset
     let s : State := let s := up s; { s with dbg := { s.dbg with active := true, req := true } }
     s.powered = true ∧ (s.dbg.active = false ∨ s.dbg.req = true ∨ s.time.refclk = false)) := by
  refine ⟨?_, ?_, ?_, ?_, ?_, ?_, ?_, ?_, ?_, ?_, ?_, ?_, ?_, ?_, ?_⟩ <;> decide +kernel
theorem witness_MeasurementWindow :
    (let s : State := State.reset
     let s : State := tin (0+3) (up s)
     s.live = true ∧ s.time.beat % 100 ≠ 0) ∧
    (let s : State := State.reset
     let m : WindowMeas := { wm 0 with coordAt := none }
     let k : Nat := 0
     let s : State := let s := tin (0) (up s); { s with time := { s.time with wholeFrom := 0 - 0 + 8 }, g := { s.g with coordReq := false, holder := some (0), coord := decide (0 = s.g.die) } }
     s.live = true ∧ s.time.beat % 100 = 0 ∧ (s.time.beat < 100 ∨ wholeWin s (s.time.beat - 100) 100 = false) ∧ m.coordAt
       = none ∧ s.g.coordReq = false ∧ s.g.holder = some k ∧ (s.g.coord = true ↔ k = s.g.die)) ∧
    (let s : State := State.reset
     let m : WindowMeas := wm 0
     let d : Fin 93 := 0
     let x : Int := ((((upTo (nsns d.val) fun k => firstSns d.val + k).filter fun p => !(s.sns.nth p).excl).map fun p => m.sns.getD p 0)).headD 0
     let xs : List Int := ((((upTo (nsns d.val) fun k => firstSns d.val + k).filter fun p => !(s.sns.nth p).excl).map fun p => m.sns.getD p 0)).tail
     let s : State := modDom (modShf (noInj (ww (0+100) (up s))) d.val fun h => { h with hold := false }) d.val (fun x => { x with present := true }) |> fun s => modShw s d.val fun w => { w with wholeFrom := 0 }
     WindowWhole s ∧ s.dbg.injs = [] ∧ measured s d.val = true ∧ (((upTo (nsns d.val) fun k => firstSns d.val + k).filter
       fun p => !(s.sns.nth p).excl).map fun p => m.sns.getD p 0) = x :: xs) ∧
    (let s : State := State.reset
     let d : Fin 93 := 0
     let s : State := modShf (ww (0+100) (up s)) d.val fun h => { h with hold := true }
     WindowWhole s ∧ measured s d.val = false) ∧
    (let s : State := State.reset
     let s : State := co (ww (0+100) (up s))
     WindowWhole s ∧ s.g.coord = true) ∧
    (let s : State := State.reset
     let s : State := let s := ww (0+100) (up s); { s with bm := s.bm.mapIx fun i b => if i = 2 then b else { b with st := .off } }
     WindowWhole s ∧ nRun s < 2) ∧
    (let s : State := State.reset
     let m : WindowMeas := { wm 0 with coordAt := some (0) }
     let k : Fin 4 := 0
     let s : State := (ww (0+100) (up s))
     WindowWhole s ∧ m.coordAt = some k.val ∧ (s.g.coord = true → s.g.holder = some s.g.die)) ∧
    (let s : State := State.reset
     let m : WindowMeas := { wm 0 with coordAt := none }
     let s : State := let s := ww (0+100) (up s); { s with g := { s.g with coordReq := true } }
     WindowWhole s ∧ m.coordAt = none ∧ s.g.coordReq = true) := by
  refine ⟨?_, ?_, ?_, ?_, ?_, ?_, ?_, ?_⟩ <;> decide +kernel
theorem witness_BringUpAndRole :
    (let s : State := State.reset
     let x : Instr × (State → Bool) × BuRun := buRows.getD (0) (.train, (fun _ => true), .train)
     let s : State := prime s
     s.live = true ∧ x.2.1 s = true ∧ s.bu.run = .no ∧ s.g.lc ≠ 4) ∧
    (let s : State := State.reset
     let x : Instr × (State → Bool) × BuRun := buRows.getD (0) (.train, (fun _ => true), .train)
     let s : State := let s := prime s; { s with bu := { s.bu with run := if 0 = 0 then .ber else .no, trained := false, berdone := false }, g := { s.g with lc := if 0 = 0 then 4 else 2 } }
     s.live = true ∧ (x.2.1 s = false ∨ s.bu.run ≠ .no ∨ s.g.lc = 4)) ∧
    (let s : State := State.reset
     let s : State := unfail (0) (pres (0) (prime s))
     s.live = true ∧ calReady s = true ∧ s.bu.run = .no ∧ s.g.lc ≠ 4) ∧
    (let s : State := State.reset
     let t0 : Nat := 50
     let s : State := let s := calat (.loaded 0 50) (edge s); { s with time := { s.time with beat := 4000000, valid := true } }
     EdgeAlone s ∧ s.time.beat + 1 < 2 ^ 64 ∧ s.bu.cal = .loaded 0 t0 ∧ t0 + 3360000 ≤ s.time.beat) ∧
    (let s : State := State.reset
     let s : State := bu .train s
     s.live = true ∧ s.bu.run = .train) ∧
    (let s : State := State.reset
     let s : State := bu .ber s
     s.live = true ∧ s.bu.run = .ber) ∧
    (let s : State := State.reset
     let claims : List (List Nat) := (List.range 93).map fun d => List.range (nph d)
     let d : Fin 93 := 0
     let s : State := let s := bu .topo s; unfail d.val (pres d.val { s with ph := s.ph.map fun p => { p with st := .off } })
     s.live = true ∧ s.bu.run = .topo ∧ present s d.val = true ∧ sheafFailed s d.val = false ∧ (claims.getD d.val
       []).Nodup ∧ (∀ p : Fin 720, phDom p.val = d.val → ((s.ph.get p).st ≠ .absent ↔ phPos p.val ∈ claims.getD d.val []))
       ∧ ∀ k ∈ claims.getD d.val [], k < nph d.val) ∧
    (let s : State := State.reset
     let claims : List (List Nat) := (List.range 93).map fun d => List.range (nph d - 2)
     let d : Fin 93 := 0
     let p : Fin 720 := Fin.ofNat 720 (firstPh d.val + nph d.val - 1)
     let s : State := let s := bu .topo s; unfail d.val (pres d.val { s with ph := s.ph.map fun p => { p with st := .off } })
     s.live = true ∧ s.bu.run = .topo ∧ present s d.val = true ∧ sheafFailed s d.val = false ∧ (claims.getD d.val
       []).Nodup ∧ (∀ k ∈ claims.getD d.val [], k < nph d.val ∧ (s.ph.nth (firstPh d.val + k)).st ≠ .absent) ∧ phDom p.val
       = d.val ∧ (s.ph.get p).st ≠ .absent ∧ (s.ph.get p).st ≠ .excluded ∧ ¬ phPos p.val ∈ claims.getD d.val []) ∧
    (let s : State := State.reset
     let claims : List (List Nat) := (List.range 93).map fun d => if 0 = 0 then List.range (nph d + 1) else [0,1,1]
     let d : Fin 93 := 0
     let s : State := let s := bu .topo s; unfail d.val (pres d.val { s with ph := s.ph.map fun p => { p with st := .off } })
     s.live = true ∧ s.bu.run = .topo ∧ present s d.val = true ∧ sheafFailed s d.val = false ∧ ((∃ k ∈ claims.getD d.val
       [], nph d.val ≤ k ∨ (s.ph.nth (firstPh d.val + k)).st = .absent) ∨ ¬ (claims.getD d.val []).Nodup)) ∧
    (let s : State := State.reset
     let s : State := calat (.loaded 1 60) (tin 3000000 (bu .cal s))
     s.live = true ∧ (s.bu.run ≠ .cal ∨ calMeasured s = false)) ∧
    (let s : State := State.reset
     let s : State := calat (.loaded 1 60) (tin 4000000 (bu .cal s))
     s.live = true ∧ s.bu.run = .cal ∧ calMeasured s = true) ∧
    (let s : State := State.reset
     let s : State := let s := up s; { s with g := { s.g with mss := true, coord := false } }
     s.live = true ∧ s.g.mss = true ∧ s.g.coord = false) ∧
    (let s : State := State.reset
     let s : State := let s := up s; { s with g := { s.g with mss := 0=0, coord := 0=0 } }
     s.live = true ∧ (s.g.mss = false ∨ s.g.coord = true)) := by
  refine ⟨?_, ?_, ?_, ?_, ?_, ?_, ?_, ?_, ?_, ?_, ?_, ?_, ?_⟩ <;> decide +kernel
theorem witness_RegionResets :
    (let s : State := State.reset
     let lev : Fin 3 := 0
     let c : Nat := 0
     let s : State := let s := rr s; { s with dom := s.dom.map fun d => { d with present := true } }
     ResetReady s ∧ rstTarget s lev.val c = true ∧ rstCores s lev.val c ≠ []) ∧
    (let s : State := State.reset
     let lev : Fin 3 := 0
     let c : Nat := 0
     let s : State := let s := rr s; if 0 = 0 then { s with rst := { s.rst with run := some (r1 0 none 0) } } else pres 5 s
     s.powered = true ∧ s.time.refclk = true ∧ s.dbg.active = false ∧ (s.rst.run.isSome = true ∨ rstTarget s lev.val c =
       false)) ∧
    (let s : State := State.reset
     let lev : Nat := 0
     let s : State := let s := rr s; { s with dbg := { s.dbg with active := true } }
     s.powered = true ∧ s.time.refclk = true ∧ s.dbg.active = true ∧ s.rst.later = none ∧ lev ≤ 3) ∧
    (let s : State := State.reset
     let c : Fin 64 := 9
     let r : RstRun := r1 0 none 0x100
     let s : State := run1 (r1 0 none 0x100) s
     s.live = true ∧ s.rst.run = some r ∧ r.level ≤ 2 ∧ r.z = none ∧ r.cores.getLsbD c.val = true ∧ r.cores &&& ~~~
       (r.drained ||| coreBit c.val) ≠ 0) ∧
    (let s : State := State.reset
     let c : Fin 64 := 9
     let r : RstRun := r1 0 none 0xFD00
     let s : State := run1 (r1 0 none 0xFD00) s
     s.live = true ∧ s.rst.run = some r ∧ r.level ≤ 2 ∧ r.z = none ∧ r.cores.getLsbD c.val = true ∧ r.cores &&& ~~~
       (r.drained ||| coreBit c.val) = 0 ∧ s.acts = []) ∧
    (let s : State := State.reset
     let r : RstRun := r1 0 none 0xFD00
     let s : State := run1 (r1 0 none 0xFD00) s
     s.live = true ∧ s.rst.run = some r ∧ r.level ≤ 2 ∧ r.z = none ∧ r.q + 100 * s.rst.draint ≤ s.time.beat ∧ s.acts = []) ∧
    (let s : State := State.reset
     let r : RstRun := r1 0 (some 5) 0xFD00
     let z : Nat := 5
     let c : Nat := 1
     let s : State := run1 (r1 0 (some 5) 0xFD00) s
     s.live = true ∧ s.rst.run = some r ∧ r.level ≤ 2 ∧ r.mode = false ∧ r.z = some z ∧ z + 200 * r.rank ≤ s.time.beat ∧
       r.clusters[r.rank]? = some c ∧ c < 8) ∧
    (let s : State := State.reset
     let d : Fin 64 := Fin.ofNat 64 (8)
     let r : RstRun := { r1 0 (some 5) 0xFD00 with mode := true }
     let z : Nat := 5
     let s : State := let s := modGw (dst (8) .gating (run1 { r1 0 (some 5) 0xFD00 with mode := true } s)) (8) fun g => { g with gateTo := .off, stage := 0, wake := none, waitAdm := false }; if 0 = 0 then s else let t := unfail (8) (calm (8) s); { t with rst := s.rst, g := { t.g with mss := true }, bu := { t.bu with caldone := true } }
     s.live = true ∧ s.rst.run = some r ∧ r.level ≤ 2 ∧ r.mode = true ∧ r.z = some z ∧ r.cores.getLsbD d.val = true ∧
       r.woke.getLsbD d.val = false ∧ domSt s d.val = .gating ∧ (s.gw.nth d.val).gateTo = .off ∧ (s.gw.nth d.val).stage =
       0 ∧ (s.gw.nth d.val).wake = none) ∧
    (let s : State := State.reset
     let s : State := rr s
     s.live = true ∧ s.rst.run = none) := by
  refine ⟨?_, ?_, ?_, ?_, ?_, ?_, ?_, ?_, ?_⟩ <;> decide +kernel
theorem witness_MeserAndWholeChipResets :
    (let s : State := State.reset
     let d : Nat := 0
     let s : State := let s := pres (0) (rr s); { s with acts := [] }
     ResetReady s ∧ d < 92 ∧ present s d = true ∧ s.acts = []) ∧
    (let s : State := State.reset
     let s : State := pres 92 (rr s)
     ResetReady s ∧ present s 92 = true) ∧
    (let s : State := State.reset
     let s : State := rr s
     ResetReady s) ∧
    (let s : State := State.reset
     let r : RstRun := { r1 0 none 0 with level := 4, due := 90000 }
     let s : State := run1 { r1 0 none 0 with level := 4, due := 90000 } s
     s.live = true ∧ s.rst.run = some r ∧ 4 ≤ r.level ∧ r.level ≤ 6 ∧ r.due ≤ s.time.beat ∧ (r.level = 4 → domSt s
       r.target ≠ .gating)) ∧
    (let s : State := State.reset
     let r : RstRun := { r1 0 none 0 with level := 4, target := 72, due := 90000 }
     let d : Fin 16 := 0
     let s : State := let d := 72; let s := modShf (modGw (dst d .gating (run1 { r1 0 none 0 with level := 4, target := 72, due := 90000 } s)) d fun g => { g with gateTo := .retention }) d fun h => { h with run := false }; { s with prot := { s.prot with vbkill := false } }
     s.live = true ∧ s.rst.run = some r ∧ r.level = 4 ∧ r.target = 72 + d.val ∧ r.due ≤ s.time.beat ∧ domSt s r.target =
       .gating ∧ (s.gw.nth r.target).gateTo = .retention ∧ (s.shf.nth r.target).run = false ∧ s.prot.vbkill = false) ∧
    (let s : State := State.reset
     let r : RstRun := { r1 0 none 0 with level := 7, due := 90000 }
     let s : State := let s := run1 { r1 0 none 0 with level := 7, due := 90000 } s; { s with gw := s.gw.map fun g => { g with held := [] }, epp := s.epp.map fun e => { e with en := true, out := false, absent := false } }
     s.live = true ∧ s.rst.run = some r ∧ r.level = 7 ∧ r.due ≤ s.time.beat ∧ ∀ l : Fin 4, 3 ≤ healthy s (96 + l.val) ∧
       (s.gw.nth (96 + l.val)).held = []) ∧
    (let s : State := State.reset
     let r : RstRun := { r1 0 none 0 with level := 4, due := 90001 }
     let s : State := run1 { r1 0 none 0 with level := 4, due := 90001 } s
     s.live = true ∧ s.rst.run = some r ∧ s.time.beat < r.due) ∧
    (let s : State := State.reset
     let s : State := let s := rr s; { s with prot := { s.prot with stop := none } }
     s.powered = true ∧ s.time.refclk = true ∧ s.dbg.active = false ∧ s.rst.run = none ∧ s.prot.stop = none) ∧
    (let s : State := State.reset
     let s : State := run1 { r1 0 none 0 with level := 3 } s
     s.powered = true ∧ s.time.refclk = true ∧ s.dbg.active = false ∧ (s.rst.run.any fun r => decide (r.level = 3)) = true) ∧
    (let s : State := State.reset
     let r : RstRun := { r1 0 none 0 with level := 3 }
     let s : State := let s := run1 { r1 0 none 0 with level := 3 } (calat .no s); { s with prot := { s.prot with stop := none, stopNext := 8 }, blkReset := [], dom := s.dom.map fun d => { d with st := if d.st = .gating then .off else d.st } }
     s.powered = true ∧ s.time.refclk = true ∧ s.dbg.active = false ∧ s.rst.run = some r ∧ r.level = 3 ∧ s.prot.stop =
       none ∧ s.prot.stopNext = 8 ∧ (∀ d : Fin 88, domSt s d.val ≠ .gating) ∧ s.blkReset = [] ∧ s.acts = [] ∧ s.bu.cal =
       .no) := by
  refine ⟨?_, ?_, ?_, ?_, ?_, ?_, ?_, ?_, ?_, ?_⟩ <;> decide +kernel
theorem witness_MeterWindowsAndEnergy :
    (let s : State := State.reset
     let s : State := mt (fun m => { m with running := true, endTw := if 0 = 0 then none else some 199999, sync := 0≠0, reg := { m.reg with eimp := 2^64-1-0 } }) s
     s.meter.supply = true ∧ s.meter.running = true ∧ (s.meter.endTw.isSome = true ∨ s.meter.sync = false)) ∧
    (let s : State := State.reset
     let s : State := mt (fun m => { m with running := true, endTw := if 0 = 0 then none else some 199999, sync := 0≠0 }) s
     s.meter.supply = true ∧ s.meter.running = true ∧ (s.meter.endTw.isSome = true ∨ s.meter.sync = false)) ∧
    (let s : State := State.reset
     let s : State := mt (fun m => { m with running := false, refSet := true, sync := false }) s
     s.meter.supply = true ∧ s.meter.running = false ∧ s.meter.refSet = true ∧ s.meter.sync = false) ∧
    (let s : State := State.reset
     let s : State := { s with meter := { s.meter with supply := false } }
     s.meter.supply = false) ∧
    (let s : State := State.reset
     let p : Nat := 60000
     let s : State := mt (fun m => m) s
     s.meter.supply = true ∧ 50000 ≤ p ∧ (p < 153800 ∨ 222200 < p)) ∧
    (let s : State := State.reset
     let p : Nat := 160000
     let s : State := mt (fun m => { m with edges := 7, running := true }) s
     s.meter.supply = true ∧ 153800 ≤ p ∧ p ≤ 222200 ∧ 7 ≤ s.meter.edges ∧ s.meter.running = true) ∧
    (let s : State := State.reset
     let s : State := mt (fun m => m) s
     s.meter.supply = true) := by
  refine ⟨?_, ?_, ?_, ?_, ?_, ?_, ?_⟩ <;> decide +kernel
theorem witness_MeterPort :
    (let s : State := State.reset
     let s : State := mt (fun m => m) s
     s.meter.supply = true) ∧
    (let s : State := State.reset
     let s : State := { s with meter := { s.meter with supply := false } }
     s.meter.supply = false) ∧
    (let s : State := State.reset
     let w : Nat := 16*0*77 + 4*(0) + 1
     let s : State := mt (fun m => { m with isSealed := false }) s
     s.meter.supply = true ∧ s.meter.isSealed = false ∧ (bits w 1 2 = 0 ∨ bits w 1 2 = 2)) ∧
    (let s : State := State.reset
     let w : Nat := 16*0*77 + 2*(0) + 1
     let s : State := mt (fun m => { m with isSealed := 0=0 }) s
     s.meter.supply = true ∧ (s.meter.isSealed = true ∨ bits w 1 2 = 1)) ∧
    (let s : State := State.reset
     let w : Nat := 0
     let s : State := mt (fun m => { m with req := none }) s
     s.meter.supply = true ∧ w % 8 < 6 ∧ bitOf w 3 = false ∧ s.meter.req = none) ∧
    (let s : State := State.reset
     let r : MtrReq := ⟨2, false, true, 7⟩
     let s : State := mt (fun m => { m with req := some ⟨2, false, true, 7⟩ }) s
     s.meter.supply = true ∧ s.meter.req = some r ∧ r.win ≠ (s.meter.wseq + 1) % 2 ^ 32) ∧
    (let s : State := State.reset
     let c : Nat := 0
     let x : Int := 4000000+0
     let s : State := mt (fun m => { m with isSealed := false, cal := none }) s
     s.meter.supply = true ∧ s.meter.isSealed = false ∧ s.meter.cal = none ∧ c ≤ 2 ∧ (c = 0 → 4000000 ≤ x)) ∧
    (let s : State := State.reset
     let s : State := mt (fun m => { m with isSealed := true, cal := none }) s
     s.meter.supply = true ∧ s.meter.isSealed = true) ∧
    (let s : State := State.reset
     let c : Nat := 0
     let z : MtrZero := ⟨0, 5, 6, 7⟩
     let s : State := mt (fun m => { m with isSealed := false, cal := none, zero := some ⟨0, 5, 6, 7⟩ }) s
     s.meter.supply = true ∧ s.meter.isSealed = false ∧ s.meter.cal = none ∧ s.meter.zero = some z ∧ z.ch = c) ∧
    (let s : State := State.reset
     let s : State := mt (fun m => { m with isSealed := false, cal := none, zero := none }) s
     s.meter.supply = true ∧ s.meter.isSealed = false ∧ s.meter.cal = none ∧ s.meter.zero = none) ∧
    (let s : State := State.reset
     let s : State := mt (fun m => { m with accepted := Tab.make 3 fun _ => true, cal := none }) s
     s.meter.supply = true ∧ s.meter.cal = none ∧ s.meter.accepted = Tab.make 3 fun _ => true) ∧
    (let s : State := State.reset
     let k : Fin 3 := 0
     let s : State := mt (fun m => { m with accepted := Tab.make 3 fun _ => false, cal := none }) s
     s.meter.supply = true ∧ (s.meter.cal.isSome = true ∨ s.meter.accepted.get k = false)) ∧
    (let s : State := State.reset
     let s : State := mt (fun m => { m with isSealed := true }) s
     s.meter.supply = true ∧ s.meter.isSealed = true) ∧
    (let s : State := State.reset
     let c : MtrCal := ⟨1, false, 55, 3, 16, 777, 888⟩
     let s : State := mt (fun m => { m with cal := some ⟨1, false, 55, 3, 16, 777, 888⟩ }) s
     s.meter.supply = true ∧ s.meter.cal = some c ∧ c.high = false ∧ 16 ≤ c.n) ∧
    (let s : State := State.reset
     let c : MtrCal := ⟨1, true, 5000000+0, 3, 16, 80000000, 80000000⟩
     let z : MtrZero := ⟨1, 5, 6, 7⟩
     let s : State := mt (fun m => { m with cal := some ⟨1, true, 5000000+0, 3, 16, 80000000, 80000000⟩, zero := some ⟨1,5,6,7⟩ }) s
     s.meter.supply = true ∧ s.meter.cal = some c ∧ c.high = true ∧ c.ch = 1 ∧ 16 ≤ c.n ∧ s.meter.zero = some z) := by
  refine ⟨?_, ?_, ?_, ?_, ?_, ?_, ?_, ?_, ?_, ?_, ?_, ?_, ?_, ?_, ?_⟩ <;> decide +kernel
theorem witness_MeterMirror :
    (let s : State := State.reset
     let s : State := let s := up s; { s with meter := { s.meter with supply := false } }
     s.live = true ∧ (pushes s = false ∨ (s.rst.run.any fun r => decide (r.level = 7)) = true)) ∧
    (let s : State := State.reset
     let bytes : List Byte := (fr 0).set 7 0xA5
     let s : State := let s := up s; { s with rst := { s.rst with run := none }, meter := { s.meter with supply := true, stream := true, frame := fr 0 } }
     FramesCome s ∧ (bytes.length ≠ 52 ∨ crc32 (bytes.take 48) ≠ le32 bytes 48)) ∧
    (let s : State := State.reset
     let bytes : List Byte := fr 0
     let s : State := let s := up s; { s with rst := { s.rst with run := none }, meter := { s.meter with supply := true, stream := true, frame := fr 0 }, mtrm := { s.mtrm with bufEn := false } }
     FramesCome s ∧ bytes.length = 52 ∧ crc32 (bytes.take 48) = le32 bytes 48 ∧ (s.g.coord = false ∨ s.mtrm.drive = false
       ∨ bytes = s.meter.frame ∧ (s.mtrm.bufEn = false ∨ s.mtrm.buserr = true))) ∧
    (let s : State := State.reset
     let bytes : List Byte := fr 0
     let s : State := let s := co (up s); { s with rst := { s.rst with run := none }, meter := { s.meter with supply := true, stream := true, frame := fr 0 }, mtrm := { s.mtrm with drive := true, bufEn := true, buserr := false, base := 0, log := 4, wr := 3, rd := 7 }, mem := { s.mem with hmem := [(5,7),(191,9),(200,9),(256,8)] } }
     FramesCome s ∧ bytes.length = 52 ∧ crc32 (bytes.take 48) = le32 bytes 48 ∧ s.g.coord = true ∧ bytes = s.meter.frame ∧
       s.mtrm.drive = true ∧ s.mtrm.bufEn = true ∧ s.mtrm.buserr = false ∧ (s.mtrm.wr + 1) % 2 ^ s.mtrm.log ≠ s.mtrm.rd ∧
       Memory.wf s.mem.hmem = true) ∧
    (let s : State := State.reset
     let bytes : List Byte := fr 0
     let s : State := let s := co (up s); { s with rst := { s.rst with run := none }, meter := { s.meter with supply := true, stream := true, frame := fr 0 }, mtrm := { s.mtrm with drive := true, bufEn := true, buserr := false, base := 0, log := 4, wr := 3, rd := 7 }, mem := { s.mem with hmem := [(5,7),(191,9),(200,9),(256,8)] } }
     FramesCome s ∧ bytes.length = 52 ∧ crc32 (bytes.take 48) = le32 bytes 48 ∧ s.g.coord = true ∧ bytes = s.meter.frame ∧
       s.mtrm.drive = true ∧ s.mtrm.bufEn = true ∧ s.mtrm.buserr = false ∧ (s.mtrm.wr + 1) % 2 ^ s.mtrm.log ≠ s.mtrm.rd) ∧
    (let s : State := State.reset
     let bytes : List Byte := fr 0
     let s : State := let s := co (up s); { s with rst := { s.rst with run := none }, meter := { s.meter with supply := true, stream := true, frame := fr 0 }, mtrm := { s.mtrm with drive := true, bufEn := true, buserr := false, base := 0, log := 4, wr := 3, rd := 4 } }
     FramesCome s ∧ bytes.length = 52 ∧ crc32 (bytes.take 48) = le32 bytes 48 ∧ s.g.coord = true ∧ bytes = s.meter.frame ∧
       s.mtrm.drive = true ∧ s.mtrm.bufEn = true ∧ s.mtrm.buserr = false ∧ (s.mtrm.wr + 1) % 2 ^ s.mtrm.log = s.mtrm.rd) ∧
    (let s : State := State.reset
     let s : State := let s := tin 9000000 (up s); { s with mtrm := { s.mtrm with link := true, goodAt := 0 } }
     s.live = true ∧ s.mtrm.link = true ∧ s.mtrm.goodAt + 6100000 ≤ s.time.beat) ∧
    (let s : State := State.reset
     let s : State := let s := tin 5000000 (up s); { s with mtrm := { s.mtrm with goodAt := 0 } }
     s.live = true ∧ (s.mtrm.link = false ∨ s.time.beat < s.mtrm.goodAt + 5100010)) ∧
    (let s : State := State.reset
     let c : Nat := 0
     let u : Bool := 0=0
     let m : Meter := (meterRequest { s.meter with req := none, urgAt := none, cal := none, supply := true } (0) (0=0) true).getD s.meter
     let s : State := let s := co (up s); { s with meter := { s.meter with req := none, urgAt := none, cal := none, supply := true }, mtrm := { s.mtrm with drive := true } }
     s.live = true ∧ s.g.coord = true ∧ s.mtrm.drive = true ∧ s.meter.supply = true ∧ meterRequest s.meter (c % 8) u true
       = some m) ∧
    (let s : State := State.reset
     let c : Nat := 0
     let u : Bool := 0=0
     let s : State := let s := co (up s); { s with meter := { s.meter with req := some ⟨2,false,false,9⟩, wseq := 77, supply := true }, mtrm := { s.mtrm with drive := true } }
     s.live = true ∧ s.g.coord = true ∧ s.mtrm.drive = true ∧ s.meter.supply = true ∧ meterRequest s.meter (c % 8) u true
       = none) ∧
    (let s : State := State.reset
     let s : State := let s := co (up s); { s with meter := { s.meter with supply := false }, mtrm := { s.mtrm with drive := true } }
     s.live = true ∧ s.g.coord = true ∧ s.mtrm.drive = true ∧ s.meter.supply = false) ∧
    (let s : State := State.reset
     let s : State := let s := co (up s); { s with mtrm := { s.mtrm with drive := false } }
     s.live = true ∧ s.g.coord = true ∧ s.mtrm.drive = false) ∧
    (let s : State := State.reset
     let s : State := let s := (up s); { s with g := { s.g with coord := false, boot := .done } }
     s.live = true ∧ s.g.coord = false) ∧
    (let s : State := State.reset
     let v : Word32 := BitVec.ofNat 32 (0 / 8 * 16)
     let s : State := mt (fun m => m) (co (up s))
     s.live = true ∧ s.g.coord = true ∧ s.meter.supply = true ∧ v.getLsbD 31 = false ∧ (v.getLsbD 3 = false ∨ bitOf
       (frameFlags s.mtrm.last) 0 = true)) ∧
    (let s : State := State.reset
     let v : Word32 := BitVec.ofNat 32 (8 + 0 / 8 * 16)
     let s : State := let s := co (up s); { s with mtrmRaw := s.mtrmRaw &&& ~~~ 0x20, mtrm := { s.mtrm with last := [] } }
     s.live = true ∧ s.g.coord = true ∧ v.getLsbD 31 = false ∧ v.getLsbD 3 = true ∧ bitOf (frameFlags s.mtrm.last) 0 =
       false ∧ s.mtrmRaw.getLsbD 5 = false) := by
  refine ⟨?_, ?_, ?_, ?_, ?_, ?_, ?_, ?_, ?_, ?_, ?_, ?_, ?_, ?_, ?_⟩ <;> decide +kernel
theorem witness_PmbusTarget :
    (let s : State := State.reset
     let s : State := co (up s)
     s.live = true ∧ s.g.coord = true) ∧
    (let s : State := State.reset
     let s : State := { (up s) with g := { s.g with coord := false, boot := .done } }
     s.live = true ∧ s.g.coord = false) ∧
    (let s : State := State.reset
     let s : State := { (up s) with g := { s.g with coord := true, boot := .done, lc := 2 } }
     s.live = true ∧ s.g.coord = true ∧ s.g.lc ≠ 4) ∧
    (let s : State := State.reset
     let s : State := { (up s) with g := { s.g with coord := true, boot := .done, lc := 2 } }
     s.live = true ∧ s.g.coord = true) ∧
    (let s : State := State.reset
     let s : State := { (up s) with g := { s.g with coord := true, boot := .done, lc := 4 } }
     s.live = true ∧ s.g.coord = true ∧ s.g.lc = 4) ∧
    (let s : State := State.reset
     let s : State := let s := co (up s); { s with g := { s.g with pilot := true }, pmb := { s.pmb with alert := true } }
     s.live = true ∧ s.g.coord = true ∧ s.g.pilot = true ∧ s.pmb.alert = true) ∧
    (let s : State := State.reset
     let s : State := let s := co (up s); { s with pmb := { s.pmb with alert := 0 = 0 }, g := { s.g with pilot := 0 = 1 } }
     s.live = true ∧ (s.g.coord = false ∨ s.g.pilot = false ∨ s.pmb.alert = false)) := by
  refine ⟨?_, ?_, ?_, ?_, ?_, ?_, ?_⟩ <;> decide +kernel

end Sys2Proof.Tests
end

section
/-! SUPPORT. The access paths (R10, R11, R58, R393): what an access changes of a path and leaves of the rest of State. -/

namespace Sys2Proof.Machine

-- A change of one path.

@[simp] theorem pathOf_modPath_same (s : State) (p : Path) (f : PathSt → PathSt) :
    pathOf (modPath s p f) p = f (pathOf s p) := by cases p <;> rfl

theorem pathOf_modPath_ne (s : State) {p q : Path} (f : PathSt → PathSt) (h : q ≠ p) :
    pathOf (modPath s p f) q = pathOf s q :=
  match p, q with
  | .mgmt, .jtag | .jtag, .mgmt => rfl
  | .mgmt, .mgmt | .jtag, .jtag => absurd rfl h

/-- A path's state lies in the answers that go out. -/
theorem pathOf_congr {s t : State} (h : t.io = s.io) (p : Path) : pathOf t p = pathOf s p := by
  cases p <;> simp [pathOf, h]

theorem modPath_modPath (s : State) (p : Path) (f g : PathSt → PathSt) :
    modPath (modPath s p f) p g = modPath s p (g ∘ f) := by cases p <;> rfl

theorem modPath_eq (s : State) (p : Path) (f : PathSt → PathSt) :
    modPath s p f = { s with io := (modPath s p f).io } := by cases p <;> rfl

theorem modPath_pathOnly (s : State) (p : Path) (f : PathSt → PathSt) : PathOnly p s (modPath s p f) :=
  ⟨modPath_eq s p f, fun _ h => pathOf_modPath_ne s f h⟩

theorem answer_eq (s : State) (p : Path) (x : Word32) :
    answer s p x = modPath s p fun q => { q with err := false, data := x } := rfl

theorem answer_pathOnly (s : State) (p : Path) (x : Word32) : PathOnly p s (answer s p x) := modPath_pathOnly ..

theorem answerErr_pathOnly (s : State) (p : Path) : PathOnly p s (answerErr s p) := modPath_pathOnly ..

@[simp] theorem pathOf_answer (s : State) (p : Path) (x : Word32) :
    pathOf (answer s p x) p = { pathOf s p with err := false, data := x } := pathOf_modPath_same ..

@[simp] theorem pathOf_answerErr (s : State) (p : Path) :
    pathOf (answerErr s p) p = { pathOf s p with err := true } := pathOf_modPath_same ..

theorem answer_modPath_pathOnly (s : State) (p : Path) (f : PathSt → PathSt) (x : Word32) :
    PathOnly p s (answer (modPath s p f) p x) := by
  rw [answer_eq, modPath_modPath]
  exact modPath_pathOnly ..

-- The lists of shadows and of held values.

@[simp] theorem held_cons_same (l : List (Nat × Word32)) (o : Nat) (v : Word32) : held ((o, v) :: l) o = some v := by
  simp [held]

@[simp] theorem held_without_same (l : List (Nat × Word32)) (o : Nat) : held (without l o) o = none := by
  simp [held, without]

-- Which offsets are pairs.

theorem slotAt_none {o base stride n : Nat} (h : o < base ∨ base + stride * n ≤ o) : slotAt o base stride n = none :=
  if_neg (by omega)

/-- Below and between the indexed families a _LO is one of the lone ones. -/
theorem isLo_eq_lone {o : Nat} (h : o < 0x12800 ∨ 0x12880 ≤ o ∧ o < 0x50600) : isLo o = loneLo.contains o := by
  simp [isLo, slotAt_none (o := o) (base := 0x12800) (stride := 8) (n := 16) (by omega),
    slotAt_none (o := o) (base := 0x50600) (stride := 8) (n := 64) (by omega),
    slotAt_none (o := o) (base := 0x51000) (stride := 8) (n := 9) (by omega),
    slotAt_none (o := o) (base := 0x52000) (stride := 128) (n := 64) (by omega),
    slotAt_none (o := o) (base := 0x81000) (stride := 0x200) (n := 10) (by omega)]

/-- No register of a domain or its counters is a _LO. -/
theorem isLo_dom {o : Nat} (h : 0x10000 ≤ o) (k : o < 0x12800) : isLo o = false := by
  rw [isLo_eq_lone (.inl k)]
  simp [loneLo]
  omega

/-- No word of the track memory window and the microtable image is a _LO. -/
theorem isLo_image {o : Nat} (h : 0x40000 ≤ o) (k : o < 0x4E000) : isLo o = false := by
  rw [isLo_eq_lone (.inr ⟨by omega, by omega⟩)]
  simp [loneLo]
  omega

theorem isLo_zero : isLo 0 = false := by decide

@[simp] theorem isHi_add_four (o : Nat) : isHi (o + 4) = isLo o := by simp [isHi]

theorem isHi_of_not_lo {o : Nat} (h : isLo (o - 4) = false) : isHi o = false := by simp [isHi, h]

-- What each access does.

theorem readLoAt_pathOnly (p : Path) (o : Nat) (s : State) : PathOnly p s (readLoAt p o s) := answer_modPath_pathOnly ..

@[simp] theorem pathOf_readLoAt (p : Path) (o : Nat) (s : State) :
    pathOf (readLoAt p o s) p = { pathOf s p with
      err := false, data := word s o, shadow := (o, word s (o + 4)) :: without (pathOf s p).shadow o } := by
  simp [readLoAt]

/-- With a shadow, the read of _HI answers it and consumes it. -/
theorem readHiAt_shadow {p : Path} {o : Nat} {x : Word32} {s : State} (h : held (pathOf s p).shadow o = some x) :
    readHiAt p (o + 4) s = answer (modPath s p fun q => { q with shadow := without q.shadow o }) p x := by
  simp [readHiAt, h]

/-- Without a shadow, it answers the live half. -/
theorem readHiAt_live {p : Path} {o : Nat} {s : State} (h : held (pathOf s p).shadow o = none) :
    readHiAt p (o + 4) s = answer s p (word s (o + 4)) := by
  simp [readHiAt, h]

theorem readVsns_pathOnly (p : Path) (d : Nat) (s : State) : PathOnly p s (readVsns p d s) := answer_modPath_pathOnly ..

@[simp] theorem pathOf_readVsns (p : Path) (d : Nat) (s : State) :
    pathOf (readVsns p d s) p = { pathOf s p with
      err := false
      data := word s (0x10000 + 64 * d + 8)
      vsns := some (d, word s (0x10000 + 64 * d + 0xC), word s (0x10000 + 64 * d + 0x10), word s (0x10000 + 64 * d + 0x14)) } := by
  simp [readVsns]

/-- A read of a word that is no half of a pair and no DOM_VSNS changes nothing but the answer. -/
theorem readAt_single {p : Path} {o : Nat} (s : State) (hlo : isLo o = false) (hhi : isHi o = false)
    (hv : ∀ d, slotAt o 0x10000 64 128 ≠ some (d, 8)) :
    readAt p o s = answer s p ((vsnsHit (pathOf s p) o).getD (word s o)) := by
  rw [readAt, if_neg (by simp [hlo]), if_neg (by simp [hhi])]
  split
  next e he => exact absurd he (hv e)
  next => rfl

/-- DOM_I, DOM_P and DOM_E of a domain: word `k` after DOM_VSNS. -/
def vsnsOff (d : Fin 128) (k : Fin 3) : Nat := 0x1000C + 64 * d.val + 4 * k.val

theorem vsnsOff_not_lo (d : Fin 128) (k : Fin 3) : isLo (vsnsOff d k) = false :=
  isLo_dom (by unfold vsnsOff; omega) (by unfold vsnsOff; omega)

theorem vsnsOff_not_hi (d : Fin 128) (k : Fin 3) : isHi (vsnsOff d k) = false :=
  isHi_of_not_lo (isLo_dom (by unfold vsnsOff; omega) (by unfold vsnsOff; omega))

theorem vsnsOff_not_vsns (d : Fin 128) (k : Fin 3) (e : Nat) : slotAt (vsnsOff d k) 0x10000 64 128 ≠ some (e, 8) := by
  intro h
  rw [slotAt, if_pos (by unfold vsnsOff; omega)] at h
  simp only [Option.some.injEq, Prod.mk.injEq, vsnsOff] at h
  omega

theorem readAt_vsnsOff (p : Path) (d : Fin 128) (k : Fin 3) (s : State) :
    readAt p (vsnsOff d k) s = answer s p ((vsnsHit (pathOf s p) (vsnsOff d k)).getD (word s (vsnsOff d k))) :=
  readAt_single s (vsnsOff_not_lo d k) (vsnsOff_not_hi d k) (vsnsOff_not_vsns d k)

/-- The copies that a read of DOM_VSNS made answer for its domain. -/
theorem vsnsHit_same {q : PathSt} {d : Fin 128} {a b c : Word32} (h : q.vsns = some (d.val, a, b, c)) (k : Fin 3) :
    vsnsHit q (vsnsOff d k) = some (([a, b, c] : List Word32).getD k.val 0) := by
  simp only [vsnsHit, h]
  match k with
  | 0 => rw [if_pos (by unfold vsnsOff; omega)]; rfl
  | 1 => rw [if_neg (by unfold vsnsOff; omega), if_pos (by unfold vsnsOff; omega)]; rfl
  | 2 => rw [if_neg (by unfold vsnsOff; omega), if_neg (by unfold vsnsOff; omega), if_pos (by unfold vsnsOff; omega)]; rfl

/-- For another domain they do not. -/
theorem vsnsHit_other {q : PathSt} {d : Fin 128} (h : (q.vsns.all fun x => decide (x.1 ≠ d.val)) = true) (k : Fin 3) :
    vsnsHit q (vsnsOff d k) = none := by
  have hk := k.isLt
  unfold vsnsHit vsnsOff
  split
  next e i pw en hq =>
    have he : e ≠ d.val := by simpa [hq] using h
    rw [if_neg (by omega), if_neg (by omega), if_neg (by omega)]
  next => rfl

/-- Below the domains' registers nothing is a copy. -/
theorem vsnsHit_below (q : PathSt) {o : Nat} (h : o < 0x10000) : vsnsHit q o = none := by
  unfold vsnsHit
  split
  next => rw [if_neg (by omega), if_neg (by omega), if_neg (by omega)]
  next => rfl

theorem writeLoAt_pathOnly (p : Path) (o : Nat) (v : Word32) (s : State) : PathOnly p s (writeLoAt p o v s) :=
  modPath_pathOnly ..

@[simp] theorem pathOf_writeLoAt (p : Path) (o : Nat) (v : Word32) (s : State) :
    pathOf (writeLoAt p o v s) p = { pathOf s p with err := false, held := (o, v) :: without (pathOf s p).held o } :=
  pathOf_modPath_same ..

/-- A pair's registers take no part in the answers that go out. -/
theorem writeWide_io (s : State) (i : Io) (o x : Nat) :
    writeWide { s with io := i } o x = { writeWide s o x with io := i } := by
  unfold writeWide
  split
  case h_4 => simp only [apply_ite (fun t : State => { t with io := i })]; rfl
  all_goals rfl

/-- The low half that a write of _HI applies: the held one, or the present one (R11). -/
def loHalf (p : Path) (o : Nat) (s : State) : Word32 := (held (pathOf s p).held o).getD (word s o)

theorem loHalf_held {p : Path} {o : Nat} {s : State} {lo : Word32} (h : held (pathOf s p).held o = some lo) :
    loHalf p o s = lo := by simp [loHalf, h]

theorem loHalf_present {p : Path} {o : Nat} {s : State} (h : held (pathOf s p).held o = none) :
    loHalf p o s = word s o := by simp [loHalf, h]

/-- A write of _HI puts the pair in effect and consumes the held half. -/
theorem writeHiAt_eq {p : Path} {o : Nat} {v : Word32} {s : State} (h : s.dbg.active = false) :
    writeHiAt p (o + 4) v s = { writeWide s o ((loHalf p o s).toNat + 2 ^ 32 * v.toNat) with
      io := (modPath s p fun q => { q with err := false, held := without q.held o }).io } := by
  have hd (f) : (modPath s p f).dbg.active = false := by cases p <;> exact h
  simp only [writeHiAt, busWide, hd, Nat.add_sub_cancel]
  rw [modPath_eq]
  exact writeWide_io ..

/-- The pair of TEL_BASE keeps its upper 54 bits (R295). -/
theorem writeWide_telBase (s : State) (lo v : Word32) :
    writeWide s 0x70008 (lo.toNat + 2 ^ 32 * v.toNat)
      = { s with tel := { s.tel with base := (lo.toNat + 2 ^ 32 * v.toNat) / 1024 * 1024 } } := by
  have h : (lo.toNat + 2 ^ 32 * v.toNat) % 2 ^ 64 = lo.toNat + 2 ^ 32 * v.toNat := Nat.mod_eq_of_lt (by omega)
  simp only [writeWide, h]

end Sys2Proof.Machine
end

section
/-! PROOF. The accesses of the window over a path that is let through, and the statement they make up. -/

namespace Sys2Proof.Machine

variable {p : Path} {o : Nat} {s : State}

-- The rows on a pair, where the path may access it.

theorem execReadLo_pair (hlo : isLo o = true) (hp : s.powered = true) (hm : pathMay s p o false = true) :
    execReadLo p o s = .next (readLoAt p o s) := by simp [execReadLo, powered_on _ hp, hlo, hm]

theorem execReadLo_single (hlo : isLo o = false) (hp : s.powered = true) (hm : pathMay s p o false = true) :
    execReadLo p o s = .next (readAt p o s) := by simp [execReadLo, powered_on _ hp, hlo, hm]

theorem execReadHi_pair (hlo : isLo o = true) (hp : s.powered = true) (hm : pathMay s p (o + 4) false = true) :
    execReadHi p (o + 4) s = .next (readHiAt p (o + 4) s) := by simp [execReadHi, powered_on _ hp, hlo, hm]

theorem execWriteLo_pair {v : Word32} (hlo : isLo o = true) (hp : s.powered = true) (hm : pathMay s p o true = true) :
    execWriteLo p o v s = .next (writeLoAt p o v s) := by simp [execWriteLo, powered_on _ hp, hlo, hm]

theorem execWriteHi_pair {v : Word32} (hlo : isLo o = true) (hp : s.powered = true)
    (hm : pathMay s p (o + 4) true = true) : execWriteHi p (o + 4) v s = .next (writeHiAt p (o + 4) v s) := by
  simp [execWriteHi, powered_on _ hp, hlo, hm]

theorem execDomVsnsRead_may {d : Fin 128} (hp : s.powered = true) (hm : pathMay s p (0x10008 + 64 * d.val) false = true) :
    execDomVsnsRead p d s = .next (readVsns p d.val s) := by simp [execDomVsnsRead, powered_on _ hp, hm]

/-- An access that is narrower, misaligned or outside the window answers an error (R10). -/
theorem execMisalignedAccess_error {size : Nat} {wr : Bool} (hp : s.powered = true)
    (h : size ≠ 4 ∨ o % 4 ≠ 0 ∨ 0x100000 ≤ o) : execMisalignedAccess p o size wr s = .next (answerErr s p) := by
  have hn : ¬ (size = 4 ∧ aligned o = true) := by simp only [aligned, decide_eq_true_eq]; omega
  simp [execMisalignedAccess, powered_on _ hp, hn]

/-- The write of _HI, whatever low half it takes: the pair in effect, the held half consumed, the other path as it was. -/
theorem execWriteHi_applies {v : Word32} (hlo : isLo o = true) (hw : s.writable) (hm : pathMay s p (o + 4) true = true) :
    ∃ t, execWriteHi p (o + 4) v s = .next t
      ∧ t = { writeWide s o ((loHalf p o s).toNat + 2 ^ 32 * v.toNat) with io := t.io }
      ∧ held (pathOf t p).held o = none ∧ ∀ q, q ≠ p → pathOf t q = pathOf s q := by
  obtain ⟨hp, hf⟩ := hw
  refine ⟨_, (execWriteHi_pair hlo hp hm).trans (congrArg _ (writeHiAt_eq hf)), rfl, ?_, fun q hq =>
    (pathOf_congr rfl q).trans (pathOf_modPath_ne s _ hq)⟩
  have h := (pathOf_congr rfl p).trans (pathOf_modPath_same s p fun q => { q with err := false, held := without q.held o })
  exact (congrArg (fun q => held q.held o) h).trans (held_without_same ..)

/-- A read of DOM_I, DOM_P or DOM_E answers the path's copy or the live word, and keeps the copies (R58). -/
theorem execReadLo_vsns {d : Fin 128} {k : Fin 3} (hp : s.powered = true) (hm : pathMay s p (vsnsOff d k) false = true) :
    ∃ t, execReadLo p (vsnsOff d k) s = .next t ∧ PathOnly p s t ∧ (pathOf t p).err = false
      ∧ (pathOf t p).data = (vsnsHit (pathOf s p) (vsnsOff d k)).getD (word s (vsnsOff d k))
      ∧ (pathOf t p).vsns = (pathOf s p).vsns := by
  refine ⟨_, (execReadLo_single (vsnsOff_not_lo d k) hp hm).trans (congrArg _ (readAt_vsnsOff p d k s)), ?_, ?_, ?_, ?_⟩
  · exact answer_pathOnly ..
  all_goals simp

end Sys2Proof.Machine

open Sys2Proof Sys2Proof.Machine

/-- Settles O6: each access is a change of its path alone, but for the write of _HI, which also puts the pair in effect. -/
theorem registerAccessPaths : Obligations.RegisterAccessPaths := by
  unfold Obligations.RegisterAccessPaths
  refine ⟨?misaligned, ?readLo, ?readHiShadow, ?readHiLive, ?writeLo, ?writeHiHeld, ?writeHiPresent, ?telBase, ?vsns,
    ?vsnsCopied, ?vsnsLive⟩
  case misaligned =>
    intro p off size wr s ⟨hp, h⟩
    exact ⟨_, execMisalignedAccess_error (wr := wr) hp h, answerErr_pathOnly .., by simp, by simp⟩
  case readLo =>
    intro p o hlo s ⟨hp, hm⟩
    exact ⟨_, execReadLo_pair hlo hp hm, readLoAt_pathOnly .., by simp, by simp, by simp⟩
  case readHiShadow =>
    intro p o x hlo s ⟨hp, hx, hm⟩
    refine ⟨_, (execReadHi_pair hlo hp hm).trans (congrArg _ (readHiAt_shadow hx)), answer_modPath_pathOnly .., ?_⟩
    simp
  case readHiLive =>
    intro p o hlo s ⟨hp, hx, hm⟩
    refine ⟨_, (execReadHi_pair hlo hp hm).trans (congrArg _ (readHiAt_live hx)), answer_pathOnly .., ?_⟩
    simp
  case writeLo =>
    intro p o v hlo s ⟨hp, hm⟩
    exact ⟨_, execWriteLo_pair hlo hp hm, writeLoAt_pathOnly .., by simp, by simp⟩
  case writeHiHeld =>
    intro p o v lo hlo s ⟨hw, hl, hm⟩
    have h := execWriteHi_applies (v := v) hlo hw hm
    rwa [loHalf_held hl] at h
  case writeHiPresent =>
    intro p o v hlo s ⟨hw, hl, hm⟩
    obtain ⟨t, he, ht, -, hq⟩ := execWriteHi_applies (v := v) hlo hw hm
    exact ⟨t, he, by rwa [loHalf_present hl] at ht, hq⟩
  case telBase =>
    intro p v lo s ⟨hw, hl, hm⟩
    obtain ⟨t, he, ht, -, -⟩ := execWriteHi_applies (v := v) (o := 0x70008) (by decide) hw hm
    rw [loHalf_held hl, writeWide_telBase] at ht
    exact ⟨t, he, congrArg (·.tel.base) ht, by rw [ht]⟩
  case vsns =>
    intro p d s ⟨hp, hm⟩
    refine ⟨_, execDomVsnsRead_may hp hm, readVsns_pathOnly .., ?_⟩
    simp [Nat.add_right_comm]
  case vsnsCopied =>
    intro p d k a b c s ⟨hp, hv, hm⟩
    obtain ⟨t, he, ho, herr, hdata, hkeep⟩ := execReadLo_vsns hp hm
    exact ⟨t, he, ho, herr, by rw [hdata, vsnsHit_same hv]; rfl, hkeep⟩
  case vsnsLive =>
    intro p d k s ⟨hp, hv, hm⟩
    obtain ⟨t, he, ho, herr, hdata, hkeep⟩ := execReadLo_vsns hp hm
    exact ⟨t, he, ho, herr, by rw [hdata, vsnsHit_other hv]; rfl, hkeep⟩
end

section
/-! PROOF. A write of a word in a byte memory, scans of MSR_ACC, and the statement they make up. -/

namespace Sys2Proof.Machine

-- A word of a byte memory.

theorem leBytes_length (n x : Nat) : (leBytes n x).length = n := upTo_length ..

/-- Four bytes, little-endian, give the word back. -/
theorem le32_leBytes (v : Word32) : le32 (leBytes 4 v.toNat) 0 = v.toNat := by
  have hv := v.isLt
  have hb : leBytes 4 v.toNat = [BitVec.ofNat 8 v.toNat, BitVec.ofNat 8 (v.toNat / 256),
      BitVec.ofNat 8 (v.toNat / 65536), BitVec.ofNat 8 (v.toNat / 16777216)] := by
    simp [leBytes, upTo, List.range_succ]
  simp only [hb, le32, le16, List.getD_cons_zero, List.getD_cons_succ, BitVec.toNat_ofNat]
  omega

namespace Memory

/-- The bytes written read back together. -/
theorem readBytes_writeBytes {m : List Host.Cell} (a : Nat) (l : List Byte) (hm : wf m) :
    readBytes (writeBytes m a l) a l.length = l := by
  refine List.ext_getElem (by simp [readBytes, upTo]) fun i _ hi => ?_
  simpa [readBytes, upTo] using read_writeBytes_inside a l i hm hi

/-- A word written reads back. -/
theorem word_setWord_same {m : List Host.Cell} (a : Nat) (v : Word32) (hm : wf m) : word (setWord m a v) a = v := by
  have h := readBytes_writeBytes a (leBytes 4 v.toNat) hm
  rw [leBytes_length] at h
  rw [word, setWord, h, le32_leBytes, BitVec.ofNat_toNat, BitVec.setWidth_eq]

/-- The bytes beside it keep their value. -/
theorem read_setWord_outside {m : List Host.Cell} (a : Nat) (v : Word32) (c : Nat) (hm : wf m) (h : c < a ∨ a + 4 ≤ c) :
    read (setWord m a v) c = read m c :=
  read_writeBytes_outside a _ c hm (by rwa [leBytes_length])

end Memory

-- A register write.

/-- Outside freeze a write of a word that is no half of a pair acts by its access code (R14). -/
theorem writeAt_single {p : Path} {o : Nat} {v : Word32} {s : State} (hlo : isLo o = false) (hhi : isHi o = false)
    (hf : s.dbg.active = false) :
    writeAt p o v s = modPath (writeWord s o v.toNat) p fun q => { q with err := false } := by
  simp [writeAt, busWord, hlo, hhi, hf]

theorem writeWord_image (s : State) {k : Nat} (v : Word32) (h : k < 0x1000) :
    writeWord s (0x48000 + 4 * k) v.toNat = { s with mem := { s.mem with mtimg := Memory.setWord s.mem.mtimg (4 * k) v } } := by
  unfold writeWord
  repeat rw [if_neg (by omega)]
  rw [if_pos (by omega), Nat.add_sub_cancel_left, BitVec.ofNat_toNat, BitVec.setWidth_eq]

/-- A write that the path may make to a word of the window. -/
theorem execRegisterWrite_may {p : Path} {o : Nat} {v : Word32} {s : State} (hp : s.powered = true)
    (ha : aligned o = true) (hm : pathMay s p o true = true) : execRegisterWrite p o v s = .next (writeAt p o v s) := by
  simp [execRegisterWrite, powered_on _ hp, ha, hm]

/-- A write that the path may not make. -/
theorem execRegisterWrite_refused {p : Path} {o : Nat} {v : Word32} {s : State} (hp : s.powered = true)
    (hm : pathMay s p o true = false) : execRegisterWrite p o v s = .next (answerErr s p) := by
  simp [execRegisterWrite, powered_on _ hp, hm]

-- What a life-cycle state lets JTAG do (R393).

/-- END takes no write, and FIELD that of DBG_CTL alone. -/
theorem jtagMay_write_refused {lc o : Nat} (h : lc = 4 ∨ lc = 2 ∧ o ≠ 0xF0000) : jtagMay lc o true = false := by
  rcases h with rfl | ⟨rfl, ho⟩
  · rfl
  · simp [jtagMay, ho]

/-- Every state shows ID. -/
theorem jtagMay_id (lc : Nat) : jtagMay lc 0 false = true := by
  simp [jtagMay]

/-- ID reads the same as long as the life-cycle block and the debug unit are as they were. -/
theorem word_id_congr {s t : State} (hg : t.g = s.g) (hd : t.dbg = s.dbg) : word t 0 = word s 0 := by
  have h : (shown t).g = (shown s).g := by
    unfold shown
    rw [hd]
    cases s.dbg.kept with
    | none => exact hg
    | some k => rfl
  exact congrArg (fun g : Gctl => BitVec.ofNat 32 g.idReg) h

-- A scan of MSR_ACC.

/-- The capture made, and the result of this scan's operation not yet marked with an error (R393). -/
def msrBegun (s : State) : State :=
  modPath (scanCapture s) .jtag fun q => { q with done := true, err := false, data := 0 }

@[simp] theorem scanCapture_g (s : State) : (scanCapture s).g = s.g := rfl

@[simp] theorem pathMay_jtag (s : State) (o : Nat) (wr : Bool) : pathMay s .jtag o wr = jtagMay s.g.lc o wr := rfl

@[simp] theorem scanCapture_io (s : State) :
    (scanCapture s).io = { s.io with captured := captureWord s.io.jtag } := rfl

theorem modPath_jtag_io (s : State) (f : PathSt → PathSt) :
    (modPath s .jtag f).io = { s.io with jtag := f s.io.jtag } := rfl

theorem scanned_scanCapture (s : State) : Scanned s (scanCapture s) := by
  refine ⟨?_, ?_, ?_, ?_, rfl⟩
  · rw [scanCapture_io, captureWord]
  all_goals rw [scanCapture_io]

/-- After the capture, an operation that changes the JTAG path alone leaves a scan of MSR_ACC. -/
theorem scanned_modPath (s : State) (f : PathSt → PathSt) : Scanned s (modPath (scanCapture s) .jtag f) := by
  refine ⟨?_, ?_, ?_, ?_, rfl⟩
  · rw [modPath_jtag_io, scanCapture_io, captureWord]
  all_goals rw [modPath_jtag_io, scanCapture_io]

theorem msrBegun_g (s : State) : (msrBegun s).g = s.g := rfl

theorem msrBegun_dbg (s : State) : (msrBegun s).dbg = s.dbg := rfl

theorem execMsrAcc_none {inst adr : Nat} {v : Word32} {s : State} (hp : s.powered = true) :
    execMsrAcc 0 inst adr v s = .next (scanCapture s) := by simp [execMsrAcc, powered_on _ hp]

theorem execMsrAcc_other {op inst adr : Nat} {v : Word32} {s : State} (hp : s.powered = true) (hop : op ≠ 0)
    (hi : inst ≠ s.g.die) :
    execMsrAcc op inst adr v s
      = .next (modPath (scanCapture s) .jtag fun q => { q with done := false, err := false, data := 0 }) := by
  simp [execMsrAcc, powered_on _ hp, hop, hi]

theorem execMsrAcc_read {inst adr : Nat} {v : Word32} {s : State} (hp : s.powered = true) (hi : inst = s.g.die)
    (hm : jtagMay s.g.lc (4 * (adr % 2 ^ 18)) false = true) :
    execMsrAcc 1 inst adr v s
      = .next (readAt .jtag (4 * (adr % 2 ^ 18)) (msrBegun s)) := by
  simp [execMsrAcc, powered_on _ hp, hi, hm, msrBegun, -Nat.reducePow]

theorem execMsrAcc_refused {op inst adr : Nat} {v : Word32} {s : State} (hp : s.powered = true) (hop : op ≠ 0)
    (hi : inst = s.g.die) (hm : jtagMay s.g.lc (4 * (adr % 2 ^ 18)) (decide (op = 2)) = false) :
    execMsrAcc op inst adr v s = .next (answerErr (msrBegun s) .jtag) := by
  simp [execMsrAcc, powered_on _ hp, hop, hi, hm, msrBegun, -Nat.reducePow]

end Sys2Proof.Machine

open Sys2Proof Sys2Proof.Machine

/-- Settles O7: the write is one of a word in the byte memory; each scan captures, then changes the JTAG path alone. -/
theorem registerWritesAndJtagAccesses : Obligations.RegisterWritesAndJtagAccesses := by
  unfold Obligations.RegisterWritesAndJtagAccesses
  refine ⟨?image, ?refused, ?readId, ?writeRefused, ?noOperation, ?otherInstance⟩
  case image =>
    intro p k v hk s ⟨⟨hp, hf⟩, hwf, hm⟩
    have ha : aligned (0x48000 + 4 * k) = true := by simp only [aligned, decide_eq_true_eq]; omega
    have hw := writeAt_single (p := p) (v := v) (isLo_image (o := 0x48000 + 4 * k) (by omega) (by omega))
      (isHi_of_not_lo (isLo_image (by omega) (by omega))) hf
    rw [writeWord_image s v hk] at hw
    refine ⟨_, (execRegisterWrite_may hp ha hm).trans (congrArg _ hw), by cases p <;> rfl, by simp, ?_, fun a h => ?_⟩
    · rw [(modPath_kept ..).1]
      exact Memory.word_setWord_same (4 * k) v hwf
    · rw [(modPath_kept ..).1]
      exact Memory.read_setWord_outside (4 * k) v a hwf h
  case refused =>
    intro o v s ⟨hp, h⟩
    exact ⟨_, execRegisterWrite_refused hp (jtagMay_write_refused h), answerErr_pathOnly .., rfl⟩
  case readId =>
    intro v s ⟨hp, hi, _⟩
    have hr := readAt_single (p := .jtag) (msrBegun s) isLo_zero (isHi_of_not_lo isLo_zero)
      fun d => by simp [slotAt]
    rw [vsnsHit_below _ (by decide), Option.getD_none, word_id_congr (msrBegun_g s) (msrBegun_dbg s)] at hr
    refine ⟨_, (execMsrAcc_read hp hi.symm (jtagMay_id _)).trans (congrArg _ hr), ?_, rfl, rfl, rfl⟩
    rw [answer_eq, msrBegun, modPath_modPath]
    exact scanned_modPath ..
  case writeRefused =>
    intro adr v s ⟨hp, hi, h⟩
    have hm := jtagMay_write_refused (o := 4 * (adr % 2 ^ 18)) (h.imp_right fun ⟨hlc, ha⟩ => ⟨hlc, by omega⟩)
    refine ⟨_, execMsrAcc_refused hp (by decide) hi.symm hm, ?_, rfl, rfl⟩
    rw [answerErr, msrBegun, modPath_modPath]
    exact scanned_modPath ..
  case noOperation =>
    intro inst adr v s hp
    exact ⟨_, execMsrAcc_none hp, scanned_scanCapture s, by rw [scanCapture_io]⟩
  case otherInstance =>
    intro op inst adr v s ⟨hp, hop, hi⟩
    exact ⟨_, execMsrAcc_other hp hop hi, scanned_modPath .., rfl, rfl⟩
end


section
/-! PROOF. Every command is tame, hence every step: the silo's records and the fuses endure. -/

namespace Sys2Proof.Machine

/-- Every command answers a next state that keeps the queue and the fuses, adds at most to the silo's records and keeps the
byte memories canonical. The commands named write a byte memory, the silo or the whole state; the others keep the stores. -/
theorem exec_goes (c : Instr) (s : State) : Goes s (exec c s) := by
  cases c with
  | registerWrite p off v => exact execRegisterWrite_goes ..
  | writeLo p off v => exact execWriteLo_goes ..
  | writeHi p off v => exact execWriteHi_goes ..
  | msrAcc op inst adr v => exact execMsrAcc_goes ..
  | softStartEnd => exact execSoftStartEnd_goes ..
  | trackMemoryWrite off v => exact execTrackMemoryWrite_goes ..
  | saveWriteDone ok => exact execSaveWriteDone_goes ..
  | telemetryRecord ok => exact execTelemetryRecord_goes ..
  | trkpkt port h pay => exact execTrkpkt_goes ..
  | trkres port h pay => exact execTrkres_goes ..
  | siloProgram ok => exact execSiloProgram_goes ..
  | meterFrame bytes ok => exact execMeterFrame_goes ..
  | refclkEdge => exact execRefclkEdge_goes ..
  | _ => exact Answers.goes (by simp)

/-- A step keeps the stores as `Tame` says, beside taking its command from the queue. -/
theorem step_tame {s t : State} (h : step s = .next t) : ∃ l, Tame { s with pending := l } t := by
  cases hp : s.pending with
  | nil =>
    rw [step_nil hp] at h
    cases h
    exact ⟨s.pending, Tame.refl s⟩
  | cons c l =>
    obtain ⟨u, hu, ht⟩ := exec_goes c { s with pending := l }
    rw [step_cons hp, hu] at h
    cases h
    exact ⟨l, ht⟩

end Sys2Proof.Machine

open Sys2Proof Sys2Proof.Machine

/-- Settles O5: every command at most adds to the silo's records and keeps the fuse map (`exec_goes`), and so does a step. -/
theorem siloRecordsAndFusesEndure : Obligations.SiloRecordsAndFusesEndure := by
  unfold Obligations.SiloRecordsAndFusesEndure
  intro s t h
  obtain ⟨l, ht⟩ := step_tame h
  obtain ⟨new, hnew⟩ := ht.recs
  exact ⟨⟨new, hnew.symm⟩, ht.fuse⟩
end

section
/-! SUPPORT. Tables changed at some indices; the phases of a domain. -/

namespace Sys2Proof

variable {n : Nat} {α : Type}

@[simp] theorem Tab.modN_val (t : Tab n α) (i : Fin n) (f : α → α) : t.modN i.val f = t.mod i f := Tab.modN_lt t i.isLt f

theorem Tab.get_modN_ne (t : Tab n α) {i : Fin n} {k : Nat} (f : α → α) (h : i.val ≠ k) : (t.modN k f).get i = t.get i := by
  by_cases hk : k < n
  · rw [Tab.modN_lt t hk]
    exact Tab.get_mod_ne t f fun e => h (congrArg Fin.val e)
  · rw [Tab.modN_ge t (Nat.le_of_not_lt hk)]

/-- An entry whose index is not named stays. -/
theorem Tab.get_modEach_of_not_mem (t : Tab n α) {is : List Nat} {i : Fin n} (f : Nat → α → α) (h : i.val ∉ is) :
    (t.modEach is f).get i = t.get i := by
  induction is generalizing t with
  | nil => rfl
  | cons k is ih =>
    obtain ⟨hk, his⟩ := not_or.mp (h ∘ List.mem_cons.mpr)
    exact (ih (t.modN k (f k)) his).trans (Tab.get_modN_ne t _ hk)

/-- An entry whose index is named once is changed once. -/
theorem Tab.get_modEach_of_mem (t : Tab n α) {is : List Nat} {i : Fin n} (f : Nat → α → α) (hd : is.Nodup) (h : i.val ∈ is) :
    (t.modEach is f).get i = f i.val (t.get i) := by
  induction is generalizing t with
  | nil => exact absurd h List.not_mem_nil
  | cons k is ih =>
    obtain ⟨hk, hd⟩ := List.nodup_cons.mp hd
    rcases List.mem_cons.mp h with rfl | hi
    · refine (Tab.get_modEach_of_not_mem (t.modN i.val (f i.val)) f hk).trans ?_
      rw [Tab.modN_val, Tab.get_mod_same]
    · have hne : i.val ≠ k := fun e => hk (e ▸ hi)
      exact (ih (t.modN k (f k)) hd hi).trans (congrArg (f i.val) (Tab.get_modN_ne t _ hne))

end Sys2Proof

namespace Sys2Proof.Machine

theorem mem_phasesOf {p d : Nat} : p ∈ phasesOf d ↔ d < 93 ∧ firstPh d ≤ p ∧ p < firstPh d + nph d := by
  simp only [phasesOf, upTo, List.mem_map, List.mem_range]
  constructor
  · rintro ⟨k, hk, rfl⟩
    split at hk
    · exact ⟨‹_›, by omega, by omega⟩
    · omega
  · rintro ⟨hd, h1, h2⟩
    exact ⟨p - firstPh d, by rw [if_pos hd]; omega, by omega⟩

theorem phasesOf_nodup (d : Nat) : (phasesOf d).Nodup :=
  List.pairwise_map.mpr (List.nodup_range.imp fun h e => h (Nat.add_left_cancel e))

/-- The phases of a domain are those that R48 gives it. -/
theorem mem_phasesOf_iff {p d : Nat} (hp : p < 720) : p ∈ phasesOf d ↔ phDom p = d := by
  by_cases h1 : d < 64
  · simp only [mem_phasesOf, firstPh, nph, phDom, typ, if_pos h1]
    (repeat' split) <;> omega
  by_cases h2 : d < 72
  · simp only [mem_phasesOf, firstPh, nph, ord, phDom, typ, if_neg h1, if_pos h2]
    (repeat' split) <;> omega
  by_cases h3 : d < 88
  · simp only [mem_phasesOf, firstPh, nph, ord, phDom, typ, if_neg h1, if_neg h2, if_pos h3]
    (repeat' split) <;> omega
  by_cases h4 : d < 92
  · simp only [mem_phasesOf, firstPh, nph, ord, phDom, typ, if_neg h1, if_neg h2, if_neg h3, if_pos h4]
    (repeat' split) <;> omega
  by_cases h5 : d = 92
  · simp only [mem_phasesOf, firstPh, nph, phDom, typ, if_neg h1, if_neg h2, if_neg h3, if_neg h4, if_pos h5]
    (repeat' split) <;> omega
  · have h6 : ¬ d < 93 := by omega
    simp only [mem_phasesOf, phDom, h6, false_and, false_iff]
    (repeat' split) <;> omega

end Sys2Proof.Machine
end

section
/-! SUPPORT. What an operation on one domain and its sheaf leaves: every other sheaf and every other domain. -/

namespace Sys2Proof.Machine

/-- No other sheaf and no other domain than `d` changes. -/
structure LocalTo (d : Nat) (s t : State) : Prop where
  sheaves : OtherSheaves d s t
  domains : OtherDomains d s t

theorem LocalTo.refl (d : Nat) (s : State) : LocalTo d s s :=
  ⟨⟨fun _ _ => ⟨rfl, rfl, rfl⟩, fun _ _ => ⟨rfl, rfl⟩⟩, fun _ _ => ⟨rfl, rfl, rfl, rfl, rfl, rfl⟩⟩

theorem LocalTo.trans {d : Nat} {a b c : State} (h : LocalTo d a b) (k : LocalTo d b c) : LocalTo d a c where
  sheaves := by
    refine ⟨fun i hi => ?_, fun p hp => ?_⟩
    · obtain ⟨h1, h2, h3⟩ := h.sheaves.1 i hi
      obtain ⟨k1, k2, k3⟩ := k.sheaves.1 i hi
      exact ⟨k1.trans h1, k2.trans h2, k3.trans h3⟩
    · obtain ⟨h1, h2⟩ := h.sheaves.2 p hp
      obtain ⟨k1, k2⟩ := k.sheaves.2 p hp
      exact ⟨k1.trans h1, k2.trans h2⟩
  domains := fun i hi => by
    obtain ⟨h1, h2, h3, h4, h5, h6⟩ := h.domains i hi
    obtain ⟨k1, k2, k3, k4, k5, k6⟩ := k.domains i hi
    exact ⟨k1.trans h1, k2.trans h2, k3.trans h3, k4.trans h4, k5.trans h5, k6.trans h6⟩

variable {d : Nat} {z s : State}

theorem localTo_ite {a b : State} {c : Prop} [Decidable c] (ha : LocalTo d z a) (hb : LocalTo d z b) :
    LocalTo d z (if c then a else b) := by
  split
  · exact ha
  · exact hb

-- Updates of the domain's own entries.

theorem setDomSt_localTo {x : DomSt} (h : LocalTo d z s) : LocalTo d z (setDomSt s d x) :=
  h.trans { LocalTo.refl d s with domains := fun _ hk => ⟨Tab.get_modN_ne _ _ hk, rfl, rfl, rfl, rfl, rfl⟩ }

theorem modSp_localTo {f : Sp → Sp} (h : LocalTo d z s) : LocalTo d z (modSp s d f) :=
  h.trans { LocalTo.refl d s with domains := fun _ hk => ⟨rfl, Tab.get_modN_ne _ _ hk, rfl, rfl, rfl, rfl⟩ }

theorem modGw_localTo {f : Gw → Gw} (h : LocalTo d z s) : LocalTo d z (modGw s d f) :=
  h.trans { LocalTo.refl d s with domains := fun _ hk => ⟨rfl, rfl, Tab.get_modN_ne _ _ hk, rfl, rfl, rfl⟩ }

theorem clk_localTo {f : HostClk → HostClk} (h : LocalTo d z s) : LocalTo d z { s with clk := s.clk.modN d f } :=
  h.trans { LocalTo.refl d s with domains := fun _ hk => ⟨rfl, rfl, rfl, Tab.get_modN_ne _ _ hk, rfl, rfl⟩ }

theorem modNd_localTo {f : NDom → NDom} (h : LocalTo d z s) : LocalTo d z (modNd s d f) :=
  h.trans { LocalTo.refl d s with domains := fun _ hk => ⟨rfl, rfl, rfl, rfl, Tab.get_modN_ne _ _ hk, rfl⟩ }

theorem modPd_localTo {f : PDom → PDom} (h : LocalTo d z s) : LocalTo d z (modPd s d f) :=
  h.trans { LocalTo.refl d s with domains := fun _ hk => ⟨rfl, rfl, rfl, rfl, rfl, Tab.get_modN_ne _ _ hk⟩ }

theorem modShf_localTo {f : Shf → Shf} (h : LocalTo d z s) : LocalTo d z (modShf s d f) :=
  h.trans { LocalTo.refl d s with sheaves := ⟨fun _ hk => ⟨Tab.get_modN_ne _ _ hk, rfl, rfl⟩, fun _ _ => ⟨rfl, rfl⟩⟩ }

theorem modShw_localTo {f : ShfW → ShfW} (h : LocalTo d z s) : LocalTo d z (modShw s d f) :=
  h.trans { LocalTo.refl d s with sheaves := ⟨fun _ hk => ⟨rfl, Tab.get_modN_ne _ _ hk, rfl⟩, fun _ _ => ⟨rfl, rfl⟩⟩ }

theorem modShr_localTo {f : Shr → Shr} (h : LocalTo d z s) : LocalTo d z (modShr s d f) :=
  h.trans { LocalTo.refl d s with sheaves := ⟨fun _ hk => ⟨rfl, rfl, Tab.get_modN_ne _ _ hk⟩, fun _ _ => ⟨rfl, rfl⟩⟩ }

/-- A change of the domain's own phases. -/
theorem phases_localTo {f : Nat → Ph → Ph} {g : Nat → PhW → PhW} (h : LocalTo d z s) :
    LocalTo d z { s with ph := s.ph.modEach (phasesOf d) f, phw := s.phw.modEach (phasesOf d) g } :=
  have hne {p : Fin 720} (hp : phDom p.val ≠ d) : p.val ∉ phasesOf d := fun e => hp ((mem_phasesOf_iff p.isLt).mp e)
  h.trans { LocalTo.refl d s with
    sheaves := ⟨fun _ _ => ⟨rfl, rfl, rfl⟩, fun _ hp =>
      ⟨Tab.get_modEach_of_not_mem _ _ (hne hp), Tab.get_modEach_of_not_mem _ _ (hne hp)⟩⟩ }

-- Updates of groups that no other domain or sheaf has a part in.

theorem modEstd_localTo {k : Nat} {f : EstD → EstD} (h : LocalTo d z s) : LocalTo d z (modEstd s k f) :=
  h.trans { LocalTo.refl d s with }

theorem modLa_localTo {l : Nat} {f : LaLoop → LaLoop} (h : LocalTo d z s) : LocalTo d z (modLa s l f) :=
  h.trans { LocalTo.refl d s with }

theorem raise_localTo {b : Fin 10} {src subj : Nat} (h : LocalTo d z s) : LocalTo d z (raise s b src subj) :=
  h.trans { LocalTo.refl d s with }

-- The sheaf.

theorem reseedB_localTo (h : LocalTo d z s) : LocalTo d z (reseedB s d) := modShf_localTo h

theorem settleToken_localTo (h : LocalTo d z s) : LocalTo d z (settleToken s d) := localTo_ite h (modShw_localTo h)

theorem assignRoles_localTo (h : LocalTo d z s) : LocalTo d z (assignRoles s d) := phases_localTo h

theorem phasesOff_localTo (h : LocalTo d z s) : LocalTo d z (phasesOff s d) := modShw_localTo (phases_localTo h)

theorem startSheaf_localTo (h : LocalTo d z s) : LocalTo d z (startSheaf s d) :=
  localTo_ite
    (settleToken_localTo (reseedB_localTo (modShr_localTo (modShf_localTo (modShw_localTo (assignRoles_localTo h)))))) h

theorem restartSheaf_localTo (h : LocalTo d z s) : LocalTo d z (restartSheaf s d) := reseedB_localTo (modShf_localTo h)

theorem stopSheaf_localTo (h : LocalTo d z s) : LocalTo d z (stopSheaf s d) :=
  localTo_ite (modShf_localTo (modShw_localTo (phasesOff_localTo h))) h

theorem restoreShed_localTo (h : LocalTo d z s) : LocalTo d z (restoreShed s d) := by
  have hr {f g w r} : LocalTo d z (modShr (modShw
      { s with ph := s.ph.modEach (phasesOf d) f, phw := s.phw.modEach (phasesOf d) g } d w) d r) :=
    modShr_localTo (modShw_localTo (phases_localTo h))
  exact localTo_ite (localTo_ite (reseedB_localTo (modShf_localTo hr)) hr) h

theorem restoreFar_localTo (h : LocalTo d z s) : LocalTo d z (restoreFar s d) := localTo_ite (restoreShed_localTo h) h

-- The set point.

theorem zeroVcmd_localTo (h : LocalTo d z s) : LocalTo d z (zeroVcmd s d) := modSp_localTo h

theorem retargetTo_localTo {t : Int} {cmd : Bool} (h : LocalTo d z s) : LocalTo d z (retargetTo s d t cmd) :=
  restoreFar_localTo (modGw_localTo (modSp_localTo h))

/-- A retarget leaves the state or puts a new target. -/
theorem retarget_eq (s : State) (d : Nat) (cmd : Bool) :
    retarget s d cmd = s ∨ ∃ t, retarget s d cmd = retargetTo s d t cmd := by
  unfold retarget
  split
  · exact .inl rfl
  · split
    · exact .inr ⟨_, rfl⟩
    · exact .inl rfl

theorem retarget_localTo {cmd : Bool} (h : LocalTo d z s) : LocalTo d z (retarget s d cmd) := by
  rcases retarget_eq s d cmd with e | ⟨t, e⟩ <;> rw [e]
  · exact h
  · exact retargetTo_localTo h

-- The state of the domain.

theorem dropNotice_localTo (h : LocalTo d z s) : LocalTo d z (dropNotice s d) := modNd_localTo h

theorem leaveOn_localTo (h : LocalTo d z s) : LocalTo d z (leaveOn s d) := by
  have he {f} : LocalTo d z (if d < 93 then modEstd (dropNotice s d) d f else dropNotice s d) :=
    localTo_ite (modEstd_localTo (dropNotice_localTo h)) (dropNotice_localTo h)
  have hs {e p g q} : LocalTo d z (modSp (modGw (modPd
      (if d < 93 then modEstd (dropNotice s d) d e else dropNotice s d) d p) d g) d q) :=
    modSp_localTo (modGw_localTo (modPd_localTo he))
  exact localTo_ite (modSp_localTo hs) hs

theorem goDark_localTo (h : LocalTo d z s) : LocalTo d z (goDark s d) := by
  have hg {f} : LocalTo d z (modGw (zeroVcmd (stopSheaf (leaveOn s d) d) d) d f) :=
    modGw_localTo (zeroVcmd_localTo (stopSheaf_localTo (leaveOn_localTo h)))
  exact modPd_localTo (setDomSt_localTo (localTo_ite (modShr_localTo hg) (modLa_localTo hg)))

theorem goOff_localTo (h : LocalTo d z s) : LocalTo d z (goOff s d) := by
  have hv : LocalTo d z (zeroVcmd (stopSheaf s d) d) := zeroVcmd_localTo (stopSheaf_localTo h)
  exact modGw_localTo (setDomSt_localTo (localTo_ite (modLa_localTo hv) hv))

theorem enterOn_localTo (h : LocalTo d z s) : LocalTo d z (enterOn s d) := by
  unfold enterOn
  extract_lets now due s1 s2 s3 n s4 s5 s6
  have h5 : LocalTo d z s5 := modPd_localTo (clk_localTo (modSp_localTo (modGw_localTo (setDomSt_localTo h))))
  exact retarget_localTo (localTo_ite (modShr_localTo h5) h5)

end Sys2Proof.Machine
end

section
/-! SUPPORT. What the shared operations on a domain leave in its own entries: retargeting, going dark or off, reading ON, and
the run of a wake. -/

namespace Sys2Proof.Machine

variable (s : State) (d : Fin 128)

@[simp] theorem domSt_setDomSt_same (x : DomSt) : domSt (setDomSt s d.val x) d.val = x := by
  simp [domSt, Tab.nth_eq_get]

-- The set point.

theorem restoreFar_sp (k : Nat) : (restoreFar s k).sp = s.sp :=
  (restoreFar_frame (M := Grp.mask [.shf, .shw, .shr, .ph, .phw]) rfl (Frame.refl s)).sp rfl

theorem restoreFar_gw (k : Nat) : (restoreFar s k).gw = s.gw :=
  (restoreFar_frame (M := Grp.mask [.shf, .shw, .shr, .ph, .phw]) rfl (Frame.refl s)).gw rfl

/-- A retarget counts: of the domain's gating it changes nothing else. -/
theorem retarget_gw (cmd : Bool) :
    (retarget s d.val cmd).gw.get d = { s.gw.get d with
      sup := ((retarget s d.val cmd).gw.get d).sup, rev := ((retarget s d.val cmd).gw.get d).rev } := by
  rcases retarget_eq s d.val cmd with e | ⟨t, e⟩ <;> rw [e]
  simp [retargetTo, restoreFar_gw]

@[simp] theorem retarget_clock (cmd : Bool) : ((retarget s d.val cmd).gw.get d).clock = (s.gw.get d).clock := by
  rw [retarget_gw]
@[simp] theorem retarget_ready (cmd : Bool) : ((retarget s d.val cmd).gw.get d).ready = (s.gw.get d).ready := by
  rw [retarget_gw]
@[simp] theorem retarget_readyAt (cmd : Bool) : ((retarget s d.val cmd).gw.get d).readyAt = (s.gw.get d).readyAt := by
  rw [retarget_gw]
@[simp] theorem retarget_wake (cmd : Bool) : ((retarget s d.val cmd).gw.get d).wake = (s.gw.get d).wake := by
  rw [retarget_gw]
@[simp] theorem retarget_waitAdm (cmd : Bool) : ((retarget s d.val cmd).gw.get d).waitAdm = (s.gw.get d).waitAdm := by
  rw [retarget_gw]
@[simp] theorem retarget_forced (cmd : Bool) : ((retarget s d.val cmd).gw.get d).forced = (s.gw.get d).forced := by
  rw [retarget_gw]
@[simp] theorem retarget_nstg (cmd : Bool) : ((retarget s d.val cmd).gw.get d).nstg = (s.gw.get d).nstg := by
  rw [retarget_gw]

@[simp] theorem retarget_vop (cmd : Bool) : ((retarget s d.val cmd).sp.get d).vop = (s.sp.get d).vop := by
  rcases retarget_eq s d.val cmd with e | ⟨t, e⟩ <;> rw [e]
  simp [retargetTo, restoreFar_sp]

@[simp] theorem retarget_vcmd (cmd : Bool) : ((retarget s d.val cmd).sp.get d).vcmd = (s.sp.get d).vcmd := by
  rcases retarget_eq s d.val cmd with e | ⟨t, e⟩ <;> rw [e]
  simp [retargetTo, restoreFar_sp]

@[simp] theorem retarget_dom (k : Nat) (cmd : Bool) : (retarget s k cmd).dom = s.dom :=
  (retarget_frame (M := Grp.mask [.shf, .shw, .shr, .ph, .phw, .sp, .gw]) rfl (Frame.refl s)).dom rfl

@[simp] theorem retarget_clk (k : Nat) (cmd : Bool) : (retarget s k cmd).clk = s.clk :=
  (retarget_frame (M := Grp.mask [.shf, .shw, .shr, .ph, .phw, .sp, .gw]) rfl (Frame.refl s)).clk rfl

-- A sheaf that stops, and a domain that goes off or dark (R105, R128).

theorem stopSheaf_run {k : Nat} (hk : k < 93) : ((stopSheaf s k).shf.nth k).run = false := by
  simp [stopSheaf, hk, Tab.nth_modN_same _ hk]

/-- No phase of a stopped sheaf conducts or counts as active. -/
theorem stopSheaf_phase {k : Nat} {p : Fin 720} (hp : phDom p.val = k) :
    ((stopSheaf s k).phw.get p).cond = false ∧ ((stopSheaf s k).ph.get p).st ≠ .active
      ∧ ((stopSheaf s k).ph.get p).st ≠ .shed := by
  have hm : p.val ∈ phasesOf k := (mem_phasesOf_iff p.isLt).mpr hp
  have hk : k < 93 := (mem_phasesOf.mp hm).1
  simp only [stopSheaf, hk, if_true, modShf_ph, modShf_phw, modShw_ph, modShw_phw, phasesOff,
    Tab.get_modEach_of_mem _ _ (phasesOf_nodup k) hm]
  refine ⟨trivial, ?_⟩
  split
  case isTrue h => rcases h with h | h <;> simp [h]
  case isFalse => simp

theorem stopSheaf_gw (k : Nat) : (stopSheaf s k).gw = s.gw :=
  (stopSheaf_frame (M := Grp.mask [.shf, .shw, .ph, .phw]) rfl (Frame.refl s)).gw rfl

theorem leaveOn_gw (k : Nat) : (leaveOn s k).gw = s.gw.modN k fun g => { g with ready := false, clock := false } := by
  unfold leaveOn
  extract_lets s1 s2 s3 s4 was s5
  have h2 : s2.gw = s.gw := by
    unfold s2
    split <;> rfl
  split <;> simp [s5, s4, s3, h2]

/-- Going dark, the sheaf is as its stop leaves it. -/
theorem goDark_sheaf (k : Nat) : (goDark s k).shf = (stopSheaf (leaveOn s k) k).shf
    ∧ (goDark s k).ph = (stopSheaf (leaveOn s k) k).ph ∧ (goDark s k).phw = (stopSheaf (leaveOn s k) k).phw := by
  unfold goDark
  split <;> simp [modLa, zeroVcmd]

theorem goDark_gw : (goDark s d.val).gw.get d = { s.gw.get d with
    ready := false, clock := false, stage := 0, wake := none, gateTo := .no, waitAdm := false } := by
  unfold goDark
  split <;> simp [modLa, zeroVcmd, stopSheaf_gw, leaveOn_gw]

theorem goDark_vcmd : ((goDark s d.val).sp.get d).vcmd = 0 ∧ ((goDark s d.val).sp.get d).vtgt = 0 := by
  unfold goDark
  split <;> simp [modLa, zeroVcmd]

/-- A domain that goes dark reads DARK at 0 V, its sheaf stopped and its clock off, and leaves its neighbours alone. -/
theorem goDark_wentDark : WentDark d s (goDark s d.val) := by
  obtain ⟨hshf, hph, hphw⟩ := goDark_sheaf s d.val
  have hgw := goDark_gw s d
  obtain ⟨hvcmd, hvtgt⟩ := goDark_vcmd s d
  obtain ⟨hsheaves, hdomains⟩ := goDark_localTo (LocalTo.refl d.val s)
  refine ⟨?st, by rw [hgw], by rw [hgw], by rw [hgw], hvcmd, hvtgt, ?run, ?phase, hsheaves, hdomains⟩
  case st => simp [goDark, domSt, Tab.nth_eq_get]
  case run => exact fun hd => hshf ▸ stopSheaf_run _ hd
  case phase =>
    intro p hp
    rw [hph, hphw]
    exact stopSheaf_phase _ hp

end Sys2Proof.Machine
end

section
/-! SUPPORT. A domain that reads ON, and the run of a wake that is no edge-stage rail's (R105, R109 to R112). -/

namespace Sys2Proof.Machine

variable (s : State) (d : Fin 128)

/-- The beat at which ready is due of a domain that reads ON now (R109). -/
def readyDue (s : State) (k : Nat) : Nat :=
  match (s.gw.nth k).wake with
  | some w => if exactOn s then max w.dline (s.time.beat + 2) else s.time.beat + 2
  | none => s.time.beat + 2

/-- Outside Exact mode the wake's deadline does not put ready off. -/
theorem readyDue_of_not_exact {s : State} (k : Nat) (h : exactOn s = false) : readyDue s k = s.time.beat + 2 := by
  unfold readyDue
  split <;> simp [h]

/-- A domain that reads ON: its state, its gating entry, its voltages and its clock, and then its target. -/
theorem enterOn_eq : ∃ u : State, enterOn s d.val = retarget u d.val false ∧ (u.dom.get d).st = .on
    ∧ u.gw.get d = { s.gw.get d with
      clock := decide (typ d.val ≠ .la), readyAt := readyDue s d.val, woken := true, nstg := 0 }
    ∧ (u.sp.get d).vop = (s.sp.get d).vop ∧ (u.sp.get d).vcmd = (s.sp.get d).vcmd
    ∧ u.clk.get d = ⟨(s.sp.get d).opeff, s.time.beat, (s.sp.get d).opeff⟩ := by
  unfold enterOn
  extract_lets now due s1 s2 s3 n s4 s5 s6
  have h6 : s6.dom = s5.dom ∧ s6.gw = s5.gw ∧ s6.sp = s5.sp ∧ s6.clk = s5.clk := by
    unfold s6
    split <;> exact ⟨rfl, rfl, rfl, rfl⟩
  obtain ⟨hdom, hgw, hsp, hclk⟩ := h6
  refine ⟨s6, rfl, ?_, ?_, ?_, ?_, ?_⟩
  · simp [hdom, s5, s4, s3, s2, s1, setDomSt]
  · simp only [hgw, s5, s4, s3, s2, s1, modPd_gw, modSp_gw, modGw_gw, setDomSt_gw, Tab.modN_val, Tab.get_mod_same]
    rfl
  · simp [hsp, s5, s4, s3, s2, s1]
  · simp [hsp, s5, s4, s3, s2, s1]
  · simp [hclk, s5, s4, s3, s2, s1, n, now, Tab.nth_eq_get]

@[simp] theorem enterOn_domSt : domSt (enterOn s d.val) d.val = .on := by
  obtain ⟨u, e, hst, -⟩ := enterOn_eq s d
  rw [e, domSt, Tab.nth_eq_get, retarget_dom, hst]

/-- Of its gating, a domain that reads ON has its clock and the time of its ready; ready itself has not risen. -/
theorem enterOn_gw : ((enterOn s d.val).gw.get d).clock = decide (typ d.val ≠ .la)
    ∧ ((enterOn s d.val).gw.get d).readyAt = readyDue s d.val
    ∧ ((enterOn s d.val).gw.get d).ready = (s.gw.get d).ready := by
  obtain ⟨u, e, -, hgw, -⟩ := enterOn_eq s d
  simp [e, hgw]

/-- A domain that reads ON keeps its voltages. -/
theorem enterOn_sp : ((enterOn s d.val).sp.get d).vop = (s.sp.get d).vop
    ∧ ((enterOn s d.val).sp.get d).vcmd = (s.sp.get d).vcmd := by
  obtain ⟨u, e, -, -, hvop, hvcmd, -⟩ := enterOn_eq s d
  simp [e, hvop, hvcmd]

/-- The clock of OPEFF is asked for and applied at once (R109). -/
theorem enterOn_clk : (enterOn s d.val).clk.get d = ⟨(s.sp.get d).opeff, s.time.beat, (s.sp.get d).opeff⟩ := by
  obtain ⟨u, e, -, -, -, -, hclk⟩ := enterOn_eq s d
  rw [e, retarget_clk, hclk]

theorem enterOn_only (k : Nat) :
    Only [.dom, .shf, .shw, .shr, .ph, .phw, .sp, .gw, .clk, .pd] s (enterOn s k) :=
  enterOn_frame rfl (Frame.refl s)

-- The run of a wake.

/-- The sheaf of a domain whose wake runs: it starts, or goes on where a gating that the wake stopped left it (R106, R110). -/
def wakeSheaf (s : State) (k : Nat) (keep : Bool) : State :=
  if (s.shf.nth k).run then (if keep then s else restartSheaf s k) else startSheaf s k

/-- The gating entry of a domain whose wake runs: it is admitted, and its headers close in 8 or 16 stages (R105, R112). -/
def wakeGw (slow : Bool) (g : Gw) : Gw :=
  let n := if slow then 16 else 8
  { g with
    waitAdm := false
    wake := g.wake.map fun w => { w with admitted := true }
    stage := if g.nstg = 0 then 0 else g.stage * n / g.nstg
    nstg := n }

/-- The wake of a domain with a sheaf runs: the sheaf, the rates, the gating entry, then the target. -/
theorem wakeRun_eq {s : State} {k : Nat} {w : Wake} (hk : typ k ≠ .la) (hw : (s.gw.nth k).wake = some w) :
    ∃ f, wakeRun s k = retarget (modGw (modSp (wakeSheaf s k w.keep) k f) k (wakeGw w.slow)) k (!w.keep) := by
  simp only [wakeRun, hk, hw, Option.map_some, Option.getD_some, if_false]
  exact ⟨_, rfl⟩

theorem wakeSheaf_localTo {k : Nat} {keep : Bool} {z s : State} (h : LocalTo k z s) : LocalTo k z (wakeSheaf s k keep) :=
  localTo_ite (localTo_ite h (restartSheaf_localTo h)) (startSheaf_localTo h)

theorem wakeSheaf_only (k : Nat) (keep : Bool) : Only [.shf, .shw, .shr, .ph, .phw] s (wakeSheaf s k keep) :=
  frame_ite (fun _ => frame_ite (fun _ => Frame.refl s) fun _ => restartSheaf_frame rfl (Frame.refl s))
    fun _ => startSheaf_frame rfl (Frame.refl s)

theorem wakeRun_localTo {k : Nat} {w : Wake} {z s : State} (hk : typ k ≠ .la) (hw : (s.gw.nth k).wake = some w)
    (h : LocalTo k z s) : LocalTo k z (wakeRun s k) := by
  obtain ⟨f, e⟩ := wakeRun_eq hk hw
  rw [e]
  exact retarget_localTo (modGw_localTo (modSp_localTo (wakeSheaf_localTo h)))

theorem wakeRun_only {s : State} {k : Nat} {w : Wake} (hk : typ k ≠ .la) (hw : (s.gw.nth k).wake = some w) :
    Only [.shf, .shw, .shr, .ph, .phw, .sp, .gw] s (wakeRun s k) := by
  obtain ⟨f, e⟩ := wakeRun_eq hk hw
  rw [e]
  exact retarget_frame rfl (modGw_frame rfl (modSp_frame rfl ((wakeSheaf_only s k w.keep).mono rfl)))

/-- The wake is admitted, and nothing waits. -/
theorem wakeRun_gw {s : State} {d : Fin 128} {w : Wake} (hd : typ d.val ≠ .la) (hw : (s.gw.get d).wake = some w) :
    let g := (wakeRun s d.val).gw.get d
    g.forced = (s.gw.get d).forced ∧ g.waitAdm = false ∧ g.wake = some { w with admitted := true }
      ∧ g.nstg = if w.slow then 16 else 8 := by
  obtain ⟨f, e⟩ := wakeRun_eq hd ((congrArg Gw.wake (Tab.nth_eq_get s.gw d)).trans hw)
  have hgw : (wakeSheaf s d.val w.keep).gw = s.gw := (wakeSheaf_only s d.val w.keep).gw rfl
  simp [e, hgw, wakeGw, hw]

end Sys2Proof.Machine
end

section
/-! PROOF. Header stages, gating, waking and array banks: what each command does where its condition holds, and the statement
they make up. -/

namespace Sys2Proof.Machine

variable {s : State} {d : Fin 128}

-- Outside a reset, the completion of a gating or a wake is its own effect alone (R436).

theorem rstCheck_idle (h : s.rst.run = none) : rstCheck s = s := by simp [rstCheck, h]

theorem rstWake_idle (k : Nat) (h : s.rst.run = none) : rstWake s k = s := by simp [rstWake, h]

theorem effGatingComplete_rst (d : Fin 128) (s : State) : (effGatingComplete d s).rst = s.rst :=
  (effGatingComplete_frame (M := 0x520cf98) rfl (Frame.refl s)).rst rfl

theorem execGatingComplete_idle (hl : s.live = true) (hr : s.rst.run = none) :
    execGatingComplete d s = .next (effGatingComplete d s) := by
  have h : (effGatingComplete d s).rst.run = none := by rw [effGatingComplete_rst, hr]
  rw [execGatingComplete, live_on _ hl, rstWake_idle _ h, rstCheck_idle h]

theorem execWakeComplete_idle (hl : s.live = true) (hr : s.rst.run = none) :
    execWakeComplete d s = .next (effWakeComplete d s) := by
  have h : (effWakeComplete d s).rst.run = none :=
    (congrArg Rst.run ((effWakeComplete_frame (M := 0x402cf90) rfl (Frame.refl s)).rst rfl)).trans hr
  rw [execWakeComplete, live_on _ hl, rstCheck_idle h]

-- Types that a family shuts out.

theorem staged_iff {k : Nat} : staged k = true ↔ typ k = .co ∨ typ k = .cl := by simp [staged]

theorem typ_ne_la_of_staged {k : Nat} (h : staged k = true) : typ k ≠ .la := by
  rcases staged_iff.mp h with e | e <;> simp [e]

theorem typ_of_le {k : Nat} (h : 93 ≤ k) : typ k = .la ∨ typ k = .none := by
  rw [typ, if_neg (by omega), if_neg (by omega), if_neg (by omega), if_neg (by omega), if_neg (by omega)]
  split
  · exact .inl rfl
  · exact .inr rfl

theorem lt_of_staged {k : Nat} (h : staged k = true) : k < 93 := by
  refine Nat.lt_of_not_le fun hk => ?_
  rcases typ_of_le hk with e | e <;> rcases staged_iff.mp h with f | f <;> exact absurd (e.symm.trans f) (by decide)

-- Gating.

/-- A domain that goes off, an edge-stage rail apart: its sheaf stops, and it reads OFF at 0 V. -/
theorem goOff_of_not_la {k : Nat} (h : typ k ≠ .la) : goOff s k =
    modGw (setDomSt (zeroVcmd (stopSheaf s k) k) k .off) k fun g =>
      { g with gateTo := .no, wake := none, stage := 0, nstg := 0, ready := false, clock := false } := by
  simp [goOff, h]

theorem goOff_only {k : Nat} (h : typ k ≠ .la) : Only [.dom, .shf, .shw, .ph, .phw, .sp, .gw] s (goOff s k) := by
  rw [goOff_of_not_la h]
  exact modGw_frame rfl (setDomSt_frame rfl (zeroVcmd_frame rfl (stopSheaf_frame rfl (Frame.refl s))))

theorem effGatingComplete_off (hst : domSt s d.val = .gating) (hto : (s.gw.get d).gateTo = .off)
    (hs : staged d.val = true) (h0 : (s.gw.get d).stage = 0) (hw : (s.gw.get d).wake = none) :
    effGatingComplete d s = goOff s d.val := by
  simp [effGatingComplete, hst, hto, hs, h0, hw]

theorem effGatingComplete_retention (hst : domSt s d.val = .gating) (hto : (s.gw.get d).gateTo = .retention)
    (hv : (s.sp.get d).vcmd = (s.sp.get d).vtgt) (hr : (s.shf.nth d.val).run = true) :
    effGatingComplete d s = modPd (modGw (setDomSt s d.val .retention) d.val fun g => { g with gateTo := .no, wake := none })
      d.val fun x => { x with since := s.time.beat } := by
  simp [effGatingComplete, hst, hto, hv, hr]

theorem effGatingComplete_turnedBack (hst : domSt s d.val = .waking) (hto : (s.gw.get d).gateTo = .off)
    (hv : (s.sp.get d).vcmd = 0) (hw : (s.gw.get d).woken = true) : effGatingComplete d s = goDark s d.val := by
  simp [effGatingComplete, hst, hto, hv, hw]

-- Waking.

/-- A rising array region, or a staged domain with all its stages, reads ON once V_cmd is at its target (R105). -/
theorem effWakeComplete_on (hr : rising s d.val = true) (hv : (s.sp.get d).vcmd = (s.sp.get d).vtgt)
    (ht : typ d.val = .ma ∨ staged d.val = true ∧ (s.gw.get d).stage = (s.gw.get d).nstg) :
    effWakeComplete d s = enterOn s d.val := by
  rcases ht with e | ⟨hs, hg⟩
  · simp [effWakeComplete, hr, hv, e]
  · rcases staged_iff.mp hs with e | e <;> simp [effWakeComplete, hr, hv, e, hg]

theorem effReadyRise_inTime {w : Wake} (hst : domSt s d.val = .on) (hr : (s.gw.get d).ready = false)
    (hu : (s.pd.get d).uvact = false) (hat : (s.gw.get d).readyAt ≤ s.time.beat) (hw : (s.gw.get d).wake = some w)
    (hd : s.time.beat ≤ w.dline) :
    effReadyRise d s = modGw s d.val fun g => { g with ready := true, wake := none } := by
  simp [effReadyRise, hst, hr, hu, hat, hw, Nat.not_lt.mpr hd]

theorem addDebt_of_not_exact (k n : Nat) (h : exactOn s = false) : addDebt s k n = s := by simp [addDebt, h]

theorem effReadyRise_late {w : Wake} (hst : domSt s d.val = .on) (hr : (s.gw.get d).ready = false)
    (hu : (s.pd.get d).uvact = false) (hat : (s.gw.get d).readyAt ≤ s.time.beat) (hw : (s.gw.get d).wake = some w)
    (hd : w.dline < s.time.beat) (he : exactOn s = false) :
    effReadyRise d s = raise (modGw (modGw s d.val fun g => { g with ready := true, wake := none }) d.val fun g =>
      { g with late := g.late.inc 65535, lastLate := min 65535 (s.time.beat - w.dline) }) bDOM 2 (subjD d.val) := by
  have hx {f f'} : exactOn (modGw (modGw s d.val f) d.val f') = false := he
  simp [effReadyRise, hst, hr, hu, hat, hw, hd, addDebt_of_not_exact _ _ hx]

theorem effFirstWakeOn_on {vlow : Int} {w : Wake} (ht : typ d.val = .lk ∨ typ d.val = .la) (hr : rising s d.val = true)
    (hw : (s.gw.get d).wake = some w) (hv : (s.sp.get d).vcmd = (s.sp.get d).vtgt)
    (hs : vSset s d.val - (s.sp.get d).feband * 64000 ≤ vlow * 16000) : effFirstWakeOn d vlow s = enterOn s d.val := by
  have h : settled s d.val vlow = true := by simp [settled, Tab.nth_eq_get, hv, mV, v16u, hs]
  simp [effFirstWakeOn, ht, hr, hw, h]

theorem effWakeForced_force {w : Wake} (hp : (s.shr.nth d.val).darkPend = false) (ha : (s.gw.get d).waitAdm = true)
    (hw : (s.gw.get d).wake = some w) (ht : w.act + 5000 ≤ s.time.beat) : effWakeForced d s = wakeForce s d.val := by
  simp [effWakeForced, wakeWaits, Tab.nth_eq_get, hp, ha, hw, ht]

/-- A forced wake runs, slow and with 16 stages, and WAKE_FORCED is raised (R112). -/
theorem wakeForce_forced {w : Wake} (ht : typ d.val ≠ .la) (hw : (s.gw.get d).wake = some w) :
    let t := wakeForce s d.val
    (t.gw.get d).forced = true ∧ (t.gw.get d).waitAdm = false
      ∧ (t.gw.get d).wake = some { w with slow := true, admitted := true } ∧ (t.gw.get d).nstg = 16
      ∧ raisedIn bDOM 1 s t ∧ OtherSheaves d.val s t ∧ OtherDomains d.val s t
      ∧ Only [.shf, .shw, .shr, .ph, .phw, .sp, .gw, .flt, .fpin, .silo, .blkReset, .g, .pmb] s t := by
  unfold wakeForce
  extract_lets s1 t
  have hg1 : s1.gw.get d = { s.gw.get d with forced := true, wake := some { w with slow := true } } := by
    simp [s1, hw]
  have hw2 : ((raise s1 bDOM 1 (subjD d.val)).gw.get d).wake = some { w with slow := true } := by simp [hg1]
  have hn2 : ((raise s1 bDOM 1 (subjD d.val)).gw.nth d.val).wake = some { w with slow := true } := by
    rw [Tab.nth_eq_get, hw2]
  obtain ⟨hforced, hwait, hwake, hnstg⟩ := wakeRun_gw ht hw2
  have honly := wakeRun_only ht hn2
  obtain ⟨hsheaves, hdomains⟩ := wakeRun_localTo (z := s) ht hn2 (raise_localTo (modGw_localTo (LocalTo.refl d.val s)))
  refine ⟨?forced, hwait, hwake, hnstg, ?raised, hsheaves, hdomains, ?only⟩
  case forced => rw [hforced, raise_gw, hg1]
  case raised =>
    have hflt : t.flt = (raise s1 bDOM 1 (subjD d.val)).flt := honly.flt rfl
    rw [raisedIn, statOf, hflt]
    exact raise_stat ..
  case only => exact (raise_frame rfl (modGw_frame rfl (Frame.refl s))).trans (honly.mono rfl)

end Sys2Proof.Machine
end

section
/-! PROOF. Array banks, and the statement on gating, waking and array banks. -/

namespace Sys2Proof.Machine

variable {s : State} {m : Fin 16} {b : Fin 64}

/-- The mask of one bank takes that bank out and leaves the others (R115). -/
theorem getLsbD_without_bank (x : Word64) (b k : Fin 64) :
    (x &&& ~~~ ((1 : Word64) <<< b.val)).getLsbD k.val = (x.getLsbD k.val && decide (k ≠ b)) := by
  have hbit : ((1 : Word64) <<< b.val).getLsbD k.val = decide (k = b) := by
    have h : ((1 : Word64) <<< b.val).getLsbD k.val = (decide (b.val < 64) && decide (b.val = k.val)) :=
      BitVec.getLsbD_twoPow b.val k.val
    rw [h, decide_eq_true b.isLt, Bool.true_and, decide_eq_decide, Fin.ext_iff, eq_comm]
  rw [BitVec.getLsbD_and, BitVec.getLsbD_not, hbit, decide_eq_true k.isLt, Bool.true_and, ← decide_not]

theorem effBankWakeRequest_gated (hp : present s (72 + m.val) = true) (hg : (s.bank.get m).gated.getLsbD b.val = true)
    (hw : (s.bank.get m).waking = []) :
    effBankWakeRequest m b s = { s with bank := s.bank.mod m fun x => { x with
      gating := (x.gating.map fun g => (g.1, g.2 &&& ~~~ ((1 : Word64) <<< b.val))).filter fun g => g.2 ≠ 0
      waking := x.waking ++ [(b.val, s.time.beat + 200)]
      wakes := (x.wakes + 1) % 2 ^ 32 } } := by
  simp [effBankWakeRequest, hp, hg, hw]

theorem effBankWakeReady_due {due : Nat} (hw : (s.bank.get m).waking = [(b.val, due)]) (hd : due ≤ s.time.beat) :
    effBankWakeReady m b s = { s with bank := s.bank.mod m fun x => { x with
      gated := x.gated &&& ~~~ ((1 : Word64) <<< b.val)
      waking := x.waking.filter fun w => w.1 ≠ b.val } } := by
  simp [effBankWakeReady, hw, hd]

/-- A change of one region's banks. -/
theorem bank_only (s : State) (t : Tab 16 Bank) : Only [.bank] s { s with bank := t } := by
  constructor <;> first | exact fun _ => rfl | exact fun h => absurd h (by decide)

end Sys2Proof.Machine

open Sys2Proof Sys2Proof.Machine

/-- Settles O17: each command is, where its condition holds, one of the shared operations, whose effect on the domain and frame
are lemmas of their own. -/
theorem gatingWakingAndArrayBanks : Obligations.GatingWakingAndArrayBanks := by
  unfold Obligations.GatingWakingAndArrayBanks
  refine ⟨fun d => ⟨?stageOpens, ?stageCloses, ?off, ?retention, ?turnedBack, ?wake, ?readyInTime, ?readyLate, ?firstWake, ?forced⟩,
    fun m => ⟨?bankGated, ?bankRequest, ?bankReady⟩⟩
  case stageOpens =>
    intro s ⟨hl, hst, hs, h0⟩
    refine ⟨_, live_on _ hl, ?_⟩
    simp [effHeaderStageOpen, hst, hs, h0, modGw, Tab.mod]
  case stageCloses =>
    intro near ns s ⟨hl, hs, hr, hv, hlt, hn⟩
    refine ⟨_, live_on _ hl, ?_⟩
    simp [effHeaderStageClose, hs, hr, hv, hlt, hn, modGw, Tab.mod]
  case off =>
    intro s ⟨hl, hst, hto, hs, h0, hw, hr⟩
    have hla := typ_ne_la_of_staged hs
    obtain ⟨hsheaves, hdomains⟩ := goOff_localTo (LocalTo.refl d.val s)
    refine ⟨_, (execGatingComplete_idle hl hr).trans (congrArg _ (effGatingComplete_off hst hto hs h0 hw)),
      ?st, ?vcmd, ?run, ?goal, hsheaves, hdomains, goOff_only hla⟩
    all_goals rw [goOff_of_not_la hla]
    case st => simp [domSt, Tab.nth_eq_get]
    case vcmd => simp [zeroVcmd]
    case run => exact stopSheaf_run s (lt_of_staged hs)
    case goal => simp
  case retention =>
    intro s ⟨hl, hst, hto, hv, hrun, hr⟩
    refine ⟨_, (execGatingComplete_idle hl hr).trans (congrArg _ (effGatingComplete_retention hst hto hv hrun)), ?_, rfl, ?_,
      (modPd_localTo (modGw_localTo (setDomSt_localTo (LocalTo.refl d.val s)))).domains,
      modPd_frame rfl (modGw_frame rfl (setDomSt_frame rfl (Frame.refl s)))⟩
    · simp [domSt, Tab.nth_eq_get]
    · simp
  case turnedBack =>
    intro s ⟨hl, hst, hto, hv, hw, hr⟩
    exact ⟨_, (execGatingComplete_idle hl hr).trans (congrArg _ (effGatingComplete_turnedBack hst hto hv hw)),
      goDark_wentDark s d⟩
  case wake =>
    intro s ⟨hl, hr, hv, hrst, he, ht⟩
    obtain ⟨hclock, hat, hready⟩ := enterOn_gw s d
    obtain ⟨hvop, hvcmd⟩ := enterOn_sp s d
    obtain ⟨hsheaves, hdomains⟩ := enterOn_localTo (LocalTo.refl d.val s)
    have hla : typ d.val ≠ .la := by
      rcases ht with e | ⟨hs, -⟩
      · simp [e]
      · exact typ_ne_la_of_staged hs
    exact ⟨_, (execWakeComplete_idle hl hrst).trans (congrArg _ (effWakeComplete_on hr hv ht)), enterOn_domSt s d,
      hclock.trans (decide_eq_true hla), hat.trans (readyDue_of_not_exact _ he), hready, by rw [enterOn_clk],
      by rw [enterOn_clk], hvop, hvcmd, hsheaves, hdomains, enterOn_only s d.val⟩
  case readyInTime =>
    intro w s ⟨hl, hst, hr, hu, hat, hw, hd⟩
    refine ⟨_, (live_on _ hl).trans (congrArg _ (effReadyRise_inTime hst hr hu hat hw hd)), ?_⟩
    simp [modGw, Tab.mod]
  case readyLate =>
    intro w s ⟨hl, hst, hr, hu, hat, hw, hd, he⟩
    refine ⟨_, (live_on _ hl).trans (congrArg _ (effReadyRise_late hst hr hu hat hw hd he)), ?_, raise_stat ..,
      raise_frame rfl (modGw_frame rfl (modGw_frame rfl (Frame.refl s)))⟩
    simp only [raise_gw, modGw_gw, Tab.modN_val, Tab.mod_mod]
    rfl
  case firstWake =>
    intro vlow w s ⟨hl, ht, hr, hw, hv, hs⟩
    obtain ⟨hclock, -, -⟩ := enterOn_gw s d
    obtain ⟨hvop, -⟩ := enterOn_sp s d
    obtain ⟨hsheaves, hdomains⟩ := enterOn_localTo (LocalTo.refl d.val s)
    refine ⟨_, (live_on _ hl).trans (congrArg _ (effFirstWakeOn_on ht hr hw hv hs)), enterOn_domSt s d, hclock.trans ?_, hvop,
      hsheaves, hdomains, enterOn_only s d.val⟩
    rcases ht with e | e <;> simp [e]
  case forced =>
    intro w s ⟨hl, ht, hp, ha, hw, hat⟩
    have hla : typ d.val ≠ .la := by
      rcases ht with e | hs
      · simp [e]
      · exact typ_ne_la_of_staged hs
    exact ⟨_, (live_on _ hl).trans (congrArg _ (effWakeForced_force hp ha hw hat)), wakeForce_forced hla hw⟩
  case bankGated => exact fun s hl => ⟨_, (exec_bankGateComplete m s).trans (live_on _ hl), rfl⟩
  case bankRequest =>
    intro b s ⟨hl, hp, hg, hw⟩
    refine ⟨_, (live_on _ hl).trans (congrArg _ (effBankWakeRequest_gated hp hg hw)), ?_, ?_, ?_, ?_,
      fun k hk => Tab.get_mod_ne _ _ hk, bank_only ..⟩
    · simp [hw]
    all_goals simp
  case bankReady =>
    intro b due s ⟨hl, hw, hd⟩
    refine ⟨_, (live_on _ hl).trans (congrArg _ (effBankWakeReady_due hw hd)), fun k => ?_, ?_,
      fun k hk => Tab.get_mod_ne _ _ hk, bank_only ..⟩
    · rw [Tab.get_mod_same]
      exact getLsbD_without_bank _ b k
    · simp [hw]
end

section
/-! SUPPORT. What an instruction finds that its context issues: the word counted and passed, the context's own registers as
they were (R188, R206). -/

namespace Sys2Proof

variable {n : Nat} {α : Type}

theorem Tab.mod_id (t : Tab n α) (i : Fin n) : (t.mod i fun x => x) = t := by
  apply Tab.ext_data
  simp [Tab.mod, Tab.set, Tab.get_eq]

end Sys2Proof

namespace Sys2Proof.Machine

variable {s : State} {c : Ctx} {l : Fin 8} {w : Nat}

/-- The state in which a word takes effect once its context has issued it (R188, R206). -/
def stepCtx (c : Ctx) (w : Nat) (s : State) : State :=
  match c with
  | .lane l => stepLane s l (isActuation (opc w))
  | .cmd => stepCmd s

-- The lane after its step.

@[simp] theorem stepLane_st (s : State) (l : Fin 8) (a : Bool) :
    ((stepLane s l a).lane.get l).st = (s.lane.get l).st := by simp [stepLane]
@[simp] theorem stepLane_pc (s : State) (l : Fin 8) (a : Bool) :
    ((stepLane s l a).lane.get l).pc = (s.lane.get l).pc + 1 := by simp [stepLane]
@[simp] theorem stepLane_lag (s : State) (l : Fin 8) (a : Bool) :
    ((stepLane s l a).lane.get l).lag = (s.lane.get l).lag := by simp [stepLane]
@[simp] theorem stepLane_rf (s : State) (l : Fin 8) (a : Bool) :
    ((stepLane s l a).lane.get l).rf = (s.lane.get l).rf := by simp [stepLane]
@[simp] theorem stepLane_lastAct (s : State) (l : Fin 8) (a : Bool) :
    ((stepLane s l a).lane.get l).lastAct = (s.lane.get l).lastAct := by simp [stepLane]
@[simp] theorem stepLane_time (s : State) (l : Fin 8) (a : Bool) : (stepLane s l a).time = s.time := rfl

/-- The beat operand is read as it was before the step (R225, R226). -/
@[simp] theorem beatOperand_stepLane (s : State) (l : Fin 8) (a : Bool) (w : Nat) :
    beatOperand (stepLane s l a) (.lane l) w = beatOperand s (.lane l) w := by
  simp [beatOperand, statedBeat, rfOf]

/-- A lane that may issue runs (R188). -/
theorem laneReady_st {x : Lane} (h : laneReady s x = true) : x.st = .run := by
  simp only [laneReady, Bool.and_eq_true, decide_eq_true_eq] at h
  obtain ⟨⟨⟨hst, -⟩, -⟩, -⟩ := h
  exact hst

theorem Issues.st (h : Issues (.lane l) w s) : (s.lane.get l).st = .run := by
  obtain ⟨-, -, -, hr, -⟩ := h
  exact laneReady_st hr

-- Only the lane itself changes.

theorem modLane_onlyLane (s : State) (l : Fin 8) (f : Lane → Lane) : OnlyLane l s (modLane s l f) :=
  ⟨fun _ hk => Tab.get_mod_ne _ _ hk, modLane_frame rfl (Frame.refl s)⟩

theorem stepLane_onlyLane (s : State) (l : Fin 8) (a : Bool) : OnlyLane l s (stepLane s l a) := modLane_onlyLane ..

theorem OnlyLane.trans {a b c : State} (h : OnlyLane l a b) (k : OnlyLane l b c) : OnlyLane l a c :=
  ⟨fun i hi => (k.1 i hi).trans (h.1 i hi), h.2.trans k.2⟩

-- The context after its step.

@[simp] theorem rfOf_stepCtx (s : State) (c : Ctx) (w : Nat) : rfOf (stepCtx c w s) c = rfOf s c := by
  cases c with
  | lane l => exact stepLane_rf ..
  | cmd => rfl

@[simp] theorem stepCtx_time (s : State) (c : Ctx) (w : Nat) : (stepCtx c w s).time = s.time := by cases c <;> rfl

@[simp] theorem stepCtx_sends (s : State) (c : Ctx) (w : Nat) : (stepCtx c w s).sends = s.sends := by cases c <;> rfl

@[simp] theorem beatOperand_stepCtx (s : State) (c : Ctx) (w x : Nat) :
    beatOperand (stepCtx c w s) c x = beatOperand s c x := by
  cases c with
  | lane l => exact beatOperand_stepLane ..
  | cmd => rfl

theorem stepCtx_issued (h : Issues c w s) : Issued c s (stepCtx c w s) := by
  cases c with
  | lane l => exact ⟨stepLane_pc .., (stepLane_st ..).trans h.st, stepLane_lag .., (stepLane_onlyLane s l _).1, rfl⟩
  | cmd => exact ⟨rfl, rfl⟩

theorem stepCtx_only (s : State) (c : Ctx) (w : Nat) : Only [.lane, .cmdw] s (stepCtx c w s) := by
  cases c with
  | lane l => exact stepLane_frame rfl (Frame.refl s)
  | cmd => exact stepCmd_frame rfl (Frame.refl s)

-- The issue.

/-- A lane that issues a word takes its effect after its step (R188, R189, R220, R227). -/
theorem issueLane_issues {want : Nat → Bool} {f : Nat → State → State} (h : Issues (.lane l) w s) (hw : want w = true) :
    issueLane s l want f = f w (stepLane s l (isActuation (opc w))) := by
  obtain ⟨-, htakes, hcheck, hready, hcode, rfl, hroom⟩ := h
  by_cases h0 : opc (tWord s (s.lane.get l).pc) = 0
  · simp [issueLane, hready, hcode, hw, h0, isActuation]
  · have hfit : ¬ (isActuation (opc (tWord s (s.lane.get l).pc)) = true ∧ 8 ≤ actsNow s (s.lane.get l)) := by
      rintro ⟨ha, h8⟩
      exact absurd (hroom ha) (Nat.not_lt.mpr h8)
    simp only [issueLane, hready, hcode, hw, h0, htakes, hcheck, hfit, if_true, if_false]

/-- The window issues the accepted word, which the life cycle lets through (R206, R440). -/
theorem issueCmd_issues {want : Nat → Bool} {f : Nat → State → State} (h : Issues .cmd w s) (hw : want w = true) :
    issueCmd s want f = f w (stepCmd s) := by
  obtain ⟨-, htakes, hcheck, hbusy, hiss, hres, rfl, hslot, hrma, hraw⟩ := h
  have hlife : ¬ (((stepCmd s).g.lc = 4 ∧ opc s.cmdw.word ≠ 0x3C)
      ∨ ((stepCmd s).g.lc = 0 ∧ opc s.cmdw.word = 0x3A)) := by
    rintro (⟨h4, hop⟩ | ⟨h0, hop⟩)
    · exact hop (hrma h4)
    · exact hraw h0 hop
  have htakes : takesEffect (stepCmd s) .cmd s.cmdw.word = true := htakes
  have hcheck : checkIssue (stepCmd s) .cmd s.cmdw.word = true := hcheck
  have hslot : ovlySlot (stepCmd s) .cmd s.cmdw.word = true := hslot
  simp [issueCmd, hbusy, hiss, hres, hw, hlife, htakes, hcheck, hslot]

/-- A word that its context issues, and that the row accepts, takes its effect after the step. -/
theorem issue_issues {want : Nat → Bool} {f : Nat → State → State} (h : Issues c w s) (hw : want w = true) :
    issue c want f s = f w (stepCtx c w s) := by
  cases c with
  | lane l => exact issueLane_issues h hw
  | cmd => exact issueCmd_issues h hw

/-- The row of opcode `o` on a word of that opcode. -/
theorem live_issue_isOp {o : Nat} {f : Nat → State → State} (h : Issues c w s) (ho : opc w = o) :
    live s (issue c (isOp o) f) = .next (f w (stepCtx c w s)) :=
  (live_on _ h.1).trans (congrArg _ (issue_issues h (decide_eq_true ho)))

end Sys2Proof.Machine
end

section
/-! PROOF. The instructions that only move registers and predicates (R233, R248 to R250, R254), and the statement they make
up. -/

namespace Sys2Proof.Machine

variable {s : State} {c : Ctx} {w : Nat}

-- A change of the register file alone.

@[simp] theorem rfOf_modRf (s : State) (c : Ctx) (f : RegFile → RegFile) : rfOf (modRf s c f) c = f (rfOf s c) := by
  cases c with
  | lane l => simp [rfOf, modRf]
  | cmd => rfl

theorem modRf_id (s : State) (c : Ctx) : (modRf s c fun r => r) = s := by
  cases c with
  | lane l => exact congrArg (fun t => { s with lane := t }) (Tab.mod_id s.lane l)
  | cmd => rfl

/-- A context that has issued its word has still issued it when its registers change. -/
theorem modRf_issued {t : State} {f : RegFile → RegFile} (h : Issued c s t) : Issued c s (modRf t c f) := by
  cases c with
  | lane l =>
    obtain ⟨hpc, hst, hlag, hother, hcmd⟩ := h
    exact ⟨by simpa [modRf] using hpc, by simpa [modRf] using hst, by simpa [modRf] using hlag,
      fun k hk => (Tab.get_mod_ne _ _ hk).trans (hother k hk), hcmd⟩
  | cmd => exact h

-- An instruction that is complete at issue.

@[simp] theorem rfOf_atOnce (s : State) (c : Ctx) (f : State → State) : rfOf (atOnce c f s) c = rfOf (f s) c := by
  cases c <;> rfl

@[simp] theorem atOnce_sends (s : State) (c : Ctx) (f : State → State) : (atOnce c f s).sends = (f s).sends := by
  cases c <;> rfl

theorem atOnce_issued {t : State} {f : State → State} (h : Issued c s (f t)) : Issued c s (atOnce c f t) := by
  cases c <;> exact h

theorem atOnce_answersOk {t : State} {f : State → State} (h : t.time = s.time) : AnswersOk c s (atOnce c f t) := by
  rintro rfl
  exact ⟨rfl, congrArg (fun x => x.beat + 4) h⟩

/-- A row that puts `g` of its word on the register file of its context, complete at issue, writes that and nothing else. -/
theorem completes_modRf {i : Instr} {o : Nat} {g : Nat → State → RegFile → RegFile} {f : State → RegFile → RegFile}
    (hi : ∀ s, exec i s = live s (issue c (isOp o) fun w => atOnce c fun s => modRf s c (g w s))) (ho : opc w = o)
    (hf : ∀ s, g w (stepCtx c w s) (rfOf s c) = f s (rfOf s c)) :
    Completes i (fun s => Issues c w s) (fun s t => RegistersBecome (f s) c s t) := by
  intro s h
  refine ⟨_, (hi s).trans (live_issue_isOp h ho), ?_, ?_, ?_, ?_⟩
  · simp [hf]
  · exact atOnce_issued (modRf_issued (stepCtx_issued h))
  · exact atOnce_answersOk (stepCtx_time ..)
  · exact atOnce_frame rfl (fun _ hz => modRf_frame rfl hz) (stepCtx_only s c w)

-- The arithmetic and the predicates.

theorem mulQ_eq (x y : Word32) : mulQ x y = BitVec.ofInt 32 (satI32 (rdiv (x.toInt * y.toInt) 65536)) := by
  simp [mulQ, rshift]

theorem maxSigned_eq (x y : Word32) : maxSigned x y = if y.toInt ≤ x.toInt then x else y := by
  rw [maxSigned]
  by_cases hxy : x.toInt ≤ y.toInt
  · by_cases hyx : y.toInt ≤ x.toInt
    · rw [if_pos hxy, if_pos hyx]
      exact BitVec.toInt_inj.mp (Int.le_antisymm hyx hxy)
    · rw [if_pos hxy, if_neg hyx]
  · rw [if_neg hxy, if_pos (Int.le_of_not_le hxy)]

-- The check of the operands at issue (R227).

/-- A word that passes the check at issue passes that of Form B. -/
theorem formB_of_checkIssue (h : checkIssue s c w = true) : ∃ l, formB l w = true := by
  have hops : ∃ l, operandsOk l w = true := by
    simp only [checkIssue, Bool.and_eq_true] at h
    obtain ⟨⟨hops, -⟩, -⟩ := h
    cases c <;> exact ⟨_, hops⟩
  obtain ⟨l, hops⟩ := hops
  simp only [operandsOk, Bool.and_eq_true] at hops
  obtain ⟨⟨-, hb⟩, -⟩ := hops
  exact ⟨l, hb⟩

/-- The arithmetic words have AUX4 = 0 (R249). -/
theorem fAux4_of_arith {l : Option Nat} (h : formB l w = true) (h1 : 0x19 ≤ opc w) (h2 : opc w ≤ 0x1D) : fAux4 w = 0 := by
  have hop : opc w = 0x19 ∨ opc w = 0x1A ∨ opc w = 0x1B ∨ opc w = 0x1C ∨ opc w = 0x1D := by omega
  have hb : formB l w = (decide (modf w % 32 = 0) && decide (fAux4 w = 0)) := by
    rcases hop with e | e | e | e | e <;> simp only [formB, e]
  rw [hb, Bool.and_eq_true, decide_eq_true_eq, decide_eq_true_eq] at h
  exact h.2

/-- The words of CMP name one of the eight conditions and a predicate (R250). -/
theorem fields_of_cmp {l : Option Nat} (h : formB l w = true) (hop : opc w = 0x1E) : fAux4 w < 8 ∧ fVd w < 8 := by
  simp only [formB, hop, Bool.and_eq_true, decide_eq_true_eq] at h
  exact h.2

-- The predicates (R187).

theorem getLsbD_one_shift (i j : Fin 8) : ((1 : Byte) <<< i.val).getLsbD j.val = decide (i = j) := by
  revert i j; decide

/-- The bits of the file's predicates after a write. -/
theorem getLsbD_setPred (r : RegFile) (x : Bool) {i : Fin 8} (j : Fin 8) (hi : i.val ≠ 0) :
    (r.setPred i.val x).p.getLsbD j.val = if j = i then x else r.p.getLsbD j.val := by
  rw [RegFile.setPred, if_neg hi]
  cases x with
  | false =>
    rw [if_neg Bool.false_ne_true, BitVec.getLsbD_and, BitVec.getLsbD_not, getLsbD_one_shift, decide_eq_true j.isLt]
    by_cases hj : j = i
    · rw [if_pos hj, decide_eq_true hj.symm, Bool.not_true, Bool.and_false, Bool.and_false]
    · rw [if_neg hj, decide_eq_false (Ne.symm hj), Bool.not_false, Bool.and_true, Bool.and_true]
  | true =>
    rw [if_pos rfl, BitVec.getLsbD_or, getLsbD_one_shift]
    by_cases hj : j = i
    · rw [if_pos hj, decide_eq_true hj.symm, Bool.or_true]
    · rw [if_neg hj, decide_eq_false (Ne.symm hj), Bool.or_false]

/-- A predicate reads as written; p0 reads true. -/
theorem pred_setPred (r : RegFile) (x : Bool) {i : Fin 8} (j : Fin 8) (hi : i ≠ 0) :
    (r.setPred i.val x).pred j.val = if j = i then x else r.pred j.val := by
  have hi0 : i.val ≠ 0 := fun e => hi (Fin.ext e)
  rw [RegFile.pred, getLsbD_setPred r x j hi0]
  by_cases hj : j = i
  · rw [if_pos hj, if_pos hj, hj, decide_eq_false hi0, Bool.false_or]
  · rw [if_neg hj, if_neg hj, RegFile.pred]

-- SEND.

/-- A value on its way to a lane's register is no register yet (R254). -/
theorem sends_issued {t : State} {x : List SendV} (h : Issued c s t) : Issued c s { t with sends := x } := by
  cases c <;> exact h

theorem sends_only (s : State) (x : List SendV) : Only [.sends] s { s with sends := x } := by
  constructor <;> first | exact fun _ => rfl | exact fun h => absurd h (by decide)

end Sys2Proof.Machine

open Sys2Proof Sys2Proof.Machine

/-- Settles O28: each row puts its function on the register file of the context that issues it, SEND a value on its way. -/
theorem registerInstructions : Obligations.RegisterInstructions := by
  unfold Obligations.RegisterInstructions
  intro c w
  refine ⟨?nop, ?mark, ?li, ?add, ?sub, ?min, ?max, ?mulq, ?cmp, ?aux4, ?cmpFields, ?setPred, ?send⟩
  case nop =>
    refine fun ho => completes_modRf (g := fun _ _ r => r) (fun s => ?_) ho fun _ => rfl
    simp only [modRf_id]
    rfl
  case mark =>
    refine fun ho => completes_modRf (g := fun w s r => { r with b := r.b.modN (fBsel w) fun _ => beatOperand s c w })
      (fun _ => rfl) ho fun s => ?_
    rw [beatOperand_stepCtx]
    rfl
  case li => exact fun ho => completes_modRf (fun _ => rfl) ho fun _ => rfl
  case add => exact fun ho => completes_modRf (fun _ => rfl) ho fun _ => rfl
  case sub => exact fun ho => completes_modRf (fun _ => rfl) ho fun _ => rfl
  case min => exact fun ho => completes_modRf (fun _ => rfl) ho fun _ => rfl
  case max =>
    refine fun ho => completes_modRf (fun _ => rfl) ho fun s => ?_
    simp only [arith, maxSigned_eq]
  case mulq =>
    refine fun ho => completes_modRf (fun _ => rfl) ho fun s => ?_
    simp only [arith, mulQ_eq]
  case cmp => exact fun ho => completes_modRf (fun _ => rfl) ho fun _ => rfl
  case aux4 =>
    intro h1 h2 s h
    obtain ⟨l, hb⟩ := formB_of_checkIssue h
    exact fAux4_of_arith hb h1 h2
  case cmpFields =>
    intro ho s h
    obtain ⟨l, hb⟩ := formB_of_checkIssue h
    exact fields_of_cmp hb ho
  case setPred => exact fun r x => ⟨rfl, fun i j hi => pred_setPred r x j hi⟩
  case send =>
    intro ho s h
    refine ⟨_, live_issue_isOp h ho, ?file, ?issued, atOnce_answersOk (stepCtx_time ..), ?only, ?sends⟩
    case file => exact (rfOf_atOnce ..).trans (rfOf_stepCtx s c w)
    case issued => exact atOnce_issued (sends_issued (stepCtx_issued h))
    case only =>
      exact atOnce_frame rfl (fun t hz => hz.trans ((sends_only t _).mono rfl)) ((stepCtx_only s c w).mono rfl)
    case sends => simp
end

section
/-! SUPPORT. Lanes that halt or abort (R153, R197, R199): the lane, what a raise of the end leaves, the entry in the tally. -/

namespace Sys2Proof

theorem Tab.get_mapIx {n : Nat} {α β : Type} (f : Nat → α → β) (t : Tab n α) (i : Fin n) :
    (t.mapIx f).get i = f i.val (t.get i) := by
  simp [Tab.get_eq, Tab.mapIx]

end Sys2Proof

namespace Sys2Proof.Machine

variable {s : State} {l : Fin 8} {w : Nat}

-- The end of a track: of the fault blocks it may raise SIDE's alone.

theorem portPut_flt (s : State) (k : Nat) (m : Msg) {b : Fin 10} (hb : b ≠ bSIDE) :
    (portPut s k m).flt.get b = s.flt.get b := by
  unfold portPut
  extract_lets p
  split
  · split
    · exact raise_other _ _ _ _ _ hb
    · rfl
  · rfl

theorem sendOn_flt (s : State) (f : Nat → Port → Bool) (m : Msg) {b : Fin 10} (hb : b ≠ bSIDE) :
    (sendOn s f m).flt.get b = s.flt.get b := by
  unfold sendOn
  induction upTo 19 id generalizing s with
  | nil => rfl
  | cons k ks ih =>
    refine (ih _).trans ?_
    dsimp only
    split
    · exact portPut_flt s k m hb
    · rfl

theorem sendArmrpt_flt (s : State) (a : Bool) (base : Nat) {b : Fin 10} (hb : b ≠ bSIDE) :
    (sendArmrpt s a base).flt.get b = s.flt.get b := by
  unfold sendArmrpt
  extract_lets word m u
  split
  · split
    · rfl
    · exact sendOn_flt u _ m hb
  · rfl

theorem endTrack_flt (s : State) {b : Fin 10} (hb : b ≠ bSIDE) : (endTrack s).flt.get b = s.flt.get b := by
  unfold endTrack
  dsimp only
  split
  · exact sendArmrpt_flt _ _ _ hb
  · rfl

theorem afterStop_flt (s : State) (was : Bool) {b : Fin 10} (hb : b ≠ bSIDE) :
    (afterStop s was false).flt.get b = s.flt.get b := by
  unfold afterStop
  split
  · exact endTrack_flt s hb
  · rfl

@[simp] theorem afterStop_lane (s : State) (was journal : Bool) : (afterStop s was journal).lane = s.lane :=
  (afterStop_frame (M := 0x284040970080000) rfl (Frame.refl s)).lane rfl

/-- Without an entry of its own the end of a track leaves the tally. -/
theorem afterStop_tally (s : State) (was : Bool) : (afterStop s was false).tally = s.tally := by
  unfold afterStop
  split
  · exact (endTrack_frame (M := 0x280040970080000) rfl (Frame.refl s)).tally rfl
  · rfl

-- A lane halts.

theorem bitOf_two_pow (k l : Nat) : bitOf (2 ^ l) k = decide (k = l) := by
  rw [bitOf, Nat.shiftRight_eq_div_pow, ← Nat.testBit_eq_decide_div_mod_eq, Nat.testBit_two_pow, decide_eq_decide, eq_comm]

/-- HALT of one lane that is armed: it reads HALTED, the others stay (R197). -/
theorem haltLanes_lane (s : State) (l k : Fin 8) : (haltLanes s (2 ^ l.val)).lane.get k =
    if k = l ∧ laneOn (s.lane.get k) = true then { s.lane.get k with st := .halted, wait := .no } else s.lane.get k := by
  simp [haltLanes, Tab.get_mapIx, bitOf_two_pow, Fin.ext_iff]

-- A lane aborts.

theorem abortLane_aborted (cause : Nat) (hst : (s.lane.get l).st = .run) : Aborted l cause s (abortLane s l cause) := by
  have hlive : ¬ ((s.lane.get l).st = .idle ∨ (s.lane.get l).st = .aborted) := by simp [hst]
  have honly : Only [.seg, .flt, .fpin, .silo, .blkReset, .g, .pmb, .lane, .tally, .exa, .side] s (abortLane s l cause) :=
    abortLane_frame rfl (Frame.refl s)
  revert honly
  rw [abortLane, if_neg hlive]
  intro honly
  refine ⟨?_, ?_, ?_, ?_, ?_, honly⟩
  · simp [tallyEvent, tallyAdd]
  · simp [tallyEvent, tallyAdd]
  · rw [statOf, afterStop_flt _ _ (by decide)]
    refine (congrArg (·.getLsbD 5) (raise_stat ..)).trans ?_
    rw [BitVec.getLsbD_or]
    exact Bool.or_eq_true_iff.mpr (.inr rfl)
  · rw [afterStop_tally]
    simp [tallyEvent, tallyAdd]
  · intro k hk
    rw [afterStop_lane]
    exact Tab.get_set_ne _ _ hk
end Sys2Proof.Machine
end

section
/-! PROOF. The flow of a lane: waits, branches, calls, loops, barriers and fences (R230 to R232, R251 to R255, R258), and the
statement they make up. -/

namespace Sys2Proof.Machine

variable {s : State} {l : Fin 8} {w o : Nat}

@[simp] theorem onLane_lane (l : Fin 8) (f : Fin 8 → State → State) (s : State) : onLane (.lane l) f s = f l s := rfl

/-- A row that its lane issues answers its effect on the state after the lane's step. -/
theorem exec_issued {i : Instr} {f : Nat → State → State} {t : State} (hi : exec i s = live s (issue (.lane l) (isOp o) f))
    (h : Issues (.lane l) w s) (ho : opc w = o) (hf : f w (stepLane s l (isActuation (opc w))) = t) : exec i s = .next t :=
  hf ▸ hi.trans (live_issue_isOp h ho)

/-- A row whose effect is a change `g` of the lane that issues it: the lane after its step is changed by `g`, and nothing
else changes. -/
theorem exec_modLane (i : Instr) {f : Nat → State → State} {g : Lane → Lane}
    (hi : exec i s = live s (issue (.lane l) (isOp o) f)) (h : Issues (.lane l) w s) (ho : opc w = o)
    (hf : f w (stepLane s l (isActuation (opc w))) = modLane (stepLane s l (isActuation (opc w))) l g) :
    ∃ t, exec i s = .next t ∧ t.lane.get l = g ((stepLane s l (isActuation (opc w))).lane.get l) ∧ OnlyLane l s t :=
  ⟨_, exec_issued hi h ho hf, Tab.get_mod_same .., (stepLane_onlyLane s l _).trans (modLane_onlyLane ..)⟩

/-- A row whose effect is an abort of the lane that issues it. -/
theorem exec_abortLane {i : Instr} {f : Nat → State → State} {cause : Nat}
    (hi : exec i s = live s (issue (.lane l) (isOp o) f)) (h : Issues (.lane l) w s) (ho : opc w = o)
    (hf : f w (stepLane s l (isActuation (opc w))) = abortLane (stepLane s l (isActuation (opc w))) l cause) :
    ∃ t, exec i s = .next t ∧ Aborted l cause s t := by
  obtain ⟨hst, hcause, hstat, htally, hother, honly⟩ := abortLane_aborted cause ((stepLane_st s l _).trans h.st)
  obtain ⟨hstep, hframe⟩ := stepLane_onlyLane s l _
  exact ⟨_, exec_issued hi h ho hf, hst, hcause, hstat, htally,
    fun k hk => (hother k hk).trans (hstep k hk), (hframe.mono rfl).trans honly⟩

-- AT and WAIT.

theorem modLane_modLane (s : State) (l : Fin 8) (f g : Lane → Lane) :
    modLane (modLane s l f) l g = modLane s l (g ∘ f) := congrArg (fun t => { s with lane := t }) (Tab.mod_mod ..)

/-- Before its beat the lane waits for it, with lag 0 (R231, R232). -/
theorem waitBeat_ahead {t : Nat} (b : Option Nat) (ht : s.time.beat < t) :
    waitBeat l t b s = modLane s l fun x => { x with st := .waiting, wait := .beat t b, lag := 0 } := by
  simp [waitBeat, Nat.not_le.mpr ht]

/-- From its beat on AT lets the lane go on, with its lateness as the lag (R231). -/
theorem waitBeat_at_come {t : Nat} (ht : t ≤ s.time.beat) :
    waitBeat l t none s = modLane s l fun x => { x with st := .run, wait := .no, lag := s.time.beat - t } := by
  simp only [waitBeat, modLane_time, ht, if_true, modLane_modLane]
  rfl

/-- WAIT writes the beat into its register too (R232). -/
theorem waitBeat_wait_come {t k : Nat} (ht : t ≤ s.time.beat) :
    waitBeat l t (some k) s = modLane s l fun x => { x with
      st := .run, wait := .no, lag := s.time.beat - t, rf := { x.rf with b := x.rf.b.modN k fun _ => t } } := by
  simp only [waitBeat, modLane_time, ht, if_true, modLane_modLane]
  rfl

-- Operands of RET and BAR.

/-- RET's word holds its opcode, sense and predicate alone (R252). -/
theorem ret_operands {k : Option Nat} (h : formB k w = true) (hop : opc w = 0x22) : w % 2 ^ 54 = 0 := by
  simp only [formB, hop, decide_eq_true_eq, modf, bits, Nat.shiftRight_eq_div_pow] at h
  omega

/-- The identifier of BAR (R255). -/
theorem barId_eq (w : Nat) : bits w 8 8 = w / 256 % 256 := by
  simp [bits, Nat.shiftRight_eq_div_pow]

/-- The members of BAR (R255). -/
theorem barMask_eq (w : Nat) : BitVec.ofNat 8 (bits w 0 8) = BitVec.ofNat 8 w := by
  apply BitVec.eq_of_toNat_eq
  simp [bits]

end Sys2Proof.Machine

open Sys2Proof Sys2Proof.Machine

/-- Settles O29: each row's effect is one change of the lane that issues it, or the halt or abort of that lane. -/
theorem laneFlow : Obligations.LaneFlow := by
  unfold Obligations.LaneFlow
  intro l w
  refine ⟨?halt, ?atCome, ?atAhead, ?waitCome, ?waitAhead, ?br, ?call, ?callFull, ?ret, ?retEmpty, ?retWord, ?loop, ?bar,
    ?fenceCome, ?fenceAhead, ?fenceWindow⟩
  case halt =>
    intro ho s h
    have hon : laneOn ((stepLane s l (isActuation (opc w))).lane.get l) = true := by simp [laneOn, h.st]
    obtain ⟨hother, hframe⟩ := stepLane_onlyLane s l _
    refine ⟨_, exec_issued rfl h ho rfl, ?st, ?pc, fun k hk => ?other, haltLanes_frame rfl (hframe.mono rfl)⟩
    case st => simp [haltLanes_lane, hon]
    case pc => simp [haltLanes_lane, hon]
    case other => simpa [haltLanes_lane, hk] using hother k hk
  case atCome =>
    intro ho s ⟨h, ht⟩
    obtain ⟨t, he, hlane, honly⟩ := exec_modLane (.atB (.lane l)) rfl h ho (waitBeat_at_come (by simpa using ht))
    refine ⟨t, he, ?_, ?_, ?_, ?_, honly⟩ <;> simp [hlane]
  case atAhead =>
    intro ho s ⟨h, ht⟩
    obtain ⟨t, he, hlane, honly⟩ := exec_modLane (.atB (.lane l)) rfl h ho (waitBeat_ahead none (by simpa using ht))
    refine ⟨t, he, ?_, ?_, ?_, ?_, ?_, honly⟩ <;> simp [hlane]
  case waitCome =>
    intro ho s ⟨h, ht⟩
    obtain ⟨t, he, hlane, honly⟩ := exec_modLane (.wait (.lane l)) rfl h ho (waitBeat_wait_come (by simpa using ht))
    refine ⟨t, he, ?_, ?_, ?_, ?_, honly⟩ <;> simp [hlane]
  case waitAhead =>
    intro ho s ⟨h, ht⟩
    obtain ⟨t, he, hlane, honly⟩ := exec_modLane (.wait (.lane l)) rfl h ho
      (waitBeat_ahead (some (fBsel w)) (by simpa using ht))
    refine ⟨t, he, ?_, ?_, ?_, ?_, ?_, honly⟩ <;> simp [hlane]
  case br =>
    intro ho s h
    obtain ⟨t, he, hlane, honly⟩ := exec_modLane (.br (.lane l)) rfl h ho rfl
    refine ⟨t, he, ?_, ?_, ?_, honly⟩ <;> simp [hlane, h.st]
  case call =>
    intro ho s ⟨h, hroom⟩
    obtain ⟨t, he, hlane, honly⟩ := exec_modLane (.call (.lane l)) rfl h ho (if_neg (by simpa using hroom))
    refine ⟨t, he, ?_, ?_, ?_, honly⟩ <;> simp [hlane, h.st]
  case callFull =>
    intro ho s ⟨h, hfull⟩
    exact exec_abortLane rfl h ho (by simp [hfull])
  case ret =>
    intro ho r rest s ⟨h, hstack⟩
    obtain ⟨t, he, hlane, honly⟩ := exec_modLane (.ret (.lane l))
      (g := fun x => { x with rf := { x.rf with stack := rest }, pc := r }) rfl h ho (by simp [hstack])
    refine ⟨t, he, ?_, ?_, ?_, honly⟩ <;> simp [hlane, h.st]
  case retEmpty =>
    intro ho s ⟨h, hstack⟩
    exact exec_abortLane rfl h ho (by simp [hstack])
  case retWord =>
    intro ho s h
    obtain ⟨k, hb⟩ := formB_of_checkIssue h
    exact ret_operands hb ho
  case loop =>
    intro ho s h
    obtain ⟨t, he, hlane, honly⟩ := exec_modLane (.loop (.lane l)) rfl h ho rfl
    refine ⟨t, he, ?_, ?_, ?_, honly⟩ <;> simp [hlane, h.st]
  case bar =>
    intro ho s h
    obtain ⟨t, he, hlane, honly⟩ := exec_modLane (.bar (.lane l)) rfl h ho rfl
    refine ⟨t, he, ?_, ?_, ?_, ?_, ?_, honly⟩ <;> simp [hlane, barId_eq, barMask_eq]
  case fenceCome =>
    intro ho s ⟨h, hlast⟩
    exact ⟨_, exec_issued rfl h ho (if_pos (by simpa using hlast)), stepCtx_issued h, stepLane_rf .., stepLane_onlyLane ..⟩
  case fenceAhead =>
    intro ho s ⟨h, hlast⟩
    obtain ⟨t, he, hlane, honly⟩ := exec_modLane (.fence (.lane l)) rfl h ho (if_neg (by simpa using hlast))
    refine ⟨t, he, ?_, ?_, ?_, ?_, honly⟩ <;> simp [hlane]
  case fenceWindow =>
    intro ho s h
    exact ⟨_, live_issue_isOp h ho, rfl⟩
end
